-- ==== Sys2Proof/Word.lean ====
section
/-! DEFINITION. Word types of the die: register words, Shelves rows, memory lines, descriptors. -/

namespace Sys2Proof

/-- A 32-bit register word (R6, R484). -/
abbrev Word := BitVec 32

/-- A Shelves row, 512 bytes, byte 0 in bits 7..0 (R46, R48). -/
abbrev Row := BitVec 4096

/-- A line of the model address space, 64 bytes, byte 0 in bits 7..0 (R177). -/
abbrev Line := BitVec 512

/-- A descriptor in its extended form, 256 bytes; a short one is zero-extended (R170). -/
abbrev DescBits := BitVec 2048

end Sys2Proof
end

