-- ==== Sys2Proof/Syntax.lean ====
section
/-! DEFINITION. The commands the block takes, one constructor for each row of the opcode table, and the operand
types they carry (chapters 00 to 22). -/

namespace Sys2Proof

/-- A fault that strikes stored bits while a command runs: a Shelves row or a LOCAL line, and the failing
parts. For a row, `mask` marks failing sectors or words, and 0 stands for an error the code corrects; for a
line, it marks the bits that turn over, of the ciphertext, the MAC and the check word from bit 0 on (R314), and `forged` says
that the check word was made to fit. -/
structure Upset where
  isLine : Bool
  unit : BitVec 32
  mask : BitVec 576
  forged : Bool
  deriving DecidableEq, Repr

/-- How the bits of a LOCAL line come back from the device in one read: the bits turned over, as in `Upset`, in the device when
`stored`, else in that read alone (R315). -/
structure Strike where
  flips : BitVec 576
  stored : Bool
  forged : Bool
  deriving DecidableEq, Repr

/-- How an execution goes: the faults that strike it, how many output units it writes before it is left unfinished
(`none` runs it to its end), the cycles its ports lose to an earlier port of the same bank (R53), and the cycles a Glaze
unit waits for the accumulator port (R120). -/
structure Run where
  upsets : List Upset
  stop : Option Nat
  lost : Nat
  waits : Nat
  deriving DecidableEq, Repr

/-- What comes with work on memory that nothing stops on its way: faults that strike what it reads, and the cycles its Shelves
port lost to an earlier one (R53). -/
structure Hits where
  upsets : List Upset
  lost : Nat
  deriving DecidableEq, Repr

/-- The copy of a page that is done: its page, and the cycles the data-mover port lost in it (R53, R277). -/
structure PageCopy where
  page : BitVec 32
  lost : Nat
  deriving DecidableEq, Repr

/-- An error of the SEC-DED words of the queue-context cache, array 2 (R471, Table 20.2): the word's number,
and what an uncorrectable one held. -/
inductive CachePart where
  | corrected
  | context (q : BitVec 20)
  | counter (c : BitVec 16)
  | slot (n : BitVec 12)
  | pageTable (k : BitVec 30)
  deriving DecidableEq, Repr

/-- One such error: the word's number and what it held. -/
structure CacheUpset where
  word : BitVec 20
  part : CachePart
  deriving DecidableEq, Repr

/-- An error in the image line buffers, array 3 of Table 20.2: its word, and whether it is uncorrectable. -/
structure LineUpset where
  word : BitVec 20
  fatal : Bool
  deriving DecidableEq, Repr

/-- What the line buffers make of a line of a frame (R342, R471): whether they have no room for it, and the error that
the words it takes meet. -/
structure Buffered where
  overflow : Bool
  upset : Option LineUpset
  deriving DecidableEq, Repr

/-- What the feeder has in an issue cycle (R83, R118): the next vector, none of it yet, or none because the row it wants
is in a block that is still being read. -/
inductive Feeder where
  | ready
  | empty
  | reading
  deriving DecidableEq, Repr

/-- An error in the accumulator, array 0 of Table 20.2: its word, its row, and whether it is uncorrectable. -/
structure AccUpset where
  word : BitVec 20
  row : BitVec 11
  fatal : Bool
  deriving DecidableEq, Repr

/-- What the pattern test of R98 finds. -/
inductive PatternResult where
  | row
  | column
  | cell
  deriving DecidableEq, Repr

/-- A fault inside the Wheel while it works: a residue mismatch (R166) or an error in the slice buffers, array 1
of Table 20.2. `at_` is the output it reaches: an output index of W.GEMV; of W.ATTN a column, with the share it struck
below it in bits [3:0]. -/
inductive WheelUpset where
  | residue (at_ : BitVec 18)
  | corrected (word : BitVec 20)
  | buffer (word : BitVec 20) (at_ : BitVec 18)
  deriving DecidableEq, Repr

/-- How a NAND read went (R331, R334). -/
inductive NandHow where
  | clean
  /-- A retry level was needed, the last one when true. -/
  | retried (last : Bool)
  /-- Every retry and soft decoding failed. -/
  | failed
  deriving DecidableEq, Repr

/-- The header of an arriving Eslis message: the port it arrives on (2 when true, else 1), LANE, SRC, DST, POISON,
BULK_ID and TAG (R381). -/
structure Hdr where
  port : Bool
  lane : Bool
  src : BitVec 3
  dst : BitVec 3
  poison : Bool
  bulk : BitVec 4
  tag : BitVec 16
  deriving DecidableEq, Repr

/-- How the host answers a read (R369): data, data with the poison bit, or an error response. -/
inductive HostReply where
  | data
  | poison
  | error
  deriving DecidableEq, Repr

/-- Whose HOST writes a flushing read stands behind (R368): a descriptor's, or those of an incoming transfer (R15). -/
inductive FlushOf where
  | descriptor (slot : BitVec 12)
  | transfer (id : Nat)
  deriving DecidableEq, Repr

/-- A BULK flit (Table 16.3): LANE, BULK_ID, BYTES, LAST, ABORT, which of the lines its bytes touch are poisoned, in order
(DESIGN CHOICE: Table 16.3 gives the POISON of R387 no place; log entry 84), and its data. -/
structure BulkFlit where
  port : Bool
  lane : Bool
  bulk : BitVec 4
  bytes : BitVec 8
  last : Bool
  abort : Bool
  poison : BitVec 5
  data : BitVec 1920
  deriving DecidableEq, Repr

/-- An arriving flit: the port it arrives on (2 when true, else 1), and its 256 bytes, byte 0 in the lowest bits
(Table 16.3). -/
structure FlitWords where
  port : Bool
  bits : BitVec 2048
  deriving DecidableEq, Repr

/-- How a port comes out of training (R366, R393): the highest rate both ends train at (Table 16.11), and the lanes moved to
redundant ones. -/
structure Trained where
  rate : BitVec 3
  repaired : BitVec 4
  deriving DecidableEq, Repr

/-- The straps sampled at the release of por_n (R500, Table 21.3). -/
structure Straps where
  boot : BitVec 2
  die : BitVec 3
  test : Bool
  deriving DecidableEq, Repr

/-- What the ROM finds as it brings up the firmware flash (R505): the quad I/O DTR read command and the dummy cycles of its
SFDP table, and at which sampling delays, in steps of 0.25 ns from 0 to 10 ns, the SFDP signature reads right. -/
structure SpiFlash where
  command : BitVec 8
  dummy : BitVec 5
  window : BitVec 41
  deriving DecidableEq, Repr

/-- The firmware flash: how it is read, and the bytes of its image slot as it was programmed outside the die, the rest of the
slot reading 0 (Table 19.2). With them, the highest rate at which both ends of the host port train, for a boot that waits for a
host image (R366, R449). -/
structure FlashImage where
  flash : SpiFlash
  bytes : List (BitVec 8)
  hostRate : BitVec 3
  deriving DecidableEq, Repr

/-- What the boot steps find (R450): LPDDR5X channels trained, density per channel as a power of two times 4 Gb, data rate
(0 for 9600, 1 for 8533, 2 for 7500, 3 for 6400 MT/s), NAND
channels trained and failed, blocks and units per block of the NAND, and the self-test's failing locations per run. -/
structure BootFind where
  trained : BitVec 16
  density : BitVec 2
  rate : BitVec 2
  /-- The devices support directed RFM, and the activates a bank takes between refresh managements, 0 for no limit (R312,
  R326). -/
  directed : Bool
  raaLimit : BitVec 16
  /-- Spare rows of each bank, by channel × 16 + bank. -/
  spareRows : List (BitVec 4)
  nand : BitVec 2
  nandFail : BitVec 2
  blocks : BitVec 20
  perBlock : BitVec 16
  /-- Peer ports 1 and 2 whose training failed. -/
  linkFail : BitVec 2
  /-- The highest rate at which both ends of the host port train (R366). -/
  hostRate : BitVec 3
  kiln : List (List (BitVec 12))
  wheel : List (List (BitVec 5))
  deriving DecidableEq, Repr

/-- Physical quantities a tick takes in: the die's estimate in IDLE in mW (R406), and the eight normalised counts of
the closing firing (R403). -/
structure Sense where
  idle : BitVec 16
  counts : List (BitVec 16)
  deriving DecidableEq, Repr

/-- One 2 µs estimate period (R398, R402, R409): the die's and the four domains' estimates in mW, the mean current of
the four rails over their windows in mA, and the cycles each limited domain was held back outside the Kiln's feeder. -/
structure Estimate where
  die : BitVec 16
  domains : List (BitVec 16)
  rails : List (BitVec 16)
  held : List (BitVec 12)
  deriving DecidableEq, Repr

/-- A load as the source die hands it to another die (R308): the commanded fields, the image's address, and the manifest
with its signature. -/
structure LoadOffer where
  base : BitVec 32
  home : BitVec 3
  key : BitVec 7
  dies : BitVec 8
  keep : Bool
  image : BitVec 48
  manifest : List (BitVec 8)
  deriving DecidableEq, Repr

/-- What a MGMT message between Supervisors says (R308, R309; the manual gives it no layout). A model is named by the
first page of its span. -/
inductive Mgmt where
  | load (o : LoadOffer)
  /-- Whether a slot is free, asked and answered (check 1 of Table 13.4). -/
  | probe (base : BitVec 32)
  | probed (base : BitVec 32) (free : Bool)
  /-- Every die has passed checks 1 to 7: the load begins. -/
  | commit (base : BitVec 32)
  /-- Status 0 when the load checks pass on the sending die, else the status and detail of the failing one. -/
  | verdict (base : BitVec 32) (status detail : BitVec 8)
  | verified (base : BitVec 32)
  | resend (base : BitVec 32) (shard : BitVec 16)
  | failed (base : BitVec 32) (shard : BitVec 32)
  | unload (base : BitVec 32)
  /-- Any other firmware traffic. -/
  | other
  deriving DecidableEq, Repr

/-- How the bus answers a camera command (R363): bytes read, or none for a NACK or a stalled bus. -/
structure BusReply where
  ok : Bool
  bytes : List (BitVec 8)
  deriving DecidableEq, Repr

/-! ### Commands -/

/-- The units with a RESET bit and a fence (Table 20.3). -/
inductive ResetUnit where
  | kiln
  | wheel
  | pug
  | glaze
  | mover
  | tier
  | ife
  | link
  deriving DecidableEq, Repr

/-- Where a doorbell rings: the BAR2 page of a tenant, or the QUE_MGMT registers (R233, R235). -/
inductive DbPage where
  | page (tenant : BitVec 6)
  | mgmt
  deriving DecidableEq, Repr

/-- The RO pairs whose _LO read latches _HI (R487). -/
inductive LatchPair where
  | refclk
  | firing
  | ftime
  deriving DecidableEq, Repr

/-- The commands of the block, one for each row of the opcode table. -/
inductive Instr where
  /-- POR_ASSERT (R498). por_n is driven low, resetting the die with register effects by Table 21.4 and erasing keys. -/
  | porAssert
  /-- POR_RELEASE (R448). por_n rises; the straps are sampled and the Saggar core runs the boot ROM and checks the image. -/
  | porRelease (straps : Straps) (image : FlashImage)
  /-- BOOT_COMPLETE (R450). The boot steps finish and FWP_STAT.STATE becomes WAIT_DRIVER, with the management rings served. -/
  | bootComplete (found : BootFind)
  /-- HOST_IMAGE_LOAD (R449). A write to FWP_RECOVERY_LEN in HOST_WAIT starts the ROM's load and check of a host image. -/
  | hostImageLoad (len : Word) (hits : Hits)
  /-- POWER_LOSS (R499). Rails leave their range, putting the die in OFF; without the power-down order this is an unorderly power-off. -/
  | powerLoss
  /-- CONE_TRIP (R412). A Cone site reaches 118 °C; every clock is gated and therm_trip_n asserts until por_n. -/
  | coneTrip (site : BitVec 5)
  /-- DROOP_DETECT (R410). A droop detector sees its supply fall below THRESH and the core clock period is stretched within 1 ns. -/
  | droopDetect (drop : BitVec 8) (steps : BitVec 3)
  /-- DROOP_RELAX (R410). HOLD cycles after every detector recovers, the clock stretch relaxes by one step. -/
  | droopRelax (cycles : Word)
  /-- TICK (R207). A tick closes firing N and opens N + 1, taking the tick-cycle steps in order. -/
  | tick (sense : Sense)
  /-- TICK_FALLBACK (R204). With no source event for 1.5 × PERIOD, the internal timer makes a fallback tick. -/
  | tickFallback (sense : Sense)
  /-- HOST_TICK_WRITE (R201). A write of 1 to SCH_TICK_NOW.TICK makes a host tick under SOURCE 2. -/
  | hostTickWrite (value : Word) (sense : Sense)
  /-- S_WAIT_TIMEOUT (R187). An S.WAIT not ready by its timeout-th tick completes with TIMEOUT. -/
  | sWaitTimeout (slot : BitVec 12)
  /-- S_TICKWAIT_READY (R190). An S.TICKWAIT becomes ready at its relative or absolute tick. -/
  | sTickwaitReady (slot : BitVec 12)
  /-- SERVING_DEADLINE (R251). A request past its deadline firing is marked OVERDUE or ended with DEADLINE_MISSED. -/
  | servingDeadline (group : BitVec 4) (tenant : BitVec 7) (id : Word)
  /-- PARK_EXPIRY (R288). A park record whose expiry time has passed expires, unmapping its pages and freeing frames. -/
  | parkExpiry (id : BitVec 16)
  /-- DESCRIPTOR_ADMIT (R208). The scheduler admits one queue head into a free scoreboard slot. -/
  | descriptorAdmit (upset : Option CacheUpset)
  /-- QUEUE_CONTEXT_FETCH (R232). A missing queue context is fetched from LPDDR into the cache, evicting the LRU unpinned entry. -/
  | queueContextFetch (queue : BitVec 20) (upset : Option CacheUpset)
  /-- DESCRIPTOR_READY (R173). A descriptor whose last wait event or slot condition becomes satisfied is ready from the next cycle. -/
  | descriptorReady (slot : BitVec 12)
  /-- DESCRIPTOR_COMPLETE (R57). A descriptor completes in one cycle: writes visible, handoff, slot transitions, signals, record. -/
  | descriptorComplete (slot : BitVec 12)
  /-- HOST_WRITE_FLUSH_DONE (R368). The zero-length read that flushes a descriptor's HOST writes completes, allowing completion. -/
  | hostWriteFlushDone (slot : FlushOf)
  /-- NOP (R187). NOP completes in its admission cycle and performs its signals. -/
  | nop
  /-- K_LOAD_IN (R76). A K.LOAD_IN starts on an EMPTY shadow and loads an input plane through KI. -/
  | kLoadIn (slot : BitVec 12) (run : Run)
  /-- K_CHARGE (R79). A K.CHARGE starts priming, checking its parameters and Shelves streams. -/
  | kCharge (slot : BitVec 12) (run : Run)
  /-- KILN_FIRST_ISSUE_SWAP (R82). A swap = 1 charge waits for a FULL shadow, swaps it in and runs the checks of R81 before its first issue. -/
  | kilnFirstIssueSwap
  /-- KILN_VECTOR_ISSUE (R84). The feeder issues a weight vector, a bubble or a hold in an issue cycle. -/
  | kilnVectorIssue (feeder : Feeder) (damper : Bool) (residue : Option (BitVec 12))
  /-- ACC_UPDATE_LAND (R88). A vector's accumulator update lands 12 cycles after issue. -/
  | accUpdateLand (upset : Option AccUpset)
  /-- KILN_DRAIN_ROW (R91). A drain charge writes a target row to the Shelves through KD after its last update landed. -/
  | kilnDrainRow
  /-- KILN_SHADOW_RELEASED (R75). Two cycles after a swap the RELEASING shadow becomes EMPTY. -/
  | kilnShadowReleased
  /-- KILN_OWED_SWAP (R511). An owed or issue-less swap takes place when the shadow is FULL and no charge is issuing. -/
  | kilnOwedSwap
  /-- KILN_HOLD_TIMEOUT (R90). A vector held on OWED rows for KLN_HOLD_LIMIT cycles ends its charge with TIMEOUT. -/
  | kilnHoldTimeout
  /-- KILN_CLOCK_GATE (R93). After GATE_IDLE idle cycles the Kiln gates its column clocks. -/
  | kilnClockGate
  /-- KILN_SPARE_SWAP (R98). At an idle cycle the Kiln pattern-tests and brings in a spare row or column for a lasting fault. -/
  | kilnSpareSwap (found : PatternResult)
  /-- KLN_OWED_RELEASE (R89). A write to KLN_OWED_RELEASE.ALL clears every OWED bit. -/
  | klnOwedRelease (value : Word)
  /-- KILN_RESET (R95). KLN_CTRL.RESET ends every Kiln descriptor with UNIT_RESET and clears planes and accumulator. -/
  | kilnReset
  /-- W_GEMV (R141). A W.GEMV starts, splitting its weight-streaming matrix-vector work into 16 shares. -/
  | wGemv (slot : BitVec 12) (run : Run) (faults : List WheelUpset)
  /-- W_ATTN (R158). A W.ATTN checks its contexts and computes split attention over candidate blocks. -/
  | wAttn (slot : BitVec 12) (run : Run) (faults : List WheelUpset)
  /-- W_KVAPPEND (R153). A W.KVAPPEND appends one token per column to its KV contexts. -/
  | wKvappend (slot : BitVec 12) (run : Run)
  /-- W_KVEVICT (R157). A W.KVEVICT evicts blocks of each context down to target. -/
  | wKvevict (slot : BitVec 12) (run : Run)
  /-- WHEEL_PREFETCH_START (R146). The Wheel begins prefetching weights for the oldest eligible admitted W.GEMV. -/
  | wheelPrefetchStart
  /-- WHEEL_SPARE_SWAP (R167). At an idle point the Wheel tests the spare slice and remaps the failing share, or doubles a slice. -/
  | wheelSpareSwap
  /-- WHEEL_RESET (R168). WHL_CTRL.RESET ends Wheel descriptors with UNIT_RESET and discards the prefetch. -/
  | wheelReset
  /-- G_ELEM (R126). G.ELEM applies an elementwise function and operation to each line. -/
  | gElem (slot : BitVec 12) (run : Run)
  /-- G_NORM (R128). G.NORM normalises each column in two passes. -/
  | gNorm (slot : BitVec 12) (run : Run)
  /-- G_SOFTMAX (R129). G.SOFTMAX computes a masked softmax along each column, optionally writing LSE. -/
  | gSoftmax (slot : BitVec 12) (run : Run)
  /-- G_ROPE (R130). G.ROPE rotates pairs of lines of each head by position. -/
  | gRope (slot : BitVec 12) (run : Run)
  /-- G_REQUANT (R43). G.REQUANT multiplies, rounds and clamps accumulator sums into the target format. -/
  | gRequant (slot : BitVec 12) (run : Run)
  /-- G_TOPK (R132). G.TOPK writes the k largest values and their indices for each column. -/
  | gTopk (slot : BitVec 12) (run : Run)
  /-- GLAZE_RESET (R135). GLZ_CTRL.RESET ends the executing Glaze descriptor with UNIT_RESET. -/
  | glazeReset
  /-- M_COPY (R183). M.COPY copies the units of SRC into DST. -/
  | mCopy (slot : BitVec 12) (run : Run)
  /-- M_GATHER (R184). M.GATHER copies indexed table records to DST. -/
  | mGather (slot : BitVec 12) (run : Run)
  /-- M_SCATTER (R184). M.SCATTER writes SRC records to indexed table records. -/
  | mScatter (slot : BitVec 12) (run : Run)
  /-- M_FILL (R185). M.FILL writes a repeating 4-byte pattern into DST. -/
  | mFill (slot : BitVec 12) (run : Run)
  /-- DM_RESET (R199). SCH_DM_CTRL.RESET ends every executing data-mover descriptor with UNIT_RESET. -/
  | dmReset
  /-- P_COMPRESS (R106). P.COMPRESS codes raw data into a Pug stream in segments of two passes. -/
  | pCompress (slot : BitVec 12) (run : Run)
  /-- P_EXPAND (R109). P.EXPAND expands a Pug stream to raw bytes. -/
  | pExpand (slot : BitVec 12) (run : Run)
  /-- PUG_RESET (R117). PUG_CTRL.RESET ends the executing P.COMPRESS or P.EXPAND with UNIT_RESET. -/
  | pugReset
  /-- S_WAIT (R187). S.WAIT completes OK when ready. -/
  | sWait (slot : BitVec 12)
  /-- S_SIGNAL_ADD (R188). S.SIGNAL in ADD mode performs only its own signals. -/
  | sSignalAdd (slot : BitVec 12)
  /-- S_SIGNAL_SET (R188). S.SIGNAL in SET mode sets the named counter to a value. -/
  | sSignalSet (slot : BitVec 12)
  /-- S_SIGNAL_CLEAR (R188). S.SIGNAL in CLEAR mode clears the named counter's POISON bit. -/
  | sSignalClear (slot : BitVec 12)
  /-- S_BARRIER (R189). S.BARRIER joins the dies in its mask and sends ARRIVE to the coordinator. -/
  | sBarrier (slot : BitVec 12)
  /-- BARRIER_RELEASE_INSTANT (R391). A die's FTIME reaches T0 + 250 ns × die ID and its S.BARRIER completes. -/
  | barrierReleaseInstant
  /-- S_TICKWAIT (R190). S.TICKWAIT waits for a relative or absolute tick. -/
  | sTickwait (slot : BitVec 12)
  /-- V_SAMPLE (R260). V.SAMPLE samples a token per column from logits under the sampler record. -/
  | vSample (slot : BitVec 12) (run : Run)
  /-- V_MASKSTEP (R265). V.MASKSTEP advances each column's grammar state by its token. -/
  | vMaskstep (slot : BitVec 12) (run : Run)
  /-- V_EMIT_STEP (R255). V.EMIT STEP copies the RES row to the group's post area and marks the step posted. -/
  | vEmitStep (slot : BitVec 12) (hits : Hits)
  /-- V_EMIT_SUBMIT (R246). V.EMIT SUBMIT reads a request record and waits for the next serving tick. -/
  | vEmitSubmit (slot : BitVec 12) (hits : Hits)
  /-- V_EMIT_CANCEL (R252). V.EMIT CANCEL names a live request to cancel at the next serving tick. -/
  | vEmitCancel (slot : BitVec 12)
  /-- T_PREFETCH (R283). T.PREFETCH requests the pages of a schedule stage, filling cacheable ones. -/
  | tPrefetch (slot : BitVec 12) (hits : Hits)
  /-- T_MIGRATE (R285). T.MIGRATE moves or caches every page of a range to a target tier. -/
  | tMigrate (slot : BitVec 12) (hits : Hits)
  /-- T_PARK (R287). T.PARK parks the pages of conversations' contexts to HOST or FLASH with a time to live. -/
  | tPark (slot : BitVec 12) (hits : Hits)
  /-- T_RESTORE (R289). T.RESTORE brings a park record's pages back to LOCAL. -/
  | tRestore (slot : BitVec 12) (hits : Hits)
  /-- TIER_RESET (R292). TIR_CTRL.RESET ends every executing T.* with UNIT_RESET and abandons unswitched moves. -/
  | tierReset
  /-- C_BIND (R353). C.BIND installs the output binding for a coming frame. -/
  | cBind (slot : BitVec 12)
  /-- C_STATS (R356). C.STATS writes a held frame's statistics block and embedded data. -/
  | cStats (slot : BitVec 12) (bufferError : Bool)
  /-- F_SEND (R387). F.SEND sends OPEN and BULK data, with an optional remote signal, to one die. -/
  | fSend (slot : BitVec 12) (run : Run)
  /-- F_BCAST (R387). F.BCAST sends data and an optional signal to a set of dies. -/
  | fBcast (slot : BitVec 12) (run : Run)
  /-- EPOCH_ADVANCE (R477). A unit's EPOCH advances after the last descriptor its reset ended has completed. -/
  | epochAdvance (unit : ResetUnit)
  /-- SHF_BANK_CFG_WRITE (R58). A write to SHF_BANK_CFG sets a bank's owner, tenant and class, or is refused. -/
  | shfBankCfgWrite (bank : BitVec 7) (value : Word)
  /-- SHF_SLOT_RANGE_WRITE (R59). A write to SHF_SLOT_RANGE stores an undeclared slot's range or is ignored. -/
  | shfSlotRangeWrite (slot : BitVec 10) (value : Word)
  /-- SLOT_DECLARE (R59). Setting DECLARED checks and declares a slot with GEN, POISON and READS_LEFT at 0. -/
  | slotDeclare (slot : BitVec 10) (value : Word)
  /-- SLOT_RELEASE (R62). Clearing DECLARED releases every descriptor waiting on the slot. -/
  | slotRelease (slot : BitVec 10) (value : Word)
  /-- SHELF_ROW_REWRITE (R64). A corrected row is rewritten in the next idle cycle of its bank unless a port write came first. -/
  | shelfRowRewrite (row : BitVec 17)
  /-- SHELF_SCRUB (R66). The Shelves read every row of every powered bank once per PASS_MS in idle cycles. -/
  | shelfScrub (row : BitVec 17) (fault : Option (BitVec 32))
  /-- BANK_CLEAR (R65). Once started descriptors on the bank complete, the die zeroes its rows and clears BUSY. -/
  | bankClear (bank : BitVec 7)
  /-- BANK_GATE_CLOSE (R67). After outstanding writes drain, a bank's power gate closes and its contents are lost. -/
  | bankGateClose (bank : BitVec 7)
  /-- SHELF_SPARE_ROW (R69). At an idle period a lasting row fault is mapped to a spare row of the bank. -/
  | shelfSpareRow
  /-- SCH_EVENT_WRITE (R174). A write to SCH_EVENT sets a counter's value and leaves POISON. -/
  | schEventWrite (counter : BitVec 16) (value : Word)
  /-- SCH_EVENT_INC (R174). A write to SCH_EVENT_INC adds AMOUNT to a counter. -/
  | schEventInc (value : Word)
  /-- SCH_EVT_POISON_CLEAR (R175). Writing 1 to SCH_EVT_POISON clears counters' POISON bits. -/
  | schEvtPoisonClear (word : BitVec 11) (value : Word)
  /-- REGISTER_WRITE (R486). A write to a register with no row of its own updates its fields by their access types. -/
  | registerWrite (bar2 : Bool) (off : BitVec 26) (size : BitVec 4) (data : BitVec 64)
  /-- COUNTER_READ_CLEAR (R6). A read of an RC counter returns its value and clears it. -/
  | counterReadClear (bar2 : Bool) (off : BitVec 26) (size : BitVec 4)
  /-- LATCHED_PAIR_READ (R487). A read of a latching _LO register latches its _HI half. -/
  | latchedPairRead (pair : LatchPair) (wide : Bool)
  /-- DB_ADD (R233). A doorbell adds slots to a queue's SQ_TAIL, or is dropped. -/
  | dbAdd (page : DbPage) (value : Word)
  /-- DB_RELEASE (R233). A doorbell adds released records to a queue's CQ_HEAD, or is dropped. -/
  | dbRelease (page : DbPage) (value : Word)
  /-- DB_FLUSH (R236). A flush cancels a queue's descriptors up to the mark. -/
  | dbFlush (page : DbPage) (value : Word)
  /-- QUE_CMD_CREATE (R230). CREATE writes a new queue context. -/
  | queCmdCreate (queue : BitVec 20)
  /-- QUE_CMD_MODIFY (R230). MODIFY changes a queue's HEAD_WB, QUOTA, VECTOR, FLAGS and STATE. -/
  | queCmdModify (queue : BitVec 20)
  /-- QUE_CMD_READ (R230). READ copies a queue context into QUE_CTX_DATA. -/
  | queCmdRead (queue : BitVec 20)
  /-- QUE_CMD_DESTROY (R230). DESTROY frees a paused or errored queue with nothing in flight. -/
  | queCmdDestroy (queue : BitVec 20)
  /-- SERVING_ABORT (R255). Writing QUE_SRV_GCTL.ABORT marks the open step posted and failed at the next tick. -/
  | servingAbort (group : BitVec 4) (abort : Bool)
  /-- TIR_CMD_SETDIR (R274). SETDIR zeroes a leaf table and makes its directory entry VALID. -/
  | tirCmdSetdir
  /-- TIR_CMD_MAP (R274). MAP writes a run of page-table entries from a template. -/
  | tirCmdMap
  /-- TIR_CMD_UNMAP (R274). UNMAP sets a run of pages to TIER 0 and returns pooled frames. -/
  | tirCmdUnmap
  /-- TIR_CMD_READ (R274). READ copies a page-table entry into TIR_CMD_DATA. -/
  | tirCmdRead
  /-- PAGE_MIGRATION_SWITCH (R277). A migration or fill copy ends and the page's entry switches to the new frame. -/
  | pageMigrationSwitch (copy : PageCopy)
  /-- DEMAND_FILL (R279). An access to a FLASH page starts a demand fill into a LOCAL frame. -/
  | demandFill (page : BitVec 32)
  /-- FILL_NO_FRAME (R279). A fill that finds no LOCAL frame within 1 ms fails. -/
  | fillNoFrame (page : BitVec 32)
  /-- MODEL_LOAD (R299). MODEL_LOAD checks an image and loads its shards into a model slot. -/
  | modelLoad (hits : Hits)
  /-- SHARD_VERIFY (R301). A shard's payload is read, decrypted and checked against its digest, then written. -/
  | shardVerify (slot : BitVec 5) (hits : Hits)
  /-- MODEL_UNLOAD (R304). MODEL_UNLOAD removes one reference and unloads at none left. -/
  | modelUnload
  /-- MODEL_QUERY (R298). MODEL_QUERY returns a slot's state, references and damaged shards. -/
  | modelQuery
  /-- MODEL_SCRUB (R306). MODEL_SCRUB sets the scrub interval and rate. -/
  | modelScrub
  /-- MODEL_SCRUB_PASS (R306). Every interval a READY model's shards are re-read and their digests rechecked. -/
  | modelScrubPass (slot : BitVec 5)
  /-- MODEL_REPAIR (R307). A damaged shard is read again from the image, checked and switched into new frames. -/
  | modelRepair (slot : BitVec 5) (hits : Hits)
  /-- DRAM_LINE_READ (R315). A LOCAL line read passes link ECC, poison, code, key and MAC checks and is decrypted. -/
  | dramLineRead (key : BitVec 7) (line : BitVec 30) (tenant : BitVec 7) (queue : BitVec 20) (act : Bool) (linkCe : Bool) (fault : Strike)
  /-- DRAM_LINE_WRITE (R314). A LOCAL line write is encrypted, MACed and coded. -/
  | dramLineWrite (key : BitVec 7) (line : BitVec 30) (data : Line) (poison : Bool) (tenant : BitVec 7) (queue : BitVec 20) (act : Bool)
  /-- DRAM_PARTIAL_WRITE (R317). A partial line write is merged by read-modify-write or dropped on a bad line. -/
  | dramPartialWrite (key : BitVec 7) (line : BitVec 30) (mask : BitVec 64) (data : Line) (tenant : BitVec 7) (queue : BitVec 20) (act : Bool)
  /-- DRAM_CE_REWRITE (R315). A corrected line is rewritten when its channel is idle. -/
  | dramCeRewrite (line : BitVec 30)
  /-- DRAM_PATROL_SCRUB (R320). Every LOCAL line is read once per HOURS in idle channel cycles. -/
  | dramPatrolScrub (fault : Strike)
  /-- DRAM_RETRAIN (R322). A channel pauses for periodic retraining in its turn. -/
  | dramRetrain (warm : Bool) (ok : Bool)
  /-- ROW_HAMMER_ACTION (R327). A row count reaching THRESH issues RFM and throttles the requester on that bank. -/
  | rowHammerAction
  /-- ROW_HAMMER_WINDOW_END (R326). At the end of DMC_RH_WINDOW the trackers clear and throttles lift. -/
  | rowHammerWindowEnd
  /-- DRAM_PPR (R328). At an idle period a lasting DRAM row fault is repaired by soft PPR. -/
  | dramPpr
  /-- DRAM_SEGMENT_CLEAR (R325). After a wake, a lost segment is rewritten as poisoned lines in the background. -/
  | dramSegmentClear (seg : BitVec 3)
  /-- NAND_UNIT_READ (R331). A 4 KiB unit is read and decoded with retries. -/
  | nandUnitRead (page : BitVec 32) (unit : BitVec 4) (how : NandHow)
  /-- NAND_UNIT_WRITE (R332). A FLASH write completes after its data and journal record are programmed. -/
  | nandUnitWrite (page : BitVec 32) (unit : BitVec 4) (fails : Bool)
  /-- NAND_READ_DISTURB_RELOC (R333). A block reaching NFC_RD_LIMIT reads is relocated and erased. -/
  | nandReadDisturbReloc (block : BitVec 25)
  /-- NAND_WEAR_LEVEL (R333). The coldest block's data moves when erase counts spread beyond NFC_WL_SPREAD. -/
  | nandWearLevel
  /-- NAND_GARBAGE_COLLECT (R333). Garbage collection reclaims blocks in the background. -/
  | nandGarbageCollect (block : BitVec 25)
  /-- NAND_GROWN_BAD (R334). A failing block is retired and replaced from the spares, or write protection sets. -/
  | nandGrownBad (block : BitVec 25)
  /-- CSI_FRAME_START (R341). A Frame Start opens a frame of a sensor context and advances its frame ID. -/
  | csiFrameStart (port : Bool) (vc : BitVec 4)
  /-- CSI_LINE (R342). A long packet of the context's data type is taken as one line of the open frame. -/
  | csiLine (port : Bool) (vc : BitVec 4) (dt : BitVec 6) (bytes : List (BitVec 8)) (eccCorr : Bool) (crcBad : Bool) (buffered : Buffered)
  /-- CSI_EMBEDDED (R342). An embedded-data packet is kept for C.STATS or discarded. -/
  | csiEmbedded (port : Bool) (vc : BitVec 4) (bytes : List (BitVec 8)) (eccCorr : Bool) (crcBad : Bool)
  /-- CSI_FRAME_END (R341). A Frame End closes the open frame. -/
  | csiFrameEnd (port : Bool) (vc : BitVec 4)
  /-- FRAME_CLOSE_TIMEOUT (R341). A frame open for 1.5 × its period, or 100 ms, closes. -/
  | frameCloseTimeout (ctx : BitVec 2)
  /-- IFE_CTX_ENABLE (R340). Setting EN starts intake at the next Frame Start with frame ID 0. -/
  | ifeCtxEnable (ctx : BitVec 2) (value : Word)
  /-- IFE_CTX_DISABLE (R340). Clearing EN closes the frame, drops bindings and cancels waiting C.* descriptors. -/
  | ifeCtxDisable (ctx : BitVec 2) (value : Word)
  /-- DN_TILE_FILL (R349). Once a tile's input lines arrived and its slot is drained, the IFE fills the input slot. -/
  | dnTileFill
  /-- DN_TILE_OUTPUT (R349). The IFE uses a tile's output once the output slot is filled. -/
  | dnTileOutput
  /-- DN_TILE_DEADLINE (R350). A tile whose output misses its LIMIT deadline is bypassed. -/
  | dnTileDeadline
  /-- STATS_READY (R355). A closed frame's statistics and record become ready and the frame is held. -/
  | statsReady (ctx : BitVec 2)
  /-- SETTINGS_TRANSFER_DONE (R359). The Media core reports a settings transfer complete, fixing the outcome. -/
  | settingsTransferDone (ctx : BitVec 2) (acked : Bool)
  /-- SETTINGS_WINDOW_EXPIRY (R361). A settings transfer not done by its window fails and marks SET_FAIL. -/
  | settingsWindowExpiry (ctx : BitVec 2)
  /-- I3C_IBI (R362). An I3C in-band interrupt arrives and its payload is logged. -/
  | i3cIbi (port : Bool) (addr : BitVec 7) (payload : List (BitVec 8))
  /-- IFE_RESET (R364). IFE_CTRL.RESET closes frames, drops bindings and ends C.* descriptors with UNIT_RESET. -/
  | ifeReset
  /-- HOST_READ_RESPONSE (R369). A CXL.cache read returns data, poison or an error. -/
  | hostReadResponse (line : BitVec 42) (data : Line) (how : HostReply)
  /-- HOST_READ_TIMEOUT (R369). A HOST read with no data in TIMEOUT µs is delivered as an uncorrectable error. -/
  | hostReadTimeout (line : BitVec 42)
  /-- HOST_SNOOP (R367). The die answers a host snoop with RspIHitI. -/
  | hostSnoop (line : BitVec 42)
  /-- PEER_PORT_TRAINED (R377). A peer port finishes UCIe training and sends HELLO. -/
  | peerPortTrained (port : Bool) (rate : BitVec 3) (repaired : BitVec 4)
  /-- ESLIS_HELLO (R377). A received HELLO activates or refuses the link. -/
  | eslisHello (hdr : Hdr) (nsId : Word)
  /-- ESLIS_TOPO (R377). A TOPO is forwarded once and may complete discovery. -/
  | eslisTopo (hdr : Hdr) (die1 : BitVec 8) (die2 : BitVec 8) (latency : BitVec 32)
  /-- FLIT_RECEIVE (R379). A flit is accepted, or discarded with NAK on a CRC, KIND or SEQ error. -/
  | flitReceive (flit : FlitWords)
  /-- FLIT_ACK_TIMEOUT (R379). A flit unacknowledged for 2 µs is replayed, and after 8 sends a retraining starts. -/
  | flitAckTimeout (port : Bool)
  /-- LINK_RETRAIN (R393). A port retrains, repairing failing lanes. -/
  | linkRetrain (port : BitVec 2) (ok : Bool) (repairOut : Bool) (trained : Trained)
  /-- PEER_PORT_DOWN (R394). A peer port failing three retrainings goes DOWN. -/
  | peerPortDown (port : Bool)
  /-- HOST_PORT_DOWN (R394). The host port goes DOWN and HOST accesses fail. -/
  | hostPortDown
  /-- ESLIS_RD (R383). A remote read of an exported LOCAL line is served. -/
  | eslisRd (hdr : Hdr) (addr : BitVec 36) (key : BitVec 7) (tenant : BitVec 7) (queue : BitVec 20)
  /-- ESLIS_WR (R383). A remote line write is applied. -/
  | eslisWr (hdr : Hdr) (addr : BitVec 36) (key : BitVec 7) (tenant : BitVec 7) (queue : BitVec 20) (data : Line)
  /-- ESLIS_WRM (R383). A remote masked line write is applied. -/
  | eslisWrm (hdr : Hdr) (addr : BitVec 36) (key : BitVec 7) (tenant : BitVec 7) (queue : BitVec 20) (mask : BitVec 64) (data : Line)
  /-- ESLIS_RDATA (R384). Read data returns to the requester. -/
  | eslisRdata (hdr : Hdr) (status : BitVec 8) (data : Line)
  /-- ESLIS_WACK (R384). A write acknowledgement returns to the requester. -/
  | eslisWack (hdr : Hdr) (status : BitVec 8)
  /-- PEER_REQUEST_TIMEOUT (R384). A remote request without response in TIMEOUT µs is an uncorrectable error. -/
  | peerRequestTimeout (idx : BitVec 12)
  /-- ESLIS_OPEN (R387). A target checks an incoming F.* transfer's destination and counter. -/
  | eslisOpen (hdr : Hdr) (dst : BitVec 48) (len : Word) (mask : BitVec 8) (sig : Bool) (counter : BitVec 16) (inc : BitVec 16) (tenant : BitVec 7) (queue : BitVec 20)
  /-- ESLIS_BULK (R387). A BULK flit's data is written or forwarded, and its LAST triggers the signal and DONE. -/
  | eslisBulk (flit : BulkFlit)
  /-- ESLIS_DONE (R388). A DONE from a target arrives at the sending die. -/
  | eslisDone (hdr : Hdr) (status : BitVec 8)
  /-- FABRIC_DONE_TIMEOUT (R388). An F.* with no DONE in TIMEOUT completes with TIMEOUT. -/
  | fabricDoneTimeout (slot : BitVec 12)
  /-- ESLIS_TICK (R206). A TICK from die 0 is forwarded and opens a firing under SOURCE 3. -/
  | eslisTick (hdr : Hdr) (firing : BitVec 64) (mask : BitVec 8) (sense : Sense)
  /-- ESLIS_TIME_SEND (R389). Die 0 sends a TIME message once per millisecond. -/
  | eslisTimeSend
  /-- ESLIS_TIME (R389). A die sets its FTIME from a received TIME plus route latency. -/
  | eslisTime (hdr : Hdr) (value : BitVec 64) (mask : BitVec 8)
  /-- ESLIS_ARRIVE (R391). The coordinator records a barrier arrival and may fix T0. -/
  | eslisArrive (hdr : Hdr) (id : BitVec 8) (k : BitVec 24) (mask : BitVec 8)
  /-- ESLIS_RELEASE (R391). A die receives a barrier's T0. -/
  | eslisRelease (hdr : Hdr) (id : BitVec 8) (k : BitVec 24) (t0 : BitVec 64)
  /-- ESLIS_MGMT (R445). A firmware MGMT message between Supervisors arrives. -/
  | eslisMgmt (hdr : Hdr) (msg : Mgmt)
  /-- MODEL_IN_SERVICE_MSG (R310). The source die's in-service message arrives and the span maps at the next tick. -/
  | modelInServiceMsg (hdr : Hdr) (base : BitVec 32)
  /-- LINK_RESET (R395). LNK_CTRL.RESET ends F.* and held remote requests with UNIT_RESET. -/
  | linkReset
  /-- POWER_ESTIMATE_PERIOD (R402). Every 2 µs the Damper estimates power and lowers or raises domain issue ratios. -/
  | powerEstimatePeriod (estimate : Estimate)
  /-- THERMAL_SAMPLE (R411). The Damper reads the 24 sensors every 10 µs. -/
  | thermalSample (temps : List (BitVec 16))
  /-- IDLE_ENTER (R414). After US microseconds with an empty scoreboard the die enters IDLE. -/
  | idleEnter
  /-- POWER_ENTRY_DRAINED (R415). With IN_FLIGHT 0, ticks stop, banks gate, DRAM self-refreshes and the state is reached. -/
  | powerEntryDrained
  /-- POWER_ENTRY_TIMEOUT (R415). An entry not drained within ENTRY_MS is abandoned with TIMEOUT. -/
  | powerEntryTimeout
  /-- WAKE_TIMER (R416). The POWER_STATE wake timer expires. -/
  | wakeTimer
  /-- DMP_WAKE (R416). A write of 1 to DMP_WAKE.WAKE wakes the die. -/
  | dmpWake (value : Word)
  /-- WAKE (R418). A wake event brings the die up through rail mode, DRAM retraining and PLL lock to its first tick. -/
  | wake
  /-- WATCHDOG_EXPIRY (R461). A processor's watchdog expires; it is frozen and its state dumped. -/
  | watchdogExpiry (proc : BitVec 2)
  /-- PROCESSOR_RESTART (R462). A frozen processor restarts from the verified image and replies UNIT_RESET to owed commands. -/
  | processorRestart (proc : BitVec 2)
  /-- SUPERVISOR_RESTORED (R463). The restarted Supervisor restores its state and the die leaves DEGRADED at the next tick. -/
  | supervisorRestored
  /-- FWP_RING_CFG_WRITE (R452). A write to FWP_RING_CFG starts or restarts management ring service. -/
  | fwpRingCfgWrite (value : Word)
  /-- FWP_CMD_TAIL_WRITE (R452). A write to FWP_CMD_TAIL hands new command packets to firmware. -/
  | fwpCmdTailWrite (tail : Word)
  /-- ACTIVATE_DRAIN_TIMEOUT (R466). The old image's commands still running 1,000 ms into FW_ACTIVATE make it resume with TIMEOUT. -/
  | activateDrainTimeout
  /-- PROBATION_PASS (R465). Ten seconds healthy in PROBATION starts COMMITTING. -/
  | probationPass
  /-- COMMIT_DONE (R468). The new image is written and read back in flash and the update state returns to NONE. -/
  | commitDone
  /-- KEY_SESSION_LAPSE (R434). A key session closes 60 s after it opened. -/
  | keySessionLapse (num : BitVec 16)
  /-- CONF_OFFER_LAPSE (R439). A confidential offer not accepted within 10 s lapses. -/
  | confOfferLapse
  /-- CONF_SESSION_IDLE (R440). A confidential session with no traffic for 24 h ends. -/
  | confSessionIdle
  /-- RNG_HEALTH_FAIL (R426). A failed RNG health test blocks fresh randomness until por_n. -/
  | rngHealthFail
  /-- TRACKER_ENTRY_EXPIRE (R473). A tracker entry frees once its latest error is older than WINDOW. -/
  | trackerEntryExpire
  /-- SELFTEST_PERIODIC (R475). Every MINUTES the self-test runs on the Kiln and Wheel at an idle cycle. -/
  | selftestPeriodic (kiln : List (List (BitVec 12))) (wheel : List (List (BitVec 5)))
  /-- POWER_CAP (R400). POWER_CAP sets the requested cap from the next tick. -/
  | powerCap
  /-- POWER_SPLIT (R404). POWER_SPLIT locks learning or loads a phase table. -/
  | powerSplit
  /-- BOOST (R405). BOOST enables or disables boost. -/
  | boost
  /-- RAIL_LIMIT (R409). RAIL_LIMIT sets a rail's current limit and window. -/
  | railLimit
  /-- POWER_STATE (R415). POWER_STATE requests entry to DOZE or SLEEP. -/
  | powerState
  /-- SHELF_POWER (R67). SHELF_POWER powers banks up or down at a tick. -/
  | shelfPower
  /-- POWER_INFO (R420). POWER_INFO returns estimates, grants, floors, phase, split, k and mode. -/
  | powerInfo
  /-- THERMAL_CFG (R411). THERMAL_CFG sets the THROTTLE temperature. -/
  | thermalCfg
  /-- SEC_IDENTITY (R424). SEC_IDENTITY writes the public key and certificate chain to a buffer. -/
  | secIdentity
  /-- SEC_ATTEST (R432). SEC_ATTEST writes a signed attestation report. -/
  | secAttest
  /-- SEC_KEY_SESSION (R434). SEC_KEY_SESSION opens a key session with a fresh ML-KEM pair. -/
  | secKeySession
  /-- SEC_KEY_RELEASE (R435). SEC_KEY_RELEASE unwraps a model key into a slot. -/
  | secKeyRelease (upsets : List Upset) (lost : Nat)
  /-- SEC_KEY_ERASE (R438). SEC_KEY_ERASE erases a model key slot at a tick. -/
  | secKeyErase
  /-- SEC_CONF_OPEN (R439). SEC_CONF_OPEN offers a confidential session. -/
  | secConfOpen
  /-- SEC_CONF_ACCEPT (R439). SEC_CONF_ACCEPT derives session keys and starts confidential mode. -/
  | secConfAccept
  /-- SEC_CONF_CLOSE (R440). SEC_CONF_CLOSE ends confidential mode at the next tick. -/
  | secConfClose
  /-- SEC_ROLLBACK (R442). SEC_ROLLBACK blows fuse bits to raise N to the running SVN. -/
  | secRollback (good : BitVec 7)
  /-- FW_INFO (R458). FW_INFO returns image version, state and update state. -/
  | fwInfo
  /-- DRV_HELLO (R459). DRV_HELLO compares interface versions and accepts or refuses the driver. -/
  | drvHello
  /-- DATA_START (R460). DATA_START enters RUNNING and service mode at a tick. -/
  | dataStart
  /-- DATA_STOP (R460). DATA_STOP stops admission, drains and returns to WAIT_DRIVER. -/
  | dataStop
  /-- TICK_CONFIG (R202). TICK_CONFIG sets the tick source, sensor and period. -/
  | tickConfig
  /-- TENANT_CONFIG (R220). TENANT_CONFIG sets a tenant record. -/
  | tenantConfig
  /-- TENANT_WINDOW (R272). TENANT_WINDOW sets one of a tenant's memory windows. -/
  | tenantWindow
  /-- TENANT_TEARDOWN (R222). TENANT_TEARDOWN starts a tenant's drain and removal. -/
  | tenantTeardown
  /-- WATCHDOG (R461). WATCHDOG sets a processor's watchdog timeout. -/
  | watchdog
  /-- FW_STAGE (R465). FW_STAGE copies and checks an image into the free slot. -/
  | fwStage (hits : Hits)
  /-- FW_ACTIVATE (R466). FW_ACTIVATE hands over from the old image to the staged image. -/
  | fwActivate (accepts : Bool)
  /-- FW_STATUS (R465). FW_STATUS returns the update state and slot versions. -/
  | fwStatus
  /-- MEM_INFO (R335). MEM_INFO returns DRAM capacity, training and spare state. -/
  | memInfo
  /-- MEM_RETRAIN (R322). MEM_RETRAIN sets the retraining period and pause. -/
  | memRetrain
  /-- MEM_PPR_HARD (R328). MEM_PPR_HARD makes logged repairs permanent. -/
  | memPprHard
  /-- FLASH_FORMAT (R334). FLASH_FORMAT formats the NAND and reports logical capacity. -/
  | flashFormat (marks : List (BitVec 25))
  /-- FLASH_INFO (R335). FLASH_INFO returns erase counts, spares and logical units. -/
  | flashInfo
  /-- CAM_PORT_CONFIG (R338). CAM_PORT_CONFIG sets a camera port's PHY, lanes and rate. -/
  | camPortConfig
  /-- CAM_XFER (R363). CAM_XFER performs an I3C or I2C transfer. -/
  | camXfer (reply : BusReply)
  /-- CAM_DAA (R362). CAM_DAA assigns dynamic addresses on a port. -/
  | camDaa (targets : List (BitVec 7))
  /-- CAM_STATUS (R363). CAM_STATUS returns bus state and the last in-band interrupt. -/
  | camStatus (bus : Word)
  /-- FAB_STATUS (R396). FAB_STATUS returns die ID, members, ports and routes. -/
  | fabStatus
  /-- FAB_SET_ID (R376). FAB_SET_ID overrides the die ID while both peer ports are DOWN. -/
  | fabSetId
  /-- FAB_ROUTE (R382). FAB_ROUTE installs new routing tables at a tick. -/
  | fabRoute
  /-- LINK_PORT_DISABLE (R396). LINK_PORT action 0 disables a peer port and powers off its PHY. -/
  | linkPortDisable
  /-- LINK_PORT_ENABLE (R396). LINK_PORT action 1 enables a port with a rate cap. -/
  | linkPortEnable
  /-- LINK_PORT_RETRAIN (R393). LINK_PORT action 2 retrains a port. -/
  | linkPortRetrain
  /-- RAS_INFO (R481). RAS_INFO returns tracker use, lasting faults and spares left. -/
  | rasInfo
  /-- RAS_LOG (R481). RAS_LOG writes the tracker entries to a buffer. -/
  | rasLog
  /-- RAS_SELFTEST (R475). RAS_SELFTEST runs the self-test on the Kiln or Wheel. -/
  | rasSelftest (kiln : List (List (BitVec 12))) (wheel : List (List (BitVec 5)))
  /-- POWER_UP (R497). The rails come into range with por_n held low, and the die holds itself in reset and drives its outputs to their safe states. -/
  | powerUp
  /-- FIRMWARE_SRAM_UNCORRECTABLE (R471). An uncorrectable word in the firmware SRAM freezes and restarts its processor as a watchdog expiry does. -/
  | firmwareSramUncorrectable (proc : BitVec 2) (word : BitVec 20)
  /-- CSI_HEADER_UNCORRECTABLE (R342). A CSI-2 packet whose header has an uncorrectable error is discarded and marks the open frame, or the next frame that opens, with ECC. -/
  | csiHeaderUncorrectable (ctx : BitVec 2)
  /-- JTAG_TAP_RESET (R507). trst_n resets the TAP controller, which por_n does not reset. -/
  | jtagTapReset
  /-- JTAG_INSTRUCTION (R508). An instruction shifted into the 8-bit instruction register takes effect, for example EXTEST driving bumps or DEBUG halting the firmware processors. -/
  | jtagInstruction (code : BitVec 8)
  deriving DecidableEq, Repr

end Sys2Proof
end

