-- ==== Sys2Proof/Machine/Bits.lean ====
section
/-! DEFINITION. Bit-field, byte-order and small-set helpers used by every unit (R27, R170). -/

namespace Sys2Proof

/-- Bits `hi..lo` of a natural number, as the manual writes a field `[hi:lo]`. -/
def fld (n hi lo : Nat) : Nat := (n >>> lo) % 2 ^ (hi + 1 - lo)

/-- A number with bits `hi..lo` replaced by the low bits of `v`. -/
def setFld (n hi lo v : Nat) : Nat :=
  n - (fld n hi lo) <<< lo + (v % 2 ^ (hi + 1 - lo)) <<< lo

/-- Field `[hi:lo]` of a register word. -/
def Word.f (w : Word) (hi lo : Nat) : Nat := fld w.toNat hi lo

/-- Bit `[i]` of a register word. -/
def Word.b (w : Word) (i : Nat) : Bool := w.getLsbD i

/-- A register word with field `[hi:lo]` set to `v`. -/
def Word.setF (w : Word) (hi lo v : Nat) : Word := BitVec.ofNat 32 (setFld w.toNat hi lo v)

/-- The word with only bit `i` set. -/
def Word.oneBit (i : Nat) : Word := BitVec.ofNat 32 (1 <<< i)

/-- Byte `i` of a little-endian number (R27). -/
def byteOf (n i : Nat) : Nat := (n >>> (8 * i)) % 256

/-- The first `k` bytes of a little-endian number, lowest address first. -/
def toBytes (k n : Nat) : List Nat := (List.range k).map (byteOf n)

/-- The little-endian number a byte list spells. -/
def ofBytes : List Nat → Nat
  | [] => 0
  | b :: bs => b % 256 + 256 * ofBytes bs

/-- `k` bytes from byte offset `o` of a little-endian number, as a number. -/
def bytesAt (n o k : Nat) : Nat := fld n (8 * (o + k) - 1) (8 * o)

/-- Two's complement value of the low `w` bits of `n`. -/
def toSigned (w n : Nat) : Int :=
  let m := n % 2 ^ w
  if m < 2 ^ (w - 1) then (m : Int) else (m : Int) - (2 ^ w : Nat)

/-- The `w`-bit two's complement pattern of an integer. -/
def ofSigned (w : Nat) (i : Int) : Nat := (i % ((2 ^ w : Nat) : Int)).toNat

/-- Quotient rounded up. -/
def ceilDiv (a b : Nat) : Nat := (a + b - 1) / b

/-- Addition that stops at the largest 32-bit value, as counters saturate (R99, R118). -/
def satAdd32 (w : Word) (n : Nat) : Word :=
  if w.toNat + n ≤ 0xFFFFFFFF then BitVec.ofNat 32 (w.toNat + n) else 0xFFFFFFFF#32

/-- Insert a number into a strictly rising list, which stands for a finite set. -/
def setInsert (k : Nat) : List Nat → List Nat
  | [] => [k]
  | j :: js => if k < j then k :: j :: js else if k = j then j :: js else j :: setInsert k js

/-- Remove a number from a strictly rising list. -/
def setErase (k : Nat) : List Nat → List Nat
  | [] => []
  | j :: js => if k = j then js else j :: setErase k js

/-- Insert every number of a list. -/
def setInsertAll (ks s : List Nat) : List Nat := ks.foldl (fun acc k => setInsert k acc) s

/-- Whether `a` comes strictly before `b` in the modulo-2³² order of R190. -/
def before32 (a b : Nat) : Bool := a % 2 ^ 32 != b % 2 ^ 32 && (b + 2 ^ 32 - a % 2 ^ 32) % 2 ^ 32 < 2 ^ 31

end Sys2Proof
end

