-- ==== Sys2Proof/Machine/Crypto.lean ====
section
/-! DEFINITION. The ciphers and checks the manual names by their standards: AES-256, GCM, XTS and the CRCs (R296, R314,
R318, R331, R373, R378). A byte string is a list of bytes, lowest address first. -/

namespace Sys2Proof.Machine

/-! ### AES-256 -/

/-- Multiplication by x in the field of AES. -/
def gfDouble (a : Nat) : Nat := if a < 128 then 2 * a else (2 * a) % 256 ^^^ 0x1B

/-- A product in the field of AES. -/
def gfMul (a b : Nat) : Nat :=
  ((List.range 8).foldl (fun (s : Nat × Nat) i => (if b.testBit i then s.1 ^^^ s.2 else s.1, gfDouble s.2)) (0, a)).1

/-- The inverse in the field of AES, the 254th power; 0 for 0. -/
def gfInv (a : Nat) : Nat :=
  let sq := fun (x : Nat) => gfMul x x
  ((List.range 6).foldl (fun (s : Nat × Nat) _ => (gfMul s.1 (sq s.2), sq s.2)) (sq a, sq a)).1

/-- Rotate a byte left. -/
def rotl8 (x n : Nat) : Nat := (x <<< n ||| x >>> (8 - n)) % 256

/-- The substitution of AES computed from its definition. -/
def sboxOf (a : Nat) : Nat :=
  let b := gfInv a
  b ^^^ rotl8 b 1 ^^^ rotl8 b 2 ^^^ rotl8 b 3 ^^^ rotl8 b 4 ^^^ 0x63

/-- The substitution of AES on the low byte of a number. -/
def sbox (a : Nat) : Nat := sboxOf (a % 256)

/-- Words of the key schedule, latest first, each as four bytes. -/
def aesExpand (key : List Nat) : List (List Nat) :=
  let k0 := (List.range 8).map fun i => (List.range 4).map fun j => key.getD (4 * i + j) 0
  ((List.range 52).foldl (fun (s : List (List Nat) × Nat) n =>
    let last := s.1.headD []
    let back := s.1.getD 7 []
    let t := if n % 8 = 0 then
        let r := (last.drop 1 ++ last.take 1).map sbox
        r.zipIdx.map fun p => if p.2 = 0 then p.1 ^^^ s.2 else p.1
      else if n % 8 = 4 then last.map sbox else last
    ((back.zip t).map (fun p => p.1 ^^^ p.2) :: s.1, if n % 8 = 0 then gfDouble s.2 else s.2)) (k0.reverse, 1)).1

/-- The fifteen round keys of a 32-byte key. -/
def aesKeys (key : List Nat) : List (List Nat) :=
  let w := (aesExpand key).reverse
  (List.range 15).map fun r => ((w.drop (4 * r)).take 4).flatten

/-- Bytes exclusive-ored in pairs. -/
def xorBytes (a b : List Nat) : List Nat := (a.zip b).map fun p => p.1 ^^^ p.2

/-- Shift the rows of a block held column by column. -/
def shiftRows (s : List Nat) : List Nat := (List.range 16).map fun i => s.getD ((i + 4 * (i % 4)) % 16) 0

/-- Mix one column. -/
def mixColumn (c : List Nat) : List Nat :=
  (List.range 4).map fun i =>
    let at_ := fun (k : Nat) => c.getD ((i + k) % 4) 0
    gfDouble (at_ 0) ^^^ (gfDouble (at_ 1) ^^^ at_ 1) ^^^ at_ 2 ^^^ at_ 3

/-- Mix the columns of a block. -/
def mixColumns (s : List Nat) : List Nat := (List.range 4).flatMap fun i => mixColumn ((s.drop (4 * i)).take 4)

/-- Encrypt a 16-byte block under a 32-byte key. -/
def aesEncrypt (key block : List Nat) : List Nat :=
  match aesKeys key with
  | [] => []
  | k0 :: ks =>
    let s := (ks.take 13).foldl (fun s k => xorBytes (mixColumns (shiftRows (s.map sbox))) k) (xorBytes block k0)
    xorBytes (shiftRows (s.map sbox)) (ks.getD 13 [])

/-! ### GCM -/

/-- A product in GCM's field, blocks read as big-endian numbers. -/
def ghashMul (x y : Nat) : Nat :=
  ((List.range 128).foldl (fun (s : Nat × Nat) i =>
    (if x.testBit (127 - i) then s.1 ^^^ s.2 else s.1, if s.2 % 2 = 1 then s.2 / 2 ^^^ 0xE1 <<< 120 else s.2 / 2)) (0, y)).1

/-- The big-endian number a byte list spells. -/
def ofBytesBe (l : List Nat) : Nat := l.foldl (fun n b => 256 * n + b % 256) 0

/-- The `k` big-endian bytes of a number. -/
def toBytesBe (k n : Nat) : List Nat := (toBytes k n).reverse

/-- Bytes in blocks of 16, the last filled with zeros; `n` bounds the blocks. -/
def blocks16 : Nat → List Nat → List (List Nat)
  | 0, _ => []
  | n + 1, l => if l = [] then [] else (l.take 16 ++ List.replicate (16 - l.length) 0) :: blocks16 n (l.drop 16)

/-- GHASH over additional data and ciphertext. -/
def ghash (h : Nat) (aad ct : List Nat) : Nat :=
  let bs := blocks16 aad.length aad ++ blocks16 ct.length ct ++ [toBytesBe 8 (8 * aad.length) ++ toBytesBe 8 (8 * ct.length)]
  bs.foldl (fun y b => ghashMul (y ^^^ ofBytesBe b) h) 0

/-- The key stream of GCM applied to a text under a 12-byte IV. -/
def gcmStream (key iv text : List Nat) : List Nat :=
  (blocks16 text.length text).zipIdx.flatMap fun p => xorBytes p.1 (aesEncrypt key (iv ++ toBytesBe 4 (p.2 + 2)))

/-- Encryption and decryption by GCM (NIST SP 800-38D): the key stream cut to the text. -/
def gcmCrypt (key iv text : List Nat) : List Nat := (gcmStream key iv text).take text.length

/-- The 16-byte GCM tag of a ciphertext and its additional data. -/
def gcmTag (key iv aad ct : List Nat) : List Nat :=
  xorBytes (toBytesBe 16 (ghash (ofBytesBe (aesEncrypt key (List.replicate 16 0))) aad ct)) (aesEncrypt key (iv ++ [0, 0, 0, 1]))

/-! ### XTS -/

/-- The next tweak of XTS. -/
def xtsNext (t : Nat) : Nat := if t < 2 ^ 127 then 2 * t else (2 * t) % 2 ^ 128 ^^^ 0x87

/-- A data unit of whole blocks encrypted by AES-256-XTS under its two keys (IEEE 1619). -/
def xtsEncrypt (key1 key2 : List Nat) (tweak : Nat) (text : List Nat) : List Nat :=
  ((blocks16 text.length text).foldl (fun (s : List Nat × Nat) b =>
    let t := toBytes 16 s.2
    (s.1 ++ xorBytes (aesEncrypt key1 (xorBytes b t)) t, xtsNext s.2))
    (([] : List Nat), ofBytes (aesEncrypt key2 (toBytes 16 tweak)))).1

/-! ### CRCs -/

/-- A reflected CRC of 32 bits: polynomial in reversed bit order, initial value and final exclusive-or of all ones. -/
def crcReflected (poly : Nat) (bytes : List Nat) : Nat :=
  (bytes.foldl (fun c b => (List.range 8).foldl (fun c _ => if c % 2 = 1 then c / 2 ^^^ poly else c / 2) (c ^^^ b % 256)) 0xFFFFFFFF)
    ^^^ 0xFFFFFFFF

/-- CRC-32C (R378). -/
def crc32c (bytes : List Nat) : Nat := crcReflected 0x82F63B78 bytes

end Sys2Proof.Machine
end

