-- ==== Sys2Proof/Config.lean ====
section
/-! DEFINITION. What an implementation fixes and what the manual leaves open. A constant without a body is a
free value: no proof can see what it is, so a statement that mentions it holds whatever it is. -/

namespace Sys2Proof.Config

/-- MAJOR and MINOR of NS_ID, fixed by the die's revision (R3, Table 0.3). -/
opaque revision : BitVec 16

/-- The PCI-SIG vendor ID held by Naller Silicon (Table 16.2). -/
opaque vendorId : BitVec 16

/-- The CXL 2.0 DVSECs that a Type 1 device requires, word by word (Table 16.2). -/
opaque dvsec : Nat → BitVec 32

/-- How firmware spells its traffic in the 64 bytes that follow a MGMT message's header (Table 16.4 gives no layout). -/
opaque mgmtTraffic : List Nat → Nat

/-- The JEDEC manufacturer identity assigned to Naller Silicon (Table 22.8). -/
opaque jedecId : BitVec 11

/-- ID_HASH of the fuses (Table 18.1). -/
opaque idHash : BitVec 256

/-- The words of the device ID, the first 16 bytes of ID_HASH (R424, Table 18.5). -/
def deviceId (i : Nat) : BitVec 32 := (idHash >>> (32 * i)).setWidth 32

/-- Spare rows each DRAM channel reports at reset (Table 14.5, DMC_CH_STAT: "reset by the device"). -/
opaque dramSpareRows : Nat → Nat

/-- The value of the key the Saggar has drawn under a number: the two keys of AES-256-XTS and that of the MAC (R314, R428). -/
opaque dramKey : Nat → BitVec 768

/-- The 32-bit MAC of a LOCAL line, whose function the manual does not name: key, ciphertext, P, KEY code and epoch (R314). -/
opaque lineMac : Nat → Nat → Nat → Nat → Nat → BitVec 32

/-- The 32 check bits over the ciphertext and MAC of a LOCAL line, a code the manual does not name (R314). -/
opaque lineCode : Nat → Nat → BitVec 32

/-- What the code makes of wrong bits that span more than the 32 bits R314 speaks of: 0 it sees none, 1 it corrects wrongly,
else it finds an error. -/
opaque codeBeyond : Nat → Nat

/-- What a LOCAL line never written holds: ciphertext, MAC and check word. -/
opaque dramPowerUp : Nat → BitVec 576

/-- The MAC of an epoch line (R318). -/
opaque epochMac : List Nat → BitVec 32

/-- The 448 bytes of LDPC parity of a NAND codeword (R331). -/
opaque ldpc : List Nat → List Nat

/-- Whether the device reports failure of a program, and of an erase, that the translation layer makes for itself (R334). -/
opaque programFails : Nat → Bool
opaque eraseFails : Nat → Bool

/-- Code lengths P.COMPRESS would choose among the codes of least total length, by length limit and byte counts
(R106: "the length-limited prefix code of least total coded length" leaves ties open). -/
opaque codeLengths : Nat → List Nat → List Nat

/-- Results the manual only bounds (Tables 6.8 and 7.8) or leaves open: by opcode and function, operand patterns
and position, as FP32 patterns. -/
opaque approx : Nat → List Nat → Nat → Nat

/-- The order in which a Wheel tree of so many leaves takes its terms: its shape "is fixed within each MAJOR revision, and
is not given in this manual" (R40, R144). -/
opaque wheelLeaf : Nat → Nat → Nat

/-- What a NaN becomes in an integer output of the Glaze unit (R121 states rounding and saturation only). -/
opaque nanToInt : Nat → Nat

/-- What is written beyond the last element an operation gives a row: by a fresh number and the row's index
(R119, R132 name only the elements). -/
opaque padBits : Nat → Nat → Nat

/-- Which 8 same-colour neighbours a green pixel of the camera has: the nearest, or those at its CFA position (Table 15.3). -/
opaque greenNear : Bool

/-- Pixel values of the in-line camera pipeline, whose stages the manual names and does not state to the last bit
(R344, Table 15.3): by a fresh number for each frame, the stage, and the sample's index. -/
opaque isp : Nat → Nat → Nat → Nat

/-- A choice among equals the manual leaves open (a free frame, a park ID), by a fresh number. -/
opaque pick : Nat → Nat

/-- Values the Saggar draws or computes by standards the manual only names (R423, R426, R432, R434): by what it is
(1 identity public key, 2 certificate chain, 3 chain length, 4 encapsulation key, 5 signature, 6 signature length, 7 the
value of Falcon signing left out of the signed bytes) and a fresh number. -/
opaque crypto : Nat → Nat → Nat

/-- The 32-byte shared secret that decapsulation with an ML-KEM-1024 pair gives for a ciphertext, a standard the manual only
names (R435, R439): by the pair's number and the ciphertext. -/
opaque decaps : Nat → Nat → BitVec 256

/-- M_CONFIG over the words it is taken over, whose byte layout Table 18.2 does not give. -/
opaque measConfig : List Nat → Nat

/-- The power phase table in the firmware flash as shipped: by entry and word (R404). -/
opaque phaseTable : Nat → Nat → Nat

/-- The fused boost factor, in 1/256 (R405). -/
opaque boostFactor : Nat

/-- The firmware-key value held in the boot ROM (R447). -/
opaque firmwareKey : Nat

/-- Words of a crash dump: by its number and the byte offset in its window (R461). -/
opaque dumpWord : Nat → Nat → BitVec 32

/-- Blocks FLASH_FORMAT sets aside for the map and the journal, by blocks and units per block (R334). -/
opaque mapBlocks : Nat → Nat → Nat

end Sys2Proof.Config
end

