-- ==== Sys2Proof/Machine/Formats.lean ====
section
/-! DEFINITION. The fifteen number formats, their decoding and the single rounding into each (chapter 02,
R26 to R33, R43, R44). A number is held exactly, as sign, magnitude and power of two. -/

namespace Sys2Proof

/-- An exact value: NaN, a signed infinity, or `± m × 2^e`. -/
inductive Num where
  | nan
  | inf (neg : Bool)
  | fin (neg : Bool) (m : Nat) (e : Int)
  deriving DecidableEq, Repr

namespace Num

/-- Positive zero. -/
def zero : Num := .fin false 0 0

/-- The integer `i`. -/
def ofInt (i : Int) : Num := .fin (i < 0) i.natAbs 0

/-- Negation. -/
def neg : Num → Num
  | .nan => .nan
  | .inf s => .inf (!s)
  | .fin s m e => .fin (!s) m e

/-- Whether the value is NaN. -/
def isNan : Num → Bool
  | .nan => true
  | _ => false

/-- Whether the value is finite. -/
def isFinite : Num → Bool
  | .fin _ _ _ => true
  | _ => false

/-- Whether the value is a zero of either sign. -/
def isZero : Num → Bool
  | .fin _ m _ => m == 0
  | _ => false

/-- The sign bit. -/
def sign : Num → Bool
  | .nan => false
  | .inf s => s
  | .fin s _ _ => s

/-- The magnitude. -/
def abs : Num → Num
  | .nan => .nan
  | .inf _ => .inf false
  | .fin _ m e => .fin false m e

/-- The signed integer coefficient of a finite value aligned to exponent `q ≤ e`. -/
def coef (s : Bool) (m : Nat) (e q : Int) : Int :=
  let k : Nat := m <<< (e - q).toNat
  if s then -(k : Int) else (k : Int)

/-- Exact sum; opposite infinities give NaN (R40); an exact cancellation gives +0. -/
def add : Num → Num → Num
  | .nan, _ => .nan
  | _, .nan => .nan
  | .inf a, .inf b => if a = b then .inf a else .nan
  | .inf a, .fin _ _ _ => .inf a
  | .fin _ _ _, .inf b => .inf b
  | .fin a m e, .fin b n g =>
    let q := min e g
    let c := coef a m e q + coef b n g q
    if c = 0 then .fin (a && b) 0 0 else .fin (c < 0) c.natAbs q

/-- Exact difference. -/
def sub (x y : Num) : Num := add x y.neg

/-- Exact product; infinity times zero gives NaN (R40). -/
def mul : Num → Num → Num
  | .nan, _ => .nan
  | _, .nan => .nan
  | .inf a, .inf b => .inf (a != b)
  | .inf a, .fin b m _ => if m = 0 then .nan else .inf (a != b)
  | .fin a m _, .inf b => if m = 0 then .nan else .inf (a != b)
  | .fin a m e, .fin b n g => .fin (a != b) (m * n) (e + g)

/-- Strict order on non-NaN values; zeros of both signs are equal. -/
def lt : Num → Num → Bool
  | .nan, _ => false
  | _, .nan => false
  | .inf a, .inf b => a && !b
  | .inf a, .fin _ _ _ => a
  | .fin _ _ _, .inf b => !b
  | .fin a m e, .fin b n g => let q := min e g; decide (coef a m e q < coef b n g q)

/-- Equality of values (not of representations); NaN equals nothing. -/
def eq (x y : Num) : Bool := !x.isNan && !y.isNan && !lt x y && !lt y x

/-- The larger of two values; a NaN operand gives NaN. -/
def max (x y : Num) : Num := if x.isNan || y.isNan then .nan else if lt x y then y else x

/-- The smaller of two values; a NaN operand gives NaN. -/
def min (x y : Num) : Num := if x.isNan || y.isNan then .nan else if lt y x then y else x

/-- Scale by a power of two. -/
def scale2 (x : Num) (k : Int) : Num :=
  match x with
  | .fin s m e => .fin s m (e + k)
  | y => y

end Num

/-! Format codes of Table 2.1. -/
namespace Fmt
abbrev S4 : Nat := 0x0
abbrev S8 : Nat := 0x1
abbrev U8 : Nat := 0x2
abbrev S16 : Nat := 0x3
abbrev S32 : Nat := 0x4
abbrev E4M3 : Nat := 0x5
abbrev E5M2 : Nat := 0x6
abbrev E2M3 : Nat := 0x7
abbrev E2M1 : Nat := 0x8
abbrev FP16 : Nat := 0x9
abbrev BF16 : Nat := 0xA
abbrev FP32 : Nat := 0xB
abbrev NB4 : Nat := 0xC
abbrev NB3 : Nat := 0xD
abbrev UE8 : Nat := 0xE
end Fmt

/-- Storage bits of one element (Table 2.1). -/
def fmtBits (f : Nat) : Nat :=
  if f = Fmt.S4 || f = Fmt.E2M1 || f = Fmt.NB4 || f = Fmt.NB3 then 4
  else if f = Fmt.E2M3 then 6
  else if f = Fmt.S16 || f = Fmt.FP16 || f = Fmt.BF16 then 16
  else if f = Fmt.S32 || f = Fmt.FP32 then 32
  else 8

/-- Bytes of one element of a whole-byte format. -/
def fmtSize (f : Nat) : Nat := fmtBits f / 8

/-- An integer format, whose products with an integer format are exact (R33, R38). The bell grids decode to S8. -/
def fmtIsInt (f : Nat) : Bool :=
  f = Fmt.S4 || f = Fmt.S8 || f = Fmt.U8 || f = Fmt.S16 || f = Fmt.S32 || f = Fmt.NB4 || f = Fmt.NB3

/-- Layout of a floating format: precision with the implicit bit, exponent of the smallest subnormal,
storage bits, and the largest finite code without its sign (Table 2.2). -/
structure FpLayout where
  prec : Nat
  qmin : Int
  bits : Nat
  maxCode : Nat
  deriving DecidableEq, Repr

/-- Layouts of Table 2.2; other formats have none. -/
def fpLayout (f : Nat) : Option FpLayout :=
  if f = Fmt.E4M3 then some ⟨4, -9, 8, 0x7E⟩
  else if f = Fmt.E5M2 then some ⟨3, -16, 8, 0x7B⟩
  else if f = Fmt.E2M3 then some ⟨4, -3, 6, 0x1F⟩
  else if f = Fmt.E2M1 then some ⟨2, -1, 4, 0x7⟩
  else if f = Fmt.FP16 then some ⟨11, -24, 16, 0x7BFF⟩
  else if f = Fmt.BF16 then some ⟨8, -133, 16, 0x7F7F⟩
  else if f = Fmt.FP32 then some ⟨24, -149, 32, 0x7F7FFFFF⟩
  else none

/-- Magnitude of the bell-grid index (Table 2.3). -/
def nb4Mag (i : Nat) : Nat := ([0, 11, 22, 35, 50, 68, 90, 127] : List Nat).getD i 0

/-- Magnitude of the three-bit bell-grid index (Table 2.3). -/
def nb3Mag (i : Nat) : Nat := ([0, 32, 71, 127] : List Nat).getD i 0

/-- A magnitude under a sign: the S8 value the multiplier sees (R31). -/
def signedMag (neg : Bool) (m : Nat) : Int := if neg then -(m : Int) else m

/-- Decode a floating code. Codes above the largest finite are NaN, but the one just above it is an
infinity where the format has one (Table 2.2). -/
def decodeFp (f : Nat) (l : FpLayout) (c : Nat) : Num :=
  let s := decide (2 ^ (l.bits - 1) ≤ c)
  let g := c % 2 ^ (l.bits - 1)
  if l.maxCode < g then
    if f ≠ Fmt.E4M3 && g = l.maxCode + 1 then .inf s else .nan
  else
    let hid := 2 ^ (l.prec - 1)
    let ef := g / hid
    if ef = 0 then .fin s g l.qmin
    else .fin s (g % hid + hid) (l.qmin + (ef - 1 : Nat))

/-- The exact value of an element's bits (R26 to R31). -/
def decodeNum (f c : Nat) : Num :=
  match fpLayout f with
  | some l => decodeFp f l (c % 2 ^ l.bits)
  | none =>
    if f = Fmt.S4 then Num.ofInt (toSigned 4 c)
    else if f = Fmt.S8 then Num.ofInt (toSigned 8 c)
    else if f = Fmt.U8 then Num.ofInt (c % 256 : Nat)
    else if f = Fmt.S16 then Num.ofInt (toSigned 16 c)
    else if f = Fmt.S32 then Num.ofInt (toSigned 32 c)
    else if f = Fmt.NB4 then Num.ofInt (signedMag (8 ≤ c % 16) (nb4Mag (c % 8)))
    else if f = Fmt.NB3 then Num.ofInt (signedMag (4 ≤ c % 8) (nb3Mag (c % 4)))
    else if f = Fmt.UE8 then (if c % 256 = 0xFF then .nan else .fin false 1 ((c % 256 : Nat) - 127))
    else .nan

/-- Position of the highest set bit, 0 for 0. -/
def log2 (n : Nat) : Nat := n.log2

/-- Shift a magnitude right and round to nearest, ties to even. -/
def shiftRne (m k : Nat) : Nat :=
  let q := m >>> k
  let r := m - (q <<< k)
  let half := if k = 0 then 0 else 1 <<< (k - 1)
  if k = 0 then m
  else if half < r then q + 1
  else if r = half && q % 2 = 1 then q + 1
  else q

/-- Round a positive magnitude `m × 2^e` to a layout: the code its bits would have if the exponent range
had no upper end (R29, R30). -/
def roundCode (l : FpLayout) (m : Nat) (e : Int) : Nat :=
  if m = 0 then 0
  else
    let top := e + (log2 m : Nat)
    let q := max (top - ((l.prec - 1 : Nat) : Int)) l.qmin
    let mant := if q ≤ e then m <<< (e - q).toNat else shiftRne m (q - e).toNat
    (q - l.qmin).toNat * 2 ^ (l.prec - 1) + mant

/-- What a conversion sets beside its bits: the saturation flag and the NaN flag (R29, R195). -/
structure ConvFlags where
  sat : Bool := false
  nan : Bool := false
  deriving DecidableEq, Repr

/-- Join the flags of two conversions; both are sticky (R30). -/
def ConvFlags.or (a b : ConvFlags) : ConvFlags := ⟨a.sat || b.sat, a.nan || b.nan⟩

/-- Convert a value into a floating format, rounding once (R29, R30). -/
def encodeFp (f : Nat) (l : FpLayout) (x : Num) : Nat × ConvFlags :=
  let sb := fun (s : Bool) => if s then 2 ^ (l.bits - 1) else 0
  let ocp := f = Fmt.E4M3 || f = Fmt.E5M2 || f = Fmt.E2M3 || f = Fmt.E2M1
  match x with
  | .nan =>
    if f = Fmt.E4M3 then (0x7F, {})
    else if f = Fmt.E5M2 then (0x7E, {})
    else if f = Fmt.E2M3 || f = Fmt.E2M1 then (0, { nan := true })
    else if f = Fmt.FP16 then (0x7E00, {})
    else if f = Fmt.BF16 then (0x7FC0, {})
    else (0x7FC00000, {})
  | .inf s =>
    if ocp then (sb s + l.maxCode, { sat := true }) else (sb s + (l.maxCode + 1), {})
  | .fin s m e =>
    let c := roundCode l m e
    if l.maxCode < c then
      if ocp then (sb s + l.maxCode, { sat := true }) else (sb s + (l.maxCode + 1), {})
    else (sb s + c, {})

/-- The FP32 pattern of a value (R30). -/
def toFp32 (x : Num) : Nat := (encodeFp Fmt.FP32 ⟨24, -149, 32, 0x7F7FFFFF⟩ x).1

/-- The value of an FP32 pattern. -/
def ofFp32 (c : Nat) : Num := decodeNum Fmt.FP32 c

/-- Round a value to FP32 precision. -/
def rnd32 (x : Num) : Num := ofFp32 (toFp32 x)

/-- FP32 addition, rounding to nearest even (R39). -/
def addF (x y : Num) : Num := rnd32 (Num.add x y)

/-- FP32 subtraction. -/
def subF (x y : Num) : Num := rnd32 (Num.sub x y)

/-- FP32 multiplication. -/
def mulF (x y : Num) : Num := rnd32 (Num.mul x y)

/-- The two rounding modes of integer targets (Table 2.6). -/
inductive Rounding where
  | nearestEven
  | nearestAway
  deriving DecidableEq, Repr

/-- Round `p / 2^s` to an integer exactly as R43 does: floor, then the remainder against one half. -/
def roundShift (p : Int) (s : Nat) (mode : Rounding) : Int :=
  if s = 0 then p
  else
    let q := p / ((2 ^ s : Nat) : Int)
    let r := p - q * ((2 ^ s : Nat) : Int)
    let half : Int := ((2 ^ (s - 1) : Nat) : Int)
    if half < r then q + 1
    else if r = half then
      match mode with
      | .nearestEven => if q % 2 = 1 then q + 1 else q
      | .nearestAway => if 0 ≤ q then q + 1 else q
    else q

/-- Smallest and largest value of an integer target. -/
def intRange (f : Nat) : Int × Int :=
  if f = Fmt.S8 then (-128, 127)
  else if f = Fmt.U8 then (0, 255)
  else if f = Fmt.S16 then (-32768, 32767)
  else (-2147483648, 2147483647)

/-- Clamp a rounded value so that the result after the zero point lies in the target's range; the flag
tells whether the clamp acted (R43). -/
def clampZp (q zp qmin qmax : Int) : Int × Bool :=
  let lo := qmin - zp
  let hi := qmax - zp
  (max lo (min q hi) + zp, decide (q < lo) || decide (hi < q))

/-- Integer requantisation (R43). -/
def requantInt (acc m : Int) (s : Nat) (zp : Int) (mode : Rounding) (qmin qmax : Int) : Int × Bool :=
  clampZp (roundShift (acc * m) s mode) zp qmin qmax

/-- Round a finite value to an integer. -/
def roundToInt (neg : Bool) (m : Nat) (e : Int) (mode : Rounding) : Int :=
  let v : Int := if neg then -(m : Int) else (m : Int)
  if 0 ≤ e then v * ((2 ^ e.toNat : Nat) : Int) else roundShift v (-e).toNat mode

/-- Round a value into an integer target with a zero point; NaN gives the zero point and the NaN flag, an
infinity saturates toward its sign (R44). -/
def toIntTarget (x : Num) (mode : Rounding) (zp qmin qmax : Int) : Int × ConvFlags :=
  match x with
  | .nan => (zp, { nan := true })
  | .inf s => (if s then qmin else qmax, { sat := true })
  | .fin s m e =>
    let r := clampZp (roundToInt s m e mode) zp qmin qmax
    (r.1, { sat := r.2 })

/-- Convert a value into any output format: the bits of the element and the flags (R121). -/
def encodeNum (f : Nat) (x : Num) : Nat × ConvFlags :=
  match fpLayout f with
  | some l => encodeFp f l x
  | none =>
    let rg := intRange f
    let r := toIntTarget x .nearestEven 0 rg.1 rg.2
    (ofSigned (fmtBits f) r.1, r.2)

/-! Table 2.4: the formats each port accepts (R32). -/

/-- Kiln and Wheel weights. -/
def isWeightFmt (f : Nat) : Bool :=
  f == Fmt.S4 || f == Fmt.S8 || f == Fmt.E4M3 || f == Fmt.E5M2 || f == Fmt.E2M3 || f == Fmt.E2M1 || f == Fmt.FP16 ||
    f == Fmt.BF16 || f == Fmt.NB4 || f == Fmt.NB3

/-- Kiln inputs and Wheel activations. -/
def isInputFmt (f : Nat) : Bool :=
  f == Fmt.S8 || f == Fmt.U8 || f == Fmt.E4M3 || f == Fmt.E5M2 || f == Fmt.FP16 || f == Fmt.BF16

/-- K and V of the key-value cache. -/
def isKvFmt (f : Nat) : Bool := f == Fmt.E4M3 || f == Fmt.E5M2 || f == Fmt.BF16

/-- What the Glaze unit reads and writes. -/
def isGlazeFmt (f : Nat) : Bool :=
  f == Fmt.S8 || f == Fmt.U8 || f == Fmt.S16 || f == Fmt.S32 || f == Fmt.E4M3 || f == Fmt.E5M2 || f == Fmt.FP16 ||
    f == Fmt.BF16 || f == Fmt.FP32

/-- Scale tensors (R36). -/
def isScaleFmt (f : Nat) : Bool := f == Fmt.UE8 || f == Fmt.BF16

/-- One of the pairings of Table 2.5. -/
def isPairing (w x : Nat) : Bool :=
  let x8 := x = Fmt.S8 || x = Fmt.U8
  let xf := x = Fmt.E4M3 || x = Fmt.E5M2
  if w = Fmt.S4 || w = Fmt.NB4 || w = Fmt.NB3 || w = Fmt.E2M1 || w = Fmt.S8 || w = Fmt.E4M3 || w = Fmt.E5M2 then x8 || xf
  else if w = Fmt.E2M3 then xf
  else if w = Fmt.BF16 || w = Fmt.FP16 then x = Fmt.BF16 || x = Fmt.FP16
  else false

/-- An integer pairing, which accumulates exactly in S32 when it has no scales (R33). -/
def isIntPairing (w x : Nat) : Bool := fmtIsInt w && (x = Fmt.S8 || x = Fmt.U8)

/-- Element `i` of a packed vector held in a little-endian number (R27). -/
def elemAt (f n i : Nat) : Nat :=
  let b := fmtBits f
  (n >>> (b * i)) % 2 ^ b

/-- Saturate to S32; the flag tells whether it acted (R38). -/
def satS32 (i : Int) : Int × Bool :=
  if i < -2147483648 then (-2147483648, true) else if 2147483647 < i then (2147483647, true) else (i, false)

/-- One level of a Kiln adder tree: add adjacent terms (R39). -/
def treeLevel : List Num → List Num
  | x :: y :: r => addF x y :: treeLevel r
  | r => r

/-- A fixed binary tree over adjacent terms, `n` levels deep (R39). -/
def treeSum : Nat → List Num → Num
  | 0, r => r.headD Num.zero
  | n + 1, r => treeSum n (treeLevel r)

end Sys2Proof
end

