-- ==== Sys2Proof/Machine/Approx.lean ====
section
/-! DEFINITION. Reference values of the functions the manual bounds but does not fix (R134, Table 6.8, Table 7.8):
exponential, logarithm, square root, sine and cosine to some 250 bits, and the choice of a free result within a
stated bound. A result that leaves its bound is replaced by the reference value, so the bound always holds. -/

namespace Sys2Proof.Num

/-- Keep at most 320 bits of a magnitude. -/
def cut (x : Num) : Num :=
  match x with
  | .fin s m e => let k := log2 m - 320; .fin s (m >>> k) (e + k)
  | y => y

/-- Quotient to 320 bits; a zero divisor gives zero. -/
def quo (x y : Num) : Num :=
  match x, y with
  | .fin a m e, .fin b n g => if n = 0 then zero else (.fin (a != b) ((m <<< (320 + log2 n)) / n) (e - g - ((320 + log2 n : Nat) : Int)))
  | _, _ => zero

/-- Integer square root, bit by bit from the highest. -/
def root (n : Nat) : Nat :=
  ((List.range (log2 n / 2 + 1)).reverse).foldl (fun r i => if (r + 2 ^ i) * (r + 2 ^ i) ≤ n then r + 2 ^ i else r) 0

/-- Square root of a positive value. -/
def sqrt (x : Num) : Num :=
  match cut x with
  | .fin _ m e =>
    let p := (e % 2).toNat
    .fin false (root (m <<< (320 + p))) ((e - 320 - (p : Int)) / 2)
  | y => y

/-- ln 2 × 2^256, rounded down. -/
def ln2 : Int := 80260960185991308862233904206310070533990667611589946606122867505419956976171

/-- π × 2^512, rounded down. -/
def pi512 : Int := 42121870893450636219446821484559388105255997313489254605594685088103805782276098919793885372247726346443771296916333485327292916625599161542353774203832599

/-- A value as a fixed-point integer with `k` fraction bits, rounded down. -/
def toFix (k : Int) (x : Num) : Int :=
  match x with
  | .fin s m e =>
    let v : Int := if 0 ≤ e + k then ((m <<< (e + k).toNat : Nat) : Int) else ((m >>> (-(e + k)).toNat : Nat) : Int)
    if s then -v else v
  | _ => 0

/-- A fixed-point integer with 256 fraction bits as a value. -/
def ofFix (i : Int) : Num := .fin (i < 0) i.natAbs (-256)

/-- Σ of a fixed-point series whose term `i` is the one before it times `r / 2^256 / i`, kept when `pick i` says so
with its sign. -/
def series (r : Int) (pick : Nat → Int) : Nat → Nat → Int → Int → Int
  | 0, _, _, acc => acc
  | fuel + 1, i, t, acc =>
    let t' := t * r / (2 ^ 256 : Int) / (i : Int)
    series r pick fuel (i + 1) t' (acc + pick i * t')

/-- e^x. -/
def exp (x : Num) : Num :=
  match x with
  | .nan => .nan
  | .inf s => if s then zero else .inf false
  | .fin s _ _ =>
    if lt (.fin false 1 12) x.abs then (if s then zero else .inf false)
    else
      let f := toFix 256 x
      let k := f / ln2
      let r := f - k * ln2
      .fin false (series r (fun _ => 1) 70 1 (2 ^ 256) (2 ^ 256)).toNat (k - 256)

/-- Σ z^(2i+1) / (2i+1) in fixed point. -/
def atanhSum (z2 : Int) : Nat → Nat → Int → Int → Int
  | 0, _, _, acc => acc
  | fuel + 1, i, p, acc => atanhSum z2 fuel (i + 2) (p * z2 / (2 ^ 256 : Int)) (acc + p / (i : Int))

/-- ln x of a positive value. -/
def ln (x : Num) : Num :=
  match x with
  | .fin _ m e =>
    let l := log2 m
    let y : Int := ((m <<< 256) >>> l : Nat)
    let one : Int := 2 ^ 256
    let z := (y - one) * one / (y + one)
    ofFix (2 * atanhSum (z * z / one) 100 1 z 0 + (e + (l : Int)) * ln2)
  | _ => zero

/-- sin and cos of an angle, the reduction exact to 2^−350. -/
def sinCos (x : Num) : Num × Num :=
  let r := (toFix 512 x % (2 * pi512)) / (2 ^ 256 : Int)
  let sgn := fun (i : Nat) => if i / 2 % 2 = 0 then (1 : Int) else -1
  let s := series r (fun i => if i % 2 = 1 then sgn i else 0) 130 1 (2 ^ 256) 0
  let c := series r (fun i => if i % 2 = 0 then sgn i else 0) 130 1 (2 ^ 256) (2 ^ 256)
  (ofFix s, ofFix c)

/-- 1. -/
def one : Num := .fin false 1 0

/-- 1 / (1 + e^(−x)). -/
def sigmoid (x : Num) : Num := quo one (cut (add one (exp x.neg)))

/-- tanh x. -/
def tanh (x : Num) : Num :=
  if lt (.fin false 1 9) x.abs then .fin x.sign 1 0
  else
    let t := exp (scale2 x 1)
    quo (cut (add t one.neg)) (cut (add t one))

/-- x / (1 + e^(−x)). -/
def silu (x : Num) : Num := if lt (.fin true 1 11) x then cut (mul x (sigmoid x)) else zero

/-- 0.5x(1 + tanh(√(2/π)(x + 0.044715x³))). -/
def geluTanh (x : Num) : Num :=
  let c := sqrt (quo (.fin false 1 1) (.fin false pi512.toNat (-512)))
  let k := quo (.fin false 44715 0) (.fin false 1000000 0)
  let u := cut (mul c (cut (add x (cut (mul k (mul x (mul x x)))))))
  cut (mul (scale2 x (-1)) (cut (add one (tanh u))))

/-- The FP32 ulp of a finite value; that of a zero is the smallest subnormal. -/
def ulp (x : Num) : Num :=
  match x with
  | .fin _ m e =>
    let t : Int := e + ((log2 m : Nat) : Int) - 23
    .fin false 1 (if m = 0 ∨ t < -149 then -149 else t)
  | _ => zero

/-- Whether a finite result lies within a bound of a reference, with room for the reference's own error. -/
def within (c ref bound : Num) : Bool :=
  c.isFinite && ref.isFinite && !lt (add bound (scale2 (add bound (scale2 ref.abs (-100))) (-60))) (sub c ref).abs

/-- The free FP32 result when it lies within the bound, else the reference value rounded. -/
def choose (free : Nat) (ref bound : Num) : Nat :=
  let c := free % 2 ^ 32
  if within (ofFp32 c) ref bound then c else toFp32 ref

end Sys2Proof.Num
end

