-- ==== Sys2Proof/Machine/Flags.lean ====
section
/-! DEFINITION. Status codes, the FLAGS bits of a completion record and how conversions set them (R29, R195,
R197, Tables 8.9 and 8.11). -/

namespace Sys2Proof.Machine

/-! ### Status codes and flags (Tables 8.9 and 8.11) -/

/-- Status codes of Table 8.11. -/
abbrev stOk : Nat := 0x00
abbrev stIllegal : Nat := 0x01
abbrev stPoison : Nat := 0x02
abbrev stDataFault : Nat := 0x03
abbrev stUnitReset : Nat := 0x04
abbrev stDeadline : Nat := 0x05
abbrev stCancelled : Nat := 0x06
abbrev stAlreadyDone : Nat := 0x07
abbrev stDeferred : Nat := 0x08
abbrev stRefused : Nat := 0x09
abbrev stPreempted : Nat := 0x0A
abbrev stOverrun : Nat := 0x0B
abbrev stIntegrity : Nat := 0x0C
abbrev stBankOff : Nat := 0x0D
abbrev stPermission : Nat := 0x0E
abbrev stTimeout : Nat := 0x0F

/-- Whether a status taints the signalled counters (Table 8.11). -/
def taints (st : Nat) : Bool :=
  st == 1 || st == 2 || st == 3 || st == 4 || st == 6 || st == 0x0A || st == 0x0B || st == 0x0C || st == 0x0D ||
    st == 0x0E || st == 0x0F

/-- FLAGS.SAT (Table 8.9). -/
abbrev flSat : Nat := 1
/-- FLAGS.NAN. -/
abbrev flNan : Nat := 2
/-- FLAGS.POISON_OUT. -/
abbrev flPoisonOut : Nat := 4
/-- FLAGS.POISON_IN. -/
abbrev flPoisonIn : Nat := 8
/-- FLAGS.EARLY_END. -/
abbrev flEarlyEnd : Nat := 16
/-- FLAGS.LATE. -/
abbrev flLate : Nat := 32
/-- FLAGS.DEADLINE. -/
abbrev flDeadline : Nat := 64

/-- The FLAGS bits conversion flags set (R29, R30). -/
def convBits (f : ConvFlags) : Nat := (if f.sat then flSat else 0) + (if f.nan then flNan else 0)

/-- Join flags over a list; both are sticky. -/
def joinFlags (fs : List ConvFlags) : ConvFlags := fs.foldl ConvFlags.or {}

end Sys2Proof.Machine
end

