-- ==== Sys2Proof/Machine/FlagBits.lean ====
section
/-! DEFINITION. Bit positions of the W1C flags of every block, named as their field maps name them. -/

namespace Sys2Proof.Bit

/-- SHF_ERR.HANDOFF: illegal handoff, check 5 of Table 3.3 (Table 3.9). -/
abbrev SHF_ERR_HANDOFF : Nat := 8
/-- SHF_ERR.RANGE: check 1 of Table 3.3 failed (Table 3.9). -/
abbrev SHF_ERR_RANGE : Nat := 7
/-- SHF_ERR.CONFIG: SHF_BANK_CFG write ignored for an illegal code, or for a BUSY bank by R65 (Table 3.9). -/
abbrev SHF_ERR_CONFIG : Nat := 6
/-- SHF_ERR.CFG_LOST: SHF_BANK_CFG write ignored under R58 (Table 3.9). -/
abbrev SHF_ERR_CFG_LOST : Nat := 5
/-- SHF_ERR.SLOT_CFG: slot declaration or range write ignored (Table 3.9). -/
abbrev SHF_ERR_SLOT_CFG : Nat := 4
/-- SHF_ERR.UNCORRECTABLE: uncorrectable error by R64 or R66 (Table 3.9). -/
abbrev SHF_ERR_UNCORRECTABLE : Nat := 3
/-- SHF_ERR.BANK_OFF: access lost to a closed gate or an unpowered bank (Table 3.9). -/
abbrev SHF_ERR_BANK_OFF : Nat := 2
/-- SHF_ERR.TENANT: tenant check failed (Table 3.9). -/
abbrev SHF_ERR_TENANT : Nat := 1
/-- SHF_ERR.FOREIGN_PORT: owner check failed (Table 3.9). -/
abbrev SHF_ERR_FOREIGN_PORT : Nat := 0
/-- KLN_ERR.SPARE_OUT: a lasting fault found no spare, by R98 (Table 4.12). -/
abbrev KLN_ERR_SPARE_OUT : Nat := 7
/-- KLN_ERR.OWED_RELEASE: OWED bits released by software (Table 4.12). -/
abbrev KLN_ERR_OWED_RELEASE : Nat := 6
/-- KLN_ERR.CONFIG: a register write was ignored (Table 4.12). -/
abbrev KLN_ERR_CONFIG : Nat := 5
/-- KLN_ERR.HOLD_TIMEOUT: a charge ended by R90 (Table 4.12). -/
abbrev KLN_ERR_HOLD_TIMEOUT : Nat := 4
/-- KLN_ERR.ACC_TAG: tag check of R81 failed (Table 4.12). -/
abbrev KLN_ERR_ACC_TAG : Nat := 3
/-- KLN_ERR.PAIRING: another check of R81 failed (Table 4.12). -/
abbrev KLN_ERR_PAIRING : Nat := 2
/-- KLN_ERR.DATA: stream fault or uncorrectable error in a Kiln stream (Table 4.12). -/
abbrev KLN_ERR_DATA : Nat := 1
/-- KLN_ERR.RESIDUE: residue mismatch by R97 (Table 4.12). -/
abbrev KLN_ERR_RESIDUE : Nat := 0
/-- PUG_ERR.CONFIG: a register write was ignored (Table 5.8). -/
abbrev PUG_ERR_CONFIG : Nat := 3
/-- PUG_ERR.INPUT_POISON: cause 0xD, or R116 (Table 5.8). -/
abbrev PUG_ERR_INPUT_POISON : Nat := 2
/-- PUG_ERR.BLOCK: a block-scope failure of Table 5.5 (Table 5.8). -/
abbrev PUG_ERR_BLOCK : Nat := 1
/-- PUG_ERR.STREAM: a stream-scope failure of Table 5.5 (Table 5.8). -/
abbrev PUG_ERR_STREAM : Nat := 0
/-- GLZ_ERR.POISON_IN: poisoned input, by R124 (Table 6.10). -/
abbrev GLZ_ERR_POISON_IN : Nat := 1
/-- GLZ_ERR.ACC_TAG: tag mismatch, by R122 (Table 6.10). -/
abbrev GLZ_ERR_ACC_TAG : Nat := 0
/-- WHL_ERR.SPARE_OUT: a lasting fault found no spare, by R167 (Table 7.10). -/
abbrev WHL_ERR_SPARE_OUT : Nat := 5
/-- WHL_ERR.SELECT: expert index out of range, by R145 (Table 7.10). -/
abbrev WHL_ERR_SELECT : Nat := 4
/-- WHL_ERR.REFUSED: an append column was refused, by R153 (Table 7.10). -/
abbrev WHL_ERR_REFUSED : Nat := 3
/-- WHL_ERR.CTX: a context check failed (Table 7.10). -/
abbrev WHL_ERR_CTX : Nat := 2
/-- WHL_ERR.DATA: stream fault, uncorrectable error or poison in a Wheel input (Table 7.10). -/
abbrev WHL_ERR_DATA : Nat := 1
/-- WHL_ERR.RESIDUE: residue mismatch, by R166 (Table 7.10). -/
abbrev WHL_ERR_RESIDUE : Nat := 0
/-- SCH_EVT_ERR.FOREIGN: a signal to a counter of another tenant was dropped, by R192 (Table 8.14). -/
abbrev SCH_EVT_ERR_FOREIGN : Nat := 1
/-- SCH_EVT_ERR.SATURATED: a counter saturated, by R174 (Table 8.14). -/
abbrev SCH_EVT_ERR_SATURATED : Nat := 0
/-- SCH_TICK_STAT.DESYNC: a forwarded firing number was not above the current one, by R206 (Table 9.5). -/
abbrev SCH_TICK_STAT_DESYNC : Nat := 3
/-- QUE_ERR.CTX_UE: ERR 0x4 by Table 10.6 (Table 10.10). -/
abbrev QUE_ERR_CTX_UE : Nat := 6
/-- QUE_ERR.CMD_BUSY: a QUE_CMD write was ignored (Table 10.10). -/
abbrev QUE_ERR_CMD_BUSY : Nat := 5
/-- QUE_ERR.CQ_WRITE: ERR 0x3 by Table 10.6 (Table 10.10). -/
abbrev QUE_ERR_CQ_WRITE : Nat := 4
/-- QUE_ERR.SQ_READ: ERR 0x2 (Table 10.10). -/
abbrev QUE_ERR_SQ_READ : Nat := 3
/-- QUE_ERR.CQ_RELEASE: a release was dropped (Table 10.10). -/
abbrev QUE_ERR_CQ_RELEASE : Nat := 2
/-- QUE_ERR.DB_OVERFLOW: ERR 0x1 (Table 10.10). -/
abbrev QUE_ERR_DB_OVERFLOW : Nat := 1
/-- QUE_ERR.DB_RANGE: a doorbell to a missing, FREE or ERROR queue was dropped (Table 10.10). -/
abbrev QUE_ERR_DB_RANGE : Nat := 0
/-- QUE_SRV_ERR.RING: a result-ring write or RHEAD read failed a check; the tenant is held until it is repaired (Table 11.12). -/
abbrev QUE_SRV_ERR_RING : Nat := 3
/-- QUE_SRV_ERR.FAILED_STEP: a step was posted failed, by R255 (Table 11.12). -/
abbrev QUE_SRV_ERR_FAILED_STEP : Nat := 2
/-- QUE_SRV_ERR.PAGE: a latch found the page bank misassigned, by R253 (Table 11.12). -/
abbrev QUE_SRV_ERR_PAGE : Nat := 1
/-- QUE_SRV_ERR.CFG: a serving register write was ignored (Table 11.12). -/
abbrev QUE_SRV_ERR_CFG : Nat := 0
/-- TIR_ERR.CMD_BUSY: a TIR_CMD write was ignored (Table 12.9). -/
abbrev TIR_ERR_CMD_BUSY : Nat := 9
/-- TIR_ERR.PARK_FULL: a preemption was not made, by R290 (Table 12.9). -/
abbrev TIR_ERR_PARK_FULL : Nat := 8
/-- TIR_ERR.INDEX: an expert index out of range, by R283 (Table 12.9). -/
abbrev TIR_ERR_INDEX : Nat := 7
/-- TIR_ERR.NO_FRAME: a fill found no frame, by R279 (Table 12.9). -/
abbrev TIR_ERR_NO_FRAME : Nat := 6
/-- TIR_ERR.FILL: a fill failed on an uncorrectable read (Table 12.9). -/
abbrev TIR_ERR_FILL : Nat := 5
/-- TIR_ERR.PARKED: check 5 failed (Table 12.9). -/
abbrev TIR_ERR_PARKED : Nat := 4
/-- TIR_ERR.READONLY: check 4 failed (Table 12.9). -/
abbrev TIR_ERR_READONLY : Nat := 3
/-- TIR_ERR.KEY: check 3 failed (Table 12.9). -/
abbrev TIR_ERR_KEY : Nat := 2
/-- TIR_ERR.WINDOW: check 2 failed (Table 12.9). -/
abbrev TIR_ERR_WINDOW : Nat := 1
/-- TIR_ERR.UNMAPPED: check 1 failed (Table 12.9). -/
abbrev TIR_ERR_UNMAPPED : Nat := 0
/-- TIR_MDL_ERR.SCRUB_MISMATCH: a home copy failed its digest, by R307 (Table 13.9). -/
abbrev TIR_MDL_ERR_SCRUB_MISMATCH : Nat := 2
/-- TIR_MDL_ERR.LOAD_FAIL: a load failed at check 8 (Table 13.9). -/
abbrev TIR_MDL_ERR_LOAD_FAIL : Nat := 1
/-- TIR_MDL_ERR.SCRUB_LATE: a pass outran its interval, by R306 (Table 13.9). -/
abbrev TIR_MDL_ERR_SCRUB_LATE : Nat := 0
/-- DMC_ERR.CONFIG: a register write was ignored (Table 14.6). -/
abbrev DMC_ERR_CONFIG : Nat := 7
/-- DMC_ERR.PPR_OUT: a lasting row fault found no spare, by R329 (Table 14.6). -/
abbrev DMC_ERR_PPR_OUT : Nat := 6
/-- DMC_ERR.TRAIN: a retraining failed, by R323 (Table 14.6). -/
abbrev DMC_ERR_TRAIN : Nat := 5
/-- DMC_ERR.NOKEY: check 4 failed, or a write found its key slot empty, by R319 (Table 14.6). -/
abbrev DMC_ERR_NOKEY : Nat := 4
/-- DMC_ERR.PARTIAL_POISON: a partial write was dropped, by R317 (Table 14.6). -/
abbrev DMC_ERR_PARTIAL_POISON : Nat := 3
/-- DMC_ERR.MAC: check 5 failed (Table 14.6). -/
abbrev DMC_ERR_MAC : Nat := 2
/-- DMC_ERR.UNCORRECTABLE: check 3 failed twice (Table 14.6). -/
abbrev DMC_ERR_UNCORRECTABLE : Nat := 1
/-- DMC_ERR.RH: a row-disturbance action, by R327 (Table 14.6). -/
abbrev DMC_ERR_RH : Nat := 0
/-- NFC_ERR.CONFIG: a register write was ignored (Table 14.9). -/
abbrev NFC_ERR_CONFIG : Nat := 5
/-- NFC_ERR.SPARE_OUT: no spare block left, by R334 (Table 14.9). -/
abbrev NFC_ERR_SPARE_OUT : Nat := 4
/-- NFC_ERR.RECOVERED: the journal was replayed after an unorderly power-off (Table 14.9). -/
abbrev NFC_ERR_RECOVERED : Nat := 3
/-- NFC_ERR.GROWN_BAD: a block was retired, by R334 (Table 14.9). -/
abbrev NFC_ERR_GROWN_BAD : Nat := 2
/-- NFC_ERR.UNCORRECTABLE: a unit failed every retry, by R331 (Table 14.9). -/
abbrev NFC_ERR_UNCORRECTABLE : Nat := 1
/-- NFC_ERR.TRAIN: a channel failed ONFI training (Table 14.9). -/
abbrev NFC_ERR_TRAIN : Nat := 0
/-- IFE_ERR.PACKET: an uncorrectable header or a CRC failure (Table 15.16). -/
abbrev IFE_ERR_PACKET : Nat := 7
/-- IFE_ERR.OVERFLOW: a line was replaced under OVERFLOW (Table 15.16). -/
abbrev IFE_ERR_OVERFLOW : Nat := 6
/-- IFE_ERR.BIND: a bound output write failed, by R354 (Table 15.16). -/
abbrev IFE_ERR_BIND : Nat := 5
/-- IFE_ERR.SETTINGS: a settings transfer failed, by R361 (Table 15.16). -/
abbrev IFE_ERR_SETTINGS : Nat := 4
/-- IFE_ERR.SET_READ: a settings record read failed, by R359 (Table 15.16). -/
abbrev IFE_ERR_SET_READ : Nat := 3
/-- IFE_ERR.DN_FAULT: a denoise slot access failed, by R348 (Table 15.16). -/
abbrev IFE_ERR_DN_FAULT : Nat := 2
/-- IFE_ERR.DN_CFG: a frame ran without denoise, by R347 (Table 15.16). -/
abbrev IFE_ERR_DN_CFG : Nat := 1
/-- IFE_ERR.CONFIG: a register write or a parameter block read was ignored (Table 15.16). -/
abbrev IFE_ERR_CONFIG : Nat := 0
/-- LNK_ERR.CONFIG: a register write was ignored (Table 16.10). -/
abbrev LNK_ERR_CONFIG : Nat := 15
/-- LNK_ERR.HOST_DOWN: the host port went DOWN (Table 16.10). -/
abbrev LNK_ERR_HOST_DOWN : Nat := 14
/-- LNK_ERR.REPAIR_OUT: no redundant lane left, by R393 (Table 16.10). -/
abbrev LNK_ERR_REPAIR_OUT : Nat := 13
/-- LNK_ERR.ROUTE: a message met a drop entry (Table 16.10). -/
abbrev LNK_ERR_ROUTE : Nat := 12
/-- LNK_ERR.BAR_LATE: a RELEASE arrived after its instant (Table 16.10). -/
abbrev LNK_ERR_BAR_LATE : Nat := 11
/-- LNK_ERR.BAR_MASK: barrier masks differed (Table 16.10). -/
abbrev LNK_ERR_BAR_MASK : Nat := 10
/-- LNK_ERR.PEER_DOWN: a peer port went DOWN (Table 16.10). -/
abbrev LNK_ERR_PEER_DOWN : Nat := 9
/-- LNK_ERR.REVISION: a link was refused for MAJOR (Table 16.10). -/
abbrev LNK_ERR_REVISION : Nat := 8
/-- LNK_ERR.DUP_ID: a link was refused for a shared die ID (Table 16.10). -/
abbrev LNK_ERR_DUP_ID : Nat := 7
/-- LNK_ERR.PROTOCOL: an illegal message was dropped (Table 16.10). -/
abbrev LNK_ERR_PROTOCOL : Nat := 6
/-- LNK_ERR.EXPORT: a remote access outside the export window (Table 16.10). -/
abbrev LNK_ERR_EXPORT : Nat := 5
/-- LNK_ERR.PEER_TIMEOUT: a remote request timed out (Table 16.10). -/
abbrev LNK_ERR_PEER_TIMEOUT : Nat := 4
/-- LNK_ERR.CONF_RANGE: a HOST access outside the shared area (Table 16.10). -/
abbrev LNK_ERR_CONF_RANGE : Nat := 3
/-- LNK_ERR.CONF_TAG: a unit failed its tag (Table 16.10). -/
abbrev LNK_ERR_CONF_TAG : Nat := 2
/-- LNK_ERR.HOST_ERR: a host error response (Table 16.10). -/
abbrev LNK_ERR_HOST_ERR : Nat := 1
/-- LNK_ERR.HOST_TIMEOUT: a HOST read timed out (Table 16.10). -/
abbrev LNK_ERR_HOST_TIMEOUT : Nat := 0
/-- DMP_ERR.CONFIG: a register write was ignored (Table 17.8). -/
abbrev DMP_ERR_CONFIG : Nat := 7
/-- DMP_ERR.ENTRY_TIMEOUT: an entry was abandoned, by R415 (Table 17.8). -/
abbrev DMP_ERR_ENTRY_TIMEOUT : Nat := 6
/-- DMP_ERR.ASLEEP: an access was answered by R419 (Table 17.8). -/
abbrev DMP_ERR_ASLEEP : Nat := 5
/-- DMP_ERR.DROOP_MAX: a droop needed the full stretch (Table 17.8). -/
abbrev DMP_ERR_DROOP_MAX : Nat := 4
/-- DMP_ERR.RAIL_LIMIT: a rail reached its limit, by R409 (Table 17.8). -/
abbrev DMP_ERR_RAIL_LIMIT : Nat := 3
/-- DMP_ERR.HOT: a sensor reached 105 °C (Table 17.8). -/
abbrev DMP_ERR_HOT : Nat := 2
/-- DMP_ERR.THROTTLE: the thermal cap fell, by R411 (Table 17.8). -/
abbrev DMP_ERR_THROTTLE : Nat := 1
/-- DMP_ERR.CAP_FLOOR: the cap in force was raised, by R408 (Table 17.8). -/
abbrev DMP_ERR_CAP_FLOOR : Nat := 0
/-- SGR_ERR.CONF_LOST: a confidential session ended on loss of the link, by R440 (Table 18.7). -/
abbrev SGR_ERR_CONF_LOST : Nat := 4
/-- SGR_ERR.RELEASE: a model-key release failed its tag, by R435 (Table 18.7). -/
abbrev SGR_ERR_RELEASE : Nat := 3
/-- SGR_ERR.FUSE: a rollback bit failed its margin read, by R442 (Table 18.7). -/
abbrev SGR_ERR_FUSE : Nat := 2
/-- SGR_ERR.IDENTITY: the derived key did not match ID_HASH, by R423 (Table 18.7). -/
abbrev SGR_ERR_IDENTITY : Nat := 1
/-- SGR_ERR.RNG: a health test failed, by R426 (Table 18.7). -/
abbrev SGR_ERR_RNG : Nat := 0
/-- FWP_ERR.CONFIG: a FWP_RING_CFG write was ignored, by R452 (Table 19.10). -/
abbrev FWP_ERR_CONFIG : Nat := 7
/-- FWP_ERR.RING: a ring access failed, by R452 (Table 19.10). -/
abbrev FWP_ERR_RING : Nat := 6
/-- FWP_ERR.BOOT: a boot check failed, by R448 (Table 19.10). -/
abbrev FWP_ERR_BOOT : Nat := 5
/-- FWP_ERR.ROLLBACK: an update rolled back, by R467 (Table 19.10). -/
abbrev FWP_ERR_ROLLBACK : Nat := 4
/-- FWP_DUMP_STAT.LOST: a later expiry found VALID set (Table 19.11). -/
abbrev FWP_DUMP_STAT_LOST : Nat := 1
/-- FWP_DUMP_STAT.VALID: the window holds a dump; 1 releases it (Table 19.11). -/
abbrev FWP_DUMP_STAT_VALID : Nat := 0
/-- RAS_ERR.CONFIG: a register write was ignored (Table 20.8). -/
abbrev RAS_ERR_CONFIG : Nat := 4
/-- RAS_ERR.CTRL_UE: an uncorrectable word in on-chip SRAM, by R471 (Table 20.8). -/
abbrev RAS_ERR_CTRL_UE : Nat := 3
/-- RAS_ERR.TRACK_EVICT: a tracker entry was replaced (Table 20.8). -/
abbrev RAS_ERR_TRACK_EVICT : Nat := 2
/-- RAS_ERR.SELFTEST: a self-test run failed (Table 20.8). -/
abbrev RAS_ERR_SELFTEST : Nat := 1
/-- RAS_ERR.LASTING: a fault became lasting (Table 20.8). -/
abbrev RAS_ERR_LASTING : Nat := 0
/-- GLB_ERR.WIDTH: an access broke R484 (Table 21.3). -/
abbrev GLB_ERR_WIDTH : Nat := 1
/-- GLB_ERR.UNMAPPED: an access reached an unnamed word, by R485 (Table 21.3). -/
abbrev GLB_ERR_UNMAPPED : Nat := 0

end Sys2Proof.Bit
end

