-- ==== Sys2Proof/Machine/RegMap.lean ====
section
/-! DEFINITION. The register map: where each register of BAR0 and BAR2 lies, its reset value, and which of its
bits software writes, clears by writing 1, or clears by reading (Tables 0.3 to 21.3; R6, R483 to R490). An
address is a BAR0 byte offset; BAR2 offset o stands at 0x0400_0000 + o. -/

namespace Sys2Proof

/-- One row of the register map: an array of equal words. `rw` bits take a write, `w1c` bits clear on a
written 1, `rc` bits clear on a read; the remaining implemented bits are read-only, and the rest read 0. -/
structure RegRow where
  base : Nat
  stride : Nat
  count : Nat
  reset : Word
  rw : Word
  w1c : Word
  rc : Word
  deriving DecidableEq, Repr

/-- Whether a row holds the word at an address. -/
def RegRow.covers (r : RegRow) (a : Nat) : Bool :=
  decide (r.base ≤ a) && (a - r.base) % r.stride == 0 && decide ((a - r.base) / r.stride < r.count)

namespace Reg

/-- SHF_BANK_CFG[b] (Table 3.6). -/
abbrev SHF_BANK_CFG (b : Nat) : Nat := 0x600000 + 4 * b
/-- SHF_RETAIN0 (Table 3.6). -/
abbrev SHF_RETAIN0 : Nat := 0x600200
/-- SHF_RETAIN1 (Table 3.6). -/
abbrev SHF_RETAIN1 : Nat := 0x600204
/-- SHF_RETAIN2 (Table 3.6). -/
abbrev SHF_RETAIN2 : Nat := 0x600208
/-- SHF_ERR (Table 3.6). -/
abbrev SHF_ERR : Nat := 0x600210
/-- SHF_FAULT_LOG (Table 3.6). -/
abbrev SHF_FAULT_LOG : Nat := 0x600214
/-- SHF_FAULT_QUEUE (Table 3.6). -/
abbrev SHF_FAULT_QUEUE : Nat := 0x600218
/-- SHF_FAULT_COUNT (Table 3.6). -/
abbrev SHF_FAULT_COUNT : Nat := 0x60021C
/-- SHF_CONFLICT (Table 3.6). -/
abbrev SHF_CONFLICT : Nat := 0x600220
/-- SHF_SCRUB_CFG (Table 3.6). -/
abbrev SHF_SCRUB_CFG : Nat := 0x600224
/-- SHF_BANK_STAT[b] (Table 3.6). -/
abbrev SHF_BANK_STAT (b : Nat) : Nat := 0x600400 + 4 * b
/-- SHF_SLOT_RANGE[n] (Table 3.6). -/
abbrev SHF_SLOT_RANGE (n : Nat) : Nat := 0x602000 + 8 * n
/-- SHF_SLOT_CTRL[n] (Table 3.6). -/
abbrev SHF_SLOT_CTRL (n : Nat) : Nat := 0x602004 + 8 * n
/-- KLN_CTRL (Table 4.9). -/
abbrev KLN_CTRL : Nat := 0x400000
/-- KLN_STAT (Table 4.9). -/
abbrev KLN_STAT : Nat := 0x400004
/-- KLN_ERR (Table 4.9). -/
abbrev KLN_ERR : Nat := 0x400008
/-- KLN_HOLD_LIMIT (Table 4.9). -/
abbrev KLN_HOLD_LIMIT : Nat := 0x40000C
/-- KLN_ISSUED (Table 4.9). -/
abbrev KLN_ISSUED : Nat := 0x400010
/-- KLN_BUBBLES (Table 4.9). -/
abbrev KLN_BUBBLES : Nat := 0x400014
/-- KLN_HOLD_ACC (Table 4.9). -/
abbrev KLN_HOLD_ACC : Nat := 0x400018
/-- KLN_HOLD_DMP (Table 4.9). -/
abbrev KLN_HOLD_DMP : Nat := 0x40001C
/-- KLN_PLANE_WAIT (Table 4.9). -/
abbrev KLN_PLANE_WAIT : Nat := 0x400020
/-- KLN_SOFT_STARTS (Table 4.9). -/
abbrev KLN_SOFT_STARTS : Nat := 0x400024
/-- KLN_SPARE_STAT (Table 4.9). -/
abbrev KLN_SPARE_STAT : Nat := 0x400028
/-- KLN_RESIDUE_LOG (Table 4.9). -/
abbrev KLN_RESIDUE_LOG : Nat := 0x40002C
/-- KLN_FENCE (Table 4.9). -/
abbrev KLN_FENCE : Nat := 0x400030
/-- KLN_OWED[i] (Table 4.9). -/
abbrev KLN_OWED (i : Nat) : Nat := 0x400100 + 4 * i
/-- KLN_OWED_RELEASE (Table 4.9). -/
abbrev KLN_OWED_RELEASE : Nat := 0x400200
/-- PUG_CTRL (Table 5.6). -/
abbrev PUG_CTRL : Nat := 0x700000
/-- PUG_STAT (Table 5.6). -/
abbrev PUG_STAT : Nat := 0x700004
/-- PUG_ERR (Table 5.6). -/
abbrev PUG_ERR : Nat := 0x700008
/-- PUG_FAULT_LOG (Table 5.6). -/
abbrev PUG_FAULT_LOG : Nat := 0x70000C
/-- PUG_FAULT_QUEUE (Table 5.6). -/
abbrev PUG_FAULT_QUEUE : Nat := 0x700010
/-- PUG_FAULT_COUNT (Table 5.6). -/
abbrev PUG_FAULT_COUNT : Nat := 0x700014
/-- PUG_FENCE (Table 5.6). -/
abbrev PUG_FENCE : Nat := 0x700018
/-- PUG_KX_BLOCKS (Table 5.6). -/
abbrev PUG_KX_BLOCKS : Nat := 0x700020
/-- PUG_KX_STORED (Table 5.6). -/
abbrev PUG_KX_STORED : Nat := 0x700024
/-- PUG_KX_SLOW (Table 5.6). -/
abbrev PUG_KX_SLOW : Nat := 0x700028
/-- PUG_KX_SLOW_CYC (Table 5.6). -/
abbrev PUG_KX_SLOW_CYC : Nat := 0x70002C
/-- PUG_KX_WAIT_CYC (Table 5.6). -/
abbrev PUG_KX_WAIT_CYC : Nat := 0x700030
/-- PUG_WX_SLOW_CYC (Table 5.6). -/
abbrev PUG_WX_SLOW_CYC : Nat := 0x700034
/-- PUG_PX_BLOCKS (Table 5.6). -/
abbrev PUG_PX_BLOCKS : Nat := 0x700038
/-- PUG_CX_BLOCKS (Table 5.6). -/
abbrev PUG_CX_BLOCKS : Nat := 0x70003C
/-- PUG_CX_STORED (Table 5.6). -/
abbrev PUG_CX_STORED : Nat := 0x700040
/-- PUG_CX_RATE_STORED (Table 5.6). -/
abbrev PUG_CX_RATE_STORED : Nat := 0x700044
/-- GLZ_CTRL (Table 6.9). -/
abbrev GLZ_CTRL : Nat := 0x800000
/-- GLZ_STAT (Table 6.9). -/
abbrev GLZ_STAT : Nat := 0x800004
/-- GLZ_ERR (Table 6.9). -/
abbrev GLZ_ERR : Nat := 0x800008
/-- GLZ_FAULT_QUEUE (Table 6.9). -/
abbrev GLZ_FAULT_QUEUE : Nat := 0x80000C
/-- GLZ_FENCE (Table 6.9). -/
abbrev GLZ_FENCE : Nat := 0x800010
/-- GLZ_LINES (Table 6.9). -/
abbrev GLZ_LINES : Nat := 0x800014
/-- GLZ_ACC_WAIT (Table 6.9). -/
abbrev GLZ_ACC_WAIT : Nat := 0x800018
/-- GLZ_TOPK_INSERT (Table 6.9). -/
abbrev GLZ_TOPK_INSERT : Nat := 0x80001C
/-- WHL_CTRL (Table 7.8). -/
abbrev WHL_CTRL : Nat := 0x500000
/-- WHL_STAT (Table 7.8). -/
abbrev WHL_STAT : Nat := 0x500004
/-- WHL_ERR (Table 7.8). -/
abbrev WHL_ERR : Nat := 0x500008
/-- WHL_FAULT_QUEUE (Table 7.8). -/
abbrev WHL_FAULT_QUEUE : Nat := 0x50000C
/-- WHL_FENCE (Table 7.8). -/
abbrev WHL_FENCE : Nat := 0x500010
/-- WHL_RESIDUE_LOG (Table 7.8). -/
abbrev WHL_RESIDUE_LOG : Nat := 0x500014
/-- WHL_SPARE_STAT (Table 7.8). -/
abbrev WHL_SPARE_STAT : Nat := 0x500018
/-- WHL_SHARE_MAP[s] (Table 7.8). -/
abbrev WHL_SHARE_MAP (s : Nat) : Nat := 0x500040 + 4 * s
/-- WHL_PASSES (Table 7.8). -/
abbrev WHL_PASSES : Nat := 0x500080
/-- WHL_WBYTES (Table 7.8). -/
abbrev WHL_WBYTES : Nat := 0x500084
/-- WHL_KV_BLOCKS (Table 7.8). -/
abbrev WHL_KV_BLOCKS : Nat := 0x500088
/-- WHL_TIER_WAIT (Table 7.8). -/
abbrev WHL_TIER_WAIT : Nat := 0x50008C
/-- WHL_CTX_WAIT (Table 7.8). -/
abbrev WHL_CTX_WAIT : Nat := 0x500090
/-- WHL_APPENDS (Table 7.8). -/
abbrev WHL_APPENDS : Nat := 0x500094
/-- WHL_EVICTIONS (Table 7.8). -/
abbrev WHL_EVICTIONS : Nat := 0x500098
/-- WHL_REFUSED (Table 7.8). -/
abbrev WHL_REFUSED : Nat := 0x50009C
/-- SCH_ILLEGAL_LOG (Table 8.12). -/
abbrev SCH_ILLEGAL_LOG : Nat := 0x101000
/-- SCH_ILLEGAL_QUEUE (Table 8.12). -/
abbrev SCH_ILLEGAL_QUEUE : Nat := 0x101004
/-- SCH_ILLEGAL_COUNT (Table 8.12). -/
abbrev SCH_ILLEGAL_COUNT : Nat := 0x101008
/-- SCH_EVT_ERR (Table 8.12). -/
abbrev SCH_EVT_ERR : Nat := 0x10100C
/-- SCH_EVENT_INC (Table 8.12). -/
abbrev SCH_EVENT_INC : Nat := 0x101010
/-- SCH_DM_CTRL (Table 8.12). -/
abbrev SCH_DM_CTRL : Nat := 0x101014
/-- SCH_DM_STAT (Table 8.12). -/
abbrev SCH_DM_STAT : Nat := 0x101018
/-- SCH_DM_FENCE (Table 8.12). -/
abbrev SCH_DM_FENCE : Nat := 0x10101C
/-- SCH_EVT_POISON[i] (Table 8.12). -/
abbrev SCH_EVT_POISON (i : Nat) : Nat := 0x140000 + 4 * i
/-- SCH_EVENT[c] (Table 8.12). -/
abbrev SCH_EVENT (c : Nat) : Nat := 0x180000 + 4 * c
/-- SCH_TICK_CFG (Table 9.3). -/
abbrev SCH_TICK_CFG : Nat := 0x100000
/-- SCH_TICK_PERIOD (Table 9.3). -/
abbrev SCH_TICK_PERIOD : Nat := 0x100004
/-- SCH_TICK_NOW (Table 9.3). -/
abbrev SCH_TICK_NOW : Nat := 0x100008
/-- SCH_TICK_STAT (Table 9.3). -/
abbrev SCH_TICK_STAT : Nat := 0x10000C
/-- SCH_FIRING_LO (Table 9.3). -/
abbrev SCH_FIRING_LO : Nat := 0x100010
/-- SCH_FIRING_HI (Table 9.3). -/
abbrev SCH_FIRING_HI : Nat := 0x100014
/-- SCH_TICK_FALLBACKS (Table 9.3). -/
abbrev SCH_TICK_FALLBACKS : Nat := 0x100018
/-- SCH_TICK_MERGED (Table 9.3). -/
abbrev SCH_TICK_MERGED : Nat := 0x10001C
/-- SCH_ADMIT_CFG (Table 9.3). -/
abbrev SCH_ADMIT_CFG : Nat := 0x100020
/-- SCH_SB_STAT (Table 9.3). -/
abbrev SCH_SB_STAT : Nat := 0x100024
/-- SCH_SB_HIGH (Table 9.3). -/
abbrev SCH_SB_HIGH : Nat := 0x100028
/-- SCH_TICK_IRQ (Table 9.3). -/
abbrev SCH_TICK_IRQ : Nat := 0x10002C
/-- SCH_TEN_ALLOW[t] (Table 9.3). -/
abbrev SCH_TEN_ALLOW (t : Nat) : Nat := 0x102000 + 32 * t
/-- SCH_TEN_ADMITTED[t] (Table 9.3). -/
abbrev SCH_TEN_ADMITTED (t : Nat) : Nat := 0x102004 + 32 * t
/-- SCH_TEN_CARRY[t] (Table 9.3). -/
abbrev SCH_TEN_CARRY (t : Nat) : Nat := 0x102008 + 32 * t
/-- SCH_TEN_RETIRED[t] (Table 9.3). -/
abbrev SCH_TEN_RETIRED (t : Nat) : Nat := 0x10200C + 32 * t
/-- SCH_TEN_OVERRUN[t] (Table 9.3). -/
abbrev SCH_TEN_OVERRUN (t : Nat) : Nat := 0x102010 + 32 * t
/-- DB_ADD (Table 10.5). -/
abbrev DB_ADD (t : Nat) : Nat := 0x4000000 + 0x10000 * t
/-- DB_RELEASE (Table 10.5). -/
abbrev DB_RELEASE (t : Nat) : Nat := 0x4000004 + 0x10000 * t
/-- DB_FLUSH (Table 10.5). -/
abbrev DB_FLUSH (t : Nat) : Nat := 0x4000008 + 0x10000 * t
/-- DB_ALLOW (Table 10.5). -/
abbrev DB_ALLOW (t : Nat) : Nat := 0x4000010 + 0x10000 * t
/-- DB_INFLIGHT (Table 10.5). -/
abbrev DB_INFLIGHT (t : Nat) : Nat := 0x4000014 + 0x10000 * t
/-- DB_DROPPED (Table 10.5). -/
abbrev DB_DROPPED (t : Nat) : Nat := 0x4000018 + 0x10000 * t
/-- QUE_CMD (Table 10.8). -/
abbrev QUE_CMD : Nat := 0x200000
/-- QUE_CMD_STAT (Table 10.8). -/
abbrev QUE_CMD_STAT : Nat := 0x200004
/-- QUE_ERR (Table 10.8). -/
abbrev QUE_ERR : Nat := 0x200008
/-- QUE_ERR_QUEUE (Table 10.8). -/
abbrev QUE_ERR_QUEUE : Nat := 0x20000C
/-- QUE_CTX_MISS (Table 10.8). -/
abbrev QUE_CTX_MISS : Nat := 0x200010
/-- QUE_CQ_STALL (Table 10.8). -/
abbrev QUE_CQ_STALL : Nat := 0x200014
/-- QUE_MGMT_ADD (Table 10.8). -/
abbrev QUE_MGMT_ADD : Nat := 0x200018
/-- QUE_MGMT_RELEASE (Table 10.8). -/
abbrev QUE_MGMT_RELEASE : Nat := 0x20001C
/-- QUE_MGMT_FLUSH (Table 10.8). -/
abbrev QUE_MGMT_FLUSH : Nat := 0x200020
/-- QUE_CTX_DATA[i] (Table 10.8). -/
abbrev QUE_CTX_DATA (i : Nat) : Nat := 0x200100 + 4 * i
/-- QUE_TEN_CFG[t] (Table 10.8). -/
abbrev QUE_TEN_CFG (t : Nat) : Nat := 0x201000 + 64 * t
/-- QUE_TEN_QBASE[t] (Table 10.8). -/
abbrev QUE_TEN_QBASE (t : Nat) : Nat := 0x201004 + 64 * t
/-- QUE_TEN_QCOUNT[t] (Table 10.8). -/
abbrev QUE_TEN_QCOUNT (t : Nat) : Nat := 0x201008 + 64 * t
/-- QUE_TEN_EVT_BASE[t] (Table 10.8). -/
abbrev QUE_TEN_EVT_BASE (t : Nat) : Nat := 0x20100C + 64 * t
/-- QUE_TEN_EVT_COUNT[t] (Table 10.8). -/
abbrev QUE_TEN_EVT_COUNT (t : Nat) : Nat := 0x201010 + 64 * t
/-- QUE_TEN_INFLIGHT[t] (Table 10.8). -/
abbrev QUE_TEN_INFLIGHT (t : Nat) : Nat := 0x201014 + 64 * t
/-- QUE_TEN_DEFERRED[t] (Table 10.8). -/
abbrev QUE_TEN_DEFERRED (t : Nat) : Nat := 0x201018 + 64 * t
/-- QUE_TEN_REFUSED[t] (Table 10.8). -/
abbrev QUE_TEN_REFUSED (t : Nat) : Nat := 0x20101C + 64 * t
/-- QUE_TEN_PREEMPTED[t] (Table 10.8). -/
abbrev QUE_TEN_PREEMPTED (t : Nat) : Nat := 0x201020 + 64 * t
/-- QUE_SRV_AREA_LO (Table 11.9). -/
abbrev QUE_SRV_AREA_LO : Nat := 0x210000
/-- QUE_SRV_AREA_HI (Table 11.9). -/
abbrev QUE_SRV_AREA_HI : Nat := 0x210004
/-- QUE_SRV_ERR (Table 11.9). -/
abbrev QUE_SRV_ERR : Nat := 0x210008
/-- QUE_SRV_ERR_INFO (Table 11.9). -/
abbrev QUE_SRV_ERR_INFO : Nat := 0x21000C
/-- QUE_SRV_GCFG0[g] (Table 11.9). -/
abbrev QUE_SRV_GCFG0 (g : Nat) : Nat := 0x211000 + 32 * g
/-- QUE_SRV_GCFG1[g] (Table 11.9). -/
abbrev QUE_SRV_GCFG1 (g : Nat) : Nat := 0x211004 + 32 * g
/-- QUE_SRV_GCFG2[g] (Table 11.9). -/
abbrev QUE_SRV_GCFG2 (g : Nat) : Nat := 0x211008 + 32 * g
/-- QUE_SRV_GCFG3[g] (Table 11.9). -/
abbrev QUE_SRV_GCFG3 (g : Nat) : Nat := 0x21100C + 32 * g
/-- QUE_SRV_GCTL[g] (Table 11.9). -/
abbrev QUE_SRV_GCTL (g : Nat) : Nat := 0x211010 + 32 * g
/-- QUE_SRV_GSTEP[g] (Table 11.9). -/
abbrev QUE_SRV_GSTEP (g : Nat) : Nat := 0x211014 + 32 * g
/-- QUE_SRV_GSTAT[g] (Table 11.9). -/
abbrev QUE_SRV_GSTAT (g : Nat) : Nat := 0x211018 + 32 * g
/-- QUE_SRV_GLATE[g] (Table 11.9). -/
abbrev QUE_SRV_GLATE (g : Nat) : Nat := 0x21101C + 32 * g
/-- QUE_SRV_RBASE_LO[t] (Table 11.9). -/
abbrev QUE_SRV_RBASE_LO (t : Nat) : Nat := 0x212000 + 32 * t
/-- QUE_SRV_RBASE_HI[t] (Table 11.9). -/
abbrev QUE_SRV_RBASE_HI (t : Nat) : Nat := 0x212004 + 32 * t
/-- QUE_SRV_RCFG[t] (Table 11.9). -/
abbrev QUE_SRV_RCFG (t : Nat) : Nat := 0x212008 + 32 * t
/-- QUE_SRV_RHEAD_LO[t] (Table 11.9). -/
abbrev QUE_SRV_RHEAD_LO (t : Nat) : Nat := 0x21200C + 32 * t
/-- QUE_SRV_RHEAD_HI[t] (Table 11.9). -/
abbrev QUE_SRV_RHEAD_HI (t : Nat) : Nat := 0x212010 + 32 * t
/-- QUE_SRV_RTAIL[t] (Table 11.9). -/
abbrev QUE_SRV_RTAIL (t : Nat) : Nat := 0x212014 + 32 * t
/-- QUE_SRV_RSTAT[t] (Table 11.9). -/
abbrev QUE_SRV_RSTAT (t : Nat) : Nat := 0x212018 + 32 * t
/-- QUE_SRV_RHELD[t] (Table 11.9). -/
abbrev QUE_SRV_RHELD (t : Nat) : Nat := 0x21201C + 32 * t
/-- TIR_CTRL (Table 12.7). -/
abbrev TIR_CTRL : Nat := 0x900000
/-- TIR_ERR (Table 12.7). -/
abbrev TIR_ERR : Nat := 0x900004
/-- TIR_FAULT_LOG (Table 12.7). -/
abbrev TIR_FAULT_LOG : Nat := 0x900008
/-- TIR_FAULT_PAGE (Table 12.7). -/
abbrev TIR_FAULT_PAGE : Nat := 0x90000C
/-- TIR_FENCE (Table 12.7). -/
abbrev TIR_FENCE : Nat := 0x900010
/-- TIR_PT_BASE_LO (Table 12.7). -/
abbrev TIR_PT_BASE_LO : Nat := 0x900014
/-- TIR_PT_BASE_HI (Table 12.7). -/
abbrev TIR_PT_BASE_HI : Nat := 0x900018
/-- TIR_AREA_LO (Table 12.7). -/
abbrev TIR_AREA_LO : Nat := 0x90001C
/-- TIR_AREA_HI (Table 12.7). -/
abbrev TIR_AREA_HI : Nat := 0x900020
/-- TIR_POOL_FIRST[p] (Table 12.7). -/
abbrev TIR_POOL_FIRST (p : Nat) : Nat := 0x900030 + 8 * p
/-- TIR_POOL_COUNT[p] (Table 12.7). -/
abbrev TIR_POOL_COUNT (p : Nat) : Nat := 0x900034 + 8 * p
/-- TIR_FLASH_CAP (Table 12.7). -/
abbrev TIR_FLASH_CAP : Nat := 0x900048
/-- TIR_CMD (Table 12.7). -/
abbrev TIR_CMD : Nat := 0x900050
/-- TIR_CMD_STAT (Table 12.7). -/
abbrev TIR_CMD_STAT : Nat := 0x900054
/-- TIR_CMD_FIRST (Table 12.7). -/
abbrev TIR_CMD_FIRST : Nat := 0x900058
/-- TIR_CMD_COUNT (Table 12.7). -/
abbrev TIR_CMD_COUNT : Nat := 0x90005C
/-- TIR_CMD_DATA[i] (Table 12.7). -/
abbrev TIR_CMD_DATA (i : Nat) : Nat := 0x900060 + 4 * i
/-- TIR_PT_MISS (Table 12.7). -/
abbrev TIR_PT_MISS : Nat := 0x900080
/-- TIR_DEMAND (Table 12.7). -/
abbrev TIR_DEMAND : Nat := 0x900084
/-- TIR_FLASH_RD (Table 12.7). -/
abbrev TIR_FLASH_RD : Nat := 0x900088
/-- TIR_FLASH_WR (Table 12.7). -/
abbrev TIR_FLASH_WR : Nat := 0x90008C
/-- TIR_PARK_EXPIRED (Table 12.7). -/
abbrev TIR_PARK_EXPIRED : Nat := 0x900090
/-- TIR_PARK_USED (Table 12.7). -/
abbrev TIR_PARK_USED : Nat := 0x900094
/-- TIR_RES_LIMIT[g] (Table 12.7). -/
abbrev TIR_RES_LIMIT (g : Nat) : Nat := 0x901000 + 32 * g
/-- TIR_RES_RESIDENT[g] (Table 12.7). -/
abbrev TIR_RES_RESIDENT (g : Nat) : Nat := 0x901004 + 32 * g
/-- TIR_RES_HIT[g] (Table 12.7). -/
abbrev TIR_RES_HIT (g : Nat) : Nat := 0x901008 + 32 * g
/-- TIR_RES_MISS[g] (Table 12.7). -/
abbrev TIR_RES_MISS (g : Nat) : Nat := 0x90100C + 32 * g
/-- TIR_RES_EVICT[g] (Table 12.7). -/
abbrev TIR_RES_EVICT (g : Nat) : Nat := 0x901010 + 32 * g
/-- TIR_WIN_BASE[t][w] (Table 12.7). -/
abbrev TIR_WIN_BASE (t : Nat) (w : Nat) : Nat := 0x920000 + 64 * t + 8 * w
/-- TIR_WIN_SIZE[t][w] (Table 12.7). -/
abbrev TIR_WIN_SIZE (t : Nat) (w : Nat) : Nat := 0x920004 + 64 * t + 8 * w
/-- TIR_MDL_STAT[m] (Table 13.7). -/
abbrev TIR_MDL_STAT (m : Nat) : Nat := 0x930000 + 32 * m
/-- TIR_MDL_ID_LO[m] (Table 13.7). -/
abbrev TIR_MDL_ID_LO (m : Nat) : Nat := 0x930004 + 32 * m
/-- TIR_MDL_ID_HI[m] (Table 13.7). -/
abbrev TIR_MDL_ID_HI (m : Nat) : Nat := 0x930008 + 32 * m
/-- TIR_MDL_BASE[m] (Table 13.7). -/
abbrev TIR_MDL_BASE (m : Nat) : Nat := 0x93000C + 32 * m
/-- TIR_MDL_PAGES[m] (Table 13.7). -/
abbrev TIR_MDL_PAGES (m : Nat) : Nat := 0x930010 + 32 * m
/-- TIR_MDL_REFS[m] (Table 13.7). -/
abbrev TIR_MDL_REFS (m : Nat) : Nat := 0x930014 + 32 * m
/-- TIR_MDL_SCRUBS[m] (Table 13.7). -/
abbrev TIR_MDL_SCRUBS (m : Nat) : Nat := 0x930018 + 32 * m
/-- TIR_MDL_BAD[m] (Table 13.7). -/
abbrev TIR_MDL_BAD (m : Nat) : Nat := 0x93001C + 32 * m
/-- TIR_MDL_ERR (Table 13.7). -/
abbrev TIR_MDL_ERR : Nat := 0x931000
/-- DMC_STAT (Table 14.5). -/
abbrev DMC_STAT : Nat := 0xA00000
/-- DMC_CAP (Table 14.5). -/
abbrev DMC_CAP : Nat := 0xA00004
/-- DMC_ERR (Table 14.5). -/
abbrev DMC_ERR : Nat := 0xA00008
/-- DMC_ERR_ADDR_LO (Table 14.5). -/
abbrev DMC_ERR_ADDR_LO : Nat := 0xA0000C
/-- DMC_ERR_ADDR_HI (Table 14.5). -/
abbrev DMC_ERR_ADDR_HI : Nat := 0xA00010
/-- DMC_CE_COUNT (Table 14.5). -/
abbrev DMC_CE_COUNT : Nat := 0xA00014
/-- DMC_UE_COUNT (Table 14.5). -/
abbrev DMC_UE_COUNT : Nat := 0xA00018
/-- DMC_MAC_FAIL (Table 14.5). -/
abbrev DMC_MAC_FAIL : Nat := 0xA0001C
/-- DMC_LINK_CE (Table 14.5). -/
abbrev DMC_LINK_CE : Nat := 0xA00020
/-- DMC_PASR_KEEP (Table 14.5). -/
abbrev DMC_PASR_KEEP : Nat := 0xA00024
/-- DMC_TRAIN_CFG (Table 14.5). -/
abbrev DMC_TRAIN_CFG : Nat := 0xA00028
/-- DMC_RH_CFG (Table 14.5). -/
abbrev DMC_RH_CFG : Nat := 0xA0002C
/-- DMC_RH_WINDOW (Table 14.5). -/
abbrev DMC_RH_WINDOW : Nat := 0xA00030
/-- DMC_RH_EVENTS (Table 14.5). -/
abbrev DMC_RH_EVENTS : Nat := 0xA00034
/-- DMC_RH_LOG (Table 14.5). -/
abbrev DMC_RH_LOG : Nat := 0xA00038
/-- DMC_RH_QUEUE (Table 14.5). -/
abbrev DMC_RH_QUEUE : Nat := 0xA0003C
/-- DMC_SCRUB_CFG (Table 14.5). -/
abbrev DMC_SCRUB_CFG : Nat := 0xA00040
/-- DMC_RETIRED (Table 14.5). -/
abbrev DMC_RETIRED : Nat := 0xA00044
/-- DMC_CH_STAT[c] (Table 14.5). -/
abbrev DMC_CH_STAT (c : Nat) : Nat := 0xA00100 + 4 * c
/-- NFC_STAT (Table 14.8). -/
abbrev NFC_STAT : Nat := 0xB00000
/-- NFC_ERR (Table 14.8). -/
abbrev NFC_ERR : Nat := 0xB00004
/-- NFC_MAP_BASE_LO (Table 14.8). -/
abbrev NFC_MAP_BASE_LO : Nat := 0xB00008
/-- NFC_MAP_BASE_HI (Table 14.8). -/
abbrev NFC_MAP_BASE_HI : Nat := 0xB0000C
/-- NFC_MAP_SIZE (Table 14.8). -/
abbrev NFC_MAP_SIZE : Nat := 0xB00010
/-- NFC_CE_COUNT (Table 14.8). -/
abbrev NFC_CE_COUNT : Nat := 0xB00014
/-- NFC_UE_COUNT (Table 14.8). -/
abbrev NFC_UE_COUNT : Nat := 0xB00018
/-- NFC_RELOC_RD (Table 14.8). -/
abbrev NFC_RELOC_RD : Nat := 0xB0001C
/-- NFC_RELOC_WL (Table 14.8). -/
abbrev NFC_RELOC_WL : Nat := 0xB00020
/-- NFC_BAD_GROWN (Table 14.8). -/
abbrev NFC_BAD_GROWN : Nat := 0xB00024
/-- NFC_SPARES (Table 14.8). -/
abbrev NFC_SPARES : Nat := 0xB00028
/-- NFC_ERASE_MAX (Table 14.8). -/
abbrev NFC_ERASE_MAX : Nat := 0xB0002C
/-- NFC_RD_LIMIT (Table 14.8). -/
abbrev NFC_RD_LIMIT : Nat := 0xB00030
/-- NFC_WL_SPREAD (Table 14.8). -/
abbrev NFC_WL_SPREAD : Nat := 0xB00034
/-- IFE_CTRL (Table 15.13). -/
abbrev IFE_CTRL : Nat := 0xC00000
/-- IFE_ERR (Table 15.13). -/
abbrev IFE_ERR : Nat := 0xC00004
/-- IFE_FENCE (Table 15.13). -/
abbrev IFE_FENCE : Nat := 0xC00008
/-- IFE_LATE_US (Table 15.13). -/
abbrev IFE_LATE_US : Nat := 0xC0000C
/-- IFE_ISP_BASE_LO (Table 15.13). -/
abbrev IFE_ISP_BASE_LO : Nat := 0xC00010
/-- IFE_ISP_BASE_HI (Table 15.13). -/
abbrev IFE_ISP_BASE_HI : Nat := 0xC00014
/-- IFE_DN_CFG (Table 15.13). -/
abbrev IFE_DN_CFG : Nat := 0xC00020
/-- IFE_DN_SLOTS (Table 15.13). -/
abbrev IFE_DN_SLOTS : Nat := 0xC00024
/-- IFE_DN_BYPASS (Table 15.13). -/
abbrev IFE_DN_BYPASS : Nat := 0xC00028
/-- IFE_DN_LAT_MAX (Table 15.13). -/
abbrev IFE_DN_LAT_MAX : Nat := 0xC0002C
/-- IFE_PORT_STAT[p] (Table 15.13). -/
abbrev IFE_PORT_STAT (p : Nat) : Nat := 0xC00030 + 4 * p
/-- IFE_CTX_CFG[c] (Table 15.13). -/
abbrev IFE_CTX_CFG (c : Nat) : Nat := 0xC00100 + 128 * c
/-- IFE_CTX_SIZE[c] (Table 15.13). -/
abbrev IFE_CTX_SIZE (c : Nat) : Nat := 0xC00104 + 128 * c
/-- IFE_CTX_PERIOD[c] (Table 15.13). -/
abbrev IFE_CTX_PERIOD (c : Nat) : Nat := 0xC00108 + 128 * c
/-- IFE_CTX_BLACK[c] (Table 15.13). -/
abbrev IFE_CTX_BLACK (c : Nat) : Nat := 0xC0010C + 128 * c
/-- IFE_CTX_SET_LO[c] (Table 15.13). -/
abbrev IFE_CTX_SET_LO (c : Nat) : Nat := 0xC00110 + 128 * c
/-- IFE_CTX_SET_HI[c] (Table 15.13). -/
abbrev IFE_CTX_SET_HI (c : Nat) : Nat := 0xC00114 + 128 * c
/-- IFE_CTX_SET_CFG[c] (Table 15.13). -/
abbrev IFE_CTX_SET_CFG (c : Nat) : Nat := 0xC00118 + 128 * c
/-- IFE_CTX_FRAME[c] (Table 15.13). -/
abbrev IFE_CTX_FRAME (c : Nat) : Nat := 0xC0011C + 128 * c
/-- IFE_CTX_STAT[c] (Table 15.13). -/
abbrev IFE_CTX_STAT (c : Nat) : Nat := 0xC00120 + 128 * c
/-- IFE_CTX_CNT[c][k], k = 0–11 (Table 15.13). -/
abbrev IFE_CTX_CNT (c : Nat) (k : Nat) : Nat := 0xC00124 + 128 * c + 4 * k
/-- LNK_CTRL (Table 16.8). -/
abbrev LNK_CTRL : Nat := 0xD00000
/-- LNK_STAT (Table 16.8). -/
abbrev LNK_STAT : Nat := 0xD00004
/-- LNK_ERR (Table 16.8). -/
abbrev LNK_ERR : Nat := 0xD00008
/-- LNK_FENCE (Table 16.8). -/
abbrev LNK_FENCE : Nat := 0xD0000C
/-- LNK_FAB_CFG (Table 16.8). -/
abbrev LNK_FAB_CFG : Nat := 0xD00010
/-- LNK_EXPORT_FIRST (Table 16.8). -/
abbrev LNK_EXPORT_FIRST : Nat := 0xD00014
/-- LNK_EXPORT_COUNT (Table 16.8). -/
abbrev LNK_EXPORT_COUNT : Nat := 0xD00018
/-- LNK_HOST_CFG (Table 16.8). -/
abbrev LNK_HOST_CFG : Nat := 0xD0001C
/-- LNK_ROUTE[p] (Table 16.8). -/
abbrev LNK_ROUTE (p : Nat) : Nat := 0xD00020 + 4 * p
/-- LNK_CONF_BASE_LO (Table 16.8). -/
abbrev LNK_CONF_BASE_LO : Nat := 0xD00030
/-- LNK_CONF_BASE_HI (Table 16.8). -/
abbrev LNK_CONF_BASE_HI : Nat := 0xD00034
/-- LNK_CONF_UNITS (Table 16.8). -/
abbrev LNK_CONF_UNITS : Nat := 0xD00038
/-- LNK_CONF_TAG_LO (Table 16.8). -/
abbrev LNK_CONF_TAG_LO : Nat := 0xD0003C
/-- LNK_CONF_TAG_HI (Table 16.8). -/
abbrev LNK_CONF_TAG_HI : Nat := 0xD00040
/-- LNK_CONF_FAIL (Table 16.8). -/
abbrev LNK_CONF_FAIL : Nat := 0xD00044
/-- LNK_PEER_TIMEOUTS (Table 16.8). -/
abbrev LNK_PEER_TIMEOUTS : Nat := 0xD00048
/-- LNK_FTIME_LO (Table 16.8). -/
abbrev LNK_FTIME_LO : Nat := 0xD0004C
/-- LNK_FTIME_HI (Table 16.8). -/
abbrev LNK_FTIME_HI : Nat := 0xD00050
/-- LNK_PORT_STAT[p] (Table 16.8). -/
abbrev LNK_PORT_STAT (p : Nat) : Nat := 0xD00100 + 32 * p
/-- LNK_PORT_CRC[p] (Table 16.8). -/
abbrev LNK_PORT_CRC (p : Nat) : Nat := 0xD00104 + 32 * p
/-- LNK_PORT_REPLAY[p] (Table 16.8). -/
abbrev LNK_PORT_REPLAY (p : Nat) : Nat := 0xD00108 + 32 * p
/-- LNK_PORT_RETRAIN[p] (Table 16.8). -/
abbrev LNK_PORT_RETRAIN (p : Nat) : Nat := 0xD0010C + 32 * p
/-- LNK_PORT_TX[p] (Table 16.8). -/
abbrev LNK_PORT_TX (p : Nat) : Nat := 0xD00110 + 32 * p
/-- LNK_PORT_RX[p] (Table 16.8). -/
abbrev LNK_PORT_RX (p : Nat) : Nat := 0xD00114 + 32 * p
/-- MSIX_ADDR_LO, MSI-X (Table 16.8). -/
abbrev MSIX_ADDR_LO (v : Nat) : Nat := 0xD10000 + 16 * v
/-- MSIX_ADDR_HI, MSI-X (Table 16.8). -/
abbrev MSIX_ADDR_HI (v : Nat) : Nat := 0xD10004 + 16 * v
/-- MSIX_DATA, MSI-X (Table 16.8). -/
abbrev MSIX_DATA (v : Nat) : Nat := 0xD10008 + 16 * v
/-- MSIX_CTRL, MSI-X (Table 16.8). -/
abbrev MSIX_CTRL (v : Nat) : Nat := 0xD1000C + 16 * v
/-- MSIX_PBA, MSI-X (Table 16.8). -/
abbrev MSIX_PBA (i : Nat) : Nat := 0xD20000 + 4 * i
/-- DMP_STAT (Table 17.6). -/
abbrev DMP_STAT : Nat := 0xE00000
/-- DMP_ERR (Table 17.6). -/
abbrev DMP_ERR : Nat := 0xE00004
/-- DMP_EST (Table 17.6). -/
abbrev DMP_EST : Nat := 0xE00008
/-- DMP_CAP (Table 17.6). -/
abbrev DMP_CAP : Nat := 0xE0000C
/-- DMP_FLOORS (Table 17.6). -/
abbrev DMP_FLOORS : Nat := 0xE00010
/-- DMP_SPLIT (Table 17.6). -/
abbrev DMP_SPLIT : Nat := 0xE00014
/-- DMP_DUTY (Table 17.6). -/
abbrev DMP_DUTY : Nat := 0xE00018
/-- DMP_DOM_EST[d] (Table 17.6). -/
abbrev DMP_DOM_EST (d : Nat) : Nat := 0xE00020 + 4 * d
/-- DMP_HOLD[d] (Table 17.6). -/
abbrev DMP_HOLD (d : Nat) : Nat := 0xE00030 + 4 * d
/-- DMP_DROOP_CFG (Table 17.6). -/
abbrev DMP_DROOP_CFG : Nat := 0xE00040
/-- DMP_DROOP_EVENTS (Table 17.6). -/
abbrev DMP_DROOP_EVENTS : Nat := 0xE00044
/-- DMP_DROOP_CYC (Table 17.6). -/
abbrev DMP_DROOP_CYC : Nat := 0xE00048
/-- DMP_THERM_CFG (Table 17.6). -/
abbrev DMP_THERM_CFG : Nat := 0xE00050
/-- DMP_TEMP_MAX (Table 17.6). -/
abbrev DMP_TEMP_MAX : Nat := 0xE00054
/-- DMP_THERM_CAP (Table 17.6). -/
abbrev DMP_THERM_CAP : Nat := 0xE00058
/-- DMP_TRIP (Table 17.6). -/
abbrev DMP_TRIP : Nat := 0xE0005C
/-- DMP_TEMP[s] (Table 17.6). -/
abbrev DMP_TEMP (s : Nat) : Nat := 0xE00060 + 4 * s
/-- DMP_IDLE_CFG (Table 17.6). -/
abbrev DMP_IDLE_CFG : Nat := 0xE000C0
/-- DMP_WAKE (Table 17.6). -/
abbrev DMP_WAKE : Nat := 0xE000C4
/-- SGR_STAT (Table 18.5). -/
abbrev SGR_STAT : Nat := 0xF00000
/-- SGR_ERR (Table 18.5). -/
abbrev SGR_ERR : Nat := 0xF00004
/-- SGR_ROLLBACK (Table 18.5). -/
abbrev SGR_ROLLBACK : Nat := 0xF00008
/-- SGR_DEVICE_ID[i] (Table 18.5). -/
abbrev SGR_DEVICE_ID (i : Nat) : Nat := 0xF00010 + 4 * i
/-- SGR_KEYS_LO (Table 18.5). -/
abbrev SGR_KEYS_LO : Nat := 0xF00020
/-- SGR_KEYS_HI (Table 18.5). -/
abbrev SGR_KEYS_HI : Nat := 0xF00024
/-- SGR_KEYS_SYS (Table 18.5). -/
abbrev SGR_KEYS_SYS : Nat := 0xF00028
/-- SGR_MODEL_KEYS (Table 18.5). -/
abbrev SGR_MODEL_KEYS : Nat := 0xF0002C
/-- SGR_SESSION (Table 18.5). -/
abbrev SGR_SESSION : Nat := 0xF00030
/-- SGR_MEAS_SEQ (Table 18.5). -/
abbrev SGR_MEAS_SEQ : Nat := 0xF00034
/-- SGR_ATTEST_COUNT (Table 18.5). -/
abbrev SGR_ATTEST_COUNT : Nat := 0xF00038
/-- FWP_STAT (Table 19.9). -/
abbrev FWP_STAT : Nat := 0x1000000
/-- FWP_ERR (Table 19.9). -/
abbrev FWP_ERR : Nat := 0x1000004
/-- FWP_BOOT_STAT (Table 19.9). -/
abbrev FWP_BOOT_STAT : Nat := 0x1000008
/-- FWP_RING_CFG (Table 19.9). -/
abbrev FWP_RING_CFG : Nat := 0x1000010
/-- FWP_CMD_BASE_LO, _HI (Table 19.9). -/
abbrev FWP_CMD_BASE_LO : Nat := 0x1000014
/-- FWP_CMD_BASE_LO, _HI (Table 19.9). -/
abbrev FWP_CMD_BASE_HI : Nat := 0x1000018
/-- FWP_RPL_BASE_LO, _HI (Table 19.9). -/
abbrev FWP_RPL_BASE_LO : Nat := 0x100001C
/-- FWP_RPL_BASE_LO, _HI (Table 19.9). -/
abbrev FWP_RPL_BASE_HI : Nat := 0x1000020
/-- FWP_CMD_TAIL (Table 19.9). -/
abbrev FWP_CMD_TAIL : Nat := 0x1000024
/-- FWP_CMD_HEAD (Table 19.9). -/
abbrev FWP_CMD_HEAD : Nat := 0x1000028
/-- FWP_RPL_TAIL (Table 19.9). -/
abbrev FWP_RPL_TAIL : Nat := 0x100002C
/-- FWP_RPL_HEAD (Table 19.9). -/
abbrev FWP_RPL_HEAD : Nat := 0x1000030
/-- FWP_RECOVERY_LO, _HI (Table 19.9). -/
abbrev FWP_RECOVERY_LO : Nat := 0x1000034
/-- FWP_RECOVERY_LO, _HI (Table 19.9). -/
abbrev FWP_RECOVERY_HI : Nat := 0x1000038
/-- FWP_RECOVERY_LEN (Table 19.9). -/
abbrev FWP_RECOVERY_LEN : Nat := 0x100003C
/-- FWP_WDT[p] (Table 19.9). -/
abbrev FWP_WDT (p : Nat) : Nat := 0x1000040 + 4 * p
/-- FWP_DUMP_STAT[p] (Table 19.9). -/
abbrev FWP_DUMP_STAT (p : Nat) : Nat := 0x1000050 + 4 * p
/-- FWP_DUMP[p] (Table 19.9). -/
abbrev FWP_DUMP (p : Nat) (i : Nat) : Nat := 0x1080000 + 0x20000 * p + 4 * i
/-- RAS_STAT (Table 20.7). -/
abbrev RAS_STAT : Nat := 0x1100000
/-- RAS_ERR (Table 20.7). -/
abbrev RAS_ERR : Nat := 0x1100004
/-- RAS_LASTING_CFG (Table 20.7). -/
abbrev RAS_LASTING_CFG : Nat := 0x1100008
/-- RAS_FAULT_LOG (Table 20.7). -/
abbrev RAS_FAULT_LOG : Nat := 0x110000C
/-- RAS_LASTING_COUNT (Table 20.7). -/
abbrev RAS_LASTING_COUNT : Nat := 0x1100010
/-- RAS_TRACK_EVICT (Table 20.7). -/
abbrev RAS_TRACK_EVICT : Nat := 0x1100014
/-- RAS_SELFTEST_CFG (Table 20.7). -/
abbrev RAS_SELFTEST_CFG : Nat := 0x1100018
/-- RAS_IRQ_EN (Table 20.7). -/
abbrev RAS_IRQ_EN : Nat := 0x110001C
/-- RAS_IRQ_STAT (Table 20.7). -/
abbrev RAS_IRQ_STAT : Nat := 0x1100020
/-- RAS_PIN_EN (Table 20.7). -/
abbrev RAS_PIN_EN : Nat := 0x1100024
/-- RAS_SRC_EVENTS[s] (Table 20.7). -/
abbrev RAS_SRC_EVENTS (s : Nat) : Nat := 0x1100100 + 4 * s
/-- NS_ID (Table 21.2). -/
abbrev NS_ID : Nat := 0x0
/-- GLB_STRAPS (Table 21.2). -/
abbrev GLB_STRAPS : Nat := 0x4
/-- GLB_ERR (Table 21.2). -/
abbrev GLB_ERR : Nat := 0x8
/-- GLB_ERR_ADDR (Table 21.2). -/
abbrev GLB_ERR_ADDR : Nat := 0xC
/-- GLB_ERR_COUNT (Table 21.2). -/
abbrev GLB_ERR_COUNT : Nat := 0x10
/-- GLB_REFCLK_LO (Table 21.2). -/
abbrev GLB_REFCLK_LO : Nat := 0x14
/-- GLB_REFCLK_HI (Table 21.2). -/
abbrev GLB_REFCLK_HI : Nat := 0x18
/-- GLB_SCRATCH[i] (Table 21.2). -/
abbrev GLB_SCRATCH (i : Nat) : Nat := 0x20 + 4 * i

end Reg

/-- Register rows of the Global block. -/
def rowsGlobal : List RegRow := [
  ⟨0x0, 4, 1, 0x48A10000#32, 0x0#32, 0x0#32, 0x0#32⟩,
  ⟨0x4, 4, 1, 0x0#32, 0x0#32, 0x0#32, 0x0#32⟩,
  ⟨0x8, 4, 1, 0x0#32, 0x0#32, 0x3#32, 0x0#32⟩,
  ⟨0xC, 4, 1, 0x0#32, 0x0#32, 0x0#32, 0x0#32⟩,
  ⟨0x10, 4, 1, 0x0#32, 0x0#32, 0x0#32, 0xFFFFFFFF#32⟩,
  ⟨0x14, 4, 1, 0x0#32, 0x0#32, 0x0#32, 0x0#32⟩,
  ⟨0x18, 4, 1, 0x0#32, 0x0#32, 0x0#32, 0x0#32⟩,
  ⟨0x20, 4, 8, 0x0#32, 0xFFFFFFFF#32, 0x0#32, 0x0#32⟩]

/-- Register rows of the Sched block, part 1. -/
def rowsSched1 : List RegRow := [
  ⟨0x101000, 4, 1, 0x0#32, 0x0#32, 0x0#32, 0x0#32⟩,
  ⟨0x101004, 4, 1, 0x0#32, 0x0#32, 0x0#32, 0x0#32⟩,
  ⟨0x101008, 4, 1, 0x0#32, 0x0#32, 0x0#32, 0xFFFFFFFF#32⟩,
  ⟨0x10100C, 4, 1, 0x0#32, 0x0#32, 0x3#32, 0x0#32⟩,
  ⟨0x101010, 4, 1, 0x0#32, 0x0#32, 0x0#32, 0x0#32⟩,
  ⟨0x101014, 4, 1, 0x0#32, 0x0#32, 0x0#32, 0x0#32⟩,
  ⟨0x101018, 4, 1, 0x0#32, 0x0#32, 0x0#32, 0x0#32⟩,
  ⟨0x10101C, 4, 1, 0x0#32, 0x0#32, 0x0#32, 0x0#32⟩,
  ⟨0x140000, 4, 2048, 0x0#32, 0x0#32, 0xFFFFFFFF#32, 0x0#32⟩,
  ⟨0x180000, 4, 65536, 0x0#32, 0xFFFFFFFF#32, 0x0#32, 0x0#32⟩,
  ⟨0x100000, 4, 1, 0x0#32, 0x0#32, 0x0#32, 0x0#32⟩,
  ⟨0x100004, 4, 1, 0x9600#32, 0x0#32, 0x0#32, 0x0#32⟩,
  ⟨0x100008, 4, 1, 0x0#32, 0x0#32, 0x0#32, 0x0#32⟩,
  ⟨0x10000C, 4, 1, 0x0#32, 0x0#32, 0x8#32, 0x0#32⟩,
  ⟨0x100010, 4, 1, 0x0#32, 0x0#32, 0x0#32, 0x0#32⟩,
  ⟨0x100014, 4, 1, 0x0#32, 0x0#32, 0x0#32, 0x0#32⟩,
  ⟨0x100018, 4, 1, 0x0#32, 0x0#32, 0x0#32, 0xFFFFFFFF#32⟩,
  ⟨0x10001C, 4, 1, 0x0#32, 0x0#32, 0x0#32, 0xFFFFFFFF#32⟩,
  ⟨0x100020, 4, 1, 0x80402000#32, 0x87FFFFFF#32, 0x0#32, 0x0#32⟩,
  ⟨0x100024, 4, 1, 0x0#32, 0x0#32, 0x0#32, 0x0#32⟩]

/-- Register rows of the Sched block, part 2. -/
def rowsSched2 : List RegRow := [
  ⟨0x100028, 4, 1, 0x0#32, 0x0#32, 0x0#32, 0x1FFF#32⟩,
  ⟨0x10002C, 4, 1, 0x0#32, 0x1#32, 0x0#32, 0x0#32⟩,
  ⟨0x102000, 32, 65, 0x0#32, 0x0#32, 0x0#32, 0x0#32⟩,
  ⟨0x102004, 32, 65, 0x0#32, 0x0#32, 0x0#32, 0xFFFFFFFF#32⟩,
  ⟨0x102008, 32, 65, 0x0#32, 0x0#32, 0x0#32, 0xFFFFFFFF#32⟩,
  ⟨0x10200C, 32, 65, 0x0#32, 0x0#32, 0x0#32, 0xFFFFFFFF#32⟩,
  ⟨0x102010, 32, 65, 0x0#32, 0x0#32, 0x0#32, 0xFFFFFFFF#32⟩]

/-- Register rows of the Sched block. -/
def rowsSched : List RegRow := rowsSched1 ++ rowsSched2

/-- Register rows of the Queue block, part 1. -/
def rowsQueue1 : List RegRow := [
  ⟨0x200000, 4, 1, 0x0#32, 0x0#32, 0x0#32, 0x0#32⟩,
  ⟨0x200004, 4, 1, 0x0#32, 0x0#32, 0x0#32, 0x0#32⟩,
  ⟨0x200008, 4, 1, 0x0#32, 0x0#32, 0x7F#32, 0x0#32⟩,
  ⟨0x20000C, 4, 1, 0x0#32, 0x0#32, 0x0#32, 0x0#32⟩,
  ⟨0x200010, 4, 1, 0x0#32, 0x0#32, 0x0#32, 0xFFFFFFFF#32⟩,
  ⟨0x200014, 4, 1, 0x0#32, 0x0#32, 0x0#32, 0xFFFFFFFF#32⟩,
  ⟨0x200018, 4, 1, 0x0#32, 0x0#32, 0x0#32, 0x0#32⟩,
  ⟨0x20001C, 4, 1, 0x0#32, 0x0#32, 0x0#32, 0x0#32⟩,
  ⟨0x200020, 4, 1, 0x0#32, 0x0#32, 0x0#32, 0x0#32⟩,
  ⟨0x200100, 4, 16, 0x0#32, 0xFFFFFFFF#32, 0x0#32, 0x0#32⟩,
  ⟨0x201000, 64, 65, 0x0#32, 0x0#32, 0x0#32, 0x0#32⟩,
  ⟨0x201004, 64, 65, 0x0#32, 0x0#32, 0x0#32, 0x0#32⟩,
  ⟨0x201008, 64, 65, 0x0#32, 0x0#32, 0x0#32, 0x0#32⟩,
  ⟨0x20100C, 64, 65, 0x0#32, 0x0#32, 0x0#32, 0x0#32⟩,
  ⟨0x201010, 64, 65, 0x0#32, 0x0#32, 0x0#32, 0x0#32⟩,
  ⟨0x201014, 64, 65, 0x0#32, 0x0#32, 0x0#32, 0x0#32⟩,
  ⟨0x201018, 64, 65, 0x0#32, 0x0#32, 0x0#32, 0xFFFFFFFF#32⟩,
  ⟨0x20101C, 64, 65, 0x0#32, 0x0#32, 0x0#32, 0xFFFFFFFF#32⟩,
  ⟨0x201020, 64, 65, 0x0#32, 0x0#32, 0x0#32, 0xFFFFFFFF#32⟩,
  ⟨0x210000, 4, 1, 0x0#32, 0xFFFF0000#32, 0x0#32, 0x0#32⟩]

/-- Register rows of the Queue block, part 2. -/
def rowsQueue2 : List RegRow := [
  ⟨0x210004, 4, 1, 0x0#32, 0xFFFF#32, 0x0#32, 0x0#32⟩,
  ⟨0x210008, 4, 1, 0x0#32, 0x0#32, 0xF#32, 0x0#32⟩,
  ⟨0x21000C, 4, 1, 0x0#32, 0x0#32, 0x0#32, 0x0#32⟩,
  ⟨0x211000, 32, 16, 0x0#32, 0xFFFFF07F#32, 0x0#32, 0x0#32⟩,
  ⟨0x211004, 32, 16, 0x0#32, 0x1FFFF#32, 0x0#32, 0x0#32⟩,
  ⟨0x211008, 32, 16, 0x0#32, 0xFFFFFFF#32, 0x0#32, 0x0#32⟩,
  ⟨0x21100C, 32, 16, 0x0#32, 0x7FFFFFF#32, 0x0#32, 0x0#32⟩,
  ⟨0x211010, 32, 16, 0x0#32, 0x0#32, 0x0#32, 0x0#32⟩,
  ⟨0x211014, 32, 16, 0x0#32, 0x0#32, 0x0#32, 0x0#32⟩,
  ⟨0x211018, 32, 16, 0x0#32, 0x0#32, 0x0#32, 0x0#32⟩,
  ⟨0x21101C, 32, 16, 0x0#32, 0x0#32, 0x0#32, 0xFFFFFFFF#32⟩,
  ⟨0x212000, 32, 65, 0x0#32, 0xFFFFF000#32, 0x0#32, 0x0#32⟩,
  ⟨0x212004, 32, 65, 0x0#32, 0xFFFF#32, 0x0#32, 0x0#32⟩,
  ⟨0x212008, 32, 65, 0x0#32, 0x8000001F#32, 0x0#32, 0x0#32⟩,
  ⟨0x21200C, 32, 65, 0x0#32, 0xFFFFFFF8#32, 0x0#32, 0x0#32⟩,
  ⟨0x212010, 32, 65, 0x0#32, 0xFFFF#32, 0x0#32, 0x0#32⟩,
  ⟨0x212014, 32, 65, 0x0#32, 0x0#32, 0x0#32, 0x0#32⟩,
  ⟨0x212018, 32, 65, 0x0#32, 0x0#32, 0x0#32, 0x0#32⟩,
  ⟨0x21201C, 32, 65, 0x0#32, 0x0#32, 0x0#32, 0xFFFFFFFF#32⟩]

/-- Register rows of the Queue block. -/
def rowsQueue : List RegRow := rowsQueue1 ++ rowsQueue2

/-- Register rows of the Kiln block. -/
def rowsKiln : List RegRow := [
  ⟨0x400000, 4, 1, 0x100#32, 0xFFF#32, 0x0#32, 0x0#32⟩,
  ⟨0x400004, 4, 1, 0x800#32, 0x0#32, 0x0#32, 0x0#32⟩,
  ⟨0x400008, 4, 1, 0x0#32, 0x0#32, 0xFF#32, 0x0#32⟩,
  ⟨0x40000C, 4, 1, 0xF4240#32, 0xFFFFFFFF#32, 0x0#32, 0x0#32⟩,
  ⟨0x400010, 4, 1, 0x0#32, 0x0#32, 0x0#32, 0xFFFFFFFF#32⟩,
  ⟨0x400014, 4, 1, 0x0#32, 0x0#32, 0x0#32, 0xFFFFFFFF#32⟩,
  ⟨0x400018, 4, 1, 0x0#32, 0x0#32, 0x0#32, 0xFFFFFFFF#32⟩,
  ⟨0x40001C, 4, 1, 0x0#32, 0x0#32, 0x0#32, 0xFFFFFFFF#32⟩,
  ⟨0x400020, 4, 1, 0x0#32, 0x0#32, 0x0#32, 0xFFFFFFFF#32⟩,
  ⟨0x400024, 4, 1, 0x0#32, 0x0#32, 0x0#32, 0xFFFFFFFF#32⟩,
  ⟨0x400028, 4, 1, 0xFF04#32, 0x0#32, 0x0#32, 0x0#32⟩,
  ⟨0x40002C, 4, 1, 0x0#32, 0x0#32, 0x0#32, 0x0#32⟩,
  ⟨0x400030, 4, 1, 0x0#32, 0x0#32, 0x0#32, 0x0#32⟩,
  ⟨0x400100, 4, 64, 0x0#32, 0x0#32, 0x0#32, 0x0#32⟩,
  ⟨0x400200, 4, 1, 0x0#32, 0x0#32, 0x0#32, 0x0#32⟩]

/-- Register rows of the Wheel block. -/
def rowsWheel : List RegRow := [
  ⟨0x500000, 4, 1, 0x0#32, 0x0#32, 0x0#32, 0x0#32⟩,
  ⟨0x500004, 4, 1, 0x200000#32, 0x0#32, 0x0#32, 0x0#32⟩,
  ⟨0x500008, 4, 1, 0x0#32, 0x0#32, 0x3F#32, 0x0#32⟩,
  ⟨0x50000C, 4, 1, 0x0#32, 0x0#32, 0x0#32, 0x0#32⟩,
  ⟨0x500010, 4, 1, 0x0#32, 0x0#32, 0x0#32, 0x0#32⟩,
  ⟨0x500014, 4, 1, 0x0#32, 0x0#32, 0x0#32, 0x0#32⟩,
  ⟨0x500018, 4, 1, 0x10#32, 0x0#32, 0x0#32, 0x0#32⟩,
  ⟨0x500040, 4, 16, 0x0#32, 0x0#32, 0x0#32, 0x0#32⟩,
  ⟨0x500080, 4, 1, 0x0#32, 0x0#32, 0x0#32, 0xFFFFFFFF#32⟩,
  ⟨0x500084, 4, 1, 0x0#32, 0x0#32, 0x0#32, 0xFFFFFFFF#32⟩,
  ⟨0x500088, 4, 1, 0x0#32, 0x0#32, 0x0#32, 0xFFFFFFFF#32⟩,
  ⟨0x50008C, 4, 1, 0x0#32, 0x0#32, 0x0#32, 0xFFFFFFFF#32⟩,
  ⟨0x500090, 4, 1, 0x0#32, 0x0#32, 0x0#32, 0xFFFFFFFF#32⟩,
  ⟨0x500094, 4, 1, 0x0#32, 0x0#32, 0x0#32, 0xFFFFFFFF#32⟩,
  ⟨0x500098, 4, 1, 0x0#32, 0x0#32, 0x0#32, 0xFFFFFFFF#32⟩,
  ⟨0x50009C, 4, 1, 0x0#32, 0x0#32, 0x0#32, 0xFFFFFFFF#32⟩]

/-- Register rows of the Shelf block. -/
def rowsShelf : List RegRow := [
  ⟨0x600000, 4, 88, 0x14010#32, 0x7F1F#32, 0x0#32, 0x0#32⟩,
  ⟨0x600200, 4, 1, 0x0#32, 0xFFFFFFFF#32, 0x0#32, 0x0#32⟩,
  ⟨0x600204, 4, 1, 0x0#32, 0xFFFFFFFF#32, 0x0#32, 0x0#32⟩,
  ⟨0x600208, 4, 1, 0x0#32, 0xFFFFFF#32, 0x0#32, 0x0#32⟩,
  ⟨0x600210, 4, 1, 0x0#32, 0x0#32, 0x1FF#32, 0x0#32⟩,
  ⟨0x600214, 4, 1, 0x0#32, 0x0#32, 0x0#32, 0x0#32⟩,
  ⟨0x600218, 4, 1, 0x0#32, 0x0#32, 0x0#32, 0x0#32⟩,
  ⟨0x60021C, 4, 1, 0x0#32, 0x0#32, 0x0#32, 0xFFFFFFFF#32⟩,
  ⟨0x600220, 4, 1, 0x0#32, 0x0#32, 0x0#32, 0xFFFFFFFF#32⟩,
  ⟨0x600224, 4, 1, 0x3E8#32, 0xFFFF#32, 0x0#32, 0x0#32⟩,
  ⟨0x600400, 4, 88, 0x8#32, 0x0#32, 0x0#32, 0x0#32⟩,
  ⟨0x602000, 8, 1024, 0x0#32, 0xFFFFFFF#32, 0x0#32, 0x0#32⟩,
  ⟨0x602004, 8, 1024, 0x100#32, 0xF01#32, 0x0#32, 0x0#32⟩]

/-- Register rows of the Pug block. -/
def rowsPug : List RegRow := [
  ⟨0x700000, 4, 1, 0x38#32, 0x7F#32, 0x0#32, 0x0#32⟩,
  ⟨0x700004, 4, 1, 0x0#32, 0x0#32, 0x0#32, 0x0#32⟩,
  ⟨0x700008, 4, 1, 0x0#32, 0x0#32, 0xF#32, 0x0#32⟩,
  ⟨0x70000C, 4, 1, 0x0#32, 0x0#32, 0x0#32, 0x0#32⟩,
  ⟨0x700010, 4, 1, 0x0#32, 0x0#32, 0x0#32, 0x0#32⟩,
  ⟨0x700014, 4, 1, 0x0#32, 0x0#32, 0x0#32, 0xFFFFFFFF#32⟩,
  ⟨0x700018, 4, 1, 0x0#32, 0x0#32, 0x0#32, 0x0#32⟩,
  ⟨0x700020, 4, 1, 0x0#32, 0x0#32, 0x0#32, 0xFFFFFFFF#32⟩,
  ⟨0x700024, 4, 1, 0x0#32, 0x0#32, 0x0#32, 0xFFFFFFFF#32⟩,
  ⟨0x700028, 4, 1, 0x0#32, 0x0#32, 0x0#32, 0xFFFFFFFF#32⟩,
  ⟨0x70002C, 4, 1, 0x0#32, 0x0#32, 0x0#32, 0xFFFFFFFF#32⟩,
  ⟨0x700030, 4, 1, 0x0#32, 0x0#32, 0x0#32, 0xFFFFFFFF#32⟩,
  ⟨0x700034, 4, 1, 0x0#32, 0x0#32, 0x0#32, 0xFFFFFFFF#32⟩,
  ⟨0x700038, 4, 1, 0x0#32, 0x0#32, 0x0#32, 0xFFFFFFFF#32⟩,
  ⟨0x70003C, 4, 1, 0x0#32, 0x0#32, 0x0#32, 0xFFFFFFFF#32⟩,
  ⟨0x700040, 4, 1, 0x0#32, 0x0#32, 0x0#32, 0xFFFFFFFF#32⟩,
  ⟨0x700044, 4, 1, 0x0#32, 0x0#32, 0x0#32, 0xFFFFFFFF#32⟩]

/-- Register rows of the Glaze block. -/
def rowsGlaze : List RegRow := [
  ⟨0x800000, 4, 1, 0x0#32, 0x0#32, 0x0#32, 0x0#32⟩,
  ⟨0x800004, 4, 1, 0x0#32, 0x0#32, 0x0#32, 0x0#32⟩,
  ⟨0x800008, 4, 1, 0x0#32, 0x0#32, 0x3#32, 0x0#32⟩,
  ⟨0x80000C, 4, 1, 0x0#32, 0x0#32, 0x0#32, 0x0#32⟩,
  ⟨0x800010, 4, 1, 0x0#32, 0x0#32, 0x0#32, 0x0#32⟩,
  ⟨0x800014, 4, 1, 0x0#32, 0x0#32, 0x0#32, 0xFFFFFFFF#32⟩,
  ⟨0x800018, 4, 1, 0x0#32, 0x0#32, 0x0#32, 0xFFFFFFFF#32⟩,
  ⟨0x80001C, 4, 1, 0x0#32, 0x0#32, 0x0#32, 0xFFFFFFFF#32⟩]

/-- Register rows of the Tier block, part 1. -/
def rowsTier1 : List RegRow := [
  ⟨0x900000, 4, 1, 0x0#32, 0x1#32, 0x0#32, 0x0#32⟩,
  ⟨0x900004, 4, 1, 0x0#32, 0x0#32, 0x3FF#32, 0x0#32⟩,
  ⟨0x900008, 4, 1, 0x0#32, 0x0#32, 0x0#32, 0x0#32⟩,
  ⟨0x90000C, 4, 1, 0x0#32, 0x0#32, 0x0#32, 0x0#32⟩,
  ⟨0x900010, 4, 1, 0x0#32, 0x0#32, 0x0#32, 0x0#32⟩,
  ⟨0x900014, 4, 1, 0x0#32, 0xFFF80000#32, 0x0#32, 0x0#32⟩,
  ⟨0x900018, 4, 1, 0x0#32, 0xFFFF#32, 0x0#32, 0x0#32⟩,
  ⟨0x90001C, 4, 1, 0x0#32, 0xFFF00000#32, 0x0#32, 0x0#32⟩,
  ⟨0x900020, 4, 1, 0x0#32, 0xFFFF#32, 0x0#32, 0x0#32⟩,
  ⟨0x900030, 8, 3, 0x0#32, 0xFFFFFFFF#32, 0x0#32, 0x0#32⟩,
  ⟨0x900034, 8, 3, 0x0#32, 0x3FFFFFF#32, 0x0#32, 0x0#32⟩,
  ⟨0x900048, 4, 1, 0x0#32, 0x0#32, 0x0#32, 0x0#32⟩,
  ⟨0x900050, 4, 1, 0x0#32, 0x0#32, 0x0#32, 0x0#32⟩,
  ⟨0x900054, 4, 1, 0x0#32, 0x0#32, 0x0#32, 0x0#32⟩,
  ⟨0x900058, 4, 1, 0x0#32, 0xFFFFFFFF#32, 0x0#32, 0x0#32⟩,
  ⟨0x90005C, 4, 1, 0x0#32, 0x1FFFF#32, 0x0#32, 0x0#32⟩,
  ⟨0x900060, 4, 4, 0x0#32, 0xFFFFFFFF#32, 0x0#32, 0x0#32⟩,
  ⟨0x900080, 4, 1, 0x0#32, 0x0#32, 0x0#32, 0xFFFFFFFF#32⟩,
  ⟨0x900084, 4, 1, 0x0#32, 0x0#32, 0x0#32, 0xFFFFFFFF#32⟩,
  ⟨0x900088, 4, 1, 0x0#32, 0x0#32, 0x0#32, 0xFFFFFFFF#32⟩]

/-- Register rows of the Tier block, part 2. -/
def rowsTier2 : List RegRow := [
  ⟨0x90008C, 4, 1, 0x0#32, 0x0#32, 0x0#32, 0xFFFFFFFF#32⟩,
  ⟨0x900090, 4, 1, 0x0#32, 0x0#32, 0x0#32, 0xFFFFFFFF#32⟩,
  ⟨0x900094, 4, 1, 0x0#32, 0x0#32, 0x0#32, 0x0#32⟩,
  ⟨0x901000, 32, 1024, 0x0#32, 0x1FFFFF#32, 0x0#32, 0x0#32⟩,
  ⟨0x901004, 32, 1024, 0x0#32, 0x0#32, 0x0#32, 0x0#32⟩,
  ⟨0x901008, 32, 1024, 0x0#32, 0x0#32, 0x0#32, 0xFFFFFFFF#32⟩,
  ⟨0x90100C, 32, 1024, 0x0#32, 0x0#32, 0x0#32, 0xFFFFFFFF#32⟩,
  ⟨0x901010, 32, 1024, 0x0#32, 0x0#32, 0x0#32, 0xFFFFFFFF#32⟩,
  ⟨0x920000, 8, 512, 0x0#32, 0x0#32, 0x0#32, 0x0#32⟩,
  ⟨0x920004, 8, 512, 0x0#32, 0x0#32, 0x0#32, 0x0#32⟩,
  ⟨0x930000, 32, 32, 0x0#32, 0x0#32, 0x0#32, 0x0#32⟩,
  ⟨0x930004, 32, 32, 0x0#32, 0x0#32, 0x0#32, 0x0#32⟩,
  ⟨0x930008, 32, 32, 0x0#32, 0x0#32, 0x0#32, 0x0#32⟩,
  ⟨0x93000C, 32, 32, 0x0#32, 0x0#32, 0x0#32, 0x0#32⟩,
  ⟨0x930010, 32, 32, 0x0#32, 0x0#32, 0x0#32, 0x0#32⟩,
  ⟨0x930014, 32, 32, 0x0#32, 0x0#32, 0x0#32, 0x0#32⟩,
  ⟨0x930018, 32, 32, 0x0#32, 0x0#32, 0x0#32, 0xFFFFFFFF#32⟩,
  ⟨0x93001C, 32, 32, 0xFFFFFFFF#32, 0x0#32, 0x0#32, 0x0#32⟩,
  ⟨0x931000, 4, 1, 0x0#32, 0x0#32, 0x7#32, 0x0#32⟩]

/-- Register rows of the Tier block. -/
def rowsTier : List RegRow := rowsTier1 ++ rowsTier2

/-- Register rows of the Dmc block. -/
def rowsDmc : List RegRow := [
  ⟨0xA00000, 4, 1, 0x0#32, 0x0#32, 0x0#32, 0x0#32⟩,
  ⟨0xA00004, 4, 1, 0x0#32, 0x0#32, 0x0#32, 0x0#32⟩,
  ⟨0xA00008, 4, 1, 0x0#32, 0x0#32, 0xFF#32, 0x0#32⟩,
  ⟨0xA0000C, 4, 1, 0x0#32, 0x0#32, 0x0#32, 0x0#32⟩,
  ⟨0xA00010, 4, 1, 0x0#32, 0x0#32, 0x0#32, 0x0#32⟩,
  ⟨0xA00014, 4, 1, 0x0#32, 0x0#32, 0x0#32, 0xFFFFFFFF#32⟩,
  ⟨0xA00018, 4, 1, 0x0#32, 0x0#32, 0x0#32, 0xFFFFFFFF#32⟩,
  ⟨0xA0001C, 4, 1, 0x0#32, 0x0#32, 0x0#32, 0xFFFFFFFF#32⟩,
  ⟨0xA00020, 4, 1, 0x0#32, 0x0#32, 0x0#32, 0xFFFFFFFF#32⟩,
  ⟨0xA00024, 4, 1, 0x7F#32, 0x7F#32, 0x0#32, 0x0#32⟩,
  ⟨0xA00028, 4, 1, 0x20064#32, 0x0#32, 0x0#32, 0x0#32⟩,
  ⟨0xA0002C, 4, 1, 0x7D01000#32, 0xFFFFFFFF#32, 0x0#32, 0x0#32⟩,
  ⟨0xA00030, 4, 1, 0x140#32, 0x3FF#32, 0x0#32, 0x0#32⟩,
  ⟨0xA00034, 4, 1, 0x0#32, 0x0#32, 0x0#32, 0xFFFFFFFF#32⟩,
  ⟨0xA00038, 4, 1, 0x0#32, 0x0#32, 0x0#32, 0x0#32⟩,
  ⟨0xA0003C, 4, 1, 0x0#32, 0x0#32, 0x0#32, 0x0#32⟩,
  ⟨0xA00040, 4, 1, 0x18#32, 0xFF#32, 0x0#32, 0x0#32⟩,
  ⟨0xA00044, 4, 1, 0x0#32, 0x0#32, 0x0#32, 0x0#32⟩,
  ⟨0xA00100, 4, 16, 0x0#32, 0x0#32, 0x0#32, 0x0#32⟩]

/-- Register rows of the Nfc block. -/
def rowsNfc : List RegRow := [
  ⟨0xB00000, 4, 1, 0x0#32, 0x0#32, 0x0#32, 0x0#32⟩,
  ⟨0xB00004, 4, 1, 0x0#32, 0x0#32, 0x3F#32, 0x0#32⟩,
  ⟨0xB00008, 4, 1, 0x0#32, 0xFFF00000#32, 0x0#32, 0x0#32⟩,
  ⟨0xB0000C, 4, 1, 0x0#32, 0xFFFF#32, 0x0#32, 0x0#32⟩,
  ⟨0xB00010, 4, 1, 0x40#32, 0xFFF#32, 0x0#32, 0x0#32⟩,
  ⟨0xB00014, 4, 1, 0x0#32, 0x0#32, 0x0#32, 0xFFFFFFFF#32⟩,
  ⟨0xB00018, 4, 1, 0x0#32, 0x0#32, 0x0#32, 0xFFFFFFFF#32⟩,
  ⟨0xB0001C, 4, 1, 0x0#32, 0x0#32, 0x0#32, 0xFFFFFFFF#32⟩,
  ⟨0xB00020, 4, 1, 0x0#32, 0x0#32, 0x0#32, 0xFFFFFFFF#32⟩,
  ⟨0xB00024, 4, 1, 0x0#32, 0x0#32, 0x0#32, 0x0#32⟩,
  ⟨0xB00028, 4, 1, 0x0#32, 0x0#32, 0x0#32, 0x0#32⟩,
  ⟨0xB0002C, 4, 1, 0x0#32, 0x0#32, 0x0#32, 0x0#32⟩,
  ⟨0xB00030, 4, 1, 0x186A0#32, 0xFFFFFF#32, 0x0#32, 0x0#32⟩,
  ⟨0xB00034, 4, 1, 0xC8#32, 0xFFFF#32, 0x0#32, 0x0#32⟩]

/-- Register rows of the Ife block, part 1. -/
def rowsIfe1 : List RegRow := [
  ⟨0xC00000, 4, 1, 0x0#32, 0x0#32, 0x0#32, 0x0#32⟩,
  ⟨0xC00004, 4, 1, 0x0#32, 0x0#32, 0xFF#32, 0x0#32⟩,
  ⟨0xC00008, 4, 1, 0x0#32, 0x0#32, 0x0#32, 0x0#32⟩,
  ⟨0xC0000C, 4, 1, 0xC8#32, 0xFFFF#32, 0x0#32, 0x0#32⟩,
  ⟨0xC00010, 4, 1, 0x0#32, 0xFFFFFFC0#32, 0x0#32, 0x0#32⟩,
  ⟨0xC00014, 4, 1, 0x0#32, 0xFFFF#32, 0x0#32, 0x0#32⟩,
  ⟨0xC00020, 4, 1, 0x440064#32, 0x3FFFE3FF#32, 0x0#32, 0x0#32⟩,
  ⟨0xC00024, 4, 1, 0x0#32, 0xFFFFFF#32, 0x0#32, 0x0#32⟩,
  ⟨0xC00028, 4, 1, 0x0#32, 0x0#32, 0x0#32, 0xFFFFFFFF#32⟩,
  ⟨0xC0002C, 4, 1, 0x0#32, 0x0#32, 0x0#32, 0xFFFF#32⟩,
  ⟨0xC00030, 4, 2, 0x0#32, 0x0#32, 0x0#32, 0x0#32⟩,
  ⟨0xC00100, 128, 4, 0x4400#32, 0xFFFFE7F1#32, 0x0#32, 0x0#32⟩,
  ⟨0xC00104, 128, 4, 0x0#32, 0x3FFF3FFF#32, 0x0#32, 0x0#32⟩,
  ⟨0xC00108, 128, 4, 0x0#32, 0x3FFFFFF#32, 0x0#32, 0x0#32⟩,
  ⟨0xC0010C, 128, 4, 0x0#32, 0xFFFFFFFF#32, 0x0#32, 0x0#32⟩,
  ⟨0xC00110, 128, 4, 0x0#32, 0xFFFFFFC0#32, 0x0#32, 0x0#32⟩,
  ⟨0xC00114, 128, 4, 0x0#32, 0xFFFF#32, 0x0#32, 0x0#32⟩,
  ⟨0xC00118, 128, 4, 0x7D0#32, 0x3FFF#32, 0x0#32, 0x0#32⟩,
  ⟨0xC0011C, 128, 4, 0x0#32, 0x0#32, 0x0#32, 0x0#32⟩,
  ⟨0xC00120, 128, 4, 0x0#32, 0x0#32, 0x0#32, 0x0#32⟩]

/-- Register rows of the Ife block, part 2. -/
def rowsIfe2 : List RegRow := [
  ⟨0xC00124, 4, 12, 0x0#32, 0x0#32, 0x0#32, 0xFFFFFFFF#32⟩,
  ⟨0xC001A4, 4, 12, 0x0#32, 0x0#32, 0x0#32, 0xFFFFFFFF#32⟩,
  ⟨0xC00224, 4, 12, 0x0#32, 0x0#32, 0x0#32, 0xFFFFFFFF#32⟩,
  ⟨0xC002A4, 4, 12, 0x0#32, 0x0#32, 0x0#32, 0xFFFFFFFF#32⟩]

/-- Register rows of the Ife block. -/
def rowsIfe : List RegRow := rowsIfe1 ++ rowsIfe2

/-- Register rows of the Link block, part 1. -/
def rowsLink1 : List RegRow := [
  ⟨0xD00000, 4, 1, 0x0#32, 0x0#32, 0x0#32, 0x0#32⟩,
  ⟨0xD00004, 4, 1, 0x0#32, 0x0#32, 0x0#32, 0x0#32⟩,
  ⟨0xD00008, 4, 1, 0x0#32, 0x0#32, 0xFFFF#32, 0x0#32⟩,
  ⟨0xD0000C, 4, 1, 0x0#32, 0x0#32, 0x0#32, 0x0#32⟩,
  ⟨0xD00010, 4, 1, 0x3E803E8#32, 0xFFFFFFFF#32, 0x0#32, 0x0#32⟩,
  ⟨0xD00014, 4, 1, 0x0#32, 0x1FFFFFFF#32, 0x0#32, 0x0#32⟩,
  ⟨0xD00018, 4, 1, 0x0#32, 0x1FFFFFFF#32, 0x0#32, 0x0#32⟩,
  ⟨0xD0001C, 4, 1, 0x3E8#32, 0xFFFF#32, 0x0#32, 0x0#32⟩,
  ⟨0xD00020, 4, 3, 0x0#32, 0x0#32, 0x0#32, 0x0#32⟩,
  ⟨0xD00030, 4, 1, 0x0#32, 0xFFFFF000#32, 0x0#32, 0x0#32⟩,
  ⟨0xD00034, 4, 1, 0x0#32, 0xFFFF#32, 0x0#32, 0x0#32⟩,
  ⟨0xD00038, 4, 1, 0x0#32, 0xFFFFFF#32, 0x0#32, 0x0#32⟩,
  ⟨0xD0003C, 4, 1, 0x0#32, 0xFFFFFFC0#32, 0x0#32, 0x0#32⟩,
  ⟨0xD00040, 4, 1, 0x0#32, 0xFFFF#32, 0x0#32, 0x0#32⟩,
  ⟨0xD00044, 4, 1, 0x0#32, 0x0#32, 0x0#32, 0xFFFFFFFF#32⟩,
  ⟨0xD00048, 4, 1, 0x0#32, 0x0#32, 0x0#32, 0xFFFFFFFF#32⟩,
  ⟨0xD0004C, 4, 1, 0x0#32, 0x0#32, 0x0#32, 0x0#32⟩,
  ⟨0xD00050, 4, 1, 0x0#32, 0x0#32, 0x0#32, 0x0#32⟩,
  ⟨0xD00100, 32, 3, 0x0#32, 0x0#32, 0x0#32, 0x0#32⟩,
  ⟨0xD00104, 32, 3, 0x0#32, 0x0#32, 0x0#32, 0xFFFFFFFF#32⟩]

/-- Register rows of the Link block, part 2. -/
def rowsLink2 : List RegRow := [
  ⟨0xD00108, 32, 3, 0x0#32, 0x0#32, 0x0#32, 0xFFFFFFFF#32⟩,
  ⟨0xD0010C, 32, 3, 0x0#32, 0x0#32, 0x0#32, 0xFFFFFFFF#32⟩,
  ⟨0xD00110, 32, 3, 0x0#32, 0x0#32, 0x0#32, 0xFFFFFFFF#32⟩,
  ⟨0xD00114, 32, 3, 0x0#32, 0x0#32, 0x0#32, 0xFFFFFFFF#32⟩,
  ⟨0xD10000, 16, 2112, 0x0#32, 0xFFFFFFFF#32, 0x0#32, 0x0#32⟩,
  ⟨0xD10004, 16, 2112, 0x0#32, 0xFFFFFFFF#32, 0x0#32, 0x0#32⟩,
  ⟨0xD10008, 16, 2112, 0x0#32, 0xFFFFFFFF#32, 0x0#32, 0x0#32⟩,
  ⟨0xD1000C, 16, 2112, 0x1#32, 0x1#32, 0x0#32, 0x0#32⟩,
  ⟨0xD20000, 4, 66, 0x0#32, 0x0#32, 0x0#32, 0x0#32⟩]

/-- Register rows of the Link block. -/
def rowsLink : List RegRow := rowsLink1 ++ rowsLink2

/-- Register rows of the Damper block. -/
def rowsDamper : List RegRow := [
  ⟨0xE00000, 4, 1, 0x200#32, 0x0#32, 0x0#32, 0x0#32⟩,
  ⟨0xE00004, 4, 1, 0x0#32, 0x0#32, 0xFF#32, 0x0#32⟩,
  ⟨0xE00008, 4, 1, 0x0#32, 0x0#32, 0x0#32, 0x0#32⟩,
  ⟨0xE0000C, 4, 1, 0x94709470#32, 0x0#32, 0x0#32, 0x0#32⟩,
  ⟨0xE00010, 4, 1, 0x0#32, 0x0#32, 0x0#32, 0x0#32⟩,
  ⟨0xE00014, 4, 1, 0x0#32, 0x0#32, 0x0#32, 0x0#32⟩,
  ⟨0xE00018, 4, 1, 0x8#32, 0x0#32, 0x0#32, 0x0#32⟩,
  ⟨0xE00020, 4, 4, 0x0#32, 0x0#32, 0x0#32, 0x0#32⟩,
  ⟨0xE00030, 4, 3, 0x0#32, 0x0#32, 0x0#32, 0xFFFFFFFF#32⟩,
  ⟨0xE00040, 4, 1, 0x403C#32, 0xFFFF#32, 0x0#32, 0x0#32⟩,
  ⟨0xE00044, 4, 1, 0x0#32, 0x0#32, 0x0#32, 0xFFFFFFFF#32⟩,
  ⟨0xE00048, 4, 1, 0x0#32, 0x0#32, 0x0#32, 0xFFFFFFFF#32⟩,
  ⟨0xE00050, 4, 1, 0x64#32, 0x0#32, 0x0#32, 0x0#32⟩,
  ⟨0xE00054, 4, 1, 0x0#32, 0x0#32, 0x0#32, 0x0#32⟩,
  ⟨0xE00058, 4, 1, 0x9470#32, 0x0#32, 0x0#32, 0x0#32⟩,
  ⟨0xE0005C, 4, 1, 0x0#32, 0x0#32, 0x0#32, 0x3F#32⟩,
  ⟨0xE00060, 4, 24, 0x0#32, 0x0#32, 0x0#32, 0x0#32⟩,
  ⟨0xE000C0, 4, 1, 0x32#32, 0xFFFF#32, 0x0#32, 0x0#32⟩,
  ⟨0xE000C4, 4, 1, 0x0#32, 0x0#32, 0x0#32, 0x0#32⟩]

/-- Register rows of the Saggar block. -/
def rowsSaggar : List RegRow := [
  ⟨0xF00000, 4, 1, 0x0#32, 0x0#32, 0x0#32, 0x0#32⟩,
  ⟨0xF00004, 4, 1, 0x0#32, 0x0#32, 0x1F#32, 0x0#32⟩,
  ⟨0xF00008, 4, 1, 0x0#32, 0x0#32, 0x0#32, 0x0#32⟩,
  ⟨0xF00010, 4, 4, 0x0#32, 0x0#32, 0x0#32, 0x0#32⟩,
  ⟨0xF00020, 4, 1, 0x0#32, 0x0#32, 0x0#32, 0x0#32⟩,
  ⟨0xF00024, 4, 1, 0x0#32, 0x0#32, 0x0#32, 0x0#32⟩,
  ⟨0xF00028, 4, 1, 0x0#32, 0x0#32, 0x0#32, 0x0#32⟩,
  ⟨0xF0002C, 4, 1, 0x0#32, 0x0#32, 0x0#32, 0x0#32⟩,
  ⟨0xF00030, 4, 1, 0x0#32, 0x0#32, 0x0#32, 0x0#32⟩,
  ⟨0xF00034, 4, 1, 0x0#32, 0x0#32, 0x0#32, 0x0#32⟩,
  ⟨0xF00038, 4, 1, 0x0#32, 0x0#32, 0x0#32, 0xFFFFFFFF#32⟩]

/-- Register rows of the Fwp block, part 1. -/
def rowsFwp1 : List RegRow := [
  ⟨0x1000000, 4, 1, 0x0#32, 0x0#32, 0x0#32, 0x0#32⟩,
  ⟨0x1000004, 4, 1, 0x0#32, 0x0#32, 0xFF#32, 0x0#32⟩,
  ⟨0x1000008, 4, 1, 0x0#32, 0x0#32, 0x0#32, 0x0#32⟩,
  ⟨0x1000010, 4, 1, 0x0#32, 0x8000000F#32, 0x0#32, 0x0#32⟩,
  ⟨0x1000014, 4, 1, 0x0#32, 0xFFFFF000#32, 0x0#32, 0x0#32⟩,
  ⟨0x1000018, 4, 1, 0x0#32, 0xFFFF#32, 0x0#32, 0x0#32⟩,
  ⟨0x100001C, 4, 1, 0x0#32, 0xFFFFF000#32, 0x0#32, 0x0#32⟩,
  ⟨0x1000020, 4, 1, 0x0#32, 0xFFFF#32, 0x0#32, 0x0#32⟩,
  ⟨0x1000024, 4, 1, 0x0#32, 0xFFFFFFFF#32, 0x0#32, 0x0#32⟩,
  ⟨0x1000028, 4, 1, 0x0#32, 0x0#32, 0x0#32, 0x0#32⟩,
  ⟨0x100002C, 4, 1, 0x0#32, 0x0#32, 0x0#32, 0x0#32⟩,
  ⟨0x1000030, 4, 1, 0x0#32, 0xFFFFFFFF#32, 0x0#32, 0x0#32⟩,
  ⟨0x1000034, 4, 1, 0x0#32, 0xFFFFF000#32, 0x0#32, 0x0#32⟩,
  ⟨0x1000038, 4, 1, 0x0#32, 0xFFFF#32, 0x0#32, 0x0#32⟩,
  ⟨0x100003C, 4, 1, 0x0#32, 0x3FFFFF#32, 0x0#32, 0x0#32⟩,
  ⟨0x1000040, 4, 4, 0x64#32, 0x0#32, 0x0#32, 0x0#32⟩,
  ⟨0x1000050, 4, 4, 0x0#32, 0x0#32, 0x3#32, 0x0#32⟩,
  ⟨0x1080000, 4, 32768, 0x0#32, 0x0#32, 0x0#32, 0x0#32⟩,
  ⟨0x10A0000, 4, 32768, 0x0#32, 0x0#32, 0x0#32, 0x0#32⟩,
  ⟨0x10C0000, 4, 32768, 0x0#32, 0x0#32, 0x0#32, 0x0#32⟩]

/-- Register rows of the Fwp block, part 2. -/
def rowsFwp2 : List RegRow := [
  ⟨0x10E0000, 4, 32768, 0x0#32, 0x0#32, 0x0#32, 0x0#32⟩]

/-- Register rows of the Fwp block. -/
def rowsFwp : List RegRow := rowsFwp1 ++ rowsFwp2

/-- Register rows of the Ras block. -/
def rowsRas : List RegRow := [
  ⟨0x1100000, 4, 1, 0x0#32, 0x0#32, 0x0#32, 0x0#32⟩,
  ⟨0x1100004, 4, 1, 0x0#32, 0x0#32, 0x1F#32, 0x0#32⟩,
  ⟨0x1100008, 4, 1, 0x1803#32, 0xFF0F#32, 0x0#32, 0x0#32⟩,
  ⟨0x110000C, 4, 1, 0x0#32, 0x0#32, 0x0#32, 0x0#32⟩,
  ⟨0x1100010, 4, 1, 0x0#32, 0x0#32, 0x0#32, 0xFFFFFFFF#32⟩,
  ⟨0x1100014, 4, 1, 0x0#32, 0x0#32, 0x0#32, 0xFFFFFFFF#32⟩,
  ⟨0x1100018, 4, 1, 0x3C#32, 0x7FF#32, 0x0#32, 0x0#32⟩,
  ⟨0x110001C, 4, 1, 0x0#32, 0x3FFFF#32, 0x0#32, 0x0#32⟩,
  ⟨0x1100020, 4, 1, 0x0#32, 0x0#32, 0x0#32, 0x0#32⟩,
  ⟨0x1100024, 4, 1, 0x0#32, 0x3FFFF#32, 0x0#32, 0x0#32⟩,
  ⟨0x1100100, 4, 18, 0x0#32, 0x0#32, 0x0#32, 0xFFFFFFFF#32⟩]

/-- Register rows of the Bar2 block. -/
def rowsBar2 : List RegRow := [
  ⟨0x4000000, 65536, 64, 0x0#32, 0x0#32, 0x0#32, 0x0#32⟩,
  ⟨0x4000004, 65536, 64, 0x0#32, 0x0#32, 0x0#32, 0x0#32⟩,
  ⟨0x4000008, 65536, 64, 0x0#32, 0x0#32, 0x0#32, 0x0#32⟩,
  ⟨0x4000010, 65536, 64, 0x0#32, 0x0#32, 0x0#32, 0x0#32⟩,
  ⟨0x4000014, 65536, 64, 0x0#32, 0x0#32, 0x0#32, 0x0#32⟩,
  ⟨0x4000018, 65536, 64, 0x0#32, 0x0#32, 0x0#32, 0xFFFFFFFF#32⟩]

/-- The register rows of the block an address lies in (Table 21.1). -/
def blockRows (a : Nat) : List RegRow :=
  if 0x4000000 ≤ a then (if a < 0x4400000 then rowsBar2 else [])
  else match a / 0x100000 with
  | 0 => rowsGlobal
  | 1 => rowsSched
  | 2 => rowsQueue
  | 4 => rowsKiln
  | 5 => rowsWheel
  | 6 => rowsShelf
  | 7 => rowsPug
  | 8 => rowsGlaze
  | 9 => rowsTier
  | 10 => rowsDmc
  | 11 => rowsNfc
  | 12 => rowsIfe
  | 13 => rowsLink
  | 14 => rowsDamper
  | 15 => rowsSaggar
  | 16 => rowsFwp
  | 17 => rowsRas
  | _ => []

/-- The row that names the word at an address; none for an unnamed word (R485). -/
def regRow (a : Nat) : Option RegRow := (blockRows a).find? (fun r => r.covers a)

/-- What a word holds after por_n (R488). Four values are not one constant: the revision fields of NS_ID and
the device ID come from the die itself, the DRAM reports its spare rows, WHL_SHARE_MAP resets to its index,
and tenant record 64 is the management context (R219, R222). -/
def resetOf (a : Nat) : Word :=
  if a = Reg.NS_ID then BitVec.ofNat 32 (0x48A10000 + Config.revision.toNat)
  else if Reg.WHL_SHARE_MAP 0 ≤ a ∧ a ≤ Reg.WHL_SHARE_MAP 15 ∧ a % 4 = 0 then BitVec.ofNat 32 ((a - Reg.WHL_SHARE_MAP 0) / 4)
  else if a = Reg.QUE_TEN_CFG 64 then 0x80000000#32
  else if a = Reg.QUE_TEN_QCOUNT 64 then 64#32
  else if Reg.SGR_DEVICE_ID 0 ≤ a ∧ a ≤ Reg.SGR_DEVICE_ID 3 ∧ a % 4 = 0 then Config.deviceId ((a - Reg.SGR_DEVICE_ID 0) / 4)
  else if Reg.DMC_CH_STAT 0 ≤ a ∧ a ≤ Reg.DMC_CH_STAT 15 ∧ a % 4 = 0 then
    BitVec.ofNat 32 (Config.dramSpareRows ((a - Reg.DMC_CH_STAT 0) / 4) % 256)
  else match regRow a with
  | some r => r.reset
  | none => 0#32

end Sys2Proof
end

