-- ==== Sys2Proof/Machine/SparseMap.lean ====
section
/-! DEFINITION. Sparse storage in one canonical form: keys strictly rising, no entry that equals what an
unlisted key reads as. Registers, Shelves rows, memory lines and table entries are all held this way. -/

namespace Sys2Proof

/-- A sparse map from keys to values; what an unlisted key reads as is the function each reader names. -/
abbrev SMap (α : Type) := List (Nat × α)

namespace SMap

variable {α : Type}

/-- The value at a key: the listed one, else the default. -/
def get (d : Nat → α) : SMap α → Nat → α
  | [], k => d k
  | (j, v) :: m, k => if k = j then v else get d m k

/-- A key and its value in their place among rising keys. -/
def ins : SMap α → Nat → α → SMap α
  | [], k, v => [(k, v)]
  | (j, w) :: m, k, v => if k < j then (k, v) :: (j, w) :: m else (j, w) :: ins m k v

/-- The map with one key set; a value equal to the default leaves no entry. -/
def put [DecidableEq α] (d : Nat → α) (m : SMap α) (k : Nat) (v : α) : SMap α :=
  if v = d k then m.filter fun kv => kv.1 != k else ins (m.filter fun kv => kv.1 != k) k v

/-- All keys of the map lie above `b`, rising. -/
def risingFrom (b : Nat) : SMap α → Bool
  | [] => true
  | (j, _) :: m => b < j && risingFrom j m

/-- Strictly rising keys. -/
def rising : SMap α → Bool
  | [] => true
  | (j, _) :: m => risingFrom j m

/-- No entry equals the default of its key. -/
def nonDefault [DecidableEq α] (d : Nat → α) : SMap α → Bool
  | [] => true
  | (j, v) :: m => decide (v ≠ d j) && nonDefault d m

/-- The canonical form. -/
def wf [DecidableEq α] (d : Nat → α) (m : SMap α) : Bool := rising m && nonDefault d m

/-- Set several keys in order. -/
def putAll [DecidableEq α] (d : Nat → α) (m : SMap α) (kvs : List (Nat × α)) : SMap α :=
  kvs.foldl (fun acc kv => put d acc kv.1 kv.2) m

end SMap
end Sys2Proof
end

