-- ==== Sys2Proof/Machine/Units.lean ====
section
/-! DEFINITION. Plain-data types of the data plane's state: Shelves, scoreboard, queues, Kiln, Wheel, tier
manager and error tracker. Registers are held apart, in one register file (Machine/State.lean). -/

namespace Sys2Proof.Machine

/-! ### Shelves (chapter 03) -/

/-- The Shelves beside their registers. -/
structure Shelf where
  /-- 90,112 rows of 512 bytes by row address (R46, R47); an unlisted row is zero. -/
  rows : SMap Row
  /-- Rows that carry the poison mark of R66: the 64-byte parts not written since the mark was set, all eight when the whole
  row is marked. -/
  marks : SMap Nat
  /-- Rows whose stored bits hold an error: failing 64-byte sectors or 128-bit words as a mask (R64). -/
  damage : SMap Nat
  /-- Corrected rows whose rewrite waits for an idle cycle (R64). -/
  rewrites : List Nat
  /-- Rows mapped to a spare row of their bank (R69). -/
  spared : List Nat
  /-- Banks whose clear has been requested and has not run yet (R65). -/
  clearing : List Nat
  /-- Banks whose power gate is to close once their writes have drained (R67). -/
  closing : List Nat
  /-- Slots on whose present fill a reader has started (Table 3.4). -/
  readBegun : List Nat
  /-- Readers of a slot's present fill that have started and not completed: slot and scoreboard slot (R60). -/
  reading : List (Nat × Nat)
  /-- Rows the scrub pass under way has read, and when it began (R66). -/
  scrubbed : List Nat
  passStart : Nat
  deriving DecidableEq, Repr

/-! ### Scoreboard (chapters 08 and 09) -/

/-- Where an admitted descriptor stands (R208). -/
inductive Phase where
  /-- Waits for its events or slots. -/
  | waiting
  /-- Ready from the next cycle (R173). -/
  | ready
  /-- Started by its unit and not done. -/
  | started
  /-- Started, and waiting for lines of HOST, PEER or FLASH that its unit has asked for. -/
  | loading
  /-- Has executed and left its channel; waits for the serving tick (R246, R252). -/
  | parked
  /-- Its unit is done with it; the steps of R57 remain. -/
  | executed
  deriving DecidableEq, Repr

/-- How a descriptor uses a declared slot (Table 3.4). -/
inductive SlotRole where
  | writer
  | reader
  | both
  deriving DecidableEq, Repr

/-- The flush that HOST writes owe (R368): the last HOST line written, and whether its zero-length read has been issued. -/
structure Flush where
  line : Nat
  issued : Bool
  deriving DecidableEq, Repr

/-- One occupied scoreboard slot (R208). -/
structure Entry where
  /-- Scoreboard slot, 0 to 4,095. -/
  slot : Nat
  /-- The descriptor, zero-extended when short (R170). -/
  desc : DescBits
  /-- Queue number (R223). -/
  queue : Nat
  /-- Tenant code, 0x40 for the management context (R55). -/
  tenant : Nat
  /-- Position in its queue (Table 8.8). -/
  seq : Nat
  /-- Dispatch order on the die (R13). -/
  order : Nat
  /-- Firing of admission (R214). -/
  firing : Nat
  phase : Phase
  /-- Its unit has started it. -/
  began : Bool
  /-- Dispatch cause of Table 8.7, 0 when the checks passed. -/
  fail : Nat
  /-- Slots the descriptor uses, fixed when it starts (R60). -/
  uses : List (Nat × SlotRole)
  /-- Its handoff was legal when it started (R56, R57). -/
  handsOff : Bool
  /-- Its parameters passed its unit's checks when it started. -/
  lawful : Bool
  /-- A predecessor was poisoned when it became ready, and its queue's policy was PROCEED then (R193, R231). -/
  tainted : Bool
  proceeds : Bool
  /-- Table 8.11 status so far. -/
  status : Nat
  /-- Table 8.9 flags so far. -/
  flags : Nat
  result0 : Nat
  result1 : Nat
  /-- Fence epoch at start (Table 8.8). -/
  epoch : Nat
  /-- CAUSE byte of the record. -/
  cause : Nat
  /-- Data-mover channel, tier-manager slot, sensor context or peer module in use. -/
  lane : Nat
  /-- Ticks seen since dispatch, for S.WAIT and S.TICKWAIT (R187, R190). -/
  ticks : Nat
  /-- KV context addresses the descriptor names (R163). -/
  ctxs : List Nat
  /-- The flush its HOST writes owe, if any (R368). -/
  hostFlush : Option Flush
  /-- Pages the descriptor has been counted for under R281. -/
  pages : List Nat
  /-- Unit-specific progress words: a park ID, a transfer ID, a request index. -/
  aux : List Nat
  /-- Output units not yet written, when it was left unfinished: address space and unit. -/
  left : List (Nat × Int)
  deriving DecidableEq, Repr

/-! ### Queues (chapter 10) -/

/-- A queue context (Table 10.3). -/
structure QCtx where
  sqBase : Nat
  cqBase : Nat
  headWb : Nat
  sqTail : Nat
  sqHead : Nat
  cqTail : Nat
  cqHead : Nat
  nextSeq : Nat
  sqLog2 : Nat
  cqLog2 : Nat
  quota : Nat
  vector : Nat
  flags : Nat
  state : Nat
  err : Nat
  inFlight : Nat
  deriving DecidableEq, Repr

/-- A FREE queue's context, all zero. -/
def QCtx.free : QCtx := ⟨0, 0, 0, 0, 0, 0, 0, 0, 0, 0, 0, 0, 0, 0, 0, 0⟩

/-- Queue engine state beside its registers. -/
structure Queues where
  /-- The context table in LPDDR (R224). -/
  table : SMap QCtx
  /-- Cached contexts, least recently used first (R232). -/
  cache : List (Nat × QCtx)
  /-- Doorbells recorded for uncached contexts, oldest first: queue, whether it releases, count (R232). -/
  recorded : List (Nat × Bool × Nat)
  /-- Flush marks in force: a queue and the SQ_TAIL of its flush (R236). -/
  flushMarks : List (Nat × Nat)
  /-- SQ_HEAD at the last head write-back of each queue (R229). -/
  lastWb : SMap Nat
  /-- Tenant that admitted last (R238). -/
  lastTenant : Nat
  /-- Queue that admitted last, by record index × 4 + PRIO (R238). -/
  lastQueue : SMap Nat
  /-- Dispatch number of the next admission (R13). -/
  nextOrder : Nat
  /-- A context command under way: its RESULT, and the context a READ copies (R230). -/
  busy : Option (Nat × Option Nat)
  deriving DecidableEq, Repr

/-- A barrier arrival in the coordinator's hands: id, match count, mask, sending die (R391). -/
structure Arrival where
  id : Nat
  k : Nat
  mask : Nat
  src : Nat
  deriving DecidableEq, Repr

/-- A barrier's release as this die knows it: id, match count, instant, and whether masks differed (R391,
R392). -/
structure Release where
  id : Nat
  k : Nat
  t0 : Nat
  badMask : Bool
  deriving DecidableEq, Repr

/-- A tick that has fallen: the firing it opens, its source, whether the fallback timer made it,
what it takes in, and its instant (R200, R207). -/
structure LateTick where
  number : Nat
  source : Nat
  fallback : Bool
  sense : Sense
  instant : Nat
  deriving DecidableEq, Repr

/-- Scheduler state beside its registers (chapter 09). -/
structure Sched where
  /-- Admission runs (R19, R460, R463, R415). -/
  admitOpen : Bool
  /-- Tenants are withheld in the open firing (R407). -/
  withheld : Bool
  /-- Reference time of the last tick. -/
  lastTick : Nat
  /-- When the camera tick of a frame start is due (Table 9.1). -/
  camTick : Option Nat
  /-- BUDGET as it stood at the last tick (R211). -/
  budget : Nat
  /-- S.BARRIER descriptors counted so far, per id (R189). -/
  barCount : SMap Nat
  arrivals : List Arrival
  releases : List Release
  /-- Reference time since which the scoreboard has been empty with no doorbell pending (R414). -/
  idleSince : Nat
  /-- The firing the last tick closed (R207, R247). -/
  closed : Nat
  /-- The tick that has fallen; none between commands. -/
  late : Option LateTick
  deriving DecidableEq, Repr

/-! ### Kiln (chapter 04) -/

/-- An input plane (R71, R77). -/
structure Plane where
  poison : Bool
  /-- in_fmt, Table 2.1 code. -/
  fmt : Nat
  rows : Nat
  cols : Nat
  /-- scale_fmt when input scales are present. -/
  scale : Option Nat
  /-- Row r holds x[m][r] as IN row r did. -/
  cells : List Row
  /-- The IN_SCALE rows. -/
  scales : List Row
  deriving DecidableEq, Repr

/-- Shadow plane states (Table 4.2). -/
inductive ShadowState where
  | empty
  | filling
  | full
  | releasing
  deriving DecidableEq, Repr

/-- Accumulator type tags (R87). -/
inductive AccTag where
  | none
  | s32
  | fp32
  deriving DecidableEq, Repr

/-- One accumulator row: 512 entries of 32 bits, its tag and its POISON bit (R87). -/
structure AccRow where
  cells : BitVec 16384
  tag : AccTag
  poison : Bool
  deriving DecidableEq, Repr

/-- The power-up state of every accumulator row (R87). -/
def AccRow.powerUp : AccRow := ⟨0#16384, .none, true⟩

/-- One weight vector as the expander hands it over, with its scales (R73, R74, R115). -/
structure WVec where
  /-- 256 or 384 bytes. -/
  data : Nat
  /-- A zeroed byte, or an uncorrectable scale row, lies behind it. -/
  bad : Bool
  deriving DecidableEq, Repr

/-- A block on its way through an expander: stored or zero-fill, its cycles beyond R of R111, and the raw bytes up to its end
(Table 5.6). -/
structure BlockPass where
  stored : Bool
  slow : Nat
  upto : Nat
  deriving DecidableEq, Repr

/-- A started K.CHARGE (R83). -/
structure Charge where
  slot : Nat
  /-- Vectors left to issue, next first. -/
  vectors : List WVec
  /-- Weight-scale bytes, packed (R79). -/
  scales : Nat
  /-- Index of the next vector. -/
  next : Nat
  /-- Consecutive cycles held on OWED rows (R90). -/
  held : Nat
  /-- Bubbles since the last valid vector (Table 8.10). -/
  gap : Nat
  /-- Cycles since the first valid vector, that one included (Table 8.10). -/
  cycles : Nat
  /-- Cycles of the issue phase (the cadence of R86). -/
  cadence : Nat
  /-- The charge performs a soft start before its first issue (R93). -/
  softStart : Bool
  /-- Completes without issuing; it waits only for its swap (R82). -/
  skip : Bool
  /-- Drained rows so far (R91). -/
  drained : Nat
  /-- Ended early: no further row drains (R94). -/
  ended : Bool
  /-- Its streams hold a fault that no vector issued so far has met, and the CAUSE of the first (R96, Table 4.8). -/
  fault : Bool
  cause : Nat
  /-- Blocks of its weight stream that have not gone through the expander whole (Table 5.6). -/
  blocks : List BlockPass
  /-- OUT rows for the drain, next first. -/
  outRows : List Int
  /-- Target rows drained before its last issue, which R89 owed again at that issue. -/
  again : List Nat
  /-- Columns of the plane in use. -/
  cols : Nat
  deriving DecidableEq, Repr

/-- One accumulator row's part of an issued vector (R84, R87): target row, column sums as 32-bit patterns, tag,
accumulate flag, poison, and whether a sum is NaN by R40. -/
structure InFlight where
  row : Nat
  sums : List Nat
  tag : AccTag
  acc : Bool
  poison : Bool
  nan : Bool
  slot : Nat
  deriving DecidableEq, Repr

/-- The Kiln beside its registers. -/
structure Kiln where
  active : Option Plane
  shadow : Option Plane
  shadowState : ShadowState
  swapsOwed : Nat
  priming : Option Charge
  issuing : Option Charge
  /-- At most one, but for a charge ended early behind one that still drains. -/
  finishing : List Charge
  /-- 2,048 rows; an unlisted row is in its power-up state. -/
  acc : SMap AccRow
  owed : List Nat
  /-- Groups of updates in issue order, one group per vector. -/
  pipe : List (List InFlight)
  gated : Bool
  /-- An S.BARRIER has completed and no charge has issued since (R93). -/
  afterBarrier : Bool
  deriving DecidableEq, Repr

/-- The Kiln after power-up (R75, R87, Table 4.11). -/
def Kiln.powerUp : Kiln := ⟨none, none, .empty, 0, none, none, [], [], [], [], true, false⟩

/-! ### Wheel (chapter 07) -/

/-- The Wheel beside its registers. -/
structure Wheel where
  /-- Scoreboard slot whose weights are prefetched (R146). -/
  prefetch : Option Nat
  /-- An S.BARRIER has completed and no W.GEMV or W.ATTN has started since (R217). -/
  afterBarrier : Bool
  deriving DecidableEq, Repr

/-! ### Tier manager (chapter 12) -/

/-- Why a page is being copied (R277). -/
inductive MoveKind where
  | fill
  | move
  | park
  | restore
  deriving DecidableEq, Repr

/-- A migration or fill under way (R277). -/
structure Move where
  page : Nat
  kind : MoveKind
  srcTier : Nat
  srcFrame : Nat
  dstTier : Nat
  dstFrame : Nat
  /-- A destination frame is held (R279, R280). -/
  hasFrame : Bool
  /-- Reference-clock time at which a LOCAL frame was first sought in vain (R279). -/
  since : Option Nat
  /-- Started by a demand access, whose reads come before those of prefetches (R279). -/
  demand : Bool
  /-- Scoreboard slots that started or joined it. -/
  waiters : List Nat
  /-- NAND units read or written so far (R331, R332). -/
  units : List Nat
  /-- NAND units that could not be read (R279, R331). -/
  badUnits : List Nat
  deriving DecidableEq, Repr

/-- A park record (R287). -/
structure ParkRec where
  id : Nat
  tenant : Nat
  pages : List Nat
  /-- Time to live in milliseconds. -/
  ttl : Nat
  /-- Expiry time in reference cycles; none while its T.PARK runs. -/
  expires : Option Nat
  /-- A T.RESTORE of it has started (R288). -/
  restoring : Bool
  /-- Made for a preemption, with no descriptor of its own (R290). -/
  mgmt : Bool
  deriving DecidableEq, Repr

/-- The tier manager beside its registers. -/
structure Tier where
  /-- VALID directory entries and their leaf table addresses (R269). -/
  dir : SMap Nat
  /-- Page-table entries by page number (Table 12.1). -/
  pages : SMap (BitVec 128)
  /-- Cached page-table blocks of four entries, least recently used first (R269). -/
  ptCache : List Nat
  /-- Frames in use of the LOCAL, HOST and FLASH pools (R276). -/
  usedLocal : List Nat
  usedHost : List Nat
  usedFlash : List Nat
  /-- LOCAL frames removed from the pool (R329). -/
  retired : List Nat
  /-- LOCAL frames that hold pages of a sealed model's span (R383). -/
  sealedFrames : List Nat
  /-- LOCAL frames to retire at the next tick (R329). -/
  retireDue : List Nat
  moves : List Move
  parks : List ParkRec
  /-- One more than the firing of each page's last access (R280). -/
  recency : SMap Nat
  /-- FLASH pages that accesses of scoreboard slots wait on: page and slot (R279). -/
  demanded : List (Nat × Nat)
  /-- Pages whose fill failed, with each slot whose waiting accesses read the error (R279). -/
  fillFailed : List (Nat × Nat)
  /-- Frames a switch has left, whose earlier accesses are still under way: tier and frame (R277). -/
  leaving : List (Nat × Nat)
  /-- Parked pages whose copy waits for a migration under way: page, target tier, reserved frame (R277, R290). -/
  parkNext : List (Nat × Nat × Nat)
  /-- A page-table command under way: its RESULT, and the entry a READ copies (R274). -/
  busy : Option (Nat × Option Nat)
  /-- Tables kept under other values of TIR_PT_BASE: base, directory and page-table entries (R269). -/
  otherTables : List (Nat × SMap Nat × SMap (BitVec 128))
  deriving DecidableEq, Repr

/-! ### NAND (chapter 14) -/

/-- A 4 KiB mapping unit as stored: its data, and of its metadata the POISON bit, the logical number and the write sequence
number; `lost` says that its codeword fails every retry (R331). -/
structure FlashUnit where
  data : BitVec 32768
  poison : Bool
  logical : Nat
  seq : Nat
  lost : Bool
  deriving DecidableEq, Repr

/-- A unit never written, or trimmed: zero (R332). -/
def FlashUnit.zero : FlashUnit := ⟨0#32768, false, 0, 0, false⟩

/-- Wear of one physical block (R333, R334). -/
structure NandBlock where
  erases : Nat
  /-- Reads since the last erase. -/
  reads : Nat
  /-- Units programmed since the last erase. -/
  filled : Nat
  /-- Times at which a read needed the last retry level. -/
  lastLevel : List Nat
  /-- A program or erase reported failure. -/
  failed : Bool
  deriving DecidableEq, Repr

/-- A block as shipped. -/
def NandBlock.fresh : NandBlock := ⟨0, 0, 0, [], false⟩

/-- The NAND behind the controller and its translation layer (R331 to R334). It outlives power. -/
structure Nand where
  /-- Logical 4 KiB units as last programmed; an unlisted one is zero. -/
  units : SMap FlashUnit
  /-- The map the layer works with: the physical block of each placed unit, plus one (R332). -/
  place : SMap Nat
  /-- The map as programmed in NAND, and the journal of its changes since: unit and block plus one (R332). -/
  map : SMap Nat
  journal : List (Nat × Nat)
  /-- Cached lines of sixteen 4-byte map entries, least recently used first, and the NAND reads their misses cost (R332). -/
  mapCache : List Nat
  mapReads : Nat
  /-- Write sequence number of the last unit programmed (R331). -/
  seq : Nat
  blocks : SMap NandBlock
  /-- Blocks ready to be written. -/
  free : List Nat
  /-- Blocks that hold data. -/
  used : List Nat
  /-- Spare blocks (R334). -/
  spare : List Nat
  /-- Retired blocks and factory bad blocks. -/
  bad : List Nat
  /-- The block being written. -/
  current : Option Nat
  /-- Blocks of the attached devices, and units a block holds. -/
  total : Nat
  perBlock : Nat
  /-- Logical 64 KiB units since the format, and grown bad blocks (R334). -/
  logical : Nat
  grown : Nat
  /-- The last power-off followed R499. -/
  orderly : Bool
  deriving DecidableEq, Repr

/-! ### Serving (chapter 11) -/

/-- A live request (R241, R244, Table 11.1). -/
structure Req where
  tenant : Nat
  id : Nat
  prio : Nat
  flags : Nat
  /-- Context addresses, layer 0 first. -/
  ctxs : List Nat
  prompt : Nat
  promptLen : Nat
  maxNew : Nat
  deadline : Nat
  topK : Nat
  repWin : Nat
  gstate : Nat
  temp : Nat
  topP : Nat
  repPen : Nat
  seed : Nat
  /-- The stop tokens in use, as S32 patterns. -/
  stops : List Nat
  allowMap : Nat
  grammar : Nat
  /-- Layer 0's NEXT_POS when it was submitted. -/
  startPos : Nat
  /-- Prompt tokens of delivered chunks. -/
  prefilled : Nat
  /-- Tokens delivered. -/
  delivered : Nat
  /-- In the decode phase (R254). -/
  decode : Bool
  /-- The token delivered last, as an S32 pattern. -/
  lastToken : Nat
  /-- Deadline firing DL (R251). -/
  dl : Option Nat
  overdue : Bool
  /-- Scoreboard slots of CANCELs held for it (R252). -/
  cancels : List Nat
  /-- Firing opened by the tick at which it entered, and the dispatch order of its SUBMIT (R248). -/
  entered : Nat
  order : Nat
  /-- When it was placed in a row (R253). -/
  placed : Nat
  /-- Scoreboard slot of its SUBMIT until that completes. -/
  slot : Option Nat
  deriving DecidableEq, Repr

/-- An executed SUBMIT that waits for the tick (R246). -/
structure Submit where
  slot : Nat
  /-- Status its reads already fixed, 0 for none. -/
  status : Nat
  /-- The 128-byte record. -/
  record : Nat
  ctxs : List Nat
  /-- COUNT and NEXT_POS of layer 0's context. -/
  count : Nat
  startPos : Nat
  /-- STATES of its automaton, when it has one. -/
  states : Option Nat
  /-- LAYERS its reads went by; none when its record could not be read. -/
  layers : Option Nat
  deriving DecidableEq, Repr

/-- A serving group beside its registers (R241, R242). -/
structure Group where
  /-- QUE_SRV_GCFG0 in force since the last tick (R268). -/
  cfg : Word
  inStep : Bool
  /-- The step has been posted, and whether as failed (R255). -/
  posted : Option Bool
  /-- ABORT was written (R255). -/
  abort : Bool
  /-- Row requests by row. -/
  rows : List (Nat × Req)
  wait : List Req
  /-- Rows of the decode columns of the step in progress. -/
  cols : List Nat
  /-- Row, length and PF_LAST of its prefill chunk. -/
  chunk : Option (Nat × Nat × Bool)
  /-- The post area. -/
  post : Row
  deriving DecidableEq, Repr

/-- A group after reset. -/
def Group.idle : Group := ⟨0#32, false, none, false, [], [], [], none, 0#4096⟩

/-- Serving state beside its registers. -/
structure Serving where
  groups : SMap Group
  submits : List Submit
  /-- Result entries waiting, by tenant index (R258). -/
  owed : SMap (List Nat)
  /-- Tenants whose ring or RHEAD failed a check (Table 11.12). -/
  ringBad : List Nat
  /-- Entries no batch record was made for yet: tenant index, group, place, entry. Empty between commands but for what a
  SERVING_DEADLINE ends. -/
  now : List (Nat × Nat × Nat × Nat)
  /-- Requests placed so far. -/
  placed : Nat
  /-- Ticks whose serving work waits for lines: the firing each opened and the one it closed, oldest first (R247). -/
  late : List (Nat × Nat)
  deriving DecidableEq, Repr

/-! ### Far memory: HOST and PEER lines (chapter 16) -/

/-- A line a HOST or PEER read returned: its data, whether it carries the poison mark, and whether it is an
uncorrectable error (R369, R374, R384). -/
structure FarCell where
  data : Line
  poison : Bool
  bad : Bool
  deriving DecidableEq, Repr

/-- What no delivered line is; it marks a line that has not been returned. -/
def FarCell.absent : FarCell := ⟨0#512, true, true⟩

/-- A line an operation has read and holds until it is done: the operation (a scoreboard slot, or a number for the
die's own work), the line's key, the model line it was read as plus one (0 when it was addressed directly), and what came.
A line of a cached copy has the key `heldKey` of its group. -/
structure FarLine where
  slot : Nat
  key : Nat
  via : Nat
  cell : FarCell
  deriving DecidableEq, Repr

/-- A line an evaluation found not returned yet: its key, the model line plus one it was read as, and what a PEER read
carries: KEY, tenant and queue (R383). -/
structure FarMiss where
  key : Nat
  via : Nat
  code : Nat
  tenant : Nat
  queue : Nat
  deriving DecidableEq, Repr

/-- A HOST read outstanding (R367): whose it is, as in a FarLine, and when it was sent. -/
structure FarAsk where
  slot : Nat
  key : Nat
  via : Nat
  since : Nat
  deriving DecidableEq, Repr

/-- A remote request under way (R384): transaction index, line key, whether it writes, the scoreboard slot it
serves, the model line it was issued as plus one, its TAG epoch and when it was sent. -/
structure Txn where
  idx : Nat
  line : Nat
  write : Bool
  slot : Nat
  via : Nat
  epoch : Nat
  since : Nat
  deriving DecidableEq, Repr

/-- Reads and writes that leave the die. A HOST line is keyed by its address / 64, a PEER line by
2⁴⁸ + FRAME × 1024 + its place in the page. In confidential host mode the parts of a unit have keys of their own: a line of
ciphertext `rawKey`, the tag record `recKey`, a line of the verified unit `plainKey`, and a line an operation waits for
`waitKey` (R373, R374). -/
structure Far where
  /-- Lines returned to operations that still run. -/
  arrived : List FarLine
  /-- HOST reads outstanding (R367). -/
  asked : List FarAsk
  /-- PEER requests outstanding (R384). -/
  txns : List Txn
  /-- Next transaction index. -/
  nextTxn : Nat
  /-- The operation being evaluated; between commands, the die's own work. -/
  who : Nat
  /-- Lines the operation keeps of what it has read; empty between commands. -/
  seen : List FarLine
  /-- Every line it reads is kept in `seen`, a descriptor's work (R275); false between commands. -/
  keeps : Bool
  /-- Lines it found not returned yet; empty between commands. -/
  miss : List FarMiss
  /-- FLASH pages it found, in the order it reads them; empty between commands. -/
  want : List Nat
  /-- Pages or segments it must wait for; empty between commands. -/
  hold : List Nat
  /-- The write counter of confidential host mode (R375). -/
  confCtr : Nat
  deriving DecidableEq, Repr

/-! ### The Eslis fabric (chapter 16) -/

/-- The contents of a flit (Table 16.3): KIND, class (0 REQ, 1 RSP, 2 BULK, 3 CTL), LANE, BULK_ID, LAST (also kept for an
OPEN that no data follows) and ABORT; of BULK, which of the lines its bytes touch are poisoned, as a mask in their order; its
PAYLOAD bytes; and the firmware traffic of a MGMT message, whose layout the manual does not give (R378, R380, R381, R387). -/
structure Flit where
  kind : Nat
  cls : Nat
  lane : Nat
  bulk : Nat
  last : Bool
  abort : Bool
  bad : Nat
  payload : List Nat
  traffic : List Nat
  deriving DecidableEq, Repr

/-- A flit sent and not acknowledged: SEQ, times sent, when last sent (R379). -/
structure Unacked where
  seq : Nat
  sent : Nat
  since : Nat
  flit : Flit
  deriving DecidableEq, Repr

/-- A UCIe module beside its registers (R378 to R380, R393, R396). -/
structure Port where
  txSeq : Nat
  /-- SEQ expected next. -/
  rxSeq : Nat
  replay : List Unacked
  /-- Flits that wait for credit, room or the end of a retraining, oldest first. -/
  queue : List Flit
  /-- Credits by class × 2 + lane. -/
  credits : List Nat
  /-- Credits to return, likewise. -/
  owed : List Nat
  /-- Times of the CRC errors of the last millisecond. -/
  crcs : List Nat
  /-- Retrainings failed in a row. -/
  fails : Nat
  /-- Rate cap of LINK_PORT (Table 16.7). -/
  cap : Nat
  enabled : Bool
  /-- BULK has the next turn of REQ and BULK. -/
  bulkTurn : Bool
  /-- Next BULK_ID. -/
  nextBulk : Nat
  /-- A retraining is to begin once none is barred (R393). -/
  retrainDue : Bool
  /-- It is being disabled: new work that uses it is no longer admitted (R22). -/
  shut : Bool
  /-- Bytes sent and received beyond whole 64-byte units. -/
  txRem : Nat
  rxRem : Nat
  deriving DecidableEq, Repr

/-- A port after reset. -/
def Port.fresh : Port :=
  ⟨0, 0, [], [], [128, 128, 128, 128, 64, 64, 32, 32], [0, 0, 0, 0, 0, 0, 0, 0], [], 0, 4, true, false, 0, false, false, 0, 0⟩

/-- An F.* that has sent its flits (R387, R388). -/
structure Sending where
  slot : Nat
  tag : Nat
  /-- Dies whose DONE has not arrived. -/
  left : List Nat
  /-- First status other than OK that a DONE brought, 0 for none. -/
  status : Nat
  poison : Bool
  /-- Its last flit is out. -/
  sent : Bool
  /-- Egress ports it holds. -/
  ports : List Nat
  /-- When its last flit went out. -/
  since : Nat
  /-- Ports and BULK_IDs of its transfers. -/
  bulks : List (Nat × Nat)
  /-- Those of them whose last flit has not gone out. -/
  due : List (Nat × Nat)
  deriving DecidableEq, Repr

/-- An incoming transfer (R387): the port and BULK_ID it arrives under, its source and TAG, whether this die
takes a copy, and the ports and BULK_IDs it is forwarded under. -/
structure Incoming where
  /-- Its number on this die. -/
  id : Nat
  port : Nat
  lane : Nat
  bulk : Nat
  src : Nat
  tag : Nat
  tenant : Nat
  queue : Nat
  own : Bool
  forward : List (Nat × Nat)
  /-- Next model address and bytes left. -/
  addr : Nat
  left : Nat
  /-- Bytes not written yet, and which of the lines they begin came poisoned, as a mask. -/
  buf : List Nat
  bufBad : Nat
  /-- Counter and increment of its signal. -/
  signal : Option (Nat × Nat)
  status : Nat
  poison : Bool
  /-- Its last flit has come: the signal and DONE wait for its writes (R15, R385). -/
  ended : Bool
  /-- The flush its HOST writes owe, if any (R15, R368). -/
  hostFlush : Option Flush
  /-- The model slot and shard it carries, if it does (R308). -/
  shard : Option (Nat × Nat)
  deriving DecidableEq, Repr

/-- A shard that waits to be sent: to which dies, the first page it covers, and its bytes (R308). -/
structure ShardSend where
  mask : Nat
  page : Nat
  bytes : List Nat
  deriving DecidableEq, Repr

/-- A memory BAR of function 0: its size in bytes, and that it is 64-bit and not prefetchable (Table 16.2). -/
structure Bar where
  size : Nat
  wide : Bool
  prefetchable : Bool
  deriving DecidableEq, Repr

/-- What the configuration space of function 0 presents (Table 16.2), but for the vendor ID and the DVSECs, which are
`Config.vendorId` and `Config.dvsec`: device ID, class code, BAR0 and BAR2, and the MSI-X entries with the offsets of their
table and pending-bit array in BAR0. -/
structure HostConfig where
  device : BitVec 16
  classCode : BitVec 24
  bar0 : Bar
  bar2 : Bar
  entries : Nat
  table : Nat
  pending : Nat
  deriving DecidableEq, Repr

/-- The values of Table 16.2 (R370). -/
def HostConfig.h1 : HostConfig :=
  ⟨0x48A1#16, 0x120000#24, ⟨0x4000000, true, false⟩, ⟨0x400000, true, false⟩, 2112, 0x00D10000, 0x00D20000⟩

/-- The link unit beside its registers and ports. -/
structure Link where
  ports : SMap Port
  /-- Route latency measured at discovery, in nanoseconds (R389). -/
  latency : Nat
  /-- FTIME less the reference clock's nanoseconds, modulo 2⁶⁴. -/
  ftOffset : Nat
  /-- When the last TIME message went out (R389). -/
  timeSent : Nat
  /-- TOPO messages held: die, die on its port 1, die on its port 2, 0xFF for none (R377). -/
  topos : List (Nat × Nat × Nat)
  sends : List Sending
  incoming : List Incoming
  /-- Dies whose route entry changed, with the requests still due on the old route (R382). -/
  holds : List (Nat × List Nat)
  /-- Messages held for them: die and flit. -/
  heldMsgs : List (Nat × Flit)
  /-- Export window in force (Table 16.8). -/
  expFirst : Nat
  expCount : Nat
  /-- FTIME until which no retraining begins (R393). -/
  quietUntil : Nat
  /-- Members and routes are recomputed at the next tick; a peer port has gone DOWN (R394). -/
  recompute : Bool
  portLost : Bool
  /-- Dies that became unreachable, for the barriers of the next tick (R392). -/
  lost : List Nat
  /-- Number of the next incoming transfer. -/
  nextIn : Nat
  /-- The configuration space of function 0 (R370). -/
  config : HostConfig
  /-- Shards to send, oldest first (R308). -/
  shards : List ShardSend
  deriving DecidableEq, Repr

/-- The link unit after reset. -/
def Link.fresh : Link := ⟨[], 0, 0, 0, [], [], [], [], [], 0, 0, 0, false, false, [], 0, HostConfig.h1, []⟩

/-! ### Image front end (chapter 15) -/

/-- A binding, the outputs of one coming frame: the C.BIND with its tenant and queue (R352, R353). -/
structure Binding where
  desc : DescBits
  tenant : Nat
  queue : Nat
  /-- Declared slots its vision output fills (R346, R356). -/
  slots : List Nat
  deriving DecidableEq, Repr

/-- A frame from its Frame Start until it is dropped (R341, R342, R355). -/
structure Frame where
  id : Nat
  /-- Number of its free pixel values. -/
  key : Nat
  binding : Option Binding
  /-- Marks of Table 15.2. -/
  flags : Nat
  /-- FLAGS and DN_BYPASS as they stood when its statistics became ready. -/
  statFlags : Nat
  statBypass : Nat
  firing : Option Nat
  tStart : Nat
  tEnd : Nat
  /-- Lines in order: samples, and whether the line was placed as received. -/
  lines : List (List Nat × Bool)
  crcErrs : Nat
  eccCorr : Nat
  bypass : Nat
  extra : Nat
  settings : Nat
  /-- Embedded-data bytes kept (R342). -/
  embed : List Nat
  isOpen : Bool
  /-- Closed with its statistics to come. -/
  ready : Bool
  /-- Every bound output has been written. -/
  outputs : Bool
  /-- An uncorrectable word of the line buffers lay in it (R471). -/
  damaged : Bool
  /-- Outputs that failed, and the status of the first failure (R354). -/
  failedOuts : List Nat
  fault : Nat
  /-- IFE_CTX_CFG, WIDTH, HEIGHT and IFE_CTX_BLACK of its context. -/
  cfg : Word
  width : Nat
  height : Nat
  blackReg : Word
  /-- Arrival times of its lines. -/
  times : List Nat
  /-- Its parameter block, and the address while that is being read (R345). -/
  block : Nat
  blockAt : Option Nat
  /-- IFE_DN_CFG and IFE_DN_SLOTS at its Frame Start. -/
  dnCfg : Word
  dnSlots : Word
  /-- Rows of the tiles whose output was used (R349). -/
  tiles : List (Nat × List Nat)
  /-- Its output writes have all been made, or stand in the queue. -/
  queued : Bool
  /-- It is no longer held; it stays until its outputs are written. -/
  dropped : Bool
  deriving DecidableEq, Repr

/-- A settings record latched for the sensor (R359, R360): SEQ, SETTINGS_ID, the frame it reaches first, when its
window ends, and its outcome. -/
structure Transfer where
  seq : Nat
  id : Nat
  reach : Nat
  due : Nat
  /-- I3C port it goes out on (R363). -/
  port : Nat
  outcome : Option Bool
  deriving DecidableEq, Repr

/-- Writes of a bound output waiting to be made: context, frame by its key, output, units, and whether they are poisoned
(R346, R354). -/
structure CamWrite where
  ctx : Nat
  key : Nat
  binding : Binding
  out : Nat
  units : List (Int × Nat)
  poison : Bool
  deriving DecidableEq, Repr

/-- The denoise tiles of a frame (R347 to R351). -/
structure DnJob where
  ctx : Nat
  frame : Nat
  key : Nat
  width : Nat
  height : Nat
  tileW : Nat
  tileH : Nat
  halo : Nat
  fp16 : Bool
  limit : Nat
  inFirst : Nat
  outFirst : Nat
  slots : Nat
  tenant : Nat
  /-- Arrival times of the lines. -/
  times : List Nat
  closed : Option Nat
  /-- Input tiles filled, and outputs read. -/
  filled : Nat
  read : Nat
  bypassed : List Nat
  /-- A slot access failed, so every remaining tile is bypassed. -/
  fault : Bool
  deriving DecidableEq, Repr

/-- A sensor context beside its registers (R339, R340, R353, R358). -/
structure Sensor where
  /-- Frames held or still open, oldest first. -/
  frames : List Frame
  bindings : List Binding
  /-- A Frame Start has been seen since EN. -/
  started : Bool
  /-- Time of the previous Frame Start. -/
  lastStart : Option Nat
  /-- A fallback tick has fallen since it. -/
  fallback : Bool
  /-- An uncorrectable header fell between frames. -/
  badHeader : Bool
  /-- Last SEQ latched. -/
  seq : Nat
  transfers : List Transfer
  /-- SETTINGS_ID in force. -/
  current : Nat
  /-- Frames to mark SET_FAIL. -/
  setFails : List Nat
  /-- Settings records a Frame Start has yet to read: frame, line and tenant (R359). -/
  latchDue : List (Nat × Nat × Nat)
  /-- Transfers of before the last enable whose outcome is still to come. -/
  old : List Transfer
  deriving DecidableEq, Repr

/-- A sensor context after reset. -/
def Sensor.fresh : Sensor := ⟨[], [], false, none, false, false, 0, [], 0, [], [], []⟩

/-- The image front end beside its registers. -/
structure Ife where
  sensors : SMap Sensor
  /-- Parameter block in force (R345). -/
  block : Nat
  dn : List DnJob
  /-- Output writes under way, oldest first. -/
  writes : List CamWrite
  /-- Last in-band interrupt of each I3C port: address and payload (R362). -/
  ibis : SMap (Nat × List Nat)
  /-- Dynamic addresses assigned on each port. -/
  addrs : SMap (List Nat)
  /-- Rate of each camera port in Mb/s or Msym/s, 0 before CAM_PORT_CONFIG (R338). -/
  rates : SMap Nat
  deriving DecidableEq, Repr

/-- The image front end after reset. -/
def Ife.fresh : Ife := ⟨[], 0, [], [], [], [], []⟩

/-! ### Error tracker (chapter 20) -/

/-- One tracker entry (R472 to R474). -/
structure TrackEntry where
  source : Nat
  location : Nat
  /-- Reference-clock times of its errors, latest first. -/
  times : List Nat
  lasting : Bool
  /-- The request for a spare is pending (R474). -/
  requested : Bool
  deriving DecidableEq, Repr

/-! ### Models (chapter 13) -/

/-- A shard of a loaded model (Table 13.2). -/
structure Shard where
  src : Nat
  page : Nat
  len : Nat
  group : Nat
  digest : Nat
  tag : Nat
  deriving DecidableEq, Repr

/-- A model slot (R298 to R311). -/
structure Model where
  /-- State of Table 13.5. -/
  state : Nat
  id : Nat
  base : Nat
  pages : Nat
  refs : Nat
  home : Nat
  key : Nat
  dies : Nat
  isSealed : Bool
  keep : Bool
  /-- Model digest and SHAKE256 of the publisher key (R296). -/
  digest : Nat
  pubHash : Nat
  /-- Model address of the image. -/
  src : Nat
  /-- Die that received MODEL_LOAD. -/
  source : Nat
  shards : List Shard
  /-- Frame of each page of the span. -/
  frames : List Nat
  /-- Next shard to verify. -/
  next : Nat
  /-- The shard under verification has been asked for again (R309). -/
  resent : Bool
  /-- Payload bytes of the shards passed to another die, kept for a resend while the load lasts (R309). -/
  sent : List (Nat × List Nat)
  /-- Dies that have not verified (R308, R310). -/
  left : List Nat
  /-- NONCE of the image (R297). -/
  nonce : Nat
  /-- Shards received and not yet verified: index, bytes, and whether a line came poisoned (R308). -/
  inbox : List (Nat × List Nat × Bool)
  /-- Dies that have asked for a shard of the image again, for a repair (R307). -/
  owes : List (Nat × Nat)
  /-- A repair from the image is to start (R307). -/
  mend : Bool
  /-- The span maps at the next tick (R302, R310). -/
  due : Bool
  /-- New work that reads a span being unloaded is no longer admitted (R22). -/
  shut : Bool
  /-- Firing in which it entered service. -/
  served : Nat
  damaged : List Nat
  /-- Reference time from which the scrub interval counts, the next shard of a pass under way, and whether that pass
  has been found late (R306). -/
  since : Nat
  pass : Option Nat
  late : Bool
  deriving DecidableEq, Repr

/-- An empty slot. -/
def Model.empty : Model :=
  ⟨0, 0, 0, 0, 0, 0, 0, 0, false, false, 0, 0, 0, 0, [], [], 0, false, [], [], 0, [], [], false, false, false, 0, [], 0, none, false⟩

/-- A load whose checks are under way: the slot kept for it, the model it would be, with the frames it has taken on a die that
was offered it, and on the source die whether the offers are out, the dies yet to answer, and the failure of lowest detail so
far (R299). -/
structure LoadPlan where
  slot : Nat
  model : Model
  offered : Bool
  asked : List Nat
  worst : Option (Nat × Nat)
  deriving DecidableEq, Repr

/-! ### The management plane (chapter 19) -/

/-- A firmware image: what the die keeps of it (Table 19.3, Table 18.2). -/
structure Image where
  version : Nat
  svn : Nat
  ifMajor : Nat
  ifMinor : Nat
  /-- M_FW. -/
  digest : Nat
  deriving DecidableEq, Repr

/-- Where an accepted command stands. -/
inductive Stage where
  /-- Its processor has not come to it. -/
  | queued
  /-- It applies at the next tick (R21). -/
  | atTick
  /-- It has begun and replies later. -/
  | running
  deriving DecidableEq, Repr

/-- An accepted command that has not been answered (R455). -/
structure Cmd where
  op : Nat
  seq : Nat
  /-- The 56 payload bytes as a little-endian number. -/
  payload : Nat
  stage : Stage
  /-- Progress words. -/
  aux : List Nat
  deriving DecidableEq, Repr

/-- Contents of the image slot of the firmware flash. -/
inductive FlashSlot where
  /-- As programmed outside the die. -/
  | shipped
  /-- Being rewritten, or left so: not bootable (R468). -/
  | broken
  /-- Written by a commit. -/
  | holds (i : Image)
  deriving DecidableEq, Repr

/-- Firmware state beside its registers. -/
structure Fw where
  /-- Unanswered commands, in ring order. -/
  cmds : List Cmd
  /-- SEQ accepted last; none right after ring service starts (R456). -/
  lastSeq : Option Nat
  /-- A ring access failed: no packet is taken until FWP_RING_CFG is written (R452). -/
  ringBad : Bool
  /-- The old image has stopped taking packets for a takeover (R466). -/
  paused : Bool
  /-- DRV_HELLO has been accepted (R460). -/
  hello : Bool
  /-- The data plane is being left: admission stops at the next tick, or has stopped; the driver was refused (R459, R460). -/
  leaving : Bool
  running : Option Image
  /-- The image in the other slot of the firmware area: the staged one, or the one a rollback returns to (R465, R467). -/
  other : Option Image
  /-- Slot of the running image. -/
  slot : Nat
  /-- The running image is the one in flash (R442). -/
  inFlash : Bool
  /-- The image a rollback returns to is the one in flash (R467). -/
  oldInFlash : Bool
  /-- When PROBATION began. -/
  probation : Nat
  /-- Watchdog expiries of each processor in the last 10 s (R464). -/
  expiries : SMap (List Nat)
  /-- Processors frozen for good (R464). -/
  stuck : List Nat
  /-- State the die held before DEGRADED (R463). -/
  before : Nat
  /-- DEGRADED takes effect at the next tick; the Supervisor is back, so it ends at the next tick (R463). -/
  degrading : Bool
  restored : Bool
  /-- The Supervisor restarts from its section (R462). -/
  restarting : Bool
  /-- Number of each processor's crash dump, plus one (R461). -/
  dumps : SMap Nat
  /-- The DEBUG instruction of the test access port halts the processors (R508). -/
  halted : Bool
  /-- Since when each processor runs: its watchdog has been restarted no earlier (R461). -/
  since : SMap Nat
  /-- Peer ports whose training failed at boot (R450). -/
  untrained : List Nat
  deriving DecidableEq, Repr

/-- Firmware as the ROM starts it. -/
def Fw.fresh : Fw :=
  ⟨[], none, false, false, false, false, none, none, 0, false, false, 0, [], [], 0, false, false, false, [], false, [], []⟩

/-- The port to the firmware flash (R505). -/
structure Spi where
  /-- Quad I/O double-transfer-rate mode, else 1-1-1 SDR. -/
  quad : Bool
  /-- Clock in MHz. -/
  clock : Nat
  /-- Read command and dummy cycles taken from the SFDP table. -/
  command : Nat
  dummy : Nat
  /-- Trained read sampling delay in steps of 0.25 ns; none before training. -/
  delay : Option Nat
  deriving DecidableEq, Repr

/-- The port as the ROM first runs it. -/
def Spi.fresh : Spi := ⟨false, 25, 0, 0, none⟩

/-! ### The Damper (chapter 17) -/

/-- A stored phase (R403): signature, split, and the firing in which it was last seen. -/
structure PowerPhase where
  signature : List Nat
  split : List Nat
  seen : Nat
  deriving DecidableEq, Repr

/-- A DOZE or SLEEP entry (R415): state asked for, wake mask, wake timer in ms, ENTRY_MS, and when it began. -/
structure PowerEntry where
  target : Nat
  mask : Nat
  timer : Nat
  limit : Nat
  since : Nat
  deriving DecidableEq, Repr

/-- The Damper beside its registers. -/
structure Damper where
  /-- Boost is enabled by the BOOST command (R405). -/
  boost : Bool
  /-- The split is locked (R404). -/
  locked : Bool
  phases : List PowerPhase
  /-- Firmware phase table loaded by POWER_SPLIT; none for the one in the firmware flash. -/
  table : Option (List (List Nat × List Nat))
  /-- Issue ratios of the limited domains, in 1/64 (R402). -/
  ratio : List Nat
  /-- Current limit in mA and window in µs of each rail (Table 17.2). -/
  rails : List (Nat × Nat)
  /-- Over the open firing: highest die and base-domain estimates, sum and number of estimates, held cycles (R401,
  R404, R405, R411). -/
  dieMax : Nat
  baseMax : Nat
  sum : Nat
  periods : Nat
  held : List Nat
  /-- Over the open firing: the hottest sensor reading in 1/16 °C, none before the first sample (R405, R411). -/
  peak : Option Int
  /-- Clock stretch in steps of 1/8, and when it last changed (R410). -/
  stretch : Nat
  /-- An entry under way, or the state reached (R415). -/
  entry : Option PowerEntry
  /-- When the wake timer runs out (R416). -/
  timer : Option Nat
  /-- First wake event since the entry began (R417). -/
  wake : Option Nat
  /-- A wake has completed and its first tick is due (R418). -/
  firstTick : Bool
  /-- Reference times of the last power estimate and of the last reading of the sensors (R402, R411). -/
  estimated : Nat
  sampled : Nat
  deriving DecidableEq, Repr

/-- The Damper after reset. -/
def Damper.fresh : Damper :=
  ⟨false, false, [], none, [64, 64, 64], [(8000, 2), (3000, 2), (2000, 5), (2000, 5)], 0, 0, 0, 0, [0, 0, 0], none, 0, none, none,
    none, false, 0, 0⟩

/-! ### The Saggar (chapter 18) -/

/-- An open key session (R434): its number, when it opened, the number of its ML-KEM pair, EK_HASH and NONCE. -/
structure KeySession where
  num : Nat
  since : Nat
  pair : Nat
  ekHash : Nat
  nonce : Nat
  deriving DecidableEq, Repr

/-- A filled model-key slot (R436): model digest, KEY code and the key. -/
structure ModelKey where
  digest : Nat
  code : Nat
  key : Nat
  deriving DecidableEq, Repr

/-- The Saggar beside its registers, the DMC key slots and the fuses. -/
structure Saggar where
  sessions : List KeySession
  /-- Next session number. -/
  nextSession : Nat
  keys : SMap (Option ModelKey)
  /-- When the confidential offer was made, and the number of its ML-KEM pair (R439). -/
  offer : Option (Nat × Nat)
  /-- SESSION of the last accept, and when the session last had traffic. -/
  session : Nat
  traffic : Nat
  /-- The session's keys for the host-to-die and the die-to-host direction, 32 bytes each (R372, R439). -/
  confKeys : Option (Nat × Nat)
  /-- A completed accept begins at the next tick; an event has ended the session (R439, R440). -/
  opening : Bool
  closing : Bool
  /-- The link was lost under the session (R440). -/
  lost : Bool
  /-- Times each tenant's record became VALID (Table 18.2). -/
  generations : SMap Nat
  /-- Measurements as they stood at the last tick: M_FW, the words behind M_CONFIG, and the model entries (R431,
  R432). -/
  mFw : Nat
  mConfig : List Nat
  mModels : List (Nat × List Nat)
  deriving DecidableEq, Repr

/-- The Saggar after reset. -/
def Saggar.fresh : Saggar := ⟨[], 1, [], none, 0, 0, none, false, false, false, [], 0, [], []⟩

/-! ### What outlives power -/

/-- The fuses' anti-rollback count N (Table 18.1) and the firmware flash (Table 19.2). -/
structure Nonvol where
  rollback : Nat
  slot : FlashSlot
  phases : Option (List (List Nat × List Nat))
  deriving DecidableEq, Repr

/-- The RAS block beside its registers and tracker: lasting faults since boot, and when each unit's last timed self-test
ran. -/
structure Ras where
  lasting : Nat
  kilnTested : Nat
  wheelTested : Nat
  deriving DecidableEq, Repr

/-- A write the die owes a ring: the record of a descriptor that completed in a firing, or a reply (R194, R207, R453). -/
inductive Owed where
  | record (e : Entry) (firing : Nat)
  | reply (c : Cmd) (status detail firing : Nat) (res : List Nat)
  deriving DecidableEq, Repr

/-- What the die has driven out: writes to the host, interrupts, replies, link messages and camera buses. -/
inductive Out where
  /-- The firmware flash is reset, at 1-1-1 SDR and 25 MHz (R505). -/
  | spiReset
  /-- Its SFDP table is read likewise (R505). -/
  | spiSfdp
  /-- Its SFDP signature is read at a sampling delay, in steps of 0.25 ns (R505). -/
  | spiTrain (step : Nat)
  /-- An MSI-X message: the posted write of its entry's data to its entry's address (R371). -/
  | msix (vector addr : Nat) (data : Word)
  /-- A posted write of bytes at a host physical address, and its EP bit (R368, R369). -/
  | hostWrite (addr : Nat) (bytes : List Nat) (ep : Bool)
  /-- The zero-length read of a HOST line that flushes the posted writes before it (R368). -/
  | hostFlush (addr : Nat)
  /-- A flit on a peer port: the port, what it carries, and its 256 bytes (R378). -/
  | flit (port : Nat) (f : Flit) (bytes : List Nat)
  /-- A transfer on a camera control port. -/
  | camera (port : Nat) (bytes : List Nat)
  /-- A response to a host snoop. -/
  | snoop (addr : Nat)
  /-- A LOCAL line delivered to its requester, with its poison mark; none for a line delivered as an uncorrectable error. -/
  | line (data : Option Line) (poison : Bool)
  /-- A refresh-management command: channel × 16 + bank, row (R327). -/
  | rfm (bank : Nat) (row : Option Nat)
  deriving DecidableEq, Repr

end Sys2Proof.Machine
end

