-- ==== Sys2Proof/Machine/State.lean ====
section
/-! DEFINITION. The state of the block, plain data: the die, what outlives its reset, the pins, the test access port and
the queue of waiting commands; the reasons a command can stop; and the state after reset (R488, R491, R497). -/

namespace Sys2Proof.Machine

/-- A LOCAL line: what was written, under which KEY code, key number and epoch, and how its stored bits differ from the codeword
of that write (R314 to R316). Key number 0 stands for zero ciphertext, and for a line never written. -/
structure LineCell where
  data : Line
  key : Nat
  gen : Nat
  epoch : Nat
  /-- Bits turned over: ciphertext [511:0], MAC [543:512], check word [575:544]. -/
  flips : Nat
  /-- Bits were changed and the check word made to fit. -/
  forged : Bool
  deriving DecidableEq, Repr

/-- An access to a LOCAL line that waits for its segment or its channel (R322, R325): KEY, line, tenant and queue tag. -/
structure LineAccess where
  key : Nat
  line : Nat
  tenant : Nat
  queue : Nat
  /-- The row had been closed (R326). -/
  act : Bool
  deriving DecidableEq, Repr

/-- What an access to a LOCAL line does. -/
inductive LineWork where
  | read (linkCe : Bool) (fault : Strike)
  | write (data : Line) (poison : Bool)
  | merge (mask : BitVec 64) (data : Line)
  deriving DecidableEq, Repr

/-- The DRAM controller beside its registers (chapter 14). -/
structure Dmc where
  lines : SMap LineCell
  /-- Segments whose unlisted lines are poisoned since their clear after a wake (R325). -/
  cleared : List Nat
  /-- Epochs by 4 KiB page (R318). -/
  epochs : SMap Nat
  /-- Key slots by code: 0 empty, else the key's number (R319). -/
  keys : SMap Nat
  /-- Keys drawn so far. -/
  keyCtr : Nat
  /-- Lines corrected and waiting for their rewrite (R315). -/
  rewrites : List Nat
  /-- Next line of the patrol scrub, and the start of its pass (R320). -/
  scrub : Nat
  scrubStart : Nat
  /-- Accesses that wait, in arrival order (R322, R325). -/
  waiting : List (LineAccess × LineWork)
  /-- The row each bank has open, plus one, and its activates since its last refresh management (R326). -/
  openRows : SMap Nat
  raa : SMap Nat
  /-- What the devices report: activates between refresh managements, 0 for no limit, and support of directed RFM. -/
  raaLimit : Nat
  directed : Bool
  /-- Spare rows left, by channel × 16 + bank (R328, R329). -/
  bankSpares : SMap Nat
  /-- Channel whose periodic retraining comes next, and when the last one was (R322). -/
  trainNext : Nat
  trainLast : Nat
  /-- Channels whose next pause is brought forward, and failures in a row by channel (R322, R323). -/
  trainSoon : List Nat
  trainFails : SMap Nat
  /-- Row trackers: by channel × 16 + bank, tracked rows and counts (R326). -/
  rows : SMap (List (Nat × Nat))
  /-- Rows at THRESH and not yet acted on: bank key, row, tenant, queue (R327). -/
  rhDue : List (Nat × Nat × Nat × Nat)
  /-- Requesters throttled on a bank: bank key, tenant, queue (R327). -/
  throttles : List (Nat × Nat × Nat)
  /-- Start of the tracker window (R326). -/
  rhStart : Nat
  /-- Frames retired outside the pool (R329). -/
  outside : List Nat
  /-- Data rate: 0 for 9600, 1 for 8533, 2 for 7500, 3 for 6400 MT/s (R312). -/
  rate : Nat
  deriving DecidableEq, Repr

/-- The die. -/
structure Die where
  /-- The register words by address, against their reset values (R488). -/
  regs : SMap Word
  /-- High halves latched by reads of _LO registers, by the address of the _HI word (R487). -/
  latch : SMap Word
  /-- _LO halves written and held for their _HI write, by address; an unlisted one is the value in force (R487). -/
  heldLo : SMap Word
  /-- Reference-clock cycles since the release of por_n (GLB_REFCLK). -/
  refclk : Nat
  /-- Number of the open firing (SCH_FIRING, R200). -/
  firing : Nat
  /-- Occupied scoreboard slots, in dispatch order (R208). -/
  sb : List Entry
  queues : Queues
  sched : Sched
  shelf : Shelf
  kiln : Kiln
  wheel : Wheel
  serving : Serving
  tier : Tier
  dmc : Dmc
  nand : Nand
  /-- The repair log in firmware flash: DRAM row locations, and whether hard PPR has made each permanent (R328). -/
  repairLog : List (Nat × Bool)
  far : Far
  link : Link
  ife : Ife
  models : SMap Model
  /-- Loads whose checks are under way (R299). -/
  plans : List LoadPlan
  /-- Scrub interval in minutes and rate in MB/s (R306). -/
  scrubEvery : Nat
  scrubRate : Nat
  fw : Fw
  spi : Spi
  damper : Damper
  saggar : Saggar
  nv : Nonvol
  ras : Ras
  /-- Fence registers whose EPOCH is to advance (R477). -/
  epochDue : List Nat
  /-- The error tracker (R472 to R474). -/
  track : List TrackEntry
  /-- Records and replies whose rings could not take them yet, oldest first. -/
  owed : List Owed
  /-- Those of the tick cycle under way; none between commands. -/
  cycle : Option (List Owed)
  /-- The model's own: the number of the next free value (log entry 1). -/
  freeCtr : Nat
  /-- What the die has driven out, latest first. -/
  out : List Out
  /-- The data of the last host read, low word first. -/
  bus : BitVec 64
  deriving DecidableEq, Repr

/-! ### The state after reset (R488) -/

/-- Nothing waits in the queue engine. -/
def Queues.fresh : Queues := ⟨[], [], [], [], [], 63, [], 0, none⟩

/-- The scheduler after reset: admission is closed (R460). -/
def Sched.fresh : Sched := ⟨false, false, 0, none, 0x2000, [], [], [], 0, 0, none⟩

/-- The tier manager after reset. -/
def Tier.fresh : Tier := ⟨[], [], [], [], [], [], [], [], [], [], [], [], [], [], [], [], none, []⟩

/-- The DRAM controller after reset. -/
def Dmc.fresh : Dmc :=
  ⟨[], [], [], [], 0, [], 0, 0, [], [], [], 0, false, [], 0, 0, [], [], [], [], [], 0, [], 0⟩

/-- Far memory after reset: nothing asked. -/
def Far.fresh : Far := ⟨[], [], [], 0, 4096, [], false, [], [], [], 0⟩

/-- A NAND that FLASH_FORMAT has not formatted. -/
def Nand.unformatted : Nand := ⟨[], [], [], [], [], 0, 0, [], [], [], [], [], none, 0, 0, 0, 0, true⟩

/-- Fuses and firmware flash as shipped. -/
def Nonvol.shipped : Nonvol := ⟨0, .shipped, none⟩

/-- The die with every register at its reset value, around what outlives reset: the NAND, the repair log, the fuses and
the firmware flash. -/
def Die.initial (nand : Nand) (repairLog : List (Nat × Bool)) (nv : Nonvol) : Die :=
  { regs := [], latch := [], heldLo := [], refclk := 0, firing := 0, sb := [], queues := Queues.fresh, sched := Sched.fresh,
    shelf := ⟨[], [], [], [], [], [], [], [], [], [], 0⟩, kiln := Kiln.powerUp, wheel := ⟨none, false⟩, serving := ⟨[], [], [], [], [], 0, []⟩,
    tier := Tier.fresh, dmc := Dmc.fresh, nand := nand, repairLog := repairLog, far := Far.fresh, link := Link.fresh,
    ife := Ife.fresh, models := [], plans := [], scrubEvery := 1440, scrubRate := 256, fw := Fw.fresh, spi := Spi.fresh, damper := Damper.fresh,
    saggar := Saggar.fresh, nv := nv, ras := ⟨0, 0, 0⟩, epochDue := [], track := [], owed := [], cycle := none, freeCtr := 0, out := [], bus := 0#64 }

/-- The whole block. -/
structure State where
  /-- Commands that wait, first in, first out. -/
  pending : List Instr
  /-- por_n is high (R498). -/
  porN : Bool
  /-- The rails are in range (R497, R499). -/
  rails : Bool
  /-- The Cone has tripped: every clock is gated and therm_trip_n is asserted (R412). -/
  tripped : Bool
  /-- The instruction register of the test access port (R508). -/
  jtagIr : BitVec 8
  die : Die
  deriving DecidableEq, Repr

/-- Why a command ends in a fault. -/
inductive Fault where
  /-- An operand has a value no command of the hardware can carry (a list of the wrong length, a bank, row or sensor site
  that does not exist), by WellFormed.lean. Raised by the meanings of those commands. Safe: the hardware has no such
  command. -/
  | illFormed
  deriving DecidableEq, Repr

/-- Why a command is refused. -/
inductive Refusal where
  /-- The command has no meaning yet. Raised by no arm. Safe: nothing is proved about it. -/
  | notModelled (mnemonic : String)
  deriving DecidableEq, Repr

/-- The block held in reset: the rails are up and por_n is low, every register is at its reset value, memory lists nothing,
no command waits, and the TAP has been reset (R488, R497, R507). -/
def State.reset : State := ⟨[], false, true, false, 0x01#8, Die.initial Nand.unformatted [] Nonvol.shipped⟩

end Sys2Proof.Machine
end

