-- ==== Sys2Proof/Machine/Ops.lean ====
section
/-! DEFINITION. The named operations every unit uses: registers and flags, interrupts, event counters, Shelves
rows, the page table and tier check, and lines of the four memory tiers. -/

namespace Sys2Proof.Machine

/-! ### Registers (R6, R486, R488) -/

/-- The stored value of a register word. -/
def Die.reg (d : Die) (a : Nat) : Word := SMap.get resetOf d.regs a

/-- Store a register word. -/
def Die.setReg (d : Die) (a : Nat) (w : Word) : Die := { d with regs := SMap.put resetOf d.regs a w }

/-- A field of a register. -/
def Die.rf (d : Die) (a hi lo : Nat) : Nat := (d.reg a).f hi lo

/-- Set a field of a register. -/
def Die.setRf (d : Die) (a hi lo v : Nat) : Die := d.setReg a ((d.reg a).setF hi lo v)

/-- Add to a counter that saturates at 0xFFFF_FFFF. -/
def Die.count (d : Die) (a n : Nat) : Die := d.setReg a (satAdd32 (d.reg a) n)

/-- Advance a unit's 16-bit fence epoch (R477). -/
def Die.bumpEpoch (d : Die) (fence : Nat) : Die := d.setRf fence 15 0 (d.rf fence 15 0 + 1)

/-! ### Interrupts and flags (R371, R479, R480) -/

/-- Drive something out of the die. -/
def Die.emit (d : Die) (o : Out) : Die := { d with out := o :: d.out }

/-- Whether the host port carries traffic (R394). -/
def Die.hostUp (d : Die) : Bool := d.rf (Reg.LNK_PORT_STAT 0) 3 0 == 3 || d.rf (Reg.LNK_PORT_STAT 0) 3 0 == 4

/-- Post the write of an MSI-X entry's data to its address (R371); one that meets the host port DOWN is lost (DESIGN CHOICE,
log entry 85). -/
def Die.sendMsix (d : Die) (v : Nat) : Die :=
  if d.hostUp then
    d.emit (.msix v ((d.reg (Reg.MSIX_ADDR_HI v)).toNat * 2 ^ 32 + (d.reg (Reg.MSIX_ADDR_LO v)).toNat) (d.reg (Reg.MSIX_DATA v)))
  else d

/-- Send an MSI-X message, or set the pending bit of a masked entry (R371). -/
def Die.msix (d : Die) (v : Nat) : Die :=
  if (d.reg (Reg.MSIX_CTRL v)).b 0 then
    d.setReg (Reg.MSIX_PBA (v / 32)) (d.reg (Reg.MSIX_PBA (v / 32)) ||| Word.oneBit (v % 32))
  else d.sendMsix v

/-- The flag registers of each interrupt source (Table 20.5). -/
def flagRegs (s : Nat) : List Nat :=
  match s with
  | 0 => [Reg.SHF_ERR]
  | 1 => [Reg.KLN_ERR]
  | 2 => [Reg.PUG_ERR]
  | 3 => [Reg.GLZ_ERR]
  | 4 => [Reg.WHL_ERR]
  | 5 => [Reg.SCH_EVT_ERR, Reg.SCH_ILLEGAL_COUNT]
  | 7 => [Reg.QUE_ERR, Reg.QUE_SRV_ERR]
  | 8 => [Reg.TIR_ERR, Reg.TIR_MDL_ERR]
  | 9 => [Reg.DMC_ERR, Reg.NFC_ERR]
  | 10 => [Reg.IFE_ERR]
  | 11 => [Reg.LNK_ERR]
  | 13 => [Reg.DMP_ERR]
  | 14 => [Reg.SGR_ERR]
  | 15 => [Reg.FWP_ERR]
  | 17 => [Reg.RAS_ERR]
  | _ => []

/-- The sources of Table 20.5. -/
def allSources : List Nat := List.range 18

/-- Whether a flag source is pending (R480). -/
def Die.pendingSrc (d : Die) (s : Nat) : Bool :=
  (d.reg Reg.RAS_IRQ_EN).b s && (flagRegs s).any (fun a => d.reg a != 0#32)

/-- Apply a change and send the message of every flag source whose pending rises with it (R480). -/
def Die.irqAfter (d d' : Die) : Die :=
  allSources.foldl (fun acc s => if !d.pendingSrc s && d'.pendingSrc s then acc.msix (2048 + s) else acc) d'

/-- The interrupt source of a flag register (Table 20.5); GLB_ERR has none (R490). -/
def srcOf (a : Nat) : Option Nat := allSources.find? fun s => (flagRegs s).contains a

/-- Hardware sets flag `bit` of a flag register: the event is counted, and the message goes out when the
register's source becomes pending (R479, R480). -/
def Die.err (d : Die) (a bit : Nat) : Die :=
  let d1 := d.setReg a (d.reg a ||| Word.oneBit bit)
  match srcOf a with
  | none => d1
  | some s =>
    let d2 := d1.count (Reg.RAS_SRC_EVENTS s) 1
    if !d.pendingSrc s && d2.pendingSrc s then d2.msix (2048 + s) else d2

/-- Set a flag when a condition holds. -/
def Die.errIf (d : Die) (c : Bool) (a bit : Nat) : Die := if c then d.err a bit else d

/-- An event of an event source (R480). -/
def Die.event (d : Die) (s : Nat) : Die :=
  let d1 := d.count (Reg.RAS_SRC_EVENTS s) 1
  if (d.reg Reg.RAS_IRQ_EN).b s then d1.msix (2048 + s) else d1

/-- Level of irq_n: low while a source selected by RAS_PIN_EN is pending (R480). -/
def Die.irqN (d : Die) : Bool := !(allSources.any fun s => (d.reg Reg.RAS_PIN_EN).b s && d.pendingSrc s)

/-- Take the next free value's number: the step that uses it advances the counter. -/
def Die.fresh (d : Die) : Nat × Die := (d.freeCtr, { d with freeCtr := d.freeCtr + 1 })

/-! ### Tenants and event counters (R172 to R175, R219, R221) -/

/-- Tenant code of the management context (R55). -/
abbrev mgmtCode : Nat := 0x40

/-- Record index of a tenant code: 64 for the management context (R219). -/
def tenantIdx (code : Nat) : Nat := if code = mgmtCode then 64 else code

/-- Whether a tenant record is in force. -/
def Die.tenantValid (d : Die) (i : Nat) : Bool := (d.reg (Reg.QUE_TEN_CFG i)).b 31

/-- Whether a tenant record is tearing down (R222). -/
def Die.tenantDraining (d : Die) (i : Nat) : Bool := (d.reg (Reg.QUE_TEN_CFG i)).b 30

/-- Whether an event counter lies in a record's range (R221). -/
def Die.evtInRange (d : Die) (i c : Nat) : Bool :=
  let b := d.rf (Reg.QUE_TEN_EVT_BASE i) 15 0
  decide (b ≤ c) && decide (c < b + d.rf (Reg.QUE_TEN_EVT_COUNT i) 16 0)

/-- Whether a tenant may wait on or signal a counter (R172). -/
def Die.evtPermitted (d : Die) (code c : Nat) : Bool := code == mgmtCode || d.evtInRange code c

/-- The value of an event counter. -/
def Die.evt (d : Die) (c : Nat) : Nat := (d.reg (Reg.SCH_EVENT c)).toNat

/-- The POISON bit of an event counter. -/
def Die.evtPoison (d : Die) (c : Nat) : Bool := (d.reg (Reg.SCH_EVT_POISON (c / 32))).b (c % 32)

/-- Set the POISON bit of an event counter (R175). -/
def Die.poisonEvt (d : Die) (c : Nat) : Die :=
  d.setReg (Reg.SCH_EVT_POISON (c / 32)) (d.reg (Reg.SCH_EVT_POISON (c / 32)) ||| Word.oneBit (c % 32))

/-- Clear the POISON bit of an event counter (R175). -/
def Die.unpoisonEvt (d : Die) (c : Nat) : Die :=
  d.setReg (Reg.SCH_EVT_POISON (c / 32)) (d.reg (Reg.SCH_EVT_POISON (c / 32)) &&& ~~~(Word.oneBit (c % 32)))

/-- Set the value of an event counter; POISON stays (R174). -/
def Die.setEvt (d : Die) (c : Nat) (v : Nat) : Die := d.setReg (Reg.SCH_EVENT c) (BitVec.ofNat 32 v)

/-- Add to an event counter; an addition past the top saturates, poisons and flags (R174). -/
def Die.addEvt (d : Die) (c n : Nat) : Die :=
  if d.evt c + n ≤ 0xFFFFFFFF then d.setEvt c (d.evt c + n)
  else ((d.setEvt c 0xFFFFFFFF).poisonEvt c).err Reg.SCH_EVT_ERR Bit.SCH_EVT_ERR_SATURATED

/-! ### Error tracker (R470 to R474) -/

/-- Reference-clock cycles of a number of hours. -/
def hourCycles (h : Nat) : Nat := h * 3600 * 38400000

/-- Whether a request for a spare is pending at a location (R474). -/
def Die.spareWanted (d : Die) (src loc : Nat) : Bool :=
  d.track.any fun t => t.source == src && t.location == loc && t.lasting && t.requested

/-- The latest error time of an entry. -/
def TrackEntry.latest (t : TrackEntry) : Nat := t.times.headD 0

/-- The entry whose latest error is oldest. -/
def oldestEntry : List TrackEntry → Option TrackEntry
  | [] => none
  | t :: ts =>
    match oldestEntry ts with
    | none => some t
    | some u => if u.latest < t.latest then some u else some t

/-- An entry whose latest error is more than WINDOW old is free; one whose spare is still to come stays (R473, R474). -/
def Die.trackLive (d : Die) (t : TrackEntry) : Bool :=
  t.requested || decide (d.refclk ≤ t.latest + hourCycles (d.rf Reg.RAS_LASTING_CFG 15 8))

/-- The tracker entries in use. -/
def Die.trackUsed (d : Die) : List TrackEntry := d.track.filter d.trackLive

/-- Take an entry: a free one, or that of the location whose latest error is oldest (R473). -/
def Die.takeTrack (d : Die) (t : TrackEntry) : Die :=
  if d.trackUsed.length < 256 then { d with track := d.trackUsed ++ [t] }
  else
    match oldestEntry d.trackUsed with
    | none => { d with track := [t] }
    | some o =>
      (({ d with track := (d.trackUsed.filter fun u => u ≠ o) ++ [t] }).count Reg.RAS_TRACK_EVICT 1).err Reg.RAS_ERR Bit.RAS_ERR_TRACK_EVICT

/-- A fault becomes lasting: it is logged and counted (R474). -/
def Die.lastingFault (d : Die) (src loc : Nat) : Die :=
  (({ d with ras := { d.ras with lasting := d.ras.lasting + 1 } }.setReg Reg.RAS_FAULT_LOG (BitVec.ofNat 32 (src * 2 ^ 28 + loc % 2 ^ 28))).count
    Reg.RAS_LASTING_COUNT 1).err Reg.RAS_ERR Bit.RAS_ERR_LASTING

/-- Count one error against a location; at THRESH within WINDOW it becomes lasting and, but for an array without spares,
requests one, after those that became lasting before it (R470 to R474). -/
def Die.countError (d : Die) (src loc : Nat) : Die :=
  match d.trackUsed.find? fun t => t.source == src && t.location == loc with
  | none => d.takeTrack ⟨src, loc, [d.refclk], false, false⟩
  | some t =>
    if t.lasting then
      -- pending: not counted; without a spare the entry waits until WINDOW passes without an error
      if t.requested then d
      else { d with track := d.track.map fun u => if u = t then { u with times := [d.refclk] } else u }
    else
      let window := hourCycles (d.rf Reg.RAS_LASTING_CFG 15 8)
      let times := (d.refclk :: t.times).filter fun x => decide (d.refclk ≤ x + window)
      if d.rf Reg.RAS_LASTING_CFG 3 0 ≤ times.length then
        let t' := { t with times := times, lasting := true, requested := src != 6 }
        ({ d with track := (d.track.filter fun u => u ≠ t) ++ [t'] }).lastingFault src loc
      else { d with track := d.track.map fun u => if u = t then { t with times := times } else u }

/-- Free the entry of a location once its spare is in service (R474). -/
def Die.spareInService (d : Die) (src loc : Nat) : Die :=
  { d with track := d.track.filter fun t => !(t.source == src && t.location == loc) }

/-- Mark that a lasting location found no spare: it stays lasting and requests nothing more (R474). -/
def Die.noSpare (d : Die) (src loc : Nat) : Die :=
  { d with track := d.track.map fun t => if t.source == src && t.location == loc then { t with requested := false } else t }

/-- The first location of a source whose spare is requested, in the order they became lasting (R474). -/
def Die.firstWanted (d : Die) (src : Nat) : Option Nat :=
  (d.track.find? fun t => t.source == src && t.lasting && t.requested).map (·.location)

/-- Whether the limiter holds a domain back: its issue ratio is below 1 (R402). -/
def Die.limited (d : Die) (dom : Nat) : Bool := decide (d.damper.ratio.getD dom 64 < 64)

/-- Cycles a limited domain was held back: DMP_HOLD[d], and KLN_HOLD_DMP for the compute domain (R402). -/
def Die.domainHeld (d : Die) (dom n : Nat) : Die :=
  let d1 := d.count (Reg.DMP_HOLD dom) n
  let d2 : Die := { d1 with damper := { d1.damper with
    held := d1.damper.held.zipIdx.map fun p => if p.2 = dom then p.1 + n else p.1 } }
  if dom = 0 then d2.count Reg.KLN_HOLD_DMP n else d2

/-! ### Shelves rows (R46 to R67, R510) -/

/-- Rows of the Shelves (R47). -/
abbrev shelfRows : Nat := 90112

/-- Bank of a row address (R47). -/
def bankOf (row : Nat) : Nat := row / 1024

/-- OWNER of a bank. -/
def Die.bankOwner (d : Die) (b : Nat) : Nat := d.rf (Reg.SHF_BANK_CFG b) 3 0

/-- TENANT of a bank. -/
def Die.bankTenant (d : Die) (b : Nat) : Nat := d.rf (Reg.SHF_BANK_CFG b) 14 8

/-- CLASS of a bank: weight class when true. -/
def Die.bankWeight (d : Die) (b : Nat) : Bool := (d.reg (Reg.SHF_BANK_CFG b)).b 4

/-- POWERED of a bank. -/
def Die.bankPowered (d : Die) (b : Nat) : Bool := (d.reg (Reg.SHF_BANK_CFG b)).b 16

/-- BUSY of a bank. -/
def Die.bankBusy (d : Die) (b : Nat) : Bool := (d.reg (Reg.SHF_BANK_CFG b)).b 17

/-- Log a Shelves fault and count it (R510). `who` is the descriptor's tenant and queue; a scrub fault has none. -/
def Die.shelfFault (d : Die) (kind bank port : Nat) (who : Option (Nat × Nat)) : Die :=
  let ten := match who with
    | some w => w.1
    | none => d.bankTenant bank
  let d1 := d.setReg Reg.SHF_FAULT_LOG
    (BitVec.ofNat 32 (kind * 2 ^ 24 + ten % 128 * 2 ^ 12 + port % 8 * 2 ^ 8 + bank % 128))
  let d2 := match who with
    | some w => d1.setReg Reg.SHF_FAULT_QUEUE (BitVec.ofNat 32 (w.2 % 2 ^ 20))
    | none => d1
  (d2.count Reg.SHF_FAULT_COUNT 1).err Reg.SHF_ERR kind

/-- The stored row with each failing 64-byte sector (weight class) or 128-bit word (activation class) read
as zero (R64). -/
def zeroFailing (weight : Bool) (mask : Nat) (r : Row) : Row :=
  let bits := if weight then 512 else 128
  let n := 4096 / bits
  BitVec.ofNat 4096 ((List.range n).foldl
    (fun acc i => if mask.testBit i then setFld acc (bits * (i + 1) - 1) (bits * i) 0 else acc) r.toNat)

/-- What a unit receives for one row or line: its bits as a little-endian number, whether it carries an
uncorrectable error or a poison mark, and whether the access was lost to a closed gate. -/
structure UnitRd where
  data : Nat
  bad : Bool
  off : Bool
  deriving DecidableEq, Repr

/-- Who makes an access: port code of Table 3.1, tenant code, queue, and scoreboard slot (4,096 for the die's own
work). -/
structure Who where
  port : Nat
  tenant : Nat
  queue : Nat
  slot : Nat
  deriving DecidableEq, Repr

/-- The parts of a row under its poison mark, as a mask of eight (R66). -/
def Die.rowMark (d : Die) (row : Nat) : Nat := SMap.get (fun _ => 0) d.shelf.marks row

/-- Read a row through a port (R48, R64, R66, R67). An uncorrectable row is logged and counted; a closed
gate returns zeros. -/
def Die.readRow (d : Die) (w : Who) (row : Nat) : UnitRd × Die :=
  let b := bankOf row
  if !d.bankPowered b then
    (⟨0, true, true⟩, d.shelfFault 2 b w.port (some (w.tenant, w.queue)))
  else
    let raw := SMap.get (fun _ => 0#4096) d.shelf.rows row
    let mask := SMap.get (fun _ => 0) d.shelf.damage row
    if mask = 0 then (⟨raw.toNat, d.rowMark row != 0, false⟩, d)
    else
      (⟨(zeroFailing (d.bankWeight b) mask raw).toNat, true, false⟩,
        (d.shelfFault 3 b w.port (some (w.tenant, w.queue))).countError 3 row)

/-- Write a row through a port: the write clears the row's mark, or sets it when the output is poisoned; a
write after the gate has closed is dropped and flagged (R66, R67). -/
def Die.writeRow (d : Die) (w : Who) (row : Nat) (v : Row) (poison : Bool) : Bool × Die :=
  let b := bankOf row
  if !d.bankPowered b then (false, d.shelfFault 2 b w.port (some (w.tenant, w.queue)))
  else
    (true, { d with shelf := { d.shelf with
      rows := SMap.put (fun _ => 0#4096) d.shelf.rows row v
      marks := SMap.put (fun _ => 0) d.shelf.marks row (if poison then 0xFF else 0)
      damage := SMap.put (fun _ => 0) d.shelf.damage row 0
      rewrites := d.shelf.rewrites.filter (· != row) } })

/-- A row with one 64-byte part replaced. -/
def mergeRow (row part : Nat) (v : Line) : Row := BitVec.ofNat 4096 (setFld row (512 * part + 511) (512 * part) v.toNat)

/-- Write one 64-byte part of a row, for a line of a SHELF page: the other parts keep their bits, their errors and their
mark (DESIGN CHOICE, log entry 81). The part itself is whole again, and its mark follows what is written (R48, R66, R67). -/
def Die.writeRowPart (d : Die) (w : Who) (row part : Nat) (v : Line) (poison : Bool) : Bool × Die :=
  let b := bankOf row
  if !d.bankPowered b then (false, d.shelfFault 2 b w.port (some (w.tenant, w.queue)))
  else
    let raw := SMap.get (fun _ => 0#4096) d.shelf.rows row
    let span := if d.bankWeight b then 1 else 4
    let mask := SMap.get (fun _ => 0) d.shelf.damage row
    (true, { d with shelf := { d.shelf with
      rows := SMap.put (fun _ => 0#4096) d.shelf.rows row (mergeRow raw.toNat part v)
      marks := SMap.put (fun _ => 0) d.shelf.marks row (setFld (d.rowMark row) part part (if poison then 1 else 0))
      damage := SMap.put (fun _ => 0) d.shelf.damage row (setFld mask (span * (part + 1) - 1) (span * part) 0)
      rewrites := d.shelf.rewrites.filter (· != row) } })

/-- Ports and directions a port group lists (Table 3.2): write when the flag is true. -/
def groupAllows (owner port : Nat) (write : Bool) : Bool :=
  match owner with
  | 1 => (port == 0 && !write) || (port == 4 && write)
  | 2 => (port == 1 && !write) || (port == 2 && write) || port == 3 || port == 4
  | 3 => port == 5 || port == 3 || port == 4
  | 4 => port == 6 || (port == 1 && !write) || port == 3
  | 5 => port == 4
  | 6 => port == 3
  | _ => false

/-- Whether a bank's tenant field lets a tenant read or write (R55). -/
def tenantAllows (field code : Nat) (write : Bool) : Bool :=
  code == mgmtCode || field == code || (field == 0x7F && !write)

/-- Clear a bank to zero with valid check bits, spare rows included (R65). -/
def Die.zeroBank (d : Die) (b : Nat) : Die :=
  let inBank := fun (r : Nat) => decide (bankOf r = b)
  { d with shelf := { d.shelf with
    rows := d.shelf.rows.filter fun kv => !inBank kv.1
    marks := d.shelf.marks.filter fun kv => !inBank kv.1
    damage := d.shelf.damage.filter fun kv => !inBank kv.1
    rewrites := d.shelf.rewrites.filter fun r => !inBank r } }

/-- Fields of a declared slot (R59): first row, count. -/
def Die.slotRange (d : Die) (n : Nat) : Nat × Nat :=
  (d.rf (Reg.SHF_SLOT_RANGE n) 16 0, d.rf (Reg.SHF_SLOT_RANGE n) 27 17)

/-- Whether a slot is declared. -/
def Die.slotDeclared (d : Die) (n : Nat) : Bool := (d.reg (Reg.SHF_SLOT_CTRL n)).b 0

/-- Slots whose control register is listed and DECLARED; an unlisted one holds its reset value. -/
def Die.declaredSlots (d : Die) : List Nat :=
  (d.regs.filterMap fun kv =>
    if Reg.SHF_SLOT_CTRL 0 ≤ kv.1 ∧ kv.1 ≤ Reg.SHF_SLOT_CTRL 1023 ∧ (kv.1 - Reg.SHF_SLOT_CTRL 0) % 8 = 0 ∧ kv.2.b 0 then
      some ((kv.1 - Reg.SHF_SLOT_CTRL 0) / 8)
    else none)

/-! ### Page table and tier check (R269 to R273) -/

/-- Where a page's entry lies: directory entries that name one leaf table share its entries, kept under the lowest of them
(R269). -/
def Die.ptPlace (d : Die) (page : Nat) : Nat :=
  match SMap.get (fun _ => 0) d.tier.dir (page / 65536) with
  | 0 => page
  | leaf => ((d.tier.dir.find? fun kv => kv.2 == leaf).map fun kv => 65536 * kv.1 + page % 65536).getD page

/-- The page-table entry of a page, all zero when none has been written (R270). -/
def Die.pte (d : Die) (page : Nat) : BitVec 128 := SMap.get (fun _ => 0#128) d.tier.pages (d.ptPlace page)

/-- Store a page-table entry. -/
def Die.setPte (d : Die) (page : Nat) (e : BitVec 128) : Die :=
  { d with tier := { d.tier with pages := SMap.put (fun _ => 0#128) d.tier.pages (d.ptPlace page) e } }

/-- A field of a page-table entry. -/
def pteF (e : BitVec 128) (hi lo : Nat) : Nat := fld e.toNat hi lo

/-- A page-table entry with a field set. -/
def pteSet (e : BitVec 128) (hi lo v : Nat) : BitVec 128 := BitVec.ofNat 128 (setFld e.toNat hi lo v)

/-- TIER of an entry. -/
def pteTier (e : BitVec 128) : Nat := pteF e 3 0
/-- RO of an entry. -/
def pteRo (e : BitVec 128) : Bool := e.getLsbD 4
/-- PARKED of an entry. -/
def pteParked (e : BitVec 128) : Bool := e.getLsbD 5
/-- CACHED of an entry. -/
def pteCached (e : BitVec 128) : Bool := e.getLsbD 6
/-- PIN of an entry. -/
def ptePin (e : BitVec 128) : Bool := e.getLsbD 7
/-- KEY of an entry. -/
def pteKey (e : BitVec 128) : Nat := pteF e 14 8
/-- MOVING of an entry. -/
def pteMoving (e : BitVec 128) : Bool := e.getLsbD 15
/-- HOME of an entry. -/
def pteHome (e : BitVec 128) : Nat := pteF e 19 16
/-- PARK_ID of an entry. -/
def ptePark (e : BitVec 128) : Nat := pteF e 35 20
/-- RGROUP of an entry. -/
def pteGroup (e : BitVec 128) : Nat := pteF e 45 36
/-- FRAME of an entry. -/
def pteFrame (e : BitVec 128) : Nat := pteF e 95 64
/-- HOME_FRAME of an entry. -/
def pteHomeFrame (e : BitVec 128) : Nat := pteF e 127 96

/-- Whether the directory entry over a page is VALID (R269). -/
def Die.dirValid (d : Die) (page : Nat) : Bool := (SMap.get (fun _ => 0) d.tier.dir (page / 65536)) % 2 == 1

/-- Whether a page lies in a window of a tenant that permits a direction (R272). -/
def Die.inWindow (d : Die) (code page : Nat) (write : Bool) : Bool :=
  (List.range 8).any fun w =>
    let sz := d.reg (Reg.TIR_WIN_SIZE code w)
    let base := (d.reg (Reg.TIR_WIN_BASE code w)).toNat
    decide (base ≤ page) && decide (page < base + sz.f 29 0) && (if write then sz.b 31 else sz.b 30)

/-- The first failing check of Table 12.3, 0 when all pass (R273). `skipParked` is T.RESTORE's exemption. -/
def Die.tierCheck (d : Die) (code page : Nat) (write skipParked : Bool) : Nat :=
  let e := d.pte page
  if !((d.reg Reg.TIR_CTRL).b 0 && d.dirValid page && pteTier e != 0) then 1
  else if code != mgmtCode && !d.inWindow code page write then 2
  else if code != mgmtCode && !(pteKey e == code || (pteKey e == 0x7F && !write)) then 3
  else if write && pteRo e then 4
  else if pteParked e && !skipParked then 5
  else 0

/-- Log a tier-check failure and set its flag (R273, Tables 12.9 and 12.10). -/
def Die.tierFault (d : Die) (code page : Nat) (write : Bool) (chk : Nat) : Die :=
  ((d.setReg Reg.TIR_FAULT_LOG (BitVec.ofNat 32
      (code % 128 * 2 ^ 12 + (if write then 2 ^ 8 else 0) + pteTier (d.pte page) * 2 ^ 4 + chk))).setReg
    Reg.TIR_FAULT_PAGE (BitVec.ofNat 32 page)).err Reg.TIR_ERR (chk - 1)

/-- A translation passes through the page-table cache of 8,192 entries of four pages; a miss is counted
(R269, Table 1.2). -/
def Die.ptTouch (d : Die) (page : Nat) : Die :=
  let k := d.ptPlace page / 4
  if d.tier.ptCache.contains k then
    { d with tier := { d.tier with ptCache := (d.tier.ptCache.filter (· != k)) ++ [k] } }
  else
    let c := if d.tier.ptCache.length < 8192 then d.tier.ptCache else d.tier.ptCache.drop 1
    ({ d with tier := { d.tier with ptCache := c ++ [k] } }).count Reg.TIR_PT_MISS 1

/-- The first page of a list that fails the tier check, each looked up in turn (R269, R273). -/
def Die.firstDenied (d : Die) (code : Nat) (write skipParked : Bool) : List Nat → Option Nat × Die
  | [] => (none, d)
  | g :: gs =>
    if d.tierCheck code g write skipParked = 0 then (d.ptTouch g).firstDenied code write skipParked gs
    else (some g, d.ptTouch g)

/-- Record an access to a page in the open firing (R280). -/
def Die.ptAccess (d : Die) (page : Nat) : Die :=
  { d with tier := { d.tier with recency := SMap.put (fun _ => 0) d.tier.recency (d.ptPlace page) (d.firing + 1) } }

/-! ### LOCAL lines (R313 to R319) -/

/-- Key code no page can carry (R270). -/
abbrev noCode : Nat := 0xFF

/-- How the check word of a poisoned line differs from the code's value (R316). -/
def poisonFlips : Nat := 0x5A5AA5A5 <<< 544

/-- A LOCAL line not written since the boot: its code holds and its MAC is of no key in force, so it fails check 5
(R428; DESIGN CHOICE, log entry 5). -/
def LineCell.blank : LineCell := ⟨0#512, noCode, 0, 0, 0, false⟩

/-- A poisoned line: zero ciphertext whose check word is off by the poison syndrome (R316). -/
def LineCell.poisoned : LineCell := ⟨0#512, mgmtCode, 0, 0, poisonFlips, false⟩

/-- Whether check 2 of Table 14.2 finds the poison syndrome (R316). -/
def LineCell.poison (c : LineCell) : Bool := c.flips == poisonFlips

/-- A line some of whose bits turn over (log entry 97). -/
def LineCell.struck (c : LineCell) (flips : Nat) (forged : Bool) : LineCell :=
  { c with flips := c.flips ^^^ flips, forged := c.forged || forged }

/-- Bits from the lowest to the highest that are wrong. -/
def burst (flips : Nat) : Nat := if flips = 0 then 0 else Nat.log2 flips + 1 - Nat.log2 (flips &&& (flips ^^^ (flips - 1)))

/-- What the code of a line says: 0 it holds, 1 a correctable burst, 2 uncorrectable. It corrects a burst of up to 16 bits and
detects one of up to 32; beyond that its answer is open (R314). -/
def LineCell.verdict (c : LineCell) : Nat :=
  if c.flips = 0 ∨ c.forged then 0
  else if burst c.flips ≤ 16 then 1
  else if burst c.flips ≤ 32 then 2
  else min 2 (Config.codeBeyond c.flips)

/-- The line as its code leaves it: a burst it can correct is gone, and other wrong bits stay (R314, R315). -/
def LineCell.corrected (c : LineCell) : LineCell :=
  if burst c.flips ≤ 16 then { c with flips := 0 } else { c with flips := 0, forged := true }

/-- Frames of LOCAL that exist (R313, Table 14.5). -/
def Die.localFrames (d : Die) : Nat := d.rf Reg.DMC_CAP 20 0

/-- Segment of a LOCAL frame (R313): each segment is an eighth of every device, seven of them usable. -/
def Die.segmentOf (d : Die) (frame : Nat) : Nat := frame * 7 / d.localFrames

/-- What an unlisted LOCAL line holds. -/
def Die.lineDefault (d : Die) (n : Nat) : LineCell :=
  if d.dmc.cleared.contains (d.segmentOf (n / 1024)) then LineCell.poisoned else LineCell.blank

/-- A LOCAL line cell by line number P / 64. -/
def Die.lineCell (d : Die) (n : Nat) : LineCell := SMap.get d.lineDefault d.dmc.lines n

/-- Bits of a LOCAL line change in the device. -/
def Die.putLine (d : Die) (n : Nat) (c : LineCell) : Die :=
  { d with dmc := { d.dmc with lines := SMap.put d.lineDefault d.dmc.lines n c } }

/-- Store a LOCAL line cell; a write makes a waiting rewrite of the line pointless (R317). -/
def Die.setLine (d : Die) (n : Nat) (c : LineCell) : Die :=
  { d with dmc := { d.dmc with
    lines := SMap.put d.lineDefault d.dmc.lines n c
    rewrites := d.dmc.rewrites.filter (· != n) } }

/-- Generation of the key in a DMC slot, 0 when the slot is empty (R319). -/
def Die.keyGen (d : Die) (code : Nat) : Nat := SMap.get (fun _ => 0) d.dmc.keys code

/-- Epoch of the 4 KiB page that holds a line (R318). -/
def Die.lineEpoch (d : Die) (n : Nat) : Nat := SMap.get (fun _ => 0) d.dmc.epochs (n / 64)

/-- Record the address of a DMC failure (R315). -/
def Die.dmcAddr (d : Die) (n : Nat) : Die :=
  (d.setReg Reg.DMC_ERR_ADDR_LO (BitVec.ofNat 32 ((64 * n) % 2 ^ 32))).setReg Reg.DMC_ERR_ADDR_HI
    (BitVec.ofNat 32 ((64 * n) / 2 ^ 32 % 16))

/-- Address of a line in its channel: A of R313, at its first byte. -/
def channelAddr (n : Nat) : Nat := (64 * n / 4096) * 256 + 64 * n % 256

/-- DRAM location of a line for the tracker: channel, bank, row (R313, Table 20.1). -/
def dramLocation (n : Nat) : Nat :=
  64 * n / 256 % 16 * 2 ^ 24 + channelAddr n / 2 ^ 11 % 16 * 2 ^ 20 + channelAddr n / 2 ^ 15 % 2 ^ 17

/-- Channel × 16 + bank of a line (R313). -/
def bankKey (n : Nat) : Nat := dramLocation n / 2 ^ 20

/-- Row of a line (R313). -/
def rowOf (n : Nat) : Nat := dramLocation n % 2 ^ 20

/-- Check 5 of Table 14.2: the line is as it was written under the key and epoch now in force. -/
def Die.macOk (d : Die) (code n : Nat) (c : LineCell) : Bool :=
  c.key == code && c.gen == d.keyGen code && c.epoch == d.lineEpoch n && c.flips == 0 && !c.forged

/-- An error of a line's code: P is recorded, and the row counts one error (R315, R470). -/
def Die.codeError (d : Die) (n : Nat) : Die := (d.dmcAddr n).countError 4 (dramLocation n)

/-- A line failed check 3 twice: it is rewritten as poisoned (R315). -/
def Die.loseLine (d : Die) (n : Nat) : Die :=
  (((d.codeError n).setLine n LineCell.poisoned).count Reg.DMC_UE_COUNT 1).err Reg.DMC_ERR Bit.DMC_ERR_UNCORRECTABLE

/-- A correctable burst is corrected; the line waits for its rewrite (R315). -/
def Die.lineCorrected (d : Die) (n : Nat) (c : LineCell) : LineCell × Die :=
  if c.verdict = 1 then
    (c.corrected, (({ d with dmc := { d.dmc with rewrites := setInsert n d.dmc.rewrites } } : Die).codeError n).count
      Reg.DMC_CE_COUNT 1)
  else (c, d)

/-- Checks 4 and 5 of Table 14.2 on a line that passes its code, and its delivery (R315). -/
def Die.openLine (d : Die) (code n : Nat) (c : LineCell) : UnitRd × Die :=
  if d.keyGen code = 0 then (⟨0, true, false⟩, (d.dmcAddr n).err Reg.DMC_ERR Bit.DMC_ERR_NOKEY)
  else if !d.macOk code n c then
    (⟨0, true, false⟩, ((d.dmcAddr n).count Reg.DMC_MAC_FAIL 1).err Reg.DMC_ERR Bit.DMC_ERR_MAC)
  else (⟨c.data.toNat, false, false⟩, d)

/-- Checks 2 to 5 of Table 14.2 on a line as one read brings it (R315, R316). -/
def Die.checkedLine (d : Die) (code n : Nat) (c : LineCell) : UnitRd × Die :=
  if c.poison then (⟨0, true, false⟩, d)
  else
    let q := d.lineCorrected n c
    q.2.openLine code n q.1

/-- Read a LOCAL line under a KEY code with the checks of Table 14.2; a line that comes back uncorrectable is read once more
(R315, R316). `first` is the line as the first read brings it. -/
def Die.readThrough (d : Die) (code n : Nat) (first : LineCell) : UnitRd × Die :=
  if first.verdict ≠ 2 ∨ first.poison then d.checkedLine code n first
  else
    let again := d.lineCell n
    if again.verdict = 2 ∧ again.poison = false then (⟨0, true, false⟩, d.loseLine n)
    else (d.codeError n).checkedLine code n again

/-- Read a LOCAL line as it is stored. -/
def Die.readLocal (d : Die) (code n : Nat) : UnitRd × Die := d.readThrough code n (d.lineCell n)

/-- What a write puts into a line: ciphertext, MAC and check word under the key and epoch in force, or poison (R314, R316). -/
def Die.writtenLine (d : Die) (code n : Nat) (v : Line) (poison : Bool) : LineCell :=
  if poison then LineCell.poisoned else ⟨v, code, d.keyGen code, d.lineEpoch n, 0, false⟩

/-- Write a whole LOCAL line under a KEY code; an empty key slot drops the write (R314, R319). The Boolean
tells whether the write landed. -/
def Die.writeLocal (d : Die) (code n : Nat) (v : Line) (poison : Bool) : Bool × Die :=
  if d.keyGen code = 0 then (false, (d.dmcAddr n).err Reg.DMC_ERR Bit.DMC_ERR_NOKEY)
  else (true, d.setLine n (d.writtenLine code n v poison))

/-- The bytes of `new` where the mask has a 1, those of `old` elsewhere. -/
def mergeBytes (mask : BitVec 64) (old new : Line) : Line :=
  BitVec.ofNat 512 (ofBytes ((List.range 64).map fun i => if mask.getLsbD i then byteOf new.toNat i else byteOf old.toNat i))

/-- A partial write of a LOCAL line: it is merged by read-modify-write, and dropped under an empty key slot or on a line that
reads bad, which stays as it was (R317, R319). -/
def Die.mergeLocal (d : Die) (code n : Nat) (mask : BitVec 64) (v : Line) : Bool × Die :=
  if d.keyGen code = 0 then (false, (d.dmcAddr n).err Reg.DMC_ERR Bit.DMC_ERR_NOKEY)
  else
    let p := d.readLocal code n
    if p.1.bad then
      (false, ({ p.2 with dmc := { p.2.dmc with lines := d.dmc.lines } } : Die).err Reg.DMC_ERR Bit.DMC_ERR_PARTIAL_POISON)
    else p.2.writeLocal code n (mergeBytes mask (BitVec.ofNat 512 p.1.data) v) false

/-! ### Row disturbance (R326, R327) -/

/-- The entry of lowest count, the first on a tie. -/
def lowestRow : List (Nat × Nat) → Option (Nat × Nat)
  | [] => none
  | r :: rs =>
    match lowestRow rs with
    | none => some r
    | some q => if q.2 < r.2 then some q else some r

/-- Count an activate in a bank's tracker of 64 rows: the new tracker and the row's count (R326). -/
def trackRow (t : List (Nat × Nat)) (row : Nat) : List (Nat × Nat) × Nat :=
  match t.find? fun r => r.1 == row with
  | some r => (t.map fun q => if q.1 = row then (row, r.2 + 1) else q, r.2 + 1)
  | none =>
    if t.length < 64 then (t ++ [(row, 1)], 1)
    else
      match lowestRow t with
      | none => (t, 0)
      | some q => (t.map fun o => if o = q then (row, q.2 + 1) else o, q.2 + 1)

/-- A bank's activates since its last refresh management reach the limit the device reports: the DMC issues one for the bank
(R326). -/
def Die.raaCount (d : Die) (bank : Nat) : Die :=
  let n := SMap.get (fun _ => 0) d.dmc.raa bank + 1
  if d.dmc.raaLimit = 0 then d
  else
    let d1 : Die := { d with dmc := { d.dmc with raa := SMap.put (fun _ => 0) d.dmc.raa bank (if d.dmc.raaLimit ≤ n then 0 else n) } }
    if d.dmc.raaLimit ≤ n then d1.emit (.rfm bank none) else d1

/-- An activate by a requester; at THRESH the row's count returns to 0 and an action is due (R326). -/
def Die.activate (d : Die) (n tenant queue : Nat) : Die :=
  let t := trackRow (SMap.get (fun _ => []) d.dmc.rows (bankKey n)) (rowOf n)
  let hit := decide (d.rf Reg.DMC_RH_CFG 15 0 ≤ t.2)
  let rows := if hit then t.1.map fun q => if q.1 = rowOf n then (q.1, 0) else q else t.1
  ({ d with dmc := { d.dmc with
    rows := SMap.put (fun _ => []) d.dmc.rows (bankKey n) rows
    openRows := SMap.put (fun _ => 0) d.dmc.openRows (bankKey n) (rowOf n + 1)
    rhDue := if hit then d.dmc.rhDue ++ [(bankKey n, rowOf n, tenant, queue)] else d.dmc.rhDue } } : Die).raaCount (bankKey n)

/-- An access to a line activates its row unless the bank has it open (R326; DESIGN CHOICE, log entry 98: a row stays open
until another of its bank is accessed, or `closed` says that it was closed). -/
def Die.openRow (d : Die) (n tenant queue : Nat) (closed : Bool) : Die :=
  if closed ∨ SMap.get (fun _ => 0) d.dmc.openRows (bankKey n) ≠ rowOf n + 1 then d.activate n tenant queue else d

end Sys2Proof.Machine
end

