-- ==== Sys2Proof/Machine/Descriptor.lean ====
section
/-! DEFINITION. Descriptors: their fields, streams and address patterns, the dispatch checks of Table 8.7, and
the Shelves and tier checks every unit runs at start (chapters 03, 08 and 12). -/

namespace Sys2Proof.Machine

/-! ### Fields (R170, R171, R182) -/

/-- Bits `hi..lo` of a descriptor. -/
def dF (d : DescBits) (hi lo : Nat) : Nat := fld d.toNat hi lo

/-- OPCODE. -/
def opcodeOf (d : DescBits) : Nat := dF d 7 0
/-- FORM: the extended form when true. -/
def isExt (d : DescBits) : Bool := d.getLsbD 8
/-- NWAIT. -/
def nwait (d : DescBits) : Nat := dF d 11 9
/-- NSIG. -/
def nsig (d : DescBits) : Nat := dF d 13 12
/-- HANDOFF present. -/
def hasHandoff (d : DescBits) : Bool := d.getLsbD 14
/-- NOTIFY. -/
def notifyBit (d : DescBits) : Bool := d.getLsbD 15
/-- IRQ. -/
def irqBit (d : DescBits) : Bool := d.getLsbD 16
/-- NOPOISON bit of WAIT[i]. -/
def noPoison (d : DescBits) (i : Nat) : Bool := d.getLsbD (17 + i)
/-- TAG. -/
def tagOf (d : DescBits) : Nat := dF d 63 32

/-- WAIT[i]: counter and value. -/
def waitOf (d : DescBits) (i : Nat) : Nat × Nat :=
  let o := 0x40 + 48 * i
  (dF d (o + 15) o, dF d (o + 47) (o + 16))

/-- SIGNAL[j]: counter and increment. -/
def signalOf (d : DescBits) (j : Nat) : Nat × Nat :=
  let o := 0x100 + 32 * j
  (dF d (o + 15) o, dF d (o + 31) (o + 16))

/-- The wait entries used. -/
def waitsOf (d : DescBits) : List (Nat × Nat) := (List.range (min 4 (nwait d))).map (waitOf d)

/-- The signal entries used. -/
def signalsOf (d : DescBits) : List (Nat × Nat) := (List.range (min 2 (nsig d))).map (signalOf d)

/-- Bit `i` of the PARAM area. -/
def paramBase (d : DescBits) : Nat := if isExt d then 8 * 0xB0 else 8 * 0x68

/-- Bits `hi..lo` of the PARAM area (Table 8.6). -/
def pF (d : DescBits) (hi lo : Nat) : Nat := dF d (paramBase d + hi) (paramBase d + lo)

/-- Bit `i` of the PARAM area. -/
def pB (d : DescBits) (i : Nat) : Bool := d.getLsbD (paramBase d + i)

/-- HANDOFF word: first bank, bank count, new owner. -/
def handoffOf (d : DescBits) : Nat × Nat × Nat :=
  let o := if isExt d then 8 * 0xAC else 8 * 0x64
  (dF d (o + 6) o, dF d (o + 13) (o + 7), dF d (o + 17) (o + 14))

/-! ### Streams (R176 to R179) -/

/-- A STREAM entry (Table 8.3). -/
structure Stream where
  first : Nat
  levels : Nat
  space : Nat
  fmt : Nat
  base : Nat
  /-- Levels a table of records adds beyond the pool's (R184). -/
  extra : List (Nat × Int)
  deriving DecidableEq, Repr

/-- STREAM[i] as the descriptor spells it. -/
def streamOf (d : DescBits) (i : Nat) : Stream :=
  let o := 0x140 + 64 * i
  ⟨dF d (o + 61) (o + 57), dF d (o + 56) (o + 54), dF d (o + 53) (o + 52), dF d (o + 51) (o + 48), dF d (o + 47) o, []⟩

/-- No stream. -/
def Stream.absent : Stream := ⟨0, 0, 0, 0, 0, []⟩

/-- Whether a stream is present. -/
def Stream.present (s : Stream) : Bool := s.space != 0

/-- Entries in the LEVEL pool (Table 8.1). -/
def poolSize (d : DescBits) : Nat := if isExt d then 18 else 6

/-- A LEVEL entry: count and signed stride. -/
def levelOf (d : DescBits) (i : Nat) : Nat × Int :=
  let o := 8 * 0x40 + 48 * i
  (dF d (o + 15) o, toSigned 32 (dF d (o + 47) (o + 16)))

/-- The levels of a stream, innermost first (R178). -/
def levelsOf (d : DescBits) (s : Stream) : List (Nat × Int) :=
  (List.range s.levels).map (fun i => levelOf d (s.first + i)) ++ s.extra

/-- Whether a stream is the TABLE of M.GATHER or M.SCATTER. -/
def isTable (op i : Nat) : Bool := (op == 0x41 && i == 0) || (op == 0x42 && i == 2)

/-- STREAM[i] with the reach it has: a TABLE reaches records 0 to limit − 1 of rec_units units each (R184). -/
def reachStream (d : DescBits) (i : Nat) : Stream :=
  let s := streamOf d i
  if isTable (opcodeOf d) i then
    { s with extra := [(max 1 (pF d 15 0), 1), (max 1 (pF d 71 40), toSigned 32 (pF d 103 72))] }
  else s

/-- Number of units a stream yields. -/
def unitCount (d : DescBits) (s : Stream) : Nat := (levelsOf d s).foldl (fun n l => n * l.1) 1

/-- Offsets in yield order: the innermost level runs fastest (R178). -/
def offsets : List (Nat × Int) → List Int
  | [] => [0]
  | l :: ls => (offsets ls).flatMap fun o => (List.range l.1).map fun (i : Nat) => o + (i : Int) * l.2

/-- Base unit of a stream: a row, a line number, or an accumulator row (R177). -/
def Stream.baseUnit (s : Stream) : Int := if s.space = 2 then ((s.base / 64 : Nat) : Int) else (s.base : Int)

/-- The units a stream yields, in order (R178). -/
def unitsOf (d : DescBits) (s : Stream) : List Int := (offsets (levelsOf d s)).map fun o => s.baseUnit + o

/-- Lowest and highest unit a stream can reach (R179). -/
def reachOf (d : DescBits) (s : Stream) : Int × Int :=
  (levelsOf d s).foldl (fun r l =>
    let span := ((l.1 : Int) - 1) * l.2
    (r.1 + min 0 span, r.2 + max 0 span)) (s.baseUnit, s.baseUnit)

/-- Bytes of a stream's unit. -/
def Stream.unitBytes (s : Stream) : Nat := if s.space = 1 then 512 else 64

/-! ### Opcodes (Table 8.4) -/

/-- The executing units of Table 1.4. -/
inductive ExecUnit where
  | scheduler
  | kiln
  | wheel
  | glaze
  | mover
  | pug
  | tier
  | camera
  | link
  deriving DecidableEq, Repr

/-- Executing unit of an opcode (Table 1.4); none for an illegal opcode. -/
def unitOf (op : Nat) : Option ExecUnit :=
  match op with
  | 0x00 => some .scheduler
  | 0x10 => some .kiln
  | 0x11 => some .kiln
  | 0x20 => some .wheel
  | 0x21 => some .wheel
  | 0x22 => some .wheel
  | 0x23 => some .wheel
  | 0x30 => some .glaze
  | 0x31 => some .glaze
  | 0x32 => some .glaze
  | 0x33 => some .glaze
  | 0x34 => some .glaze
  | 0x35 => some .glaze
  | 0x40 => some .mover
  | 0x41 => some .mover
  | 0x42 => some .mover
  | 0x43 => some .mover
  | 0x50 => some .pug
  | 0x51 => some .pug
  | 0x60 => some .scheduler
  | 0x61 => some .scheduler
  | 0x62 => some .scheduler
  | 0x63 => some .scheduler
  | 0x70 => some .glaze
  | 0x71 => some .mover
  | 0x72 => some .glaze
  | 0x80 => some .tier
  | 0x81 => some .tier
  | 0x82 => some .tier
  | 0x83 => some .tier
  | 0x90 => some .camera
  | 0x91 => some .camera
  | 0xA0 => some .link
  | 0xA1 => some .link
  | _ => none

/-- Fence register of a unit; the scheduler has none (Table 20.3). The camera is the image front end. -/
def fenceOf (u : ExecUnit) : Option Nat :=
  match u with
  | .scheduler => none
  | .kiln => some Reg.KLN_FENCE
  | .wheel => some Reg.WHL_FENCE
  | .glaze => some Reg.GLZ_FENCE
  | .mover => some Reg.SCH_DM_FENCE
  | .pug => some Reg.PUG_FENCE
  | .tier => some Reg.TIR_FENCE
  | .camera => some Reg.IFE_FENCE
  | .link => some Reg.LNK_FENCE

/-- Whether a stream must be there, may be, or must not be. -/
inductive Need where
  | must
  | may
  | never
  deriving DecidableEq, Repr

/-- The role of one stream: presence, allowed spaces, direction and Shelves port (Tables 3.1 and 8.4). -/
structure Role where
  need : Need
  spaces : List Nat
  write : Bool
  port : Nat
  deriving DecidableEq, Repr

/-- No stream. -/
def Role.none : Role := ⟨.never, [], false, 0⟩

/-- The roles of the three streams of an opcode; V.EMIT's follow its kind, in PARAM bits [1:0] (Tables 8.4,
11.2, 12.6 and 15.5; R259, R356, R386). -/
def rolesOf (op kind : Nat) : List Role :=
  let s := fun (port : Nat) (w : Bool) => (⟨.must, [1], w, port⟩ : Role)
  let sm := fun (port : Nat) (w : Bool) => (⟨.must, [1, 2], w, port⟩ : Role)
  let sa := (⟨.must, [1, 3], false, 3⟩ : Role)
  let so := fun (port : Nat) (w : Bool) => (⟨.may, [1], w, port⟩ : Role)
  let n := Role.none
  match op with
  | 0x10 => [s 1 false, so 1 false, n]
  | 0x11 => [s 0 false, so 1 false, so 2 true]
  | 0x20 => [sm 5 false, s 5 false, sm 5 true]
  | 0x21 => [s 5 false, s 5 false, s 5 true]
  | 0x22 => [s 5 false, s 5 false, s 5 false]
  | 0x23 => [s 5 false, n, n]
  | 0x30 => [sa, ⟨.may, [1, 3], false, 3⟩, s 3 true]
  | 0x31 => [sa, so 3 false, s 3 true]
  | 0x32 => [sa, s 3 true, so 3 true]
  | 0x33 => [sa, s 3 false, s 3 true]
  | 0x34 => [sa, so 3 false, s 3 true]
  | 0x35 => [sa, s 3 true, s 3 true]
  | 0x40 => [sm 4 false, sm 4 true, n]
  | 0x41 => [sm 4 false, sm 4 false, sm 4 true]
  | 0x42 => [sm 4 false, sm 4 false, sm 4 true]
  | 0x43 => [sm 4 true, n, n]
  | 0x50 => [sm 4 false, sm 4 true, n]
  | 0x51 => [sm 4 false, sm 4 true, n]
  | 0x70 => [sm 3 false, s 3 false, s 3 true]
  | 0x71 =>
    match kind with
    | 0 => [s 4 false, n, n]
    | 1 => [⟨.must, [2], false, 4⟩, n, n]
    | _ => [n, n, n]
  | 0x72 => [s 3 false, s 3 false, s 3 true]
  | 0x80 => [⟨.must, [2], false, 4⟩, so 4 false, n]
  | 0x81 => [⟨.must, [2], false, 4⟩, n, n]
  | 0x82 => [s 4 false, n, n]
  | 0x83 => [s 4 false, n, n]
  | 0x90 => [⟨.may, [2], true, 6⟩, ⟨.may, [2], true, 6⟩, ⟨.may, [1, 2], true, 6⟩]
  | 0x91 => [sm 6 true, ⟨.may, [2], true, 6⟩, n]
  | 0xA0 => [⟨.may, [1, 2], false, 4⟩, n, n]
  | 0xA1 => [⟨.may, [1, 2], false, 4⟩, n, n]
  | _ => [n, n, n]

/-- Roles of a descriptor's streams. -/
def rolesOfDesc (d : DescBits) : List Role := rolesOf (opcodeOf d) (pF d 1 0)

/-- Opcodes that must use the extended form (R170). -/
def needsExt (op : Nat) : Bool := op == 0x21 || op == 0x70 || op == 0x72

/-! ### Dispatch checks (Table 8.7) -/

/-- Cause 0x6 for one stream. -/
def roleOk (r : Role) (s : Stream) : Bool :=
  match r.need with
  | .must => r.spaces.contains s.space
  | .may => !s.present || r.spaces.contains s.space
  | .never => !s.present

/-- Cause 0x7 for one stream: levels, pool bounds, nonzero counts. -/
def levelsOk (d : DescBits) (s : Stream) : Bool :=
  !s.present || (decide (s.levels ≤ 6) && decide (s.first + s.levels ≤ poolSize d) &&
    (levelsOf d s).all fun l => l.1 != 0)

/-- Cause 0x8 for one stream: base in range and aligned, format legal. -/
def baseOk (s : Stream) : Bool :=
  !s.present ||
    (s.fmt != 0xF &&
      match s.space with
      | 1 => decide (s.base < shelfRows)
      | 2 => s.base % 64 == 0
      | _ => decide (s.base < 2048))

/-- The streams of a descriptor paired with their roles. -/
def streamRoles (d : DescBits) : List (Stream × Role) :=
  ((List.range 3).map (reachStream d)).zip (rolesOfDesc d)

/-- The cause of the first dispatch check that fails, 0 when all pass (R191, Table 8.7). -/
def Die.dispatchCause (d : Die) (tenant : Nat) (x : DescBits) : Nat :=
  let op := opcodeOf x
  if (unitOf op).isNone then 1
  else if needsExt op && !isExt x then 2
  else if 4 < nwait x || (op == 0x00 && nwait x != 0) || 2 < nsig x then 3
  else if !((waitsOf x).all fun w => d.evtPermitted tenant w.1) || !((signalsOf x).all fun w => d.evtPermitted tenant w.1) then 4
  else if !((signalsOf x).all fun w => w.2 != 0) then 5
  else if !((streamRoles x).all fun p => roleOk p.2 p.1) || (op == 0x71 && pF x 1 0 == 3) then 6
  else if !((streamRoles x).all fun p => levelsOk x p.1) then 7
  else if !((streamRoles x).all fun p => baseOk p.1) || (op == 0x61 && pF x 1 0 == 3) ||
      (op == 0x63 && !pB x 0 && pF x 31 16 == 0) then 8
  else 0

/-- Status of a dispatch failure (Table 8.7). -/
def dispatchStatus (cause : Nat) : Nat := if cause = 4 then 0x0E else 0x01

/-! ### Slots a descriptor reaches (R60) -/

/-- Row ranges a descriptor's Shelves streams reach, with their direction; only streams whose entries pass
causes 0x6 to 0x8 take part (R192). DESIGN CHOICE: a memory stream reaches no slot through a SHELF page (R60; log entry
91). -/
def shelfReaches (x : DescBits) : List (Int × Int × Bool) :=
  (streamRoles x).filterMap fun p =>
    if p.1.space = 1 ∧ roleOk p.2 p.1 ∧ levelsOk x p.1 ∧ baseOk p.1 then
      let r := reachOf x p.1
      some (r.1, r.2, p.2.write)
    else none

/-- Whether a row range reaches a slot's rows. -/
def reachesSlot (lo hi : Int) (rg : Nat × Nat) : Bool :=
  decide (lo ≤ ((rg.1 + rg.2 : Nat) : Int) - 1) && decide ((rg.1 : Int) ≤ hi)

/-- How a descriptor uses each declared slot its streams reach (R60, Table 3.4). -/
def Die.slotUses (d : Die) (x : DescBits) : List (Nat × SlotRole) :=
  let rs := shelfReaches x
  d.declaredSlots.filterMap fun n =>
    let rg := d.slotRange n
    let w := rs.any fun r => r.2.2 && reachesSlot r.1 r.2.1 rg
    let r := rs.any fun r => !r.2.2 && reachesSlot r.1 r.2.1 rg
    if w && r then some (n, .both) else if w then some (n, .writer) else if r then some (n, .reader) else none

/-- Slots the descriptor waits on: those it reaches, when they are at most 8 (R60). -/
def Die.slotUses8 (d : Die) (x : DescBits) : List (Nat × SlotRole) :=
  let u := d.slotUses x
  if u.length ≤ 8 then u else []

/-- Whether an entry has started and not yet completed. -/
def Entry.running (e : Entry) : Bool := e.began

/-- GEN of a slot. -/
def Die.slotGen (d : Die) (n : Nat) : Nat := d.rf (Reg.SHF_SLOT_CTRL n) 31 16
/-- READS_LEFT of a slot. -/
def Die.readsLeft (d : Die) (n : Nat) : Nat := d.rf (Reg.SHF_SLOT_CTRL n) 7 4
/-- POISON of a slot. -/
def Die.slotPoison (d : Die) (n : Nat) : Bool := (d.reg (Reg.SHF_SLOT_CTRL n)).b 15

/-- Whether a binding, or a frame whose outputs are to come, has a vision output for a slot. -/
def Sensor.fills (s : Sensor) (n : Nat) : Bool :=
  s.bindings.any (fun b => b.slots.contains n) ||
    s.frames.any fun f => !f.outputs && match f.binding with
      | some b => b.slots.contains n
      | none => false

/-- A slot is claimed while a writer, or one that reads and writes, runs (Table 3.4); the vision output a C.BIND installs
runs until its frame's has been written (R356; DEDUCED, log entry 103). -/
def Die.slotClaimed (d : Die) (n : Nat) : Bool :=
  d.sb.any (fun e => e.running && e.uses.any fun u => u.1 == n && u.2 != .reader) || d.ife.sensors.any fun kv => kv.2.fills n

/-- Readers of the present fill that have started and not completed. -/
def Die.slotReaders (d : Die) (n : Nat) : Nat := (d.shelf.reading.filter fun r => r.1 == n).length

/-- Whether Table 3.4 lets a descriptor with a role start on a slot. -/
def Die.slotAllows (d : Die) (n : Nat) (r : SlotRole) : Bool :=
  match r with
  | .writer => d.slotGen n % 2 == 0 && !d.slotClaimed n
  | .reader => d.slotGen n % 2 == 1 && !d.slotClaimed n && decide (d.slotReaders n < d.readsLeft n)
  | .both => d.slotGen n % 2 == 1 && !d.slotClaimed n && !d.shelf.readBegun.contains n

/-! ### Denoise tiles on slots (R347 to R350) -/

/-- Tiles of a frame. -/
def DnJob.tiles (j : DnJob) : Nat := (j.width / j.tileW) * (j.height / j.tileH)

/-- Strip of a tile. -/
def DnJob.strip (j : DnJob) (t : Nat) : Nat := t / (j.width / j.tileW)

/-- Lines a tile's input needs. -/
def DnJob.need (j : DnJob) (t : Nat) : Nat := min j.height ((j.strip t + 1) * j.tileH + j.halo)

/-- Whether a tile's last input line is there, or is filled in because its frame has closed (R347, R349). -/
def DnJob.lined (j : DnJob) (t : Nat) : Bool := j.times[j.need t - 1]?.isSome || j.closed.isSome

/-- The slot whose turn it is to be filled, once its tile's lines are there or the tile is bypassed (R349, R350). -/
def DnJob.nextFill (j : DnJob) : Option Nat :=
  if j.filled < j.tiles ∧ (j.bypassed.contains j.filled = true ∨ j.lined j.filled = true) then some (j.inFirst + j.filled % j.slots)
  else none

/-- The slot whose turn it is to be read. -/
def DnJob.nextRead (j : DnJob) : Option Nat :=
  if j.read < j.filled ∧ j.read < j.tiles then some (j.outFirst + j.read % j.slots) else none

/-- The first job with tiles to fill, and the first with outputs to come. -/
def Die.fillJob (d : Die) : Option DnJob := d.ife.dn.find? fun j => decide (j.filled < j.tiles)
def Die.readJob (d : Die) : Option DnJob := d.ife.dn.find? fun j => decide (j.read < j.tiles)

/-- Whether the image front end can use a slot now, ahead of any descriptor that waits on it (R348). -/
def Die.tileTakes (d : Die) (n : Nat) : Bool :=
  (d.fillJob.bind DnJob.nextFill == some n && d.slotAllows n .writer) || (d.readJob.bind DnJob.nextRead == some n && d.slotAllows n .reader)

/-! ### Checks at start (Table 3.3, Table 12.3) -/

/-- Result of a start check: the die after logging, and the status when it failed. -/
abbrev Checked := Option Nat × Die

/-- Banks from the lowest to the highest row a reach covers. -/
def banksOf (lo hi : Int) : List Nat :=
  let a := bankOf lo.toNat
  (List.range (bankOf hi.toNat + 1 - a)).map (· + a)

/-- The banks a stream reaches, with its role: a drain reaches both banks of each pair (R51, R54). -/
def streamBanks (x : DescBits) (p : Stream × Role) : List Nat :=
  let r := reachOf x p.1
  let bs := banksOf r.1 r.2
  if p.2.port = 2 then bs.flatMap fun b => [2 * (b / 2), 2 * (b / 2) + 1] else bs

/-- The first unit of a stream that breaks a row test, in yield order. -/
def firstBad (x : DescBits) (s : Stream) (bad : Int → Bool) : Option Int := (unitsOf x s).find? bad

/-- A row outside the Shelves, or an odd bank for the drain port (check 1 of Table 3.3, R51). -/
def badRow (port : Nat) (r : Int) : Bool :=
  decide (r < 0) || decide ((shelfRows : Int) ≤ r) || (port == 2 && bankOf r.toNat % 2 == 1)

/-- Whether a stream's reach alone breaks check 1. -/
def reachBad (x : DescBits) (p : Stream × Role) : Bool :=
  let r := reachOf x p.1
  decide (r.1 < 0) || decide ((shelfRows : Int) ≤ r.2) ||
    (p.2.port == 2 && (banksOf r.1 r.2).any fun b => b % 2 == 1)

/-- Bank that a range fault logs: of the first row in yield order that breaks the check; when the reach breaks it and no
yielded row does (a drain that steps over odd banks), that of the stream's BASE (R510; DESIGN CHOICE, log entry 18). -/
def badBank (x : DescBits) (p : Stream × Role) : Nat :=
  match firstBad x p.1 (badRow p.2.port) with
  | some r => bankOf (ofSigned 17 r)
  | none => bankOf (p.1.base % 2 ^ 17)

/-- The Shelves streams of a descriptor with their roles. -/
def shelfStreams (x : DescBits) : List (Stream × Role) := (streamRoles x).filter fun p => p.1.space = 1

/-- The row of a W.GEMV's expert index, checked as part of stream X (R145). -/
def selRow (x : DescBits) : Option Nat := if opcodeOf x = 0x20 ∧ pB x 49 then some (pF x 74 58) else none

/-- The banks the Shelves streams reach, stream by stream, with their roles. -/
def shelfBanks (x : DescBits) : List (Nat × Role) :=
  (streamRoles x).zipIdx.flatMap fun q =>
    if q.1.1.space = 1 then
      (streamBanks x q.1).map (fun b => (b, q.1.2)) ++
        (if q.2 = 1 then (selRow x).toList.map fun r => (bankOf r, q.1.2) else [])
    else []

/-- The first Shelves stream whose reach breaks check 1 of Table 3.3, as the bank and port its fault logs. -/
def rangeFault (x : DescBits) : Option (Nat × Nat) :=
  (streamRoles x).zipIdx.findSome? fun q =>
    if q.1.1.space ≠ 1 then none
    else if reachBad x q.1 then some (badBank x q.1, q.1.2.port)
    else if q.2 = 1 then ((selRow x).filter fun r => decide (shelfRows ≤ r)).map fun r => (bankOf r, q.1.2.port)
    else none

/-- The memory streams of a descriptor with their roles. -/
def memStreams (x : DescBits) : List (Stream × Role) := (streamRoles x).filter fun p => p.1.space = 2

/-- Ports of a unit, for the third condition of R56. -/
def unitPorts (u : ExecUnit) : List Nat :=
  match u with
  | .kiln => [0, 1, 2]
  | .wheel => [5]
  | .glaze => [3]
  | .camera => [6]
  | .scheduler => []
  | _ => [4]

/-- Whether a group lists a port of a unit in any direction. -/
def groupHasUnit (owner : Nat) (u : ExecUnit) : Bool :=
  (unitPorts u).any fun p => groupAllows owner p false || groupAllows owner p true

/-- The first bank that makes a handoff illegal (R56); an illegal count or owner fails at its first bank. -/
def Die.handoffBad (d : Die) (tenant : Nat) (u : ExecUnit) (h : Nat × Nat × Nat) : Option Nat :=
  if h.2.1 = 0 ∨ 88 < h.2.1 ∨ 6 < h.2.2 then some h.1
  else ((List.range h.2.1).map (· + h.1)).find? fun b =>
    decide (88 ≤ b) || !tenantAllows (d.bankTenant b) tenant true || !groupHasUnit (d.bankOwner b) u

/-- The Shelves checks of Table 3.3 in order; the first failing check decides and is logged. When the streams together
reach more than 8 slots, the first Shelves stream is logged (R54, R510; DESIGN CHOICE, log entry 18). -/
def Die.shelfCheck (d : Die) (tenant queue : Nat) (x : DescBits) : Checked :=
  let who := some (tenant, queue)
  let u := (unitOf (opcodeOf x)).getD .scheduler
  match rangeFault x with
  | some f => (some stIllegal, d.shelfFault Bit.SHF_ERR_RANGE f.1 f.2 who)
  | none =>
    if 8 < (d.slotUses x).length then
      let p := (shelfStreams x).headD (streamOf x 0, Role.none)
      (some stIllegal, d.shelfFault Bit.SHF_ERR_RANGE (bankOf (p.1.base % 2 ^ 17)) p.2.port who)
    else
      match (shelfBanks x).find? fun q => !tenantAllows (d.bankTenant q.1) tenant q.2.write with
      | some q => (some stPermission, d.shelfFault Bit.SHF_ERR_TENANT q.1 q.2.port who)
      | none =>
        match (shelfBanks x).find? fun q => !groupAllows (d.bankOwner q.1) q.2.port q.2.write with
        | some q => (some stIllegal, d.shelfFault Bit.SHF_ERR_FOREIGN_PORT q.1 q.2.port who)
        | none =>
          match (shelfBanks x).find? fun q => !d.bankPowered q.1 with
          | some q => (some stBankOff, d.shelfFault Bit.SHF_ERR_BANK_OFF q.1 q.2.port who)
          | none =>
            if hasHandoff x then
              match d.handoffBad tenant u (handoffOf x) with
              | some b => (some stIllegal, d.shelfFault Bit.SHF_ERR_HANDOFF b 7 who)
              | none => (none, d)
            else (none, d)

/-- Pages a memory reach covers: from the page of its lowest line to that of its highest. -/
def pagesOf (lo hi : Int) : List Nat :=
  let a := lo.toNat / 1024
  (List.range (hi.toNat / 1024 + 1 - a)).map (· + a)

/-- The tier check on every page of every memory stream's reach (R273). A reach that leaves the 48-bit
space fails as unmapped. -/
def Die.tierCheckStreams (d : Die) (tenant : Nat) (x : DescBits) (skipParked : Bool) : Checked :=
  (memStreams x).foldl (fun acc p =>
    match acc.1 with
    | some _ => acc
    | none =>
      let r := reachOf x p.1
      if r.1 < 0 ∨ 2 ^ 42 ≤ r.2 then (some stPermission, acc.2.tierFault tenant (ofSigned 42 r.1 / 1024) p.2.write 1)
      else
        match acc.2.firstDenied tenant p.2.write skipParked (pagesOf r.1 r.2) with
        | (some g, d1) => (some stPermission, d1.tierFault tenant g p.2.write (d1.tierCheck tenant g p.2.write skipParked))
        | (none, d1) => (none, d1)) (none, d)

/-- Both start checks, the Shelves checks first (R54, R141, R273). -/
def Die.startChecks (d : Die) (e : Entry) : Checked :=
  match d.shelfCheck e.tenant e.queue e.desc with
  | (some st, d1) => (some st, d1)
  | (none, d1) => d1.tierCheckStreams e.tenant e.desc false

/-- Whether a memory stream reaches a page. -/
def reachesPage (x : DescBits) (p : Nat) : Bool :=
  (memStreams x).any fun s =>
    let r := reachOf x s.1
    decide (r.1.toNat / 1024 ≤ p) && decide (p ≤ r.2.toNat / 1024)

/-- The banks a descriptor's streams reach: in the Shelves, and as SHELF pages of the model address space (R54, R271). -/
def Die.reachBanks (d : Die) (x : DescBits) : List Nat :=
  (shelfBanks x).map (·.1) ++
    (d.tier.pages.filter fun kv => pteTier kv.2 == 1 && reachesPage x kv.1).map fun kv => pteFrame kv.2 / 8

/-- Whether a start must wait: a BUSY bank in reach (R65), or a bank another started descriptor's handoff
names (R56). A reach or a handoff outside the banks waits for none. -/
def Die.startBlocked (d : Die) (e : Entry) : Bool :=
  let h := handoffOf e.desc
  let mine := if hasHandoff e.desc then (List.range h.2.1).map (· + h.1) else []
  ((d.reachBanks e.desc ++ mine).any fun b => decide (b < 88) && d.bankBusy b) ||
    d.sb.any fun o => o.slot != e.slot && o.running && hasHandoff o.desc && hasHandoff e.desc &&
      (let g := handoffOf o.desc
       mine.any fun b => decide (g.1 ≤ b) && decide (b < g.1 + g.2.1))

end Sys2Proof.Machine
end

