-- ==== Sys2Proof/Machine/Ports.lean ====
section
/-! DEFINITION. The peer ports: flits, credits, replay, routes and the sending of messages (R378 to R382,
R389). -/

namespace Sys2Proof.Machine

/-! ### Ports -/

/-- A port. -/
def Die.port (d : Die) (p : Nat) : Port := SMap.get (fun _ => Port.fresh) d.link.ports p

/-- Store a port. -/
def Die.setPort (d : Die) (p : Nat) (x : Port) : Die :=
  { d with link := { d.link with ports := SMap.put (fun _ => Port.fresh) d.link.ports p x } }

/-- STATE of a port (Table 16.11). -/
def Die.portState (d : Die) (p : Nat) : Nat := d.rf (Reg.LNK_PORT_STAT p) 3 0

/-- Set STATE of a port. -/
def Die.setPortState (d : Die) (p v : Nat) : Die := d.setRf (Reg.LNK_PORT_STAT p) 3 0 v

/-- The die on a peer port, when it is known. -/
def Die.peerOn (d : Die) (p : Nat) : Option Nat :=
  if (d.reg (Reg.LNK_PORT_STAT p)).b 15 then some (d.rf (Reg.LNK_PORT_STAT p) 14 12) else none

/-- This die's ID. -/
def Die.dieId (d : Die) : Nat := d.rf Reg.LNK_STAT 2 0

/-- Credits of a flit's class and lane. -/
def Port.creditOf (x : Port) (f : Flit) : Nat := x.credits.getD (2 * f.cls + f.lane) 0

/-- The first waiting flit of a class whose lane has credit; the order within a lane is kept (R380, R385). -/
def Port.candidate (x : Port) (cls : Nat) : Option Flit := x.queue.find? fun f => f.cls == cls && decide (0 < x.creditOf f)

/-- The flit a port sends next: CTL, then RSP, then REQ and BULK in turn (R380). -/
def Port.pick (x : Port) : Option Flit :=
  (x.candidate 3).or ((x.candidate 1).or
    (if x.bulkTurn then (x.candidate 2).or (x.candidate 0) else (x.candidate 0).or (x.candidate 2)))

/-- One entry of a list changed. -/
def bump (l : List Nat) (i : Nat) (f : Nat → Nat) : List Nat := (l.zipIdx).map fun p => if p.2 = i then f p.1 else p.1

/-- Credits returned by the next flit: for each class one lane and a count of at most 127 (Table 16.3). -/
def Port.returns (x : Port) : List Nat :=
  (List.range 4).map fun c =>
    let a := x.owed.getD (2 * c) 0
    if 0 < a then min 127 a else if 0 < x.owed.getD (2 * c + 1) 0 then 128 + min 127 (x.owed.getD (2 * c + 1) 0) else 0

/-- The credits still owed after a return. -/
def Port.afterReturn (x : Port) : List Nat :=
  (x.owed.zipIdx).map fun p =>
    let r := x.returns.getD (p.2 / 2) 0
    if r / 128 = p.2 % 2 then p.1 - r % 128 else p.1

/-- Advance a payload counter in units of 64 bytes, keeping the bytes short of one. -/
def Die.countPayload (d : Die) (a rem n : Nat) : Nat × Die := ((rem + n) % 64, d.count a ((rem + n) / 64))

/-- Bytes 0 to 251 of a flit (Table 16.3). -/
def flitHead (seq ack : Nat) (nak : Bool) (credits : List Nat) (f : Flit) : List Nat :=
  let bulk := f.kind == 2
  toBytes 4 (seq % 4096 + ack % 4096 * 2 ^ 12 + (if nak then 2 ^ 24 else 0) + f.kind % 4 * 2 ^ 25 +
    (if bulk then f.lane % 2 * 2 ^ 27 + f.bulk % 16 * 2 ^ 28 else 0)) ++
  toBytes 4 (ofBytes credits) ++
  toBytes 4 (if bulk then f.payload.length % 256 + (if f.last then 2 ^ 8 else 0) + (if f.abort then 2 ^ 9 else 0) else 0) ++
  toBytes 240 (ofBytes f.payload)

/-- The 256 bytes of a flit, CRC-32C last (R378). -/
def flitBytes (seq ack : Nat) (nak : Bool) (credits : List Nat) (f : Flit) : List Nat :=
  flitHead seq ack nak credits f ++ toBytes 4 (crc32c (flitHead seq ack nak credits f))

/-- A flit with no content. -/
def Flit.null : Flit := ⟨0, 3, 0, 0, false, false, 0, [], []⟩

/-- Payload bytes a flit counts for in LNK_PORT_TX and LNK_PORT_RX: its data, or the line of its message (DESIGN CHOICE, log
entry 66). -/
def Flit.dataBytes (f : Flit) : Nat := if f.kind = 2 then f.payload.length else if 80 ≤ f.payload.length then 64 else 0

/-- SEQ received last in order on a port. -/
def Port.ack (x : Port) : Nat := (x.rxSeq + 4095) % 4096

/-- A flit of a transfer has gone out; one that ends its transfer starts the time of its F.*'s DONE once it was the last
(R387, R388). -/
def Die.noteSent (d : Die) (p : Nat) (f : Flit) : Die :=
  let mark := fun (s : Sending) =>
    if s.due.contains (p, f.bulk) then
      let due := s.due.erase (p, f.bulk)
      if due = [] then { s with due := due, sent := true, since := d.refclk } else { s with due := due }
    else s
  if f.last then { d with link := { d.link with sends := d.link.sends.map mark } } else d

/-- Put one flit on the wire and into the replay buffer. -/
def Die.emitFlit (d : Die) (p : Nat) (f : Flit) : Die :=
  let x := d.port p
  let c := d.countPayload (Reg.LNK_PORT_TX p) x.txRem f.dataBytes
  ((c.2.setPort p { x with
    txSeq := (x.txSeq + 1) % 4096
    replay := x.replay ++ [⟨x.txSeq, 1, d.refclk, f⟩]
    queue := x.queue.erase f
    credits := bump x.credits (2 * f.cls + f.lane) (· - 1)
    owed := x.afterReturn
    bulkTurn := if f.cls = 2 then false else if f.cls = 0 then true else x.bulkTurn
    txRem := c.1 }).noteSent p f).emit (.flit p f (flitBytes x.txSeq x.ack false x.returns f))

/-- Send a NULL flit that acknowledges what has come and returns the credits owed; a port that is not trained keeps them
(R379, R380; DESIGN CHOICE, log entry 66). -/
def Die.ackNow (d : Die) (p : Nat) : Die :=
  let x := d.port p
  if d.portState p = 2 ∨ d.portState p = 3 then
    (d.setPort p { x with owed := x.afterReturn }).emit (.flit p Flit.null (flitBytes x.txSeq x.ack false x.returns Flit.null))
  else d

/-- Send what a port may send: it carries flits once its training is done, and keeps at most 512 of them unacknowledged
(R379, R380, R393). -/
def Die.drainPort (d : Die) (p : Nat) : Nat → Die
  | 0 => d
  | n + 1 =>
    let x := d.port p
    if (d.portState p = 2 ∨ d.portState p = 3) ∧ x.replay.length < 512 then
      match x.pick with
      | some f => (d.emitFlit p f).drainPort p n
      | none => d
    else d

/-- Send everything a port may send now. -/
def Die.pump (d : Die) (p : Nat) : Die := d.drainPort p (d.port p).queue.length

/-- Queue a flit on a port and send what may go. -/
def Die.sendFlit (d : Die) (p : Nat) (f : Flit) : Die :=
  (d.setPort p { d.port p with queue := (d.port p).queue ++ [f] }).pump p

/-- Queue a flit ahead of every other and send what may go. -/
def Die.sendAhead (d : Die) (p : Nat) (f : Flit) : Die :=
  (d.setPort p { d.port p with queue := f :: (d.port p).queue }).pump p

/-! ### Routes (R377, R382) -/

/-- Entry of a routing table for a die: 0 local, 1 and 2 ports, 3 drop. -/
def Die.route (d : Die) (table dst : Nat) : Nat := d.rf (Reg.LNK_ROUTE table) (2 * dst + 1) (2 * dst)

/-- Egress port towards a die for messages this die originates: 1, 2, or none. -/
def Die.egress (d : Die) (dst : Nat) : Option Nat :=
  let r := d.route 0 dst
  if r = 1 ∨ r = 2 then some r else none

/-! ### Messages (R381) -/

/-- Class of a message by OP (Table 16.4). -/
def msgClass (op : Nat) : Nat :=
  if op == 1 || op == 2 || op == 3 || op == 6 then 0 else if op == 4 || op == 5 || op == 7 then 1 else 3

/-- Units of 16 bytes of a message by OP, 0 for an illegal one (Table 16.4). -/
def msgUnits (op : Nat) : Nat :=
  match op with
  | 0x1 => 1
  | 0x2 => 5
  | 0x3 => 6
  | 0x4 => 5
  | 0x5 => 1
  | 0x6 => 2
  | 0x7 => 1
  | 0x8 => 1
  | 0x9 => 1
  | 0xA => 1
  | 0xB => 1
  | 0xC => 1
  | 0xD => 1
  | 0xE => 5
  | _ => 0

/-- Widths of the fields of a message's body from bit 0 of bytes 4 to 15, and those of its second unit (Table 16.4). The mask
of a TICK or a TIME follows its 64 bits (DESIGN CHOICE: R382 puts the mask in the body and names no place; log entry 84). -/
def bodyWidths (op : Nat) : List Nat × List Nat :=
  match op with
  | 0x1 => ([36, 7, 7, 20], [])
  | 0x2 => ([36, 7, 7, 20], [])
  | 0x3 => ([36, 7, 7, 20], [64])
  | 0x4 => ([8], [])
  | 0x5 => ([8], [])
  | 0x6 => ([48, 32], [8, 1, 16, 16, 7, 20])
  | 0x7 => ([8], [])
  | 0x8 => ([64, 8], [])
  | 0x9 => ([64, 8], [])
  | 0xA => ([8, 24, 8], [])
  | 0xB => ([8, 24, 64], [])
  | 0xC => ([32, 2], [])
  | 0xD => ([8, 8], [])
  | _ => ([], [])

/-- Fields of given widths packed from bit 0 on. -/
def packFields : List Nat → List Nat → Nat
  | w :: ws, v :: vs => v % 2 ^ w + packFields ws vs <<< w
  | _, _ => 0

/-- The bytes of a message: its header with the body, its second unit where the body goes on there, and its line (R381). -/
def msgBytes (op lane src dst : Nat) (poison : Bool) (bulk tag : Nat) (body payload : List Nat) : List Nat :=
  let w := bodyWidths op
  let head := op % 16 + lane % 2 * 2 ^ 4 + src % 8 * 2 ^ 5 + dst % 8 * 2 ^ 8 + (if poison then 2 ^ 11 else 0) + bulk % 16 * 2 ^ 12 +
    tag % 2 ^ 16 * 2 ^ 16 + packFields w.1 body * 2 ^ 32
  toBytes 16 head ++ (if w.2 = [] then [] else toBytes 16 (packFields w.2 (body.drop w.1.length))) ++
    (if op = 0xE then toBytes 64 (Config.mgmtTraffic body) else payload)

/-- A message as a flit; an OPEN of a transfer without data is the transfer's last flit. -/
def msgFlit (op lane src dst : Nat) (poison : Bool) (bulk tag : Nat) (body payload : List Nat) : Flit :=
  ⟨1, msgClass op, lane, bulk, op == 6 && body.getD 1 0 == 0, false, 0, msgBytes op lane src dst poison bulk tag body payload,
    if op = 0xE then body else []⟩

/-- Statuses a response may carry: those R381 lists, and the CANCELLED of Table 16.6 (log entry 84). -/
def statusLegal (st : Nat) : Bool := [stOk, stDataFault, stPermission, stUnitReset, stCancelled].contains st

/-- Whether a body breaks Table 16.4: an address that is not line aligned, a status it does not list, or a LENGTH that is not
a multiple of 64 (R381). -/
def bodyBad (op : Nat) (body : List Nat) : Bool :=
  if op = 1 ∨ op = 2 ∨ op = 3 then body.headD 0 % 64 != 0
  else if op = 4 ∨ op = 5 ∨ op = 7 then !statusLegal (body.headD 0)
  else if op = 6 then body.getD 1 0 % 64 != 0
  else false

/-- Fields of given widths taken from a number from bit 0 on. -/
def cutFields : List Nat → Nat → List Nat
  | [], _ => []
  | w :: ws, n => n % 2 ^ w :: cutFields ws (n >>> w)

/-- Illegal messages among the first `n` units of an arriving flit's payload: an OP or a body that breaks Table 16.4, or a
message that does not end within the flit (R378, R381). A unit of zeros holds none (DESIGN CHOICE, log entry 84). -/
def badMessages : Nat → Nat → Nat → Nat
  | 0, _, _ => 0
  | fuel + 1, n, v =>
    if n = 0 then 0
    else if v % 2 ^ 128 = 0 then badMessages fuel (n - 1) (v >>> 128)
    else
      let op := v % 16
      let k := msgUnits op
      if k = 0 ∨ n < k then 1 + badMessages fuel (n - 1) (v >>> 128)
      else
        let dirty := op == 4 && v.testBit 11 && fld v 639 128 != 0
        (if bodyBad op (cutFields (bodyWidths op).1 (fld v 127 32)) || dirty then 1 else 0) +
          badMessages fuel (n - k) (v >>> (128 * k))

/-- Send a message this die originates on a port. -/
def Die.portMsg (d : Die) (p op dst : Nat) (poison : Bool) (bulk tag : Nat) (body payload : List Nat) : Die :=
  d.sendFlit p (msgFlit op 0 d.dieId dst poison bulk tag body payload)

/-- Whether messages towards a die wait for responses due on its old route (R382). -/
def Die.routeHeld (d : Die) (x : Nat) : Bool := d.link.holds.any fun h => h.1 == x

/-- Hold a flit for a die whose route has changed. -/
def Die.holdFlit (d : Die) (x : Nat) (f : Flit) : Die :=
  { d with link := { d.link with heldMsgs := d.link.heldMsgs ++ [(x, f)] } }

/-- Send a message towards a die; a drop entry sets ROUTE. A changed route holds it until the responses due on the
old one have arrived (R382). -/
def Die.sendMsg (d : Die) (op dst : Nat) (poison : Bool) (bulk tag : Nat) (body payload : List Nat) : Die :=
  match d.egress dst with
  | some p =>
    if d.routeHeld dst then d.holdFlit dst (msgFlit op 0 d.dieId dst poison bulk tag body payload)
    else d.portMsg p op dst poison bulk tag body payload
  | none => d.err Reg.LNK_ERR Bit.LNK_ERR_ROUTE

/-- Dies of a mask. -/
def diesOf (mask : Nat) : List Nat := (List.range 8).filter fun k => mask.testBit k

/-! ### Time (R389) -/

/-- FTIME in nanoseconds: the reference clock of 38.4 MHz, moved by the last TIME message. -/
def Die.ftime (d : Die) : Nat := (d.refclk * 625 / 24 + d.link.ftOffset) % 2 ^ 64

/-- Reference cycles of a number of microseconds, rounded up. -/
def usCycles (n : Nat) : Nat := ceilDiv (n * 384) 10

/-- Whether at least `us` microseconds have passed since a time. -/
def Die.elapsed (d : Die) (since us : Nat) : Bool := decide (us * 384 ≤ 10 * (d.refclk - since))

end Sys2Proof.Machine
end

