-- ==== Sys2Proof/Machine/Operands.lean ====
section
/-! DEFINITION. Operand access: lines of the model address space in every tier, stream units, and the common
frame of a descriptor's execution (chapters 03, 08, 12, 14 and 16). -/

namespace Sys2Proof.Machine

/-! ### Scoreboard entries -/

/-- The entry in a scoreboard slot. -/
def Die.entry (d : Die) (slot : Nat) : Option Entry := d.sb.find? fun e => e.slot == slot

/-- Replace the entry in its slot. -/
def Die.setEntry (d : Die) (e : Entry) : Die :=
  { d with sb := d.sb.map fun o => if o.slot = e.slot then e else o }

/-- Apply a change to the entry of a slot. -/
def Die.modEntry (d : Die) (slot : Nat) (f : Entry → Entry) : Die :=
  { d with sb := d.sb.map fun o => if o.slot = slot then f o else o }

/-- Slot number that stands for the die's own work. -/
abbrev noSlot : Nat := 4096

/-! Operations that read over a link hold the lines returned to them under their scoreboard slot, or under one of these
numbers (log entry 15). -/

/-- A read whose operation has ended. -/
abbrev orphanSlot : Nat := 4097
/-- The tick cycle. -/
abbrev tickSlot : Nat := 4098
/-- Management packets and commands. -/
abbrev mgmtSlot : Nat := 4099
/-- The frames of sensor context `c`. -/
abbrev camSlot (c : Nat) : Nat := 4100 + c
/-- The outputs of sensor context `c`. -/
abbrev camWriteSlot (c : Nat) : Nat := 4140 + c
/-- The parameter block of the in-line context. -/
abbrev ispSlot : Nat := 4144
/-- A shard read again for another die's repair, from the image of model slot `s`. -/
abbrev resendSlot (s : Nat) : Nat := 4150 + s
/-- The transfer of a shard, by firmware (R308). -/
abbrev shardSlot : Nat := 4145
/-- Work on model slot `s`. -/
abbrev modelSlot (s : Nat) : Nat := 4104 + s
/-- Records and replies the die owes. -/
abbrev owedSlot : Nat := 8189
/-- A firmware image in HOST memory. -/
abbrev imageSlot : Nat := 8190
/-- A remote request or transfer served here. -/
abbrev serveSlot : Nat := 8191
/-- Writes of incoming transfer `n`. -/
abbrev transferSlot (n : Nat) : Nat := 2 ^ 34 + n
/-- Completion of the descriptor in scoreboard slot `n`. -/
abbrev recordSlot (n : Nat) : Nat := 8192 + n
/-- Admission from queue `q`. -/
abbrev admitSlot (q : Nat) : Nat := 2 ^ 21 + q
/-- The copy of page `p`. -/
abbrev moveSlot (p : Nat) : Nat := 2 ^ 33 + p

/-- An access by an entry's descriptor through a port. -/
def Entry.who (e : Entry) (port : Nat) : Who := ⟨port, e.tenant, e.queue, e.slot⟩

/-- The die's own access through the data-mover port, as the management context (R271). DESIGN CHOICE: a fault of it names
queue 0 (R510; log entry 92). -/
def Who.die : Who := ⟨4, mgmtCode, 0, noSlot⟩

/-! ### HOST and PEER lines (R367 to R375, R383 to R385) -/

/-- Key of a PEER line. -/
def peerKey (frame off : Nat) : Nat := 2 ^ 48 + frame * 1024 + off

/-- Whether confidential host mode is on (R372). -/
def Die.confMode (d : Die) : Bool := (d.reg Reg.LNK_STAT).b 13

/-- Whether a HOST line lies inside the shared area (R373). -/
def Die.inShared (d : Die) (n : Nat) : Bool :=
  let base := (d.rf Reg.LNK_CONF_BASE_HI 15 0 * 2 ^ 32 + (d.reg Reg.LNK_CONF_BASE_LO).toNat) / 64
  decide (base ≤ n) && decide (n < base + 64 * d.rf Reg.LNK_CONF_UNITS 23 0)

/-- Note a line that has not been returned: the model line it was read as, plus one, and the KEY and requester a PEER read
carries. -/
def Die.farMiss (d : Die) (n via code : Nat) (w : Who) : Die :=
  let m : FarMiss := ⟨n, via, code, w.tenant, w.queue⟩
  { d with far := { d.far with miss := if d.far.miss.contains m then d.far.miss else d.far.miss ++ [m] } }

/-- Note a FLASH page to wait for. -/
def Die.farWant (d : Die) (p : Nat) : Die :=
  if d.far.want.contains p then d else { d with far := { d.far with want := d.far.want ++ [p] } }

/-- Note a page or segment to wait for. -/
def Die.farHold (d : Die) (n : Nat) : Die := { d with far := { d.far with hold := setInsert n d.far.hold } }

/-- A returned line as a unit. -/
def FarCell.rd (c : FarCell) : UnitRd :=
  if c.poison || c.bad then ⟨0, true, false⟩ else ⟨c.data.toNat, false, false⟩

/-- The line the operation under evaluation holds under a key. -/
def Die.heldFar (d : Die) (n via : Nat) : Option FarLine :=
  d.far.arrived.find? fun l => l.slot == d.far.who && l.key == n && l.via == via

/-- Read a line over a link: the line returned to this operation when it has arrived, else a miss. `via` is the model line
it is read as plus one, 0 for a direct address. -/
def Die.readFar (d : Die) (via n code : Nat) (w : Who) : UnitRd × Die :=
  match d.heldFar n via with
  | some l => (l.cell.rd, d)
  | none => (⟨0, false, false⟩, d.farMiss n via code w)

/-! A unit of 4 KiB in confidential host mode has keys of its own (R373, R374). -/

/-- A line of ciphertext. -/
abbrev rawKey (n : Nat) : Nat := 2 ^ 44 + n
/-- A line of a verified unit. -/
abbrev plainKey (n : Nat) : Nat := 2 ^ 45 + n
/-- The tag record of the unit that holds a line. -/
abbrev recKey (n : Nat) : Nat := 2 ^ 46 + n / 64
/-- A line some operation waits for until its unit is verified. -/
abbrev waitKey (n : Nat) : Nat := 2 ^ 47 + n

/-- Read a HOST line (R367, R369, R373, R374, R394); without the session's keys a confidential read is an error (R440). -/
def Die.readHost (d : Die) (via n : Nat) (w : Who) : UnitRd × Die :=
  if !d.hostUp then (⟨0, true, false⟩, d.err Reg.LNK_ERR Bit.LNK_ERR_HOST_DOWN)
  else if !d.confMode then d.readFar via n 0 w
  else if !d.inShared n then (⟨0, true, false⟩, d.err Reg.LNK_ERR Bit.LNK_ERR_CONF_RANGE)
  else if d.saggar.confKeys.isNone then (⟨0, true, false⟩, d)
  else match (d.heldFar n via).or (d.heldFar (plainKey n) 0) with
    | some l => (l.cell.rd, d)
    | none => (⟨0, false, false⟩, d.farMiss n via 0 w)

/-- A held line after a write of `k` bytes at `off`. -/
def FarCell.wrote (c : FarCell) (off k v : Nat) (poison : Bool) : FarCell :=
  { data := BitVec.ofNat 512 (setFld c.data.toNat (8 * (off + k) - 1) (8 * off) v)
    poison := poison || (c.poison && decide (k < 64))
    bad := c.bad && decide (k < 64) }

/-- An operation that writes a line it holds reads there what it wrote. -/
def Die.farWrote (d : Die) (n off k v : Nat) (poison : Bool) : Die :=
  { d with far := { d.far with arrived := d.far.arrived.map fun l =>
    if l.slot = d.far.who ∧ l.key = n then { l with cell := l.cell.wrote off k v poison } else l } }

/-- Host address of the tag record of the unit that holds a line (R373). -/
def Die.recordAddr (d : Die) (n : Nat) : Nat :=
  let base := d.rf Reg.LNK_CONF_BASE_HI 15 0 * 2 ^ 20 + (d.reg Reg.LNK_CONF_BASE_LO).toNat / 4096
  d.rf Reg.LNK_CONF_TAG_HI 15 0 * 2 ^ 32 + (d.reg Reg.LNK_CONF_TAG_LO).toNat + 32 * (n / 64 - base)

/-- The key of a direction: WRITER 0 for host to die, 1 for die to host (R373, R439). -/
def Die.confKey (d : Die) (writer : Nat) : List Nat :=
  match d.saggar.confKeys with
  | none => []
  | some k => toBytes 32 (if writer = 0 then k.1 else k.2)

/-- IV of a unit: SESSION, then its counter (R373). -/
def Die.confIv (d : Die) (ctr : Nat) : List Nat := toBytes 4 d.saggar.session ++ toBytes 8 ctr

/-- Additional data of the unit that holds a line: its host address, then WRITER (R373). -/
def confAad (n writer : Nat) : List Nat := toBytes 8 (n / 64 * 4096) ++ [writer]

/-- The tag record of a unit (R373). -/
def confRecord (tag : List Nat) (ctr writer : Nat) : List Nat := tag ++ toBytes 8 ctr ++ [writer] ++ List.replicate 7 0

/-- The bytes of a verified unit the operation holds, none while a line is missing. -/
def Die.unitBytes (d : Die) (n : Nat) : List Nat :=
  (List.range 64).flatMap fun j => match d.heldFar (plainKey (n / 64 * 64 + j)) 0 with
    | some l => toBytes 64 l.cell.data.toNat
    | none => []

/-- Every copy of a verified unit takes a write of the die to it. -/
def Die.plainWrote (d : Die) (n off k v : Nat) (poison : Bool) : Die :=
  { d with far := { d.far with arrived := d.far.arrived.map fun l =>
    if l.key = (plainKey n) then { l with cell := l.cell.wrote off k v poison } else l } }

/-- Write bytes in confidential host mode: the whole unit, read and verified before, goes out as ciphertext under the next
value of the write counter, then its record with WRITER 1 (R375). A write without keys, or to a unit that fails its tag, is
dropped (R440). -/
def Die.putConf (d : Die) (addr : Nat) (bytes : List Nat) (ep : Bool) : Bool × Die :=
  let n := addr / 64
  if d.saggar.confKeys.isNone then (false, d)
  else match d.heldFar (plainKey n) 0 with
    | none =>
      match d.heldFar n 0 with
      | some _ => (false, d)
      | none => (true, d.farMiss n 0 0 ⟨4, 0, 0, noSlot⟩)
    | some _ =>
      let off := addr % 4096
      let old := d.unitBytes n
      let ctr := d.far.confCtr
      let ct := gcmCrypt (d.confKey 1) (d.confIv ctr) (old.take off ++ bytes ++ old.drop (off + bytes.length))
      let tag := gcmTag (d.confKey 1) (d.confIv ctr) (confAad n 1) ct
      let d1 : Die := { d with
        far := { d.far with confCtr := (ctr + 1) % 2 ^ 64 }
        saggar := { d.saggar with traffic := d.refclk } }
      (true, ((d1.plainWrote n (addr % 64) bytes.length (ofBytes bytes) ep).emit (.hostWrite (n / 64 * 4096) ct ep)).emit
        (.hostWrite (d.recordAddr n) (confRecord tag ctr 1) false))

/-- Put bytes on their way to a HOST address: a posted write, or in confidential mode the unit that holds them (R367,
R375). -/
def Die.putHost (d : Die) (addr : Nat) (bytes : List Nat) (ep : Bool) : Bool × Die :=
  let p := if d.confMode then d.putConf addr bytes ep else (true, d.emit (.hostWrite addr bytes ep))
  (p.1, p.2.farWrote (addr / 64) (addr % 64) bytes.length (ofBytes bytes) ep)

/-- Post bytes to a HOST address, or drop them: the host port is DOWN, or the address lies outside the shared area
(R228, R229, R368, R373, R394). -/
def Die.postHostEp (d : Die) (addr : Nat) (bytes : List Nat) (ep : Bool) : Bool × Die :=
  if !d.hostUp then (false, d.err Reg.LNK_ERR Bit.LNK_ERR_HOST_DOWN)
  else if d.confMode && !d.inShared (addr / 64) then (false, d.err Reg.LNK_ERR Bit.LNK_ERR_CONF_RANGE)
  else d.putHost addr bytes ep

/-- Post bytes that are not poisoned. -/
def Die.postHost (d : Die) (addr : Nat) (bytes : List Nat) : Bool × Die := d.postHostEp addr bytes false

/-- Change an incoming transfer. -/
def Die.modIncoming (d : Die) (id : Nat) (f : Incoming → Incoming) : Die :=
  { d with link := { d.link with incoming := d.link.incoming.map fun x => if x.id = id then f x else x } }

/-- A descriptor, or an incoming transfer, has written a HOST line: it owes a flush (R15, R368). -/
def Die.owesFlush (d : Die) (slot line : Nat) : Die :=
  if transferSlot 0 ≤ slot then d.modIncoming (slot - transferSlot 0) fun x => { x with hostFlush := some ⟨line, false⟩ }
  else d.modEntry slot fun e => { e with hostFlush := some ⟨line, false⟩ }

/-- Write a HOST line; a poisoned line goes out as zeros with the EP bit (R367 to R369). -/
def Die.writeHost (d : Die) (slot n : Nat) (v : Line) (poison : Bool) : Bool × Die :=
  let p := d.postHostEp (64 * n) (toBytes 64 (if poison then 0 else v.toNat)) poison
  (p.1, if p.1 then p.2.owesFlush slot n else p.2)

/-- Transaction TAG of R381: epoch bits over the transaction index. -/
def Die.txnTag (d : Die) (idx : Nat) : Nat := d.rf Reg.LNK_FENCE 3 0 * 4096 + idx

/-- Open a remote request of one line. -/
def Die.openTxn (d : Die) (n slot via : Nat) (write : Bool) : Die :=
  { d with far := { d.far with
    txns := d.far.txns ++ [⟨d.far.nextTxn, n, write, slot, via, d.rf Reg.LNK_FENCE 3 0, d.refclk⟩]
    nextTxn := (d.far.nextTxn + 1) % 4096 } }

/-- Target physical address of a PEER line (R383). -/
def peerAddr (frame off : Nat) : Nat := frame % 2 ^ 29 * 65536 + 64 * off

/-- Write bytes of a PEER line: a WRM message with the byte mask, whose acknowledgement the slot's descriptor waits for (R383,
R385). -/
def Die.writePeerPart (d : Die) (w : Who) (code frame line off k v : Nat) : Bool × Die :=
  let dst := frame / 2 ^ 29
  match d.egress dst with
  | none => (false, d.err Reg.LNK_ERR Bit.LNK_ERR_ROUTE)
  | some _ =>
    (true, (((d.farWrote (peerKey frame line) off k v false).sendMsg 3 dst false 0 (d.txnTag d.far.nextTxn)
      [peerAddr frame line, code, w.tenant, w.queue, (2 ^ k - 1) * 2 ^ off] (toBytes 64 (v * 2 ^ (8 * off)))).openTxn
      (peerKey frame line) w.slot 0 true))

/-- Write a PEER line: a WR message whose acknowledgement the slot's descriptor waits for (R383, R385). -/
def Die.writePeer (d : Die) (w : Who) (code frame off : Nat) (v : Line) (poison : Bool) : Bool × Die :=
  let dst := frame / 2 ^ 29
  match d.egress dst with
  | none => (false, d.err Reg.LNK_ERR Bit.LNK_ERR_ROUTE)
  | some _ =>
    (true, (((d.farWrote (peerKey frame off) 0 64 v.toNat poison).sendMsg 2 dst poison 0 (d.txnTag d.far.nextTxn)
      [peerAddr frame off, code, w.tenant, w.queue] (toBytes 64 v.toNat)).openTxn (peerKey frame off) w.slot 0 true))

/-! ### Lines of the model address space -/

/-- Whether a segment is being cleared after a wake (R325). -/
def Die.segClearing (d : Die) (s : Nat) : Bool := (d.reg Reg.DMC_STAT).b (24 + s)

/-- Key under which a wait on a segment is noted. -/
def segKey (s : Nat) : Nat := 2 ^ 40 + s

/-- Key under which a wait on a channel is noted. -/
def chanKey (c : Nat) : Nat := 2 ^ 41 + c

/-- Channel of a line (R313). -/
def channelOf (n : Nat) : Nat := n / 4 % 16

/-- What an access to a line waits for: the clear of its segment, or the retraining of its channel after a wake (R322,
R325). -/
def Die.lineWaits (d : Die) (n : Nat) : Option Nat :=
  if d.segClearing (d.segmentOf (n / 1024)) then some (segKey (d.segmentOf (n / 1024)))
  else if d.dmc.trainSoon.contains (channelOf n) then some (chanKey (channelOf n))
  else none

/-- An access to a line of a LOCAL frame: one beyond the memory answers `out`, one that must wait is noted, and any other opens
its row for its requester (R313, R322, R325, R326). -/
def Die.atLine {α : Type} (d : Die) (w : Who) (frame off : Nat) (out wait : α) (act : Die → Nat → α × Die) : α × Die :=
  let n := frame * 1024 + off
  if d.localFrames ≤ frame then (out, d)
  else match d.lineWaits n with
    | some k => (wait, d.farHold k)
    | none => act (d.openRow n w.tenant w.queue false) n

/-- Read a LOCAL line by frame and place in the page. -/
def Die.readFrame (d : Die) (w : Who) (code frame off : Nat) : UnitRd × Die :=
  d.atLine w frame off ⟨0, true, false⟩ ⟨0, false, false⟩ fun d1 n => d1.readLocal code n

/-- Write a LOCAL line by frame and place in the page. -/
def Die.writeFrame (d : Die) (w : Who) (code frame off : Nat) (v : Line) (poison : Bool) : Bool × Die :=
  d.atLine w frame off false true fun d1 n => d1.writeLocal code n v poison

/-- The byte mask of `k` bytes from `off`. -/
def bytesMask (off k : Nat) : BitVec 64 := BitVec.ofNat 64 ((2 ^ k - 1) * 2 ^ off)

/-- Merge masked bytes into a LOCAL line by frame and place in the page. -/
def Die.mergeFrame (d : Die) (w : Who) (code frame off : Nat) (mask : BitVec 64) (v : Line) : Bool × Die :=
  d.atLine w frame off false true fun d1 n => d1.mergeLocal code n mask v

/-- Row of a SHELF page's line, and its place in the row (Table 12.2). -/
def shelfRowOf (frame off : Nat) : Nat × Nat :=
  (frame / 8 * 1024 + frame % 8 * 128 + off / 8, off % 8)

/-- A descriptor's access to a CACHED page of a group counts one hit for it, once per descriptor (R281). -/
def Die.countHit (d : Die) (slot page group : Nat) : Die :=
  match d.entry slot with
  | none => d
  | some e =>
    if e.pages.contains page then d
    else (d.count (Reg.TIR_RES_HIT group) 1).modEntry slot fun o => { o with pages := o.pages ++ [page] }

/-- Key of a line held from a cached copy of a page in a residency group. -/
def heldKey (group : Nat) : Nat := 2 ^ 61 + group

/-- The line the operation under evaluation already holds for a model line: it was read as the entry then stood (R275). -/
def Die.heldLine (d : Die) (line : Nat) : Option FarLine :=
  d.far.arrived.find? fun l => l.slot == d.far.who && l.via == line + 1

/-- The key under which the operation's read of a model line is already on its way (R275). -/
def Die.asking (d : Die) (line : Nat) : Option Nat :=
  match d.far.asked.find? fun a => a.slot == d.far.who && a.via == line + 1 with
  | some a => some a.key
  | none => (d.far.txns.find? fun t => t.slot == d.far.who && t.via == line + 1 && !t.write).map (·.line)

/-- An operation that writes a line it keeps reads there what it wrote. -/
def Die.keptWrote (d : Die) (line off k v : Nat) (poison : Bool) : Die :=
  { d with far := { d.far with arrived := d.far.arrived.map fun l =>
    if l.slot = d.far.who ∧ l.via = line + 1 then { l with cell := l.cell.wrote off k v poison } else l } }

/-- Keep a line the operation read under a key. -/
def Die.keepLine (d : Die) (key line : Nat) (r : UnitRd) : Die :=
  { d with far := { d.far with seen := ⟨d.far.who, key, line + 1, ⟨BitVec.ofNat 512 r.data, false, r.bad⟩⟩ :: d.far.seen } }

/-- Read a line of a mapped page as its entry stands. -/
def Die.readMapped (d : Die) (w : Who) (line : Nat) : UnitRd × Die :=
  let page := line / 1024
  let off := line % 1024
  let e := d.pte page
  match pteTier e with
  | 1 =>
    let r := shelfRowOf (pteFrame e) off
    let p := d.readRow w r.1
    (⟨fld p.1.data (512 * r.2 + 511) (512 * r.2), p.1.bad, p.1.off⟩, p.2)
  | 2 => d.readFrame w (pteKey e) (pteFrame e) off
  | 3 => d.readHost (line + 1) (pteFrame e * 1024 + off) w
  | 4 => if pteFrame e / 2 ^ 29 = d.dieId then d.readFrame w (pteKey e) (pteFrame e % 2 ^ 29) off
    else d.readFar (line + 1) (peerKey (pteFrame e) off) (pteKey e) w
  | 5 =>
    if d.tier.fillFailed.contains (page, d.far.who) then (⟨0, true, false⟩, d) else (⟨0, false, false⟩, d.farWant page)
  | _ => (⟨0, true, false⟩, d)

/-- Read a line through the page table, checks already passed (R270, R271, R275, R277, R279, R281). A line the operation
has read, or has asked for, is the one of that access. -/
def Die.readLine (d : Die) (w : Who) (line : Nat) : UnitRd × Die :=
  let page := line / 1024
  let e := d.pte page
  let d1 := (d.ptTouch page).ptAccess page
  match d1.heldLine line with
  | some l => (l.cell.rd, if heldKey 0 ≤ l.key then d1.countHit w.slot page (l.key - heldKey 0) else d1)
  | none =>
    match d1.asking line with
    | some k => (⟨0, false, false⟩, d1.farMiss k (line + 1) 0 w)
    | none =>
      if pteCached e then
        let p := (d1.countHit w.slot page (pteGroup e)).readMapped w line
        (p.1, p.2.keepLine (heldKey (pteGroup e)) line p.1)
      else
        let p := d1.readMapped w line
        (p.1, if p.2.far.keeps && decide (pteTier e = 1 ∨ pteTier e = 2) then p.2.keepLine 0 line p.1 else p.2)

/-- Write a line through the page table, checks already passed. A page that is moving takes the write after
its switch (R277). The Boolean is false when the write was lost. -/
def Die.writeLine (d : Die) (w : Who) (line : Nat) (v : Line) (poison : Bool) : Bool × Die :=
  let page := line / 1024
  let off := line % 1024
  let e := d.pte page
  let d1 := ((d.ptTouch page).ptAccess page).keptWrote line 0 64 v.toNat poison
  if pteMoving e then (true, d1.farHold page)
  else
    match pteTier e with
    | 1 =>
      let r := shelfRowOf (pteFrame e) off
      d1.writeRowPart w r.1 r.2 (if poison then 0#512 else v) poison
    | 2 => d1.writeFrame w (pteKey e) (pteFrame e) off v poison
    | 3 => d1.writeHost w.slot (pteFrame e * 1024 + off) v poison
    | 4 => if pteFrame e / 2 ^ 29 = d1.dieId then d1.writeFrame w (pteKey e) (pteFrame e % 2 ^ 29) off v poison
      else d1.writePeer w (pteKey e) (pteFrame e) off v poison
    | _ => (false, d1)

/-- Checks 1 to 4 of Table 3.3, with the status and the SHF_ERR flag of a failure. -/
def pageChecks : List (Nat × Nat × Nat) :=
  [(1, stIllegal, Bit.SHF_ERR_RANGE), (2, stPermission, Bit.SHF_ERR_TENANT), (3, stIllegal, Bit.SHF_ERR_FOREIGN_PORT),
    (4, stBankOff, Bit.SHF_ERR_BANK_OFF)]

/-- Whether a SHELF page fails one of checks 1 to 4 of Table 3.3 for an access through a port (R271). -/
def Die.pageFails (d : Die) (w : Who) (page : Nat) (write : Bool) (check : Nat) : Bool :=
  let b := pteFrame (d.pte page) / 8
  match check with
  | 1 => decide (88 ≤ b)
  | 2 => !tenantAllows (d.bankTenant b) w.tenant write
  | 3 => !groupAllows (d.bankOwner b) w.port write
  | _ => !d.bankPowered b

/-- The status and flag of the first of checks 1 to 4 of Table 3.3 that a SHELF page fails for an access through a port
(R271). -/
def Die.shelfPage (d : Die) (w : Who) (page : Nat) (write : Bool) : Option (Nat × Nat) :=
  (pageChecks.find? fun c => d.pageFails w page write c.1).map (·.2)

/-- Whether an address a unit takes from data may be accessed: the tier check, then Table 3.3 for a SHELF page
(R271, R273). The failure is logged. -/
def Die.dataCheck (d0 : Die) (w : Who) (line : Nat) (write : Bool) : Bool × Die :=
  let page := line / 1024
  let d := if line < 2 ^ 42 then d0.ptTouch page else d0
  let chk := d.tierCheck w.tenant page write false
  if line ≥ 2 ^ 42 then (false, d.tierFault w.tenant (page % 2 ^ 32) write 1)
  else if chk ≠ 0 then (false, d.tierFault w.tenant page write chk)
  else if pteTier (d.pte page) = 1 then
    match d.shelfPage w page write with
    | some f => (false, d.shelfFault f.2 (pteFrame (d.pte page) / 8) w.port (some (w.tenant, w.queue)))
    | none => (true, d)
  else (true, d)

/-- Read a line whose address came from data: a failed check reads as an uncorrectable error (R273). An access already
issued has passed its checks (R275). -/
def Die.readData (d : Die) (w : Who) (line : Nat) : UnitRd × Die :=
  let w4 := { w with port := 4 }
  if (d.heldLine line).isSome || (d.asking line).isSome then d.readLine w4 line
  else
    let c := d.dataCheck w4 line false
    if c.1 then c.2.readLine w4 line else (⟨0, true, false⟩, c.2)

/-- Write a line whose address came from data: a failed check writes nothing (R273). -/
def Die.writeData (d : Die) (w : Who) (line : Nat) (v : Line) (poison : Bool) : Bool × Die :=
  let c := d.dataCheck { w with port := 4 } line true
  if c.1 then c.2.writeLine { w with port := 4 } line v poison else (false, c.2)

/-- Read consecutive lines whose address came from data, as one little-endian number with the first line
lowest; bad when any line is. -/
def Die.readDataLines (d : Die) (w : Who) (line : Nat) : Nat → UnitRd × Die
  | 0 => (⟨0, false, false⟩, d)
  | n + 1 =>
    let p := d.readData w line
    let q := p.2.readDataLines w (line + 1) n
    (⟨p.1.data + q.1.data <<< 512, p.1.bad || q.1.bad, p.1.off || q.1.off⟩, q.2)

/-- Bytes `addr` to `addr + k − 1` of the model address space, as a little-endian number. -/
def Die.readBytes (d : Die) (w : Who) (addr k : Nat) : UnitRd × Die :=
  let a := addr / 64
  let p := d.readDataLines w a ((addr + k + 63) / 64 - a)
  (⟨bytesAt p.1.data (addr % 64) k, p.1.bad, p.1.off⟩, p.2)

/-- Write bytes of one line, checks already passed: HOST takes them with byte enables and PEER as a WRM; a LOCAL line is read,
merged and written (R317, R367, R383). A page on the move takes the write after its switch (R277). -/
def Die.writePart (d : Die) (w : Who) (line off k v : Nat) : Bool × Die :=
  let page := line / 1024
  let e := d.pte page
  let place := line % 1024
  let d1 := ((d.ptTouch page).ptAccess page).keptWrote line off k v false
  if pteMoving e then (true, d1.farHold page)
  else
    match pteTier e with
    | 2 => d1.mergeFrame w (pteKey e) (pteFrame e) place (bytesMask off k) (BitVec.ofNat 512 (v * 2 ^ (8 * off)))
    | 3 =>
      let p := d1.postHost (64 * (pteFrame e * 1024 + place) + off) (toBytes k v)
      (p.1, if p.1 then p.2.owesFlush w.slot (pteFrame e * 1024 + place) else p.2)
    | 4 =>
      if pteFrame e / 2 ^ 29 = d1.dieId then
        d1.mergeFrame w (pteKey e) (pteFrame e % 2 ^ 29) place (bytesMask off k) (BitVec.ofNat 512 (v * 2 ^ (8 * off)))
      else d1.writePeerPart w (pteKey e) (pteFrame e) place off k v
    | _ =>
      let p := d1.readLine w line
      if p.1.bad then (false, p.2)
      else p.2.writeLine w line (BitVec.ofNat 512 (setFld p.1.data (8 * (off + k) - 1) (8 * off) v)) false

/-- Write `k` bytes at a model address taken from data, line by line; `fuel` bounds the lines. -/
def Die.writeBytesFuel (d : Die) (w : Who) : Nat → Nat → Nat → Nat → Bool × Die
  | 0, _, _, _ => (true, d)
  | fuel + 1, addr, k, v =>
    if k = 0 then (true, d)
    else
      let off := addr % 64
      let m := min k (64 - off)
      let line := addr / 64
      let c := d.dataCheck { w with port := 4 } line true
      if !c.1 then (false, c.2)
      else
        let p := if m = 64 then c.2.writeLine { w with port := 4 } line (BitVec.ofNat 512 v) false
          else c.2.writePart { w with port := 4 } line off m (v % 2 ^ (8 * m))
        if p.1 then p.2.writeBytesFuel w fuel (addr + m) (k - m) (v >>> (8 * m)) else (false, p.2)

/-- Write `k` bytes at a model address taken from data. -/
def Die.writeBytes (d : Die) (w : Who) (addr k v : Nat) : Bool × Die := d.writeBytesFuel w (k / 64 + 2) addr k v

/-! ### Stream units -/

/-- Little-endian number of a list of `w`-bit elements, the first lowest. -/
def packElems (w : Nat) : List Nat → Nat
  | [] => 0
  | x :: xs => x % 2 ^ w + packElems w xs <<< w

/-- Number under which part `j` of a Shelves row is held, beyond the lines of the model address space. -/
def rowLine (r j : Nat) : Nat := 2 ^ 50 + 8 * r + j

/-- The contents of a row the operation holds (R146). -/
def Die.heldRow (d : Die) (r : Nat) : Option UnitRd :=
  match d.heldLine (rowLine r 0) with
  | none => none
  | some l => some ⟨packElems 512 ((List.range 8).map fun j => ((d.heldLine (rowLine r j)).map (·.cell.data.toNat)).getD 0), l.cell.bad, false⟩

/-- Keep a row the operation read. -/
def Die.keepRow (d : Die) (r : Nat) (u : UnitRd) : Die :=
  (List.range 8).foldl (fun acc j => acc.keepLine 0 (rowLine r j) { u with data := fld u.data (512 * j + 511) (512 * j) }) d

/-- Read a Shelves row of a stream: the one held, else the row as it is. -/
def Die.readShelfRow (d : Die) (w : Who) (r : Nat) : UnitRd × Die :=
  match d.heldRow r with
  | some u => (u, d)
  | none =>
    let p := d.readRow w r
    (p.1, if p.2.far.keeps && !p.1.off then p.2.keepRow r p.1 else p.2)

/-- Read one unit of a stream, checks already passed. -/
def Die.readUnit (d : Die) (w : Who) (space : Nat) (u : Int) : UnitRd × Die :=
  if space = 1 then d.readShelfRow w u.toNat else d.readLine w u.toNat

/-- Write one unit of a stream. -/
def Die.writeUnit (d : Die) (w : Who) (space : Nat) (u : Int) (v : Nat) (poison : Bool) : Bool × Die :=
  if space = 1 then d.writeRow w u.toNat (BitVec.ofNat 4096 v) poison
  else d.writeLine w u.toNat (BitVec.ofNat 512 v) poison

/-- Read units in order. -/
def Die.readUnits (d : Die) (w : Who) (space : Nat) : List Int → List UnitRd × Die
  | [] => ([], d)
  | u :: us =>
    let p := d.readUnit w space u
    let q := p.2.readUnits w space us
    (p.1 :: q.1, q.2)

/-- Read every unit of a stream of an entry's descriptor. -/
def Die.readStream (d : Die) (e : Entry) (port : Nat) (s : Stream) : List UnitRd × Die :=
  d.readUnits (e.who port) s.space (unitsOf e.desc s)

/-- One output unit: address space, unit, bytes as a number, and whether it is written poisoned. -/
structure OutUnit where
  space : Nat
  unit : Int
  data : Nat
  poison : Bool
  deriving DecidableEq, Repr

/-- Write output units in order; true when every one landed. -/
def Die.writeUnits (d : Die) (w : Who) : List OutUnit → Bool × Die
  | [] => (true, d)
  | o :: os =>
    let p := d.writeUnit w o.space o.unit o.data o.poison
    let q := p.2.writeUnits w os
    (p.1 && q.1, q.2)

/-- The bytes of a unit list as one little-endian number, `n` bytes each. -/
def concatUnits (n : Nat) : List UnitRd → Nat
  | [] => 0
  | u :: us => u.data + concatUnits n us <<< (8 * n)

/-- Cut a number into `k` pieces of `n` bytes. -/
def cutUnits (n : Nat) : Nat → Nat → List Nat
  | 0, _ => []
  | k + 1, v => v % 2 ^ (8 * n) :: cutUnits n k (v >>> (8 * n))

/-- The first `k` `w`-bit elements of a number. -/
def elems (w k n : Nat) : List Nat := (List.range k).map fun i => fld n (w * i + w - 1) (w * i)

/-! ### Evaluation over far memory -/

/-- The die as it evaluates an operation. A descriptor keeps what it reads: an access is made once (R275). -/
def Die.workOf (d : Die) (who : Nat) : Die := { d with far := { d.far with who := who, keeps := decide (who < noSlot) } }

/-- Whether an operation has a read of a key under way, as a model line. -/
def Die.asked (d : Die) (slot key via : Nat) : Bool := d.far.asked.any fun a => a.slot == slot && a.key == key && a.via == via

/-- HOST reads outstanding on the link (R367). -/
def Die.hostReads (d : Die) : Nat := (d.far.asked.filter fun a => decide (a.key < waitKey 0)).length

/-- Add HOST reads of an operation. -/
def Die.ask (d : Die) (slot : Nat) (l : List (Nat × Nat)) : Die :=
  { d with far := { d.far with asked := d.far.asked ++ l.map fun k => ⟨slot, k.1, k.2, d.refclk⟩ } }

/-- Ask for a line in confidential mode: the operation waits for its unit, whose 64 lines and record are read unless they are
already on their way to it (R374). -/
def Die.askUnit (d : Die) (slot n via : Nat) : Die :=
  if d.asked slot (waitKey n) via then d
  else
    let d1 := d.ask slot [(waitKey n, via)]
    if d.asked slot (recKey n) 0 || (List.range 64).any (fun j => d.asked slot (rawKey (n / 64 * 64 + j)) 0) then d1
    else if 4096 < d.hostReads + 65 then d
    else d1.ask slot ((recKey n, 0) :: (List.range 64).map fun j => (rawKey (n / 64 * 64 + j), 0))

/-- Send a read an evaluation missed, once for each operation and access, with at most 4,096 outstanding (R367, R383). -/
def Die.askFar (d : Die) (slot : Nat) (m : FarMiss) : Die :=
  if waitKey 0 ≤ m.key ∧ m.key < 2 ^ 48 then d
  else if m.key < 2 ^ 48 then
    if d.confMode then d.askUnit slot m.key m.via
    else if d.asked slot m.key m.via || 4096 ≤ d.hostReads then d
    else d.ask slot [(m.key, m.via)]
  else if d.far.txns.any (fun t => t.slot == slot && t.line == m.key && t.via == m.via && !t.write) || 4096 ≤ d.far.txns.length then d
  else
    let frame := (m.key - 2 ^ 48) / 1024
    let off := m.key % 1024
    match d.egress (frame / 2 ^ 29) with
    | none =>
      -- no route: an uncorrectable error (R382, R384)
      ({ d with far := { d.far with arrived := d.far.arrived ++ [(⟨slot, m.key, m.via, ⟨0#512, false, true⟩⟩ : FarLine)] } } : Die).err
        Reg.LNK_ERR Bit.LNK_ERR_ROUTE
    | some _ =>
      (d.sendMsg 1 (frame / 2 ^ 29) false 0 (d.txnTag d.far.nextTxn) [peerAddr frame off, m.code, m.tenant, m.queue] []).openTxn m.key slot
        m.via false

/-- Demands an operation's accesses make of FLASH pages, in the order it reads them and no more than it has readers; one it
waits on already is not made again (R137, R139, R279). -/
def Die.newDemands (d : Die) (slot : Nat) (want : List Nat) : List (Nat × Nat) :=
  ((want.filter fun p => !d.tier.demanded.contains (p, slot) &&
    !(d.tier.moves.any fun m => m.page == p && m.demand && m.waiters.contains slot)).take 16).map fun p => (p, slot)

/-- What stays of an evaluation `t` that lacked lines: the cached lines it read are held, its reads and demands go out, and
their pages count as accessed (R139, R277, R279, R280, R367, R383). -/
def Die.await (d : Die) (slot : Nat) (t : Die) : Die :=
  let d1 := { d with
    far := { d.far with arrived := d.far.arrived ++ t.far.seen }
    tier := { d.tier with demanded := d.tier.demanded ++ d.newDemands slot t.far.want } }
  let d2 := (t.far.want ++ t.far.seen.map fun (l : FarLine) => (l.via - 1) / 1024).foldl Die.ptAccess d1
  t.far.miss.foldl (fun acc m => acc.askFar slot m) d2

/-- Operations are over: they hold no line and wait for no page, and their reads still on their way are nobody's. -/
def Die.forgetIf (d : Die) (gone : Nat → Bool) : Die :=
  { d with
    far := { d.far with
      arrived := d.far.arrived.filter fun l => !gone l.slot
      asked := (d.far.asked.filter fun a => !(gone a.slot && decide (waitKey 0 ≤ a.key))).map fun a =>
        if gone a.slot then { a with slot := orphanSlot, via := 0 } else a
      txns := d.far.txns.map fun t => if gone t.slot ∧ t.write = false then { t with slot := orphanSlot, via := 0 } else t }
    tier := { d.tier with
      demanded := d.tier.demanded.filter fun x => !gone x.2
      fillFailed := d.tier.fillFailed.filter fun x => !gone x.2 } }

/-- An operation is over. -/
def Die.forget (d : Die) (slot : Nat) : Die := d.forgetIf (· == slot)

/-- The die once an evaluated operation is done with the lines it read. -/
def Die.spend (t : Die) : Die :=
  let d := t.forget t.far.who
  { d with far := { d.far with who := noSlot, seen := [], keeps := false } }

/-- Every line of HOST, PEER and FLASH that led to this die was at hand, and no page or segment had to be waited for. -/
abbrev AtHand (t : Die) : Prop := t.far.miss = [] ∧ t.far.want = [] ∧ t.far.hold = []

/-- Evaluate an operation that reads memory. When every line it read was at hand its effect stands, and the lines it held
are spent; else nothing of it happens but its reads over the links and its demands of FLASH pages, and `wait` (R139, R277,
R279, R367, R383). -/
def Die.evaluate (slot : Nat) (wait : Die → Die → Die) (f : Die → Die) (d : Die) : Die :=
  let t := f (d.workOf slot)
  if AtHand t then t.spend else wait t (d.await slot t)

/-- Evaluate an operation that waits with no trace. -/
def Die.attempt (slot : Nat) (f : Die → Die) (d : Die) : Die := d.evaluate slot (fun _ w => w) f

/-! ### The frame of a descriptor's execution -/

/-- Apply one upset to the stored bits. A corrected row error is counted and its rewrite queued (R64). -/
def Die.upset (d : Die) (u : Upset) : Die :=
  let n := u.unit.toNat
  if u.isLine then d.putLine n ((d.lineCell n).struck u.mask.toNat u.forged)
  else if shelfRows ≤ n || !d.bankPowered (bankOf n) then d
  else if u.mask = 0#576 then
    ({ d with shelf := { d.shelf with rewrites := d.shelf.rewrites ++ [n] } }).countError 3 n
  else { d with shelf := { d.shelf with damage := SMap.put (fun _ => 0) d.shelf.damage n u.mask.toNat } }

/-- A run to the end with no fault. -/
def Run.clean : Run := ⟨[], none, 0, 0⟩

/-- A run to the end with what comes with it. -/
def Run.hit (h : Hits) : Run := ⟨h.upsets, none, h.lost, 0⟩

/-- What comes with work on memory takes effect: its faults strike, and its lost cycles are counted (R53). -/
def Die.struck (d : Die) (h : Hits) : Die := (h.upsets.foldl Die.upset d).count Reg.SHF_CONFLICT h.lost

/-- What an execution produced: output units with the ports they go through, and the record's fields. -/
structure Done where
  outs : List OutUnit
  port : Nat
  status : Nat
  flags : Nat
  result0 : Nat
  result1 : Nat
  cause : Nat
  deriving DecidableEq, Repr

/-- Mark a started descriptor done with a status, flags and results (the steps of R57 remain). One that failed at dispatch
keeps that cause (R191). -/
def Die.finish (d : Die) (slot st fl r0 r1 cause : Nat) : Die :=
  d.modEntry slot fun e => { e with
    phase := .executed, status := st, flags := e.flags ||| fl, result0 := r0, result1 := r1
    cause := if e.fail = 0 then cause else e.fail }

/-- End a start whose checks failed: nothing executed, and no flag stays (Table 8.9). -/
def Die.reject (d : Die) (slot st : Nat) : Die :=
  (d.modEntry slot fun e => { e with flags := 0 }).finish slot st 0 0 0 0

/-- Status after the writes: a write lost to a closed gate gives BANK_OFF, another lost write DATA_FAULT, when
the execution was OK so far (R67, R319). -/
def lostStatus (st : Nat) (landed gateLost : Bool) : Nat :=
  if gateLost && (st == stOk || st == stDataFault) then stBankOff
  else if !landed && st == stOk then stDataFault else st

/-- Whether an output of the list goes to a bank that has lost its gate, in the Shelves or as a SHELF page (R67). -/
def Die.gateLost (d : Die) (os : List OutUnit) : Bool :=
  os.any fun o =>
    if o.space = 1 then !d.bankPowered (bankOf o.unit.toNat)
    else
      let e := d.pte (o.unit.toNat / 1024)
      pteTier e == 1 && !d.bankPowered (pteFrame e / 8)

/-- EARLY_END with a status that ends an execution for a closed gate (Table 8.9). -/
def offFlag (st : Nat) : Nat := if st = stBankOff then flEarlyEnd else 0

/-- Whether the Wheel executes a descriptor: the first case that occurs gives its status (R165). -/
def firstCase (x : DescBits) : Bool := opcodeOf x / 16 == 2

/-- Write what an execution produced and end it, or leave it started after `stop` units. -/
def Die.deliver (d : Die) (e : Entry) (run : Run) (r : Done) : Die :=
  let os := match run.stop with
    | none => r.outs
    | some n => r.outs.take n
  let p := d.writeUnits (e.who r.port) os
  let fl := r.flags ||| (if os.any (·.poison) then flPoisonOut else 0)
  let gate := p.2.gateLost os
  let st := lostStatus r.status p.1 gate
  match run.stop with
  | none =>
    p.2.finish e.slot st (fl ||| offFlag st) r.result0 r.result1 r.cause
  | some n => p.2.modEntry e.slot fun o => { o with
      flags := o.flags ||| fl
      status := if firstCase e.desc then st else o.status
      left := (r.outs.drop n).map fun u => (u.space, u.unit) }

/-- Concurrency class of a descriptor (Table 1.4): descriptors of one class execute at most `classLimit` at once. Each
sensor context is a class of its own. -/
def classOf (x : DescBits) : Nat :=
  let op := opcodeOf x
  if op == 0x22 || op == 0x23 then 100
  else if op == 0x20 || op == 0x21 then 101
  else if op == 0x50 then 102
  else if op == 0x51 then 103
  else if op == 0x10 then 104
  else if op == 0x11 then 105
  else match unitOf op with
    | some .glaze => 106
    | some .mover => 107
    | some .tier => 108
    | some .camera => 112 + pF x 1 0
    | some .link => 110
    | _ => 111

/-- Classes among which a unit starts the oldest first (R13): the Wheel's two, Pug's two and the sensor contexts count as one
each. -/
def turnOf (c : Nat) : Nat := if c = 101 then 100 else if c = 103 then 102 else if 112 ≤ c then 112 else c

/-- How many descriptors of a class execute at once. -/
def classLimit (c : Nat) : Nat :=
  if c = 107 ∨ c = 108 then 8 else if c = 110 then 2 else if c = 111 then 4096 else 1

/-- Whether the slots a descriptor uses all allow it to start now (Table 3.4). -/
def Die.slotsFree (d : Die) (e : Entry) : Bool := (d.slotUses8 e.desc).all fun u => d.slotAllows u.1 u.2

/-- Entries of a class that have started, not completed and not left their channel (R246, R252). -/
def Die.inClass (d : Die) (c : Nat) : List Entry := d.sb.filter fun e => e.running && e.phase != .parked && classOf e.desc == c

/-- Whether a class has a free place. -/
def Die.classFree (d : Die) (c : Nat) : Bool := decide ((d.inClass c).length < classLimit c)

/-- Whether a ready entry could start now, its turn apart. -/
def Die.startable (d : Die) (e : Entry) : Bool := e.phase == .ready && d.slotsFree e && !d.startBlocked e

/-- Whether an entry is the oldest that its unit could start (R13). -/
def Die.oldest (d : Die) (e : Entry) : Bool :=
  !(d.sb.any fun o => decide (o.order < e.order) && turnOf (classOf o.desc) == turnOf (classOf e.desc) && d.startable o &&
    (classOf o.desc == classOf e.desc || d.classFree (classOf o.desc)))

/-- The lowest-numbered free channel of a class (R186). -/
def Die.freeLane (d : Die) (c : Nat) : Nat :=
  ((List.range (classLimit c)).find? fun k => !(d.inClass c).any fun e => e.lane == k).getD 0

/-- Whether the unit may start the descriptor in this step: ready, its turn, and a place free (R12, R13). -/
def Die.mayStart (d : Die) (e : Entry) : Bool := d.startable e && d.oldest e && d.classFree (classOf e.desc)

/-- Fence epoch of the unit of an opcode; 0 for the scheduler (Table 8.8). -/
def Die.epochOf (d : Die) (op : Nat) : Nat :=
  match (unitOf op).bind fenceOf with
  | some f => d.rf f 15 0
  | none => 0

/-- SHELF pages in the memory streams' reach pass Table 3.3 as accesses through the streams' ports, each check over all of
them in turn (R54, R271). DESIGN CHOICE: after the descriptor's own Table 3.3 and Table 12.3 (log entry 82). -/
def Die.shelfPages (d : Die) (e : Entry) : Checked :=
  let all := (memStreams e.desc).flatMap fun p =>
    ((pagesOf (reachOf e.desc p.1).1 (reachOf e.desc p.1).2).filter fun g => pteTier (d.pte g) == 1).map fun g => (g, p.2)
  match pageChecks.findSome? fun c => (all.find? fun q => d.pageFails (e.who q.2.port) q.1 q.2.write c.1).map fun q => (c.2, q) with
  | none => (none, d)
  | some f => (some f.1.1, d.shelfFault f.1.2 (pteFrame (d.pte f.2.1) / 8) f.2.2.port (some (e.tenant, e.queue)))

/-- Every check at start, in order: Table 3.3, Table 12.3, then SHELF pages. -/
def Die.allStartChecks (d : Die) (e : Entry) : Checked :=
  match d.startChecks e with
  | (some st, d1) => (some st, d1)
  | (none, d1) => d1.shelfPages e

/-- Start a ready descriptor: it takes its place and epoch, claims its slots, and its handoff is judged (R56, R57, R60,
Table 8.8). A P.COMPRESS takes T (R107). -/
def Die.markStarted (d : Die) (e : Entry) : Die :=
  let uses := d.slotUses8 e.desc
  let read := (uses.filter fun u => u.2 == .reader).map (·.1)
  ({ d with shelf := { d.shelf with
    readBegun := setInsertAll read d.shelf.readBegun
    reading := d.shelf.reading ++ read.map fun n => (n, e.slot) } }).modEntry e.slot fun o => { o with
      phase := .started
      began := true
      uses := uses
      handsOff := hasHandoff e.desc &&
        (d.handoffBad e.tenant ((unitOf (opcodeOf e.desc)).getD .scheduler) (handoffOf e.desc)).isNone
      epoch := d.epochOf (opcodeOf e.desc)
      aux := if opcodeOf e.desc = 0x50 then [d.rf Reg.PUG_CTRL 6 0] else o.aux
      lane := d.freeLane (classOf e.desc) }

end Sys2Proof.Machine
end

