-- ==== Sys2Proof/Machine/Schedule.lean ====
section
/-! DEFINITION. Byte accesses that note their failures, and the schedules of T.PREFETCH (chapters 07 and 12, R282, R283). -/

namespace Sys2Proof.Machine

/-- Whether a work on KV state has failed so far: an unreadable part, or a lost write. -/
structure KvAcc where
  bad : Bool
  die : Die
  deriving DecidableEq, Repr

/-- Read bytes, noting a failure. -/
def KvAcc.read (a : KvAcc) (w : Who) (addr k : Nat) : Nat × KvAcc :=
  let p := a.die.readBytes w addr k
  (p.1.data, ⟨a.bad || p.1.bad, p.2⟩)

/-- Write bytes, noting a failure. -/
def KvAcc.write (a : KvAcc) (w : Who) (addr k v : Nat) : KvAcc :=
  let p := a.die.writeBytes w addr k v
  ⟨a.bad || !p.1, p.2⟩

/-- A source unit as a mover takes it: a bad one counts as zeros (R186). -/
def moverData (u : UnitRd) : Nat := if u.bad then 0 else u.data

/-- The bytes of mover source units as one number. -/
def moverBytes (n : Nat) (us : List UnitRd) : Nat := concatUnits n (us.map fun u => { u with data := moverData u })

/-- mask of S.BARRIER. -/
def barMask (x : DescBits) : Nat := pF x 15 8

/-- nidx of T.PREFETCH. -/
def pfNidx (x : DescBits) : Nat := pF x 24 16
/-- stage of T.PREFETCH. -/
def pfStage (x : DescBits) : Nat := pF x 15 0

/-- What reading a schedule gave: the ranges to request, or none for a malformed image; whether an index was out of
range; and the memory accesses' state. -/
structure SchedRead where
  ranges : Option (List (Nat × Nat))
  badIndex : Bool
  acc : KvAcc

/-- Read range records `first` to `first + n − 1`: address and PAGES. -/
def KvAcc.ranges (a : KvAcc) (w : Who) (base first n : Nat) : List (Nat × Nat) × KvAcc :=
  let p := a.read w (base + 16 * first) (16 * n)
  ((List.range n).map fun i => (bytesAt p.1 (16 * i) 6, bytesAt p.1 (16 * i + 8) 4), p.2)

/-- Read the ranges a stage selects (R282, R283). -/
def schedRead (w : Who) (img stage : Nat) (idx : List Int) (a : KvAcc) : SchedRead :=
  let h := a.read w img 64
  let stages := bytesAt h.1 4 4
  let total := bytesAt h.1 8 4
  if h.2.bad then ⟨some [], false, h.2⟩
  else if bytesAt h.1 0 4 ≠ 0x5C4ED0F1 ∨ stages ≤ stage then ⟨none, false, h.2⟩
  else
    let s := h.2.read w (img + bytesAt h.1 16 8 + 8 * stage) 8
    let first := bytesAt s.1 0 4
    let count := bytesAt s.1 4 2
    let experts := bytesAt s.1 6 2
    let wrong := decide (experts ≠ 0) && idx.any fun i => i != -1 && (decide (i < 0) || decide ((experts : Int) ≤ i))
    let starts := if experts = 0 then [first]
      else idx.filterMap fun i => if 0 ≤ i ∧ i < (experts : Int) then some (first + i.toNat * count) else none
    if s.2.bad then ⟨some [], false, s.2⟩
    else if starts.any fun f => decide (total < f + count) then ⟨none, wrong, s.2⟩
    else
      let r := starts.foldl (fun (acc : List (Nat × Nat) × KvAcc) f =>
        let p := acc.2.ranges w (img + bytesAt h.1 24 8) f count
        (acc.1 ++ p.1, p.2)) ([], s.2)
      ⟨some r.1, wrong, r.2⟩

/-- The pages of a range. -/
def rangePages (r : Nat × Nat) : List Nat := (List.range r.2).map (· + r.1 / 65536)

/-- A T.PREFETCH reads its indices and its schedule: the index units, and what the schedule gave. -/
def pfRead (e : Entry) (d : Die) : List UnitRd × SchedRead :=
  let x := e.desc
  let ix := streamOf x 1
  let p := if ix.present then d.readStream e 4 ix else ([], d)
  let idx := (List.range (pfNidx x)).map fun i => toSigned 32 (fld (moverBytes 512 p.1) (32 * i + 31) (32 * i))
  (p.1, schedRead (e.who 4) (streamOf x 0).base (pfStage x) idx ⟨p.1.any (·.bad), p.2⟩)

/-- Pages a T.PREFETCH that has not started would request, as its schedule stands. -/
def Die.prefetchWants (d : Die) (e : Entry) : List Nat :=
  if opcodeOf e.desc = 0x80 ∧ e.began = false then ((pfRead e (d.workOf e.slot)).2.ranges.getD []).flatMap rangePages
  else []

end Sys2Proof.Machine
end

