-- ==== Sys2Proof/Machine/Queue.lean ====
section
/-! DEFINITION. The life of a descriptor: queue contexts, admission, readiness, completion, doorbells and
context commands (chapters 08, 09 and 10; R56 to R62, R170 to R175, R187, R191 to R198, R208 to R240). -/

namespace Sys2Proof.Machine

/-! ### Tenant records (R219) -/

/-- First queue of a record's range. -/
def Die.qbase (d : Die) (i : Nat) : Nat := d.rf (Reg.QUE_TEN_QBASE i) 19 0
/-- Queues in a record's range. -/
def Die.qcount (d : Die) (i : Nat) : Nat := d.rf (Reg.QUE_TEN_QCOUNT i) 20 0

/-- Tenant code of a record index. -/
def tenantCode (i : Nat) : Nat := if i = 64 then mgmtCode else i

/-- The valid record whose range holds a queue (R223). -/
def Die.queueRecord (d : Die) (q : Nat) : Option Nat :=
  (List.range 65).find? fun i => d.tenantValid i && decide (d.qbase i ≤ q) && decide (q < d.qbase i + d.qcount i)

/-- Descriptors of a record in the scoreboard. -/
def Die.tenantInFlight (d : Die) (i : Nat) : Nat := (d.sb.filter fun e => tenantIdx e.tenant == i).length

/-- Slots tenants hold together. -/
def Die.tenantsInFlight (d : Die) : Nat := (d.sb.filter fun e => e.tenant != mgmtCode).length

/-! ### Contexts (R224, R232, Table 10.3) -/

/-- A context as the table in LPDDR holds it. -/
def Die.tableCtx (d : Die) (q : Nat) : QCtx := SMap.get (fun _ => QCtx.free) d.queues.table q

/-- A cached context. -/
def Die.cachedCtx (d : Die) (q : Nat) : Option QCtx := (d.queues.cache.find? fun c => c.1 == q).map (·.2)

/-- The context of a queue, wherever it is. -/
def Die.ctxOf (d : Die) (q : Nat) : QCtx := (d.cachedCtx q).getD (d.tableCtx q)

/-- Store a cached context and make it the most recently used. -/
def Die.setCtx (d : Die) (q : Nat) (c : QCtx) : Die :=
  { d with queues := { d.queues with cache := (d.queues.cache.filter fun x => x.1 != q) ++ [(q, c)] } }

/-- Store a context where it is: cached, or in the table when the cache cannot take it (R232). -/
def Die.storeCtx (d : Die) (q : Nat) (c : QCtx) : Die :=
  if (d.cachedCtx q).isSome then d.setCtx q c
  else { d with queues := { d.queues with table := SMap.put (fun _ => QCtx.free) d.queues.table q c } }

/-- Record a queue fault: its number and its flag (R234). -/
def Die.queueErr (d : Die) (q bit : Nat) : Die :=
  (d.setReg Reg.QUE_ERR_QUEUE (BitVec.ofNat 32 (q % 2 ^ 20))).err Reg.QUE_ERR bit

/-- A context in ERROR with a cause; one already in ERROR keeps the cause it entered with. -/
def QCtx.failed (c : QCtx) (err : Nat) : QCtx := if c.state = 3 then c else { c with state := 3, err := err }

/-- Put a queue in ERROR with a cause (Table 10.6). -/
def Die.queueFail (d : Die) (q err bit : Nat) : Die :=
  match d.cachedCtx q with
  | some c => (d.setCtx q (c.failed err)).queueErr q bit
  | none =>
    let c := d.tableCtx q
    if c.state = 0 then d.queueErr q bit
    else ({ d with queues := { d.queues with
      table := SMap.put (fun _ => QCtx.free) d.queues.table q (c.failed err) } }).queueErr q bit

/-- Modulo-2³² difference. -/
def sub32 (a b : Nat) : Nat := (a + 2 ^ 32 - b % 2 ^ 32) % 2 ^ 32

/-- A dropped doorbell of a tenant's page (R234). -/
def Die.dbDrop (d : Die) (i q bit : Nat) : Die :=
  let d1 := if i < 64 then d.count (Reg.DB_DROPPED i) 1 else d
  d1.queueErr q bit

/-- Add slots to a cached queue (R233, R234). -/
def Die.addSlots (d : Die) (i q n : Nat) : Die :=
  match d.cachedCtx q with
  | none => d
  | some c =>
    if c.state = 0 ∨ c.state = 3 then d.dbDrop i q Bit.QUE_ERR_DB_RANGE
    else if 2 ^ c.sqLog2 < sub32 c.sqTail c.sqHead + n then
      let d1 := d.dbDrop i q Bit.QUE_ERR_DB_OVERFLOW
      d1.setCtx q { c with state := 3, err := 1 }
    else d.setCtx q { c with sqTail := (c.sqTail + n) % 2 ^ 32 }

/-- Release records of a cached queue (R233, R234). -/
def Die.releaseRecords (d : Die) (i q n : Nat) : Die :=
  match d.cachedCtx q with
  | none => d
  | some c =>
    if c.state = 0 ∨ c.state = 3 then d.dbDrop i q Bit.QUE_ERR_DB_RANGE
    else if sub32 c.cqTail c.cqHead < n then d.dbDrop i q Bit.QUE_ERR_CQ_RELEASE
    else d.setCtx q { c with cqHead := (c.cqHead + n) % 2 ^ 32 }

/-- The least recently used cached queue with nothing in flight (R232). -/
def Die.evictable (d : Die) : Option (Nat × QCtx) := d.queues.cache.find? fun c => c.2.inFlight == 0

/-- Bring a queue's context into the cache, writing back the one it displaces, and merge the doorbells
recorded for it (R232). -/
def Die.fetchCtx (d : Die) (q : Nat) : Die :=
  match d.cachedCtx q with
  | some c => d.setCtx q c
  | none =>
    let d1 := if d.queues.cache.length < 4096 then d
      else match d.evictable with
        | none => d
        | some v => { d with queues := { d.queues with
            table := SMap.put (fun _ => QCtx.free) d.queues.table v.1 v.2
            cache := d.queues.cache.filter fun c => c.1 != v.1 } }
    if 4096 ≤ d1.queues.cache.length then d
    else
      let d2 := (d1.setCtx q (d1.tableCtx q)).count Reg.QUE_CTX_MISS 1
      let i := (d2.queueRecord q).getD 64
      let mine := d2.queues.recorded.filter fun r => r.1 == q
      let d3 := { d2 with queues := { d2.queues with recorded := d2.queues.recorded.filter fun r => r.1 != q } }
      mine.foldl (fun acc r => if r.2.1 then acc.releaseRecords i q r.2.2 else acc.addSlots i q r.2.2) d3

/-- The queue's descriptors in the scoreboard. -/
def Die.queueInFlight (d : Die) (q : Nat) : Nat := (d.sb.filter fun e => e.queue == q).length

/-- The effect of an error in the queue-context cache (Table 20.2, Table 10.6). -/
def Die.cacheUpset (d : Die) (u : CacheUpset) : Die :=
  let d1 := d.countError 6 (2 * 2 ^ 24 + u.word.toNat)
  match u.part with
  | .corrected => d1
  | .context q =>
    let d2 := d1.err Reg.RAS_ERR Bit.RAS_ERR_CTRL_UE
    match d2.cachedCtx q.toNat with
    | none => d2
    | some _ =>
      (d2.setCtx q.toNat { d2.tableCtx q.toNat with state := 3, err := 4, inFlight := d2.queueInFlight q.toNat }).queueErr
        q.toNat Bit.QUE_ERR_CTX_UE
  | .counter c => ((d1.err Reg.RAS_ERR Bit.RAS_ERR_CTRL_UE).setEvt c.toNat 0xFFFFFFFF).poisonEvt c.toNat
  | .slot n => (d1.err Reg.RAS_ERR Bit.RAS_ERR_CTRL_UE).finish n.toNat stDataFault 0 0 0 0
  | .pageTable k =>
    let d2 := d1.err Reg.RAS_ERR Bit.RAS_ERR_CTRL_UE
    { d2 with tier := { d2.tier with ptCache := d2.tier.ptCache.filter (· != k.toNat) } }

/-- QUEUE_CONTEXT_FETCH: a missing context is fetched (R232). -/
def Die.queueContextFetch (d : Die) (q : BitVec 20) (u : Option CacheUpset) : Die :=
  let d1 := if (d.cachedCtx q.toNat).isSome then d else d.fetchCtx q.toNat
  match u with
  | none => d1
  | some x => d1.cacheUpset x

/-! ### Rings (R225, R226, R229) -/

/-- Whether every page of a byte range is mapped to LOCAL or HOST. -/
def Die.ringPages (d : Die) (addr k : Nat) : Bool :=
  (List.range ((addr + k - 1) / 65536 + 1 - addr / 65536)).all fun j =>
    let t := pteTier (d.pte (addr / 65536 + j))
    t == 2 || t == 3

/-- Address of a queue's next slot, `ahead` slots on. -/
def QCtx.slotAddr (c : QCtx) (ahead : Nat) : Nat := c.sqBase + 128 * ((c.sqHead + ahead) % 2 ^ c.sqLog2)

/-- Read 128 bytes of a submission ring as the queue's tenant (R226). -/
def Die.readSlot (d : Die) (code q addr : Nat) : UnitRd × Die :=
  if d.ringPages addr 128 then d.readBytes ⟨4, code, q, noSlot⟩ addr 128 else (⟨0, true, false⟩, d)

/-- The head descriptor of a queue: none when a slot read fails, else the descriptor and its slots. An extended
descriptor with only one slot covered by doorbells is not there yet (R225). -/
inductive Head where
  | bad
  | short
  | ready (x : DescBits) (slots : Nat)
  deriving DecidableEq, Repr

/-- Read the head of a queue with at least one slot added. -/
def Die.readHead (d : Die) (code q : Nat) (c : QCtx) : Head × Die :=
  let p := d.readSlot code q (c.slotAddr 0)
  if p.1.bad then (.bad, p.2)
  else if p.1.data.testBit 8 then
    if sub32 c.sqTail c.sqHead < 2 then (.short, p.2)
    else
      let r := p.2.readSlot code q (c.slotAddr 1)
      if r.1.bad then (.bad, r.2) else (.ready (BitVec.ofNat 2048 (p.1.data + r.1.data <<< 1024)) 2, r.2)
  else (.ready (BitVec.ofNat 2048 p.1.data) 1, p.2)

/-- Write SQ_HEAD back as the queue's tenant; a failed check puts the queue in ERROR (R229). -/
def Die.headWriteback (d : Die) (code q : Nat) (c : QCtx) : Die :=
  if c.headWb = 0 then d
  else
    let d1 := { d with queues := { d.queues with lastWb := SMap.put (fun _ => 0) d.queues.lastWb q c.sqHead } }
    if d1.ringPages c.headWb 4 then
      let p := d1.writeBytes ⟨4, code, q, noSlot⟩ c.headWb 4 c.sqHead
      if p.1 then p.2 else p.2.queueFail q 3 Bit.QUE_ERR_CQ_WRITE
    else d1.queueFail q 3 Bit.QUE_ERR_CQ_WRITE

/-- The write-back of one queue at a tick, when its SQ_HEAD has changed since the last one. A page on the move leaves it to
the next tick (R229). -/
def Die.headAtTick (d : Die) (x : Nat × QCtx) : Die :=
  if x.2.state = 0 ∨ x.2.sqHead = SMap.get (fun _ => 0) d.queues.lastWb x.1 then d
  else match d.queueRecord x.1 with
    | none => d
    | some i =>
      let t := d.headWriteback (tenantCode i) x.1 x.2
      if t.far.hold = d.far.hold then t else d

/-- The write-backs of a tick: of every queue, cached or not (R229). -/
def Die.headWritebacks (d : Die) : Die :=
  (d.queues.cache ++ d.queues.table.filter fun x => (d.cachedCtx x.1).isNone).foldl Die.headAtTick d

/-! ### Completion (R57, R174, R175, R192, R194, R227, R228) -/

/-- Whether a descriptor's handoff is applied: judged when it started, or now when it never did (R56, R57, R192). -/
def Die.handoffStands (d : Die) (e : Entry) : Bool :=
  hasHandoff e.desc &&
    if e.began then e.handsOff
    else (d.handoffBad e.tenant ((unitOf (opcodeOf e.desc)).getD .scheduler) (handoffOf e.desc)).isNone

/-- Apply a legal handoff: every named bank takes the new owner (R56, R57 step 2). -/
def Die.applyHandoff (d : Die) (e : Entry) : Die :=
  if d.handoffStands e then
    let h := handoffOf e.desc
    (List.range h.2.1).foldl (fun acc k => acc.setRf (Reg.SHF_BANK_CFG (h.1 + k)) 3 0 h.2.2) d
  else d

/-- A slot begins another fill, or none: no reader of it has started (R60). -/
def Die.noReaders (d : Die) (slot : Nat) : Die :=
  { d with shelf := { d.shelf with
    readBegun := d.shelf.readBegun.filter (· != slot)
    reading := d.shelf.reading.filter fun r => r.1 != slot } }

/-- A slot is filled: GEN moves on by `n`, its reads are due again, and POISON tells whether the fill failed (Table 3.4). -/
def Die.fillSlot (d : Die) (slot n st : Nat) : Die :=
  let w := d.reg (Reg.SHF_SLOT_CTRL slot)
  (d.noReaders slot).setReg (Reg.SHF_SLOT_CTRL slot)
    (((w.setF 31 16 (d.slotGen slot + n)).setF 7 4 (w.f 11 8)).setF 15 15 (if st = stOk then 0 else 1))

/-- A slot has been read: READS_LEFT falls by 1, and GEN moves on when it reaches 0 (Table 3.4). -/
def Die.readSlotDone (d : Die) (slot : Nat) : Die :=
  if d.slotGen slot % 2 = 1 ∧ 0 < d.readsLeft slot then
    let w := (d.reg (Reg.SHF_SLOT_CTRL slot)).setF 7 4 (d.readsLeft slot - 1)
    d.setReg (Reg.SHF_SLOT_CTRL slot)
      (if d.readsLeft slot = 1 then w.setF 31 16 (d.slotGen slot + 1) else w)
  else d

/-- The slot transition of one use at completion (Table 3.4). -/
def Die.slotDone (d : Die) (st : Nat) (u : Nat × SlotRole) : Die :=
  if !d.slotDeclared u.1 then d
  else match u.2 with
    | .writer => d.fillSlot u.1 1 st
    | .both => d.fillSlot u.1 2 st
    | .reader => d.readSlotDone u.1

/-- Slots whose transition an entry makes: fixed at start, else those its legal streams reach (R60, R192). A C.BIND that has
installed its binding leaves them to the frame's outputs (R346; DEDUCED, log entry 103). -/
def Die.doneUses (d : Die) (e : Entry) : List (Nat × SlotRole) :=
  if opcodeOf e.desc = 0x90 ∧ e.status = stOk then [] else if e.began then e.uses else d.slotUses8 e.desc

/-- Perform one signal of a completing descriptor (R174, R175, R192). -/
def Die.signalOne (d : Die) (tenant : Nat) (taint : Bool) (s : Nat × Nat) : Die :=
  if d.evtPermitted tenant s.1 then
    let d1 := d.addEvt s.1 s.2
    if taint then d1.poisonEvt s.1 else d1
  else d.err Reg.SCH_EVT_ERR Bit.SCH_EVT_ERR_FOREIGN

/-- The completion record of Table 8.8 for a firing, as a little-endian number; PHASE in the last byte. -/
def recordOf (firing : Nat) (e : Entry) (phase : Nat) : Nat :=
  let f := fun (byte v : Nat) => v <<< (8 * byte)
  f 0 (tagOf e.desc) + f 4 (e.seq % 2 ^ 32) + f 8 (e.queue % 2 ^ 20 + e.tenant % 128 * 2 ^ 20) +
    f 12 (opcodeOf e.desc) + f 13 (e.status % 256) + f 14 (e.flags % 2 ^ 16) + f 16 (firing % 2 ^ 32) +
    f 20 (e.result0 % 2 ^ 32) + f 24 (e.result1 % 2 ^ 32) + f 28 (e.epoch % 2 ^ 16) + f 30 (e.cause % 256) +
    f 31 (phase % 2)

/-- Whether a completing entry leaves a record (R194). -/
def Entry.records (e : Entry) : Bool := notifyBit e.desc || e.status != stOk

/-- Write the completion record, or lose it when the write fails (R227, R234). -/
def Die.writeRecord (d : Die) (firing : Nat) (e : Entry) : Die :=
  match d.cachedCtx e.queue with
  | none => d
  | some c =>
    let phase := if c.cqTail / 2 ^ c.cqLog2 % 2 = 0 then 1 else 0
    let addr := c.cqBase + 32 * (c.cqTail % 2 ^ c.cqLog2)
    let d1 := d.setCtx e.queue { c with cqTail := (c.cqTail + 1) % 2 ^ 32 }
    if c.state = 3 ∧ c.err = 4 then d1
    else if d1.ringPages addr 32 then
      let p := d1.writeBytes ⟨4, e.tenant, e.queue, noSlot⟩ addr 32 (recordOf firing e phase)
      if p.1 then p.2 else p.2.queueFail e.queue 3 Bit.QUE_ERR_CQ_WRITE
    else d1.queueFail e.queue 3 Bit.QUE_ERR_CQ_WRITE

/-- The tenant counter a status adds to (Table 10.7). -/
def Die.countOutcome (d : Die) (tenant st : Nat) : Die :=
  let t := tenantIdx tenant
  if st = stDeferred then d.count (Reg.QUE_TEN_DEFERRED t) 1
  else if st = stRefused then d.count (Reg.QUE_TEN_REFUSED t) 1
  else if st = stPreempted then d.count (Reg.QUE_TEN_PREEMPTED t) 1
  else d

/-- Nothing refers to a scoreboard slot any longer: its reads, its place among a slot's readers, and the moves it waited
for. -/
def Die.leaveSlot (d : Die) (slot : Nat) : Die :=
  let d1 := d.forget slot
  { d1 with
    sb := d1.sb.filter fun o => o.slot != slot
    shelf := { d1.shelf with reading := d1.shelf.reading.filter fun r => r.2 != slot }
    tier := { d1.tier with moves := d1.tier.moves.map fun m => { m with waiters := m.waiters.filter (· != slot) } } }

/-- Free an entry's scoreboard slot. -/
def Die.vacate (d : Die) (e : Entry) : Die :=
  let d1 := d.leaveSlot e.slot
  if d1.sb.isEmpty then { d1 with sched := { d1.sched with idleSince := d1.refclk } } else d1

/-- Free a descriptor's place in its queue. -/
def Die.freePlace (d : Die) (q : Nat) : Die :=
  match d.cachedCtx q with
  | none => d
  | some c => d.setCtx q { c with inFlight := c.inFlight - 1 }

/-- Free an entry's scoreboard slot and its place in its queue. -/
def Die.release (d : Die) (e : Entry) : Die := (d.vacate e).freePlace e.queue

/-- Raise the queue's VECTOR (R228). -/
def Die.raiseVector (d : Die) (q : Nat) : Die :=
  match d.cachedCtx q with
  | none => d
  | some c => if c.vector < 2048 then d.msix c.vector else d

/-- Whether every used wait is satisfied (R173). -/
def Die.waitsMet (d : Die) (x : DescBits) : Bool := (waitsOf x).all fun w => decide (w.2 ≤ d.evt w.1)

/-- A counter takes a value: an S.TICKWAIT whose waits the new value unsatisfies counts its ticks afresh once they are
satisfied again (R173, R190). -/
def Die.putEvt (d : Die) (c v : Nat) : Die :=
  let d1 := d.setEvt c v
  { d1 with sb := d1.sb.map fun e =>
    if opcodeOf e.desc = 0x63 ∧ e.phase = .waiting ∧ d1.waitsMet e.desc = false then { e with ticks := 0 } else e }

/-- The action of S.SIGNAL in its completion cycle (R188). -/
def Die.signalAction (d : Die) (e : Entry) : Die :=
  if opcodeOf e.desc = 0x61 ∧ e.status = stOk then
    match pF e.desc 1 0 with
    | 1 => d.putEvt (pF e.desc 31 16) (pF e.desc 63 32)
    | 2 => d.unpoisonEvt (pF e.desc 31 16)
    | _ => d
  else d

/-- Accumulator rows the legal accumulator streams of a descriptor name. -/
def accRows (x : DescBits) : List Nat :=
  (streamRoles x).flatMap fun p =>
    if p.1.space = 3 ∧ roleOk p.2 p.1 ∧ levelsOk x p.1 ∧ baseOk p.1 then
      (unitsOf x p.1).filterMap fun u => if 0 ≤ u ∧ u < 2048 then some u.toNat else none
    else []

/-- Clear OWED of accumulator rows (R89). -/
def Die.unowe (d : Die) (rows : List Nat) : Die :=
  { d with kiln := { d.kiln with owed := d.kiln.owed.filter fun r => !rows.contains r } }

/-- Reference-clock cycles of a number of milliseconds. -/
def msCycles (n : Nat) : Nat := n * 38400

/-- A T.PARK completes: its record's time to live runs from now (R287); pages a reset left unparked are no longer
in it (R292). -/
def Die.parkDone (d : Die) (id : Nat) : Die :=
  let held := fun (p : Nat) => pteParked (d.pte p) && ptePark (d.pte p) == id
  let keep := fun (r : ParkRec) =>
    if r.id ≠ id then some r
    else if r.pages.any held then
      some { r with pages := r.pages.filter held, expires := some (d.refclk + msCycles r.ttl) }
    else none
  { d with tier := { d.tier with parks := d.tier.parks.filterMap keep } }

/-- Free a park record; its pages name it no longer. -/
def Die.freePark (d : Die) (id : Nat) : Die :=
  match d.tier.parks.find? fun r => r.id == id with
  | none => d
  | some r =>
    let d1 := r.pages.foldl (fun acc p =>
      if ptePark (acc.pte p) = id then acc.setPte p (pteSet (acc.pte p) 35 20 0) else acc) d
    { d1 with tier := { d1.tier with parks := d1.tier.parks.filter fun o => o.id != id } }

/-- A T.RESTORE completes: its record is freed (R289); one ended with pages still parked lets the record expire again. -/
def Die.restoreDone (d : Die) (id : Nat) : Die :=
  let left := d.tier.parks.any fun r => r.id == id && r.pages.any fun p => pteParked (d.pte p) && ptePark (d.pte p) == id
  if !left then d.freePark id
  else { d with tier := { d.tier with parks := d.tier.parks.map fun r => if r.id = id then { r with restoring := false } else r } }

/-- A serving group. -/
def Die.grp (d : Die) (g : Nat) : Group := SMap.get (fun _ => Group.idle) d.serving.groups g

/-- Store a serving group. -/
def Die.setGrp (d : Die) (g : Nat) (x : Group) : Die :=
  { d with serving := { d.serving with groups := SMap.put (fun _ => Group.idle) d.serving.groups g x } }

/-- Whether a V.EMIT STEP names the open step of its group (R243, R255). -/
def Die.stepNamed (d : Die) (e : Entry) : Bool :=
  e.tenant == mgmtCode && (d.grp (pF e.desc 5 2)).inStep && (d.reg (Reg.QUE_SRV_GSTEP (pF e.desc 5 2))).toNat == pF e.desc 63 32

/-- Note that a step of a group is posted failed (R255, Table 11.12). -/
def Die.stepFailed (d : Die) (g : Nat) : Die :=
  (d.setReg Reg.QUE_SRV_ERR_INFO (BitVec.ofNat 32 (g + mgmtCode * 16))).err Reg.QUE_SRV_ERR Bit.QUE_SRV_ERR_FAILED_STEP

/-- A completing V.EMIT STEP marks its step posted, as failed unless its status is OK; one that was not legal when it
started posts nothing (R255). -/
def Die.postStep (d : Die) (e : Entry) : Die :=
  if d.stepNamed e && (e.lawful || !e.began) then
    let g := pF e.desc 5 2
    let d1 := if e.status = stOk then d else d.stepFailed g
    d1.setGrp g { d1.grp g with posted := some (e.status != stOk) }
  else d

/-- What a unit does as its descriptor completes: a K.LOAD_IN leaves the shadow FULL, poisoned unless it ended
OK (Table 4.2), a Glaze descriptor that did not read the accumulator rows it names clears their OWED bits
(R89), a V.EMIT STEP posts its step (R255), and park records start or end their time (R287, R289). -/
def Die.unitDone (d : Die) (e : Entry) : Die :=
  if opcodeOf e.desc = 0x10 then
    if e.began ∧ d.kiln.shadowState = .filling then
      { d with kiln := { d.kiln with
        shadow := d.kiln.shadow.map fun p => { p with poison := e.status != stOk }
        shadowState := .full } }
    else d
  else if unitOf (opcodeOf e.desc) = some .glaze then d.unowe ((accRows e.desc).filter fun r => !e.aux.contains r)
  else if opcodeOf e.desc = 0x71 ∧ pF e.desc 1 0 = 0 then d.postStep e
  else if opcodeOf e.desc = 0x82 then
    match e.aux with
    | id :: _ => d.parkDone id
    | [] => d
  else if opcodeOf e.desc = 0x83 then
    match e.aux with
    | id :: _ => d.restoreDone id
    | [] => d
  else d

/-- The record and the interrupt of a descriptor that completed in a firing (R57 steps 5 and 6). -/
def Die.leaveRecord (d : Die) (firing : Nat) (e : Entry) : Die :=
  let d1 := if e.records then d.writeRecord firing e else d
  if irqBit e.desc then d1.raiseVector e.queue else d1

/-- The queue a record is owed to. -/
def Owed.queue : Owed → Option Nat
  | .record e _ => some e.queue
  | .reply .. => none

/-- Whether a record goes before another of the same queue and cycle: by SEQ (R194). -/
def Owed.before : Owed → Owed → Bool
  | .record a _, .record b _ => a.queue == b.queue && before32 a.seq b.seq
  | _, _ => false

/-- Put a record of the cycle in its place (R194). -/
def owedInsert (x : Owed) : List Owed → List Owed
  | [] => [x]
  | y :: ys => if x.before y then x :: y :: ys else y :: owedInsert x ys

/-- Whether a completing entry's record is written later: the cycle completes several, or its queue's ring waits (R194,
R207). -/
def Die.recordLater (d : Die) (e : Entry) : Bool :=
  (e.records || irqBit e.desc) && (d.cycle.isSome || d.owed.any fun x => x.queue == some e.queue)

/-- Owe a record. -/
def Die.oweRecord (d : Die) (e : Entry) : Die :=
  match d.cycle with
  | some l => { d with cycle := some (owedInsert (.record e d.firing) l) }
  | none => { d with owed := d.owed ++ [.record e d.firing] }

/-- The steps of R57 in order: handoff, slot transitions, signals, record, then the interrupt and the freed
slot. In a cycle that completes several descriptors, the records follow in order of SEQ (R194). -/
def Die.complete (d : Die) (e : Entry) : Die :=
  let d1 := (d.unitDone e).applyHandoff e
  let d2 := (d1.doneUses e).foldl (fun acc u => acc.slotDone e.status u) d1
  let d3 := d2.signalAction e
  let taint := taints e.status || decide (e.flags / 4 % 2 = 1)
  let d4 := (signalsOf e.desc).foldl (fun acc s => acc.signalOne e.tenant taint s) d3
  let d5 := d4.countOutcome e.tenant e.status
  if d5.recordLater e then (d5.oweRecord e).vacate e else (d5.leaveRecord d5.firing e).release e

/-- Whether nothing a descriptor wrote is still on its way (R15, R368, R385). -/
def Die.writesVisible (d : Die) (e : Entry) : Bool :=
  e.hostFlush.isNone && !(d.far.txns.any fun t => t.write && t.slot == e.slot)

/-- Issue the zero-length read that flushes an entry's HOST writes, behind them all; none is needed once the host port is DOWN
(R368, R394). -/
def Die.issueFlush (d : Die) (e : Entry) : Die :=
  match e.hostFlush with
  | some ⟨l, false⟩ =>
    if d.hostUp then (d.modEntry e.slot fun o => { o with hostFlush := some ⟨l, true⟩ }).emit (.hostFlush (64 * l))
    else d.modEntry e.slot fun o => { o with hostFlush := none }
  | _ => d

/-- DESCRIPTOR_COMPLETE: an executed descriptor whose writes are visible completes; before that it issues the flush its HOST
writes owe (R57, R368). -/
def Die.descriptorComplete (d : Die) (slot : BitVec 12) : Die :=
  match d.entry slot.toNat with
  | none => d
  | some e =>
    if e.phase = .executed then
      if d.writesVisible e then d.attempt (recordSlot slot.toNat) fun d0 => d0.complete e else d.issueFlush e
    else d

/-! ### Admission (R191, R208 to R212, R237, R238) -/

/-- Whether room for another record is reserved (R227). -/
def QCtx.roomLeft (c : QCtx) : Bool := decide (sub32 c.cqTail c.cqHead + c.inFlight < 2 ^ c.cqLog2)

/-- Whether a scoreboard slot is free to a record (R209). -/
def Die.slotFreeTo (d : Die) (i : Nat) : Bool :=
  decide (d.sb.length < 4096) &&
    (i == 64 || decide (d.tenantsInFlight < 4096 - d.rf Reg.SCH_ADMIT_CFG 26 16))

/-- The lowest free scoreboard slot. -/
def Die.freeSlot (d : Die) : Nat := ((List.range 4096).find? fun n => !(d.sb.any fun e => e.slot == n)).getD 0

/-- A fresh entry for an admitted descriptor. -/
def Die.newEntry (d : Die) (i q seq : Nat) (x : DescBits) (cause : Nat) : Entry :=
  { slot := d.freeSlot, desc := x, queue := q, tenant := tenantCode i, seq := seq, order := d.queues.nextOrder,
    firing := d.firing, phase := .waiting, began := false, fail := cause, uses := [], status := stOk, flags := 0, result0 := 0,
    result1 := 0, epoch := 0, cause := cause, handsOff := false, lawful := false, tainted := false, proceeds := false, lane := 0, ticks := 0, ctxs := [], hostFlush := none, pages := [],
    aux := [], left := [] }

/-- Whether a descriptor's memory streams reach the span of a model whose unload has met a tick: it is not admitted
(R22, R303). Of a T.PREFETCH the pages of its schedule count too, as far as it is at hand. -/
def Die.reachesUnloading (d : Die) (e : Entry) : Bool :=
  let pages := ((memStreams e.desc).flatMap fun p => pagesOf (reachOf e.desc p.1).1 (reachOf e.desc p.1).2) ++ d.prefetchWants e
  d.models.any fun m => m.2.state == 5 && m.2.shut && pages.any fun p => decide (m.2.base ≤ p) && decide (p < m.2.base + m.2.pages)

/-- The dies a descriptor's work goes to: those an F.* or S.BARRIER names, and those its streams' PEER pages lie on. -/
def Die.peersOf (d : Die) (x : DescBits) : List Nat :=
  let op := opcodeOf x
  let named := if op = 0xA0 then [pF x 50 48] else if op = 0xA1 then diesOf (pF x 55 48) else if op = 0x62 then diesOf (barMask x) else []
  named ++ ((memStreams x).flatMap fun p => pagesOf (reachOf x p.1).1 (reachOf x p.1).2).filterMap fun g =>
    if pteTier (d.pte g) = 4 then some (pteFrame (d.pte g) / 2 ^ 29) else none

/-- Whether a descriptor's work goes out on a peer port. -/
def Die.portUses (d : Die) (x : DescBits) (p : Nat) : Bool := (d.peersOf x).any fun k => d.egress k == some p

/-- Whether a descriptor would use a port that is leaving service (R22). -/
def Die.reachesShut (d : Die) (x : DescBits) : Bool := [1, 2].any fun p => (d.port p).shut && d.portUses x p

/-- Whether a queue has a whole descriptor ready to admit (R225). A head that cannot be read counts, so that
its failure is met at admission (R226). -/
def Die.headThere (d : Die) (i q : Nat) (c : QCtx) : Bool :=
  decide (1 ≤ sub32 c.sqTail c.sqHead) &&
    match ((d.workOf (admitSlot q)).readHead (tenantCode i) q c).1 with
    | .short => false
    | .bad => true
    | .ready x _ => !d.reachesUnloading (d.newEntry i q 0 x 0) && !d.reachesShut x

/-- Whether the SQ_HEAD of a queue lies before its flush mark (R236). -/
def Die.flushing (d : Die) (q : Nat) (c : QCtx) : Bool :=
  match d.queues.flushMarks.find? fun m => m.1 == q with
  | none => false
  | some m => before32 c.sqHead m.2

/-- Every condition of R237 but completion-ring room. -/
def Die.admissibleBut (d : Die) (i q : Nat) (c : QCtx) : Bool :=
  c.state == 1 && d.slotFreeTo i && d.headThere i q c &&
    (d.flushing q c ||
      (decide (c.inFlight < c.quota) &&
        (i == 64 || decide (d.tenantInFlight i < d.rf (Reg.QUE_TEN_CFG i) 20 8))))

/-- The admissible queues of a record. -/
def Die.admissibleQueues (d : Die) (i : Nat) : List (Nat × QCtx) :=
  d.queues.cache.filter fun c =>
    d.queueRecord c.1 == some i && !d.tenantDraining i && c.2.roomLeft && d.admissibleBut i c.1 c.2

/-- PRIO of a queue. -/
def QCtx.prio (c : QCtx) : Nat := c.flags / 4 % 4
/-- HARD of a queue. -/
def QCtx.hard (c : QCtx) : Bool := c.flags % 2 == 1
/-- PROCEED of a queue. -/
def QCtx.proceed (c : QCtx) : Bool := c.flags / 2 % 2 == 1

/-- The smallest of a list by a measure, the earliest on a tie. -/
def minBy (f : Nat × QCtx → Nat) : List (Nat × QCtx) → Option (Nat × QCtx)
  | [] => none
  | x :: xs =>
    match minBy f xs with
    | none => some x
    | some y => if f y < f x then some y else some x

/-- Allowance a tenant has left (R211, R212). -/
def Die.allowance (d : Die) (t : Nat) : Nat := d.rf (Reg.SCH_TEN_ALLOW t) 15 0

/-- The queue that admitted last among a record's queues of one PRIO. -/
def Die.lastOf (d : Die) (i prio : Nat) : Nat := SMap.get (fun _ => 2 ^ 20 - 1) d.queues.lastQueue (4 * i + prio)

/-- The queue of a record whose turn it is among some: lowest PRIO, then round-robin by queue number (R238). -/
def Die.pickQueue (d : Die) (i : Nat) (l : List (Nat × QCtx)) : Option (Nat × QCtx) :=
  minBy (fun c => c.2.prio * 2 ^ 24 + (c.1 + 2 ^ 20 - (d.lastOf i c.2.prio + 1) % 2 ^ 20) % 2 ^ 20) l

/-- The queues of a tenant whose heads need no spare admission: all with allowance left, else those that flush (R212,
R236). -/
def Die.paidQueues (d : Die) (t : Nat) : List (Nat × QCtx) :=
  (d.admissibleQueues t).filter fun c => decide (0 < d.allowance t) || d.flushing c.1 c.2

/-- Tenants in turn order after the one that admitted last (R238). -/
def Die.turnOrder (d : Die) : List Nat := (List.range 64).map fun k => (d.queues.lastTenant + 1 + k) % 64

/-- Whether tenants may take spare admissions (R212). -/
def Die.spareOpen (d : Die) : Bool := (d.reg Reg.SCH_ADMIT_CFG).b 31 && !d.sched.withheld

/-- The record and queue whose turn it is: the management context, then tenants with allowance, then spare admissions
(R238). -/
def Die.pickHead (d : Die) : Option (Nat × Nat × QCtx) :=
  let at_ := fun (i : Nat) (l : List (Nat × QCtx)) => (d.pickQueue i l).map fun c => (i, c.1, c.2)
  if !d.sched.admitOpen then none
  else if !(d.admissibleQueues 64).isEmpty then at_ 64 (d.admissibleQueues 64)
  else match d.turnOrder.find? fun t => !(d.paidQueues t).isEmpty with
    | some t => at_ t (d.paidQueues t)
    | none =>
      if d.spareOpen then
        match d.turnOrder.find? fun t => !(d.admissibleQueues t).isEmpty with
        | some t => at_ t (d.admissibleQueues t)
        | none => none
      else none

/-- The die if a queue's completion ring had room. -/
def Die.withRoom (d : Die) (q : Nat) : Die :=
  { d with queues := { d.queues with cache := d.queues.cache.map fun c => if c.1 = q then (q, { c.2 with cqLog2 := 32 }) else c } }

/-- Whether a queue is passed over only for want of completion-ring room: with room its turn would have come (R237). -/
def Die.cqStalled (d : Die) : Bool :=
  d.queues.cache.any fun c => !c.2.roomLeft && ((d.withRoom c.1).pickHead.any fun h => h.2.1 == c.1)

/-- Log a dispatch failure (R191, Table 8.13). -/
def Die.logIllegal (d : Die) (tenant q op cause : Nat) : Die :=
  let d1 := (((d.setReg Reg.SCH_ILLEGAL_LOG (BitVec.ofNat 32 (tenant % 128 * 2 ^ 12 + cause % 16 * 2 ^ 8 + op % 256))).setReg
    Reg.SCH_ILLEGAL_QUEUE (BitVec.ofNat 32 (q % 2 ^ 20))).count Reg.SCH_ILLEGAL_COUNT 1).count (Reg.RAS_SRC_EVENTS 5) 1
  if !d.pendingSrc 5 && d1.pendingSrc 5 then d1.msix (2048 + 5) else d1

/-- Charge the admission: allowance, counters, turn state and queue context (R212, R229, R238). -/
def Die.chargeAdmission (d : Die) (i q slots : Nat) (c : QCtx) (flush : Bool) : Die :=
  let d1 := d.setCtx q { c with
    sqHead := (c.sqHead + slots) % 2 ^ 32
    nextSeq := (c.nextSeq + 1) % 2 ^ 32
    inFlight := c.inFlight + 1 }
  let d2 := if i < 64 ∧ flush = false ∧ 0 < d.allowance i then d1.setRf (Reg.SCH_TEN_ALLOW i) 15 0 (d.allowance i - 1) else d1
  let d3 := d2.count (Reg.SCH_TEN_ADMITTED i) 1
  let d4 := { d3 with queues := { d3.queues with
    lastTenant := if i < 64 then i else d3.queues.lastTenant
    lastQueue := SMap.put (fun _ => 2 ^ 20 - 1) d3.queues.lastQueue (4 * i + c.prio) q
    nextOrder := d3.queues.nextOrder + 1
    flushMarks := d3.queues.flushMarks.filter fun m =>
      m.1 != q || before32 ((c.sqHead + slots) % 2 ^ 32) m.2 } }
  let d5 := if c.sqHead / 64 ≠ (c.sqHead + slots) / 64 then d4.headWriteback (tenantCode i) q (d4.ctxOf q) else d4
  let d6 := if d5.rf Reg.DMP_STAT 2 0 = 1 then d5.setRf Reg.DMP_STAT 2 0 0 else d5
  d6

/-- Record the highest occupancy (Table 9.3). -/
def Die.noteHigh (d : Die) : Die :=
  if d.rf Reg.SCH_SB_HIGH 12 0 < d.sb.length then d.setRf Reg.SCH_SB_HIGH 12 0 d.sb.length else d

/-- A NOP completes in its admission cycle; check 5 of Table 3.3 applies to its handoff (R56, R187). -/
def Die.completeNop (d : Die) (e : Entry) : Die :=
  match d.shelfCheck e.tenant e.queue e.desc with
  | (none, d1) => d1.complete e
  | (some st, d1) => d1.complete { e with status := st }

/-- Admit the head whose turn it is, when `want` accepts its opcode (R208, R236). A flushed descriptor
completes CANCELLED; a NOP that passes its checks completes at once (R187). -/
def Die.admitHead (d0 : Die) (want : Nat → Bool) : Die :=
  let d := if d0.cqStalled then d0.count Reg.QUE_CQ_STALL 1 else d0
  match d.pickHead with
  | none => d
  | some (i, q, c) =>
    d.attempt (admitSlot q) fun d0 =>
      match d0.readHead (tenantCode i) q c with
      | (.bad, d1) => d1.queueFail q 2 Bit.QUE_ERR_SQ_READ
      | (.short, _) => d0
      | (.ready x slots, d1) =>
        if !want (opcodeOf x) then d0
        else
          let flush := d1.flushing q c
          let code := tenantCode i
          let cause := d1.dispatchCause code x
          let e := d1.newEntry i q c.nextSeq x cause
          let d2 := { d1 with sb := d1.sb ++ [e] }
          let d3 := (d2.chargeAdmission i q slots c flush).noteHigh
          let d4 := if cause = 0 then d3 else d3.logIllegal code q (opcodeOf x) cause
          if flush then d4.complete { e with status := stCancelled }
          else if opcodeOf x = 0x00 ∧ cause = 0 then d4.completeNop e
          else d4

/-- DESCRIPTOR_ADMIT: one queue head other than a NOP enters the scoreboard (R208). -/
def Die.descriptorAdmit (d : Die) (u : Option CacheUpset) : Die :=
  let d1 := match u with
    | none => d
    | some x => d.cacheUpset x
  d1.admitHead fun op => op != 0x00

/-- NOP: a queue head that is a NOP is admitted and completes in the same cycle (R187). -/
def Die.nop (d : Die) : Die := d.admitHead fun op => op == 0x00

/-! ### Readiness (R13, R60, R173, R192, R193) -/

/-- Whether a dispatch failure makes the waits count for nothing (R192). -/
def Die.waitsVoid (d : Die) (e : Entry) : Bool :=
  let x := e.desc
  (e.fail == 3 && (decide (4 < nwait x) || (opcodeOf x == 0x00 && nwait x != 0))) ||
    (e.fail == 4 && !((waitsOf x).all fun w => d.evtPermitted e.tenant w.1))

/-- Whether every older descriptor of its queue has completed. -/
def Die.olderDone (d : Die) (e : Entry) : Bool :=
  !(d.sb.any fun o => o.queue == e.queue && decide (o.order < e.order))

/-- Whether an event makes the predecessor poisoned (R193). S.SIGNAL never has one (R188). -/
def Die.eventPoisoned (d : Die) (x : DescBits) : Bool :=
  opcodeOf x != 0x61 &&
    (List.range (min 4 (nwait x))).any fun i => !noPoison x i && d.evtPoison (waitOf x i).1

/-- Whether a slot it reads was filled by a failed writer (R61, R193). -/
def Die.slotPoisoned (d : Die) (x : DescBits) : Bool :=
  (d.slotUses8 x).any fun u => u.2 != .writer && d.slotPoison u.1

/-- The queue's policy is PROCEED (R193). -/
def Die.proceeds (d : Die) (q : Nat) : Bool :=
  match d.cachedCtx q with
  | some c => c.proceed
  | none => (d.tableCtx q).proceed

/-- An entry with a poisoned predecessor under PROPAGATE: it executes nothing (R193). A skipped Kiln descriptor still goes
to the Kiln, which loads or consumes its plane (R77, R82, Table 4.8). -/
def Die.skipPoisoned (d : Die) (e : Entry) : Die :=
  if opcodeOf e.desc = 0x10 ∨ opcodeOf e.desc = 0x11 then d.modEntry e.slot fun o => { o with status := stPoison }
  else d.finish e.slot stPoison 0 0 0 0

/-- POISON_IN of an entry that executes with a poisoned predecessor (Table 8.9). -/
def Die.taintEntry (d : Die) (e : Entry) : Die :=
  if e.tainted then d.modEntry e.slot fun o => { o with flags := o.flags ||| flPoisonIn } else d

/-- Whether no older entry that could use a slot of this one has its turn first, nor a denoise tile (R60, R348). -/
def Die.slotTurn (d : Die) (e : Entry) : Bool :=
  let mine := d.slotUses8 e.desc
  mine.isEmpty || !(mine.any fun v => d.tileTakes v.1) && !(d.sb.any fun o => decide (o.order < e.order) && !o.running &&
    (o.phase == .ready || d.waitsMet o.desc) && d.slotsFree o &&
    (d.slotUses8 o.desc).any fun u => mine.any fun v => u.1 == v.1)

/-- Make a descriptor ready whose waits and slots allow, applying dispatch failures and the poison policy
(R173, R192, R193). `more` is what its unit asks besides. -/
def Die.becomeReady (d : Die) (e : Entry) (more : Bool) : Die :=
  let waits := if d.waitsVoid e then d.olderDone e else d.waitsMet e.desc
  if e.phase = .waiting ∧ waits = true ∧ d.slotsFree e = true ∧ d.slotTurn e = true ∧ (more || e.fail != 0) = true then
    if e.fail ≠ 0 then d.finish e.slot (dispatchStatus e.fail) 0 0 0 e.fail
    else
      let bad := d.eventPoisoned e.desc || (opcodeOf e.desc != 0x61 && d.slotPoisoned e.desc)
      let d1 := d.modEntry e.slot fun o => { o with phase := .ready, tainted := bad, proceeds := d.proceeds e.queue }
      if bad && !d.proceeds e.queue then d1.skipPoisoned e else d1
  else d

/-! ### Doorbells (R233 to R236) -/

/-- Whether a doorbell page acts: its tenant is valid and not tearing down (R233). -/
def Die.pageLive (d : Die) (t : Nat) : Bool := d.tenantValid t && !d.tenantDraining t

/-- A doorbell on queue `q` of record `i`, for an index in range: recorded when the context is not cached
(R232). -/
def Die.ringBell (d : Die) (i q n : Nat) (rel : Bool) : Die :=
  let d0 := { d with sched := { d.sched with idleSince := d.refclk } }
  match d0.cachedCtx q with
  | none => { d0 with queues := { d0.queues with recorded := d0.queues.recorded ++ [(q, rel, n)] } }
  | some _ => if rel then d0.releaseRecords i q n else d0.addSlots i q n

/-- DB_ADD and QUE_MGMT_ADD on a record. -/
def Die.dbAdd (d : Die) (i lq n : Nat) : Die :=
  if n = 0 then d
  else if d.qcount i ≤ lq then d.dbDrop i ((d.qbase i + lq) % 2 ^ 20) Bit.QUE_ERR_DB_RANGE
  else d.ringBell i (d.qbase i + lq) n false

/-- DB_RELEASE and QUE_MGMT_RELEASE on a record. -/
def Die.dbRelease (d : Die) (i lq n : Nat) : Die :=
  if n = 0 then d
  else if d.qcount i ≤ lq then d.dbDrop i ((d.qbase i + lq) % 2 ^ 20) Bit.QUE_ERR_DB_RANGE
  else d.ringBell i (d.qbase i + lq) n true

/-! ### Context commands (R230, Table 10.4) -/

/-- The 64 context bytes of QUE_CTX_DATA as a number. -/
def Die.ctxData (d : Die) : Nat := packElems 32 ((List.range 16).map fun i => (d.reg (Reg.QUE_CTX_DATA i)).toNat)

/-- A context as its 64 bytes spell it (Table 10.3). -/
def QCtx.ofBytes (n : Nat) : QCtx :=
  { sqBase := bytesAt n 0 8, cqBase := bytesAt n 8 8, headWb := bytesAt n 16 8, sqTail := bytesAt n 24 4,
    sqHead := bytesAt n 28 4, cqTail := bytesAt n 32 4, cqHead := bytesAt n 36 4, nextSeq := bytesAt n 40 4,
    sqLog2 := bytesAt n 44 1, cqLog2 := bytesAt n 45 1, quota := bytesAt n 46 2, vector := bytesAt n 48 2,
    flags := bytesAt n 50 1, state := bytesAt n 51 1, err := bytesAt n 52 1, inFlight := bytesAt n 54 2 }

/-- The 64 bytes of a context as a number. -/
def QCtx.toNat (c : QCtx) : Nat :=
  let f := fun (byte v : Nat) => v <<< (8 * byte)
  f 0 c.sqBase + f 8 c.cqBase + f 16 c.headWb + f 24 c.sqTail + f 28 c.sqHead + f 32 c.cqTail + f 36 c.cqHead +
    f 40 c.nextSeq + f 44 c.sqLog2 + f 45 c.cqLog2 + f 46 c.quota + f 48 c.vector + f 50 c.flags + f 51 c.state +
    f 52 c.err + f 54 c.inFlight

/-- Store a number in QUE_CTX_DATA. -/
def Die.setCtxData (d : Die) (n : Nat) : Die :=
  (List.range 16).foldl (fun acc i => acc.setReg (Reg.QUE_CTX_DATA i) (BitVec.ofNat 32 (bytesAt n (4 * i) 4))) d

/-- Whether the fields MODIFY takes are legal (Table 10.3). -/
def QCtx.softLegal (c : QCtx) : Bool :=
  c.headWb % 8 == 0 && decide (c.headWb < 2 ^ 48) && decide (1 ≤ c.quota) && decide (c.quota ≤ 4096) &&
    (decide (c.vector < 2048) || c.vector == 0xFFFF) && decide (c.flags < 16) && (c.state == 1 || c.state == 2)

/-- Whether the ring fields CREATE takes are legal (Table 10.3). -/
def QCtx.ringLegal (c : QCtx) : Bool :=
  c.sqBase % 4096 == 0 && decide (c.sqBase < 2 ^ 48) && c.cqBase % 4096 == 0 && decide (c.cqBase < 2 ^ 48) &&
    decide (4 ≤ c.sqLog2) && decide (c.sqLog2 ≤ 20) && decide (4 ≤ c.cqLog2) && decide (c.cqLog2 ≤ 20)

/-- Whether every page of a ring passes the window check for a direction (R226, R230). -/
def Die.ringOk (d : Die) (code addr bytes : Nat) (write : Bool) : Bool :=
  decide (addr + bytes ≤ 2 ^ 48) &&
    (List.range ((addr + bytes - 1) / 65536 + 1 - addr / 65536)).all fun j =>
      let g := addr / 65536 + j
      let t := pteTier (d.pte g)
      d.tierCheck code g write false == 0 && (t == 2 || t == 3)

/-- Take a context command, or ignore it while BUSY (R230). -/
def Die.queTake (d : Die) (f : Die → Die) : Die :=
  if d.queues.busy.isSome then d.err Reg.QUE_ERR Bit.QUE_ERR_CMD_BUSY else f d

/-- A context command has acted: BUSY is 1 until its RESULT is set. -/
def Die.queAnswer (d : Die) (r : Nat) (ctx : Option Nat) : Die :=
  { d.setRf Reg.QUE_CMD_STAT 31 31 1 with queues := { d.queues with busy := some (r, ctx) } }

/-- A context command that copies nothing has acted. -/
def Die.queResult (d : Die) (r : Nat) : Die := d.queAnswer r none

/-- The RESULT of a context command is set; READ copies the context (R230). -/
def Die.queDone (d : Die) : Die :=
  match d.queues.busy with
  | none => d
  | some b =>
    let d1 := { d with queues := { d.queues with busy := none } }
    (match b.2 with
      | some n => d1.setCtxData n
      | none => d1).setReg Reg.QUE_CMD_STAT (BitVec.ofNat 32 (b.1 % 16))

/-- A flush of a queue is over with the queue (R236). -/
def Die.unmark (d : Die) (q : Nat) : Die :=
  { d with queues := { d.queues with flushMarks := d.queues.flushMarks.filter fun m => m.1 != q } }

/-- QUE_CMD_CREATE (Table 10.4). -/
def Die.queCreate (d : Die) (queue : BitVec 20) : Die := d.queTake fun d =>
  let q := queue.toNat
  let d1 := d.fetchCtx q
  let x := QCtx.ofBytes d1.ctxData
  match d1.queueRecord q with
  | none => d1.queResult 3
  | some i =>
    if (d1.ctxOf q).state ≠ 0 then d1.queResult 1
    else if !(x.softLegal && x.ringLegal) then d1.queResult 2
    else if !(d1.ringOk (tenantCode i) x.sqBase (128 * 2 ^ x.sqLog2) false &&
        d1.ringOk (tenantCode i) x.cqBase (32 * 2 ^ x.cqLog2) true) then d1.queResult 5
    else
      let d2 := (d1.unmark q).storeCtx q { x with sqTail := 0, sqHead := 0, cqTail := 0, cqHead := 0, nextSeq := 0, err := 0, inFlight := 0 }
      ({ d2 with queues := { d2.queues with lastWb := SMap.put (fun _ => 0) d2.queues.lastWb q 0 } }).queResult 0

/-- QUE_CMD_MODIFY (Table 10.4). -/
def Die.queModify (d : Die) (queue : BitVec 20) : Die := d.queTake fun d =>
  let q := queue.toNat
  let d1 := d.fetchCtx q
  let c := d1.ctxOf q
  let x := QCtx.ofBytes d1.ctxData
  if !(c.state == 1 || c.state == 2 || (c.state == 3 && c.err != 4)) then d1.queResult 1
  else if !x.softLegal then d1.queResult 2
  else (d1.storeCtx q { c with headWb := x.headWb, quota := x.quota, vector := x.vector, flags := x.flags, state := x.state, err := 0 }).queResult 0

/-- QUE_CMD_READ (Table 10.4). -/
def Die.queRead (d : Die) (queue : BitVec 20) : Die := d.queTake fun d =>
  let d1 := d.fetchCtx queue.toNat
  d1.queAnswer 0 (some (d1.ctxOf queue.toNat).toNat)

/-- QUE_CMD_DESTROY (Table 10.4). What has been read of its ring goes with it. -/
def Die.queDestroy (d : Die) (queue : BitVec 20) : Die := d.queTake fun d =>
  let q := queue.toNat
  let d1 := d.fetchCtx q
  let c := d1.ctxOf q
  if c.state ≠ 2 ∧ c.state ≠ 3 then d1.queResult 1
  else if c.inFlight ≠ 0 then d1.queResult 4
  else (((d1.storeCtx q { c with state := 0 }).unmark q).forget (admitSlot q)).queResult 0

/-! ### Event registers (R174, R175, R198) -/

/-- SCH_EVENT_WRITE: a write sets a counter and leaves POISON. -/
def Die.schEventWrite (d : Die) (c : BitVec 16) (v : Word) : Die := d.putEvt c.toNat v.toNat

/-- SCH_EVENT_INC: a write adds AMOUNT to a counter; an AMOUNT of 0 does nothing. -/
def Die.schEventInc (d : Die) (w : Word) : Die := if w.f 31 16 = 0 then d else d.addEvt (w.f 15 0) (w.f 31 16)

/-- SCH_EVT_POISON_CLEAR: writing 1 clears counters' POISON bits. -/
def Die.schEvtPoisonClear (d : Die) (i : BitVec 11) (w : Word) : Die :=
  d.setReg (Reg.SCH_EVT_POISON i.toNat) (d.reg (Reg.SCH_EVT_POISON i.toNat) &&& ~~~w)

/-! ### Execution -/

/-- Whether every format a descriptor names stands where Table 2.4, and for a W.GEMV Table 2.5, allows it (R26, R32,
R33). DESIGN CHOICE: which codes count for the log of R26 (log entry 88). -/
def formatsStand (x : DescBits) : Bool :=
  let on := fun (i : Nat) (p : Nat → Bool) => !(streamOf x i).present || p (streamOf x i).fmt
  let glaze := on 0 isGlazeFmt && on 1 isGlazeFmt && on 2 isGlazeFmt
  match opcodeOf x with
  | 0x10 => on 0 isInputFmt && on 1 isScaleFmt
  | 0x11 => on 0 isWeightFmt && on 1 isScaleFmt
  | 0x20 => isPairing (streamOf x 0).fmt (streamOf x 1).fmt && (!(pB x 43 || pB x 44) || isScaleFmt (pF x 48 45))
  | 0x21 => on 0 isInputFmt && isKvFmt (pF x 34 31)
  | 0x22 | 0x23 => isKvFmt (pF x 29 26)
  | 0x30 | 0x31 | 0x32 | 0x33 | 0x34 | 0x35 => glaze
  | 0x70 => on 0 isGlazeFmt
  | _ => true

/-- A descriptor its unit rejects for a format is logged (R26). DESIGN CHOICE: in SCH_ILLEGAL_LOG, with the cause of the
format check at dispatch (log entry 76). -/
def Die.logFormats (d : Die) (e : Entry) : Die :=
  if formatsStand e.desc then d else d.logIllegal e.tenant e.queue (opcodeOf e.desc) 8

/-- The entry of a starting descriptor with its predecessors' poison: a slot poisoned since the descriptor became ready
counts at its start (R61, R193). -/
def Die.atStart (d : Die) (e : Entry) : Entry :=
  { e with tainted := e.tainted || (opcodeOf e.desc != 0x61 && d.slotPoisoned e.desc) }

/-- What comes with a run: its faults strike the stored bits, and the cycles its ports and a Glaze unit's accumulator reads
lose are counted (R53, R120). -/
def Die.strike (d : Die) (op : Nat) (run : Run) : Die :=
  let d1 := (run.upsets.foldl Die.upset d).count Reg.SHF_CONFLICT run.lost
  if unitOf op = some .glaze then d1.count Reg.GLZ_ACC_WAIT run.waits else d1

/-- An operation that lacks lines goes on loading, and holds the KV contexts it has read (R163). Each further attempt of a W.GEMV or W.ATTN that waits for FLASH is counted
(R139). -/
def loadOn (op slot : Nat) (t d : Die) : Die :=
  let d1 := d.modEntry slot fun o => { o with phase := .loading, ctxs := ((t.entry slot).map (·.ctxs)).getD o.ctxs }
  if (op = 0x20 ∨ op = 0x21) ∧ t.far.want ≠ [] then d1.count Reg.WHL_TIER_WAIT 1 else d1

/-- The unit's own part of a started descriptor, as soon as the lines it reads are at hand. -/
def Die.runBody (d : Die) (op : Nat) (e : Entry) (body : Entry → Die → Die) : Die :=
  d.evaluate e.slot (loadOn op e.slot) (body e)

/-- Start a descriptor that its unit may start: the faults strike, its parameters are checked (`verdict` gives the status of
the first that fails, else OK), then the start checks of Table 3.3 and Table 12.3 (R141). True when its unit's part remains;
a start whose checks fail completes without executing. -/
def Die.startOp (d : Die) (op : Nat) (run : Run) (verdict : Entry → Die → Nat) (e : Entry) : Bool × Die :=
  if e.tainted && !e.proceeds then (false, d.finish e.slot stPoison 0 0 0 0)
  else
    let d1 := (d.strike op run).markStarted e
    if verdict e d1 ≠ stOk then (false, (d1.logFormats e).reject e.slot (verdict e d1))
    else
      match (d1.modEntry e.slot fun o => { o with lawful := true }).allStartChecks e with
      | (some st, d2) => (false, d2.reject e.slot st)
      | (none, d2) => (true, d2.taintEntry e)

/-- The frame every unit puts around a descriptor of an opcode. It starts only when the unit may start it (`may` is what
the unit asks besides). `body` is the unit's own part; a started descriptor that waits for lines goes on with it when they
are there. -/
def Die.runOpBy (d : Die) (op slot : Nat) (run : Run) (may : Entry → Die → Bool) (verdict : Entry → Die → Nat)
    (body : Entry → Die → Die) : Die :=
  match d.entry slot with
  | none => d
  | some e0 =>
    let e := d.atStart e0
    if opcodeOf e.desc ≠ op ∨ may e d = false then d
    else if e.phase = .loading then
      ((d.strike op run).modEntry slot fun o => { o with phase := .started }).runBody op e body
    else if d.mayStart e && d.slotTurn e then
      let p := d.startOp op run verdict e
      if p.1 then p.2.runBody op e body else p.2
    else d

/-- A descriptor whose parameters are legal or not: an illegal one completes SKIPPED_ILLEGAL. -/
def Die.runOp (d : Die) (op slot : Nat) (run : Run) (may legal : Entry → Die → Bool) (body : Entry → Die → Die) : Die :=
  d.runOpBy op slot run may (fun e d0 => if legal e d0 then stOk else stIllegal) body

/-- No further condition on a start. -/
def freeStart (_ : Entry) (_ : Die) : Bool := true

/-! ### Unit resets (R476, R477, Table 20.3) -/

/-- End every descriptor a unit executes with UNIT_RESET, or with the status of the case that came first, and owe its fence an epoch; a reset before the epoch
of the last one has advanced is merged into it (R476). -/
def Die.resetUnit (d : Die) (fence : Nat) (mine : Nat → Bool) : Die :=
  { d with
    sb := d.sb.map fun e =>
      if (e.phase = .started ∨ e.phase = .loading) ∧ mine (opcodeOf e.desc) then
        { e with phase := .executed, status := if e.status = stOk then stUnitReset else e.status, flags := e.flags ||| flEarlyEnd } else e
    epochDue := setInsert fence d.epochDue }

/-- EPOCH_ADVANCE: a unit's EPOCH advances once the last descriptor its reset ended has completed: none that ended early is
left (R477). -/
def Die.epochAdvance (d : Die) (fence : Nat) (mine : Nat → Bool) : Die :=
  if d.epochDue.contains fence ∧
      !(d.sb.any fun e => e.phase == .executed && mine (opcodeOf e.desc) &&
        (e.began && e.flags / 16 % 2 == 1 || e.status == stUnitReset)) then
    { d with epochDue := setErase fence d.epochDue }.bumpEpoch fence
  else d

end Sys2Proof.Machine
end

