-- ==== Sys2Proof/Machine/Pug.lean ====
section
/-! DEFINITION. The Pug: stream layout, expansion with its checks, and P.COMPRESS, P.EXPAND and PUG_RESET
(chapter 05, R100 to R118). Byte strings are held as little-endian numbers with a length. -/

namespace Sys2Proof.Machine

/-! ### Streams (R100 to R104) -/

/-- A byte string delivered in units: its bytes, its length, the unit size, and which units came bad. -/
structure PStream where
  data : Nat
  len : Nat
  unit : Nat
  bads : List Bool
  /-- Bytes of the first unit that lie before the stream's first byte. -/
  skip : Nat
  /-- A unit was lost to a closed gate. -/
  lost : Bool
  deriving DecidableEq, Repr

/-- The bytes of delivered units as a stream. -/
def PStream.ofUnits (n : Nat) (us : List UnitRd) : PStream := ⟨concatUnits n us, n * us.length, n, us.map (·.bad), 0, us.any (·.off)⟩

/-- `len` bytes from byte `skip` of delivered units as a stream. -/
def PStream.part (n skip len : Nat) (us : List UnitRd) : PStream :=
  ⟨bytesAt (concatUnits n us) skip len, len, n, us.map (·.bad), skip, us.any (·.off)⟩

/-- Whether a byte range touches a unit delivered bad. -/
def PStream.touchesBad (s : PStream) (o k : Nat) : Bool :=
  decide (0 < k) &&
    (let a := o + s.skip
     (List.range ((a + k - 1) / s.unit + 1 - a / s.unit)).any fun i => s.bads.getD (a / s.unit + i) false)

/-- A little-endian field of the stream. -/
def PStream.at (s : PStream) (o k : Nat) : Nat := bytesAt s.data o k

/-- One step of the CRC-16 of R101 over one bit. -/
def crcBit (crc : Nat) : Nat := if 0x8000 ≤ crc then ((crc <<< 1) ^^^ 0x1021) % 65536 else (crc <<< 1) % 65536

/-- One step over one byte. -/
def crcByte (crc b : Nat) : Nat := (List.range 8).foldl (fun c _ => crcBit c) (crc ^^^ (b <<< 8))

/-- CRC-16 with polynomial 0x1021 and initial value 0xFFFF (R101). -/
def crc16 (bs : List Nat) : Nat := bs.foldl crcByte 0xFFFF

/-- Round up to a multiple of 8. -/
def pad8 (n : Nat) : Nat := (n + 7) / 8 * 8

/-- Length of the preamble (R100). -/
def preambleLen (tables blocks : Nat) : Nat := pad8 (16 + 128 * tables + 4 * blocks)

/-- A map entry (Table 5.2). -/
structure BlockInfo where
  kind : Nat
  table : Nat
  coded : Nat
  raw : Nat
  deriving DecidableEq, Repr

/-- The map entry a word spells. -/
def BlockInfo.ofNat (w : Nat) : BlockInfo := ⟨fld w 31 30, fld w 29 26, fld w 25 13, fld w 12 0⟩

/-- The word of a map entry. -/
def BlockInfo.toNat (b : BlockInfo) : Nat := b.kind * 2 ^ 30 + b.table * 2 ^ 26 + b.coded * 2 ^ 13 + b.raw

/-- Whether an entry's fields are legal for its kind (Table 5.2). -/
def BlockInfo.legal (b : BlockInfo) (tables : Nat) : Bool :=
  decide (1 ≤ b.raw) && decide (b.raw ≤ 4096) &&
    match b.kind with
    | 0 => decide (b.table < tables) && decide (96 ≤ b.coded) && decide (b.coded ≤ 4096)
    | 1 => b.table == 0 && b.coded == b.raw
    | 2 => b.table == 0 && b.coded == 0
    | _ => false

/-- Code lengths of the 256 byte values (R104). -/
def tableLens (n : Nat) : List Nat := elems 4 256 n

/-- Whether a code table is legal (R104). -/
def tableLegal (ls : List Nat) : Bool :=
  ls.any (· != 0) && decide (ls.foldl (fun s l => if l = 0 then s else s + 2 ^ (15 - l)) 0 ≤ 2 ^ 15)

/-- Values of a code length, in order. -/
def symsOf (ls : List Nat) (l : Nat) : List Nat := (List.range 256).filter fun v => ls.getD v 0 == l

/-- One level of a canonical code: its first code and its values. -/
structure CodeLevel where
  first : Nat
  syms : List Nat
  deriving DecidableEq, Repr

/-- The levels of a canonical code by RFC 1951, section 3.2.2, for lengths 1 to 15 (R104). -/
def codeLevels (ls : List Nat) : List CodeLevel :=
  ((List.range 15).foldl (fun (acc : List CodeLevel × Nat) l =>
    let syms := symsOf ls (l + 1)
    (acc.1 ++ [⟨acc.2, syms⟩], (acc.2 + syms.length) * 2)) ([], 0)).1

/-- The code of a value: its bits, most significant first, and its length. -/
def codeOf (lv : List CodeLevel) (v : Nat) : Option (Nat × Nat) :=
  (List.range 15).findSome? fun l =>
    match lv[l]? with
    | none => none
    | some c => if c.syms.contains v then some (c.first + c.syms.idxOf v, l + 1) else none

/-- Outcome of reading one symbol: the value and how many bits its code took, or why it failed. -/
inductive SymRead where
  | sym (v bits : Nat)
  | badCode
  | runPast
  deriving DecidableEq, Repr

/-- Whether bits read so far, `acc`, begin some code of the remaining levels; `span` counts the codes of a level they
begin. -/
def beginsCode (acc : Nat) : List CodeLevel → Nat → Bool
  | [], _ => false
  | lv :: rest, span =>
    (decide (lv.first < (acc + 1) * span) && decide (acc * span < lv.first + lv.syms.length)) || beginsCode acc rest (2 * span)

/-- Read one code from bit `pos` of a substream of `bits` bits, level by level (R103). Bits that begin no code fail
BAD_CODE whether or not more follow; a code the substream's end cuts off fails RUN_PAST (Table 5.5). -/
def readSym (sub bits pos : Nat) : List CodeLevel → Nat → Nat → SymRead
  | [], _, _ => .badCode
  | lv :: rest, acc, taken =>
    if !beginsCode acc (lv :: rest) 2 then .badCode
    else if bits ≤ pos + taken then .runPast
    else
      let acc1 := acc * 2 + (if sub.testBit (pos + taken) then 1 else 0)
      if lv.first ≤ acc1 ∧ acc1 < lv.first + lv.syms.length then .sym (lv.syms.getD (acc1 - lv.first) 0) (taken + 1)
      else readSym sub bits pos rest acc1 (taken + 1)

/-- A decoded substream: its values and code lengths, and the cause of Table 5.5 when it failed. -/
structure SubRead where
  vals : List Nat
  lens : List Nat
  cause : Option Nat
  deriving DecidableEq, Repr

/-- Read `n` symbols of a substream (R103, Table 5.5). -/
def readSub (lv : List CodeLevel) (sub bits : Nat) : Nat → Nat → SubRead
  | 0, pos => ⟨[], [], if 8 ≤ bits - pos ∨ sub >>> pos ≠ 0 then some 0xB else none⟩
  | n + 1, pos =>
    match readSym sub bits pos lv 0 0 with
    | .badCode => ⟨[], [], some 0x9⟩
    | .runPast => ⟨[], [], some 0xA⟩
    | .sym v k =>
      let r := readSub lv sub bits n (pos + k)
      ⟨v :: r.vals, k :: r.lens, r.cause⟩

/-- Symbols of substream `j` in a block of `raw` bytes (R103). -/
def subSyms (raw j : Nat) : Nat := raw / 256 * 2 + min 2 (raw % 256 - 2 * j)

/-- The smallest of two causes. -/
def minCause (a b : Option Nat) : Option Nat :=
  match a, b with
  | none, y => y
  | x, none => x
  | some x, some y => some (min x y)

/-- A decoded block. -/
structure BlockRead where
  /-- Raw bytes as a number; zero where the block failed. -/
  raw : Nat
  /-- Code lengths by substream; empty for a block that is not coded. -/
  lens : List (List Nat)
  cause : Option Nat
  deriving DecidableEq, Repr

/-- Decode a coded block's payload: directory, then 128 substreams (R103, Table 5.5). -/
def decodeBlock (lv : List CodeLevel) (payload coded raw : Nat) : BlockRead :=
  let dir := elems 6 128 payload
  let badDir := dir.any (fun l => decide (60 < l)) || decide (dir.foldl (· + ·) 0 ≠ coded - 96) ||
    (List.range 128).any fun j => subSyms raw j == 0 && dir.getD j 0 != 0
  if badDir then ⟨0, [], some 0x8⟩
  else
    let subs := ((List.range 128).foldl (fun (acc : List SubRead × Nat) j =>
      let l := dir.getD j 0
      (acc.1 ++ [readSub lv (bytesAt payload acc.2 l) (8 * l) (subSyms raw j) 0], acc.2 + l)) ([], 96)).1
    let cause := subs.foldl (fun c s => minCause c s.cause) none
    match cause with
    | some c => ⟨0, [], some c⟩
    | none =>
      let byteAt := fun (p : Nat) => ((subs[p / 2 % 128]?).map fun s => s.vals.getD (2 * (p / 256) + p % 2) 0).getD 0
      ⟨packElems 8 ((List.range raw).map byteAt), subs.map (·.lens), none⟩

/-- Cycles a block occupies an expander of `lanes` lanes (R111). -/
def blockCycles (lanes raw : Nat) (lens : List (List Nat)) : Nat :=
  let rows := ceilDiv raw (2 * lanes)
  if lens.isEmpty then rows
  else
    (List.range lanes).foldl (fun d i =>
      let mine := ((List.range (128 / lanes)).map fun k => lens.getD (i + k * lanes) []).flatten
      let slots := mine.foldl (fun n l => n + if l ≤ 8 then 1 else 2) 0
      let bits := mine.foldl (· + ·) 0
      max d (max (ceilDiv slots 2) (ceilDiv bits 12))) rows

/-! ### Expansion (R114, R115) -/

/-- A failure an expander met: its cause, the map index or 0xFFFF, and whether its scope is the stream. -/
structure PugFault where
  cause : Nat
  block : Nat
  stream : Bool
  deriving DecidableEq, Repr

/-- What an expander gave its consumer. -/
structure Expanded where
  /-- Raw bytes as a number, of the length the consumer expects. -/
  raw : Nat
  /-- Ranges of zeroed bytes: start and length. -/
  zeroed : List (Nat × Nat)
  faults : List PugFault
  /-- The blocks, in map order. -/
  blocks : List BlockPass
  deriving DecidableEq, Repr

/-- Whether a byte range holds a zeroed byte. -/
def Expanded.zeroIn (x : Expanded) (o k : Nat) : Bool :=
  x.zeroed.any fun z => decide (z.1 < o + k) && decide (o < z.1 + z.2)

/-- A stream-scope failure: zeros throughout (R115). -/
def streamFail (expected cause : Nat) : Expanded :=
  ⟨0, [(0, expected)], [⟨cause, 0xFFFF, true⟩], []⟩

/-- The preamble bytes HCHK covers. -/
def hchkBytes (s : PStream) (n : Nat) : List Nat :=
  ((List.range n).filter fun i => i != 12 && i != 13).map fun i => s.at i 1

/-- The map of a stream. -/
def streamMap (s : PStream) (tables blocks : Nat) : List BlockInfo :=
  (List.range blocks).map fun i => BlockInfo.ofNat (s.at (16 + 128 * tables + 4 * i) 4)

/-- The cause of the first preamble check that fails (R114, Table 5.5). -/
def preambleCause (s : PStream) (expected : Nat) : Option Nat :=
  let tables := s.at 8 1
  let blocks := s.at 2 2
  let n := preambleLen tables blocks
  let whole := decide (n ≤ s.len)
  let map := streamMap s tables blocks
  let tablesIn := decide (16 + 128 * tables ≤ s.len)
  let mapIn := decide (16 + 128 * tables + 4 * blocks ≤ s.len)
  if 2 ≤ s.len ∧ s.at 0 2 ≠ 0x9A1C then some 1
  else if whole && decide (crc16 (hchkBytes s n) ≠ s.at 12 2) then some 2
  else if mapIn && (blocks == 0 || decide (16 < tables) || decide (s.at 4 4 ≠ expected) ||
      decide (map.foldl (fun t b => t + b.raw) 0 ≠ s.at 4 4) || map.dropLast.any fun b => b.raw != 4096) then some 3
  else if tablesIn && (List.range tables).any (fun i => !tableLegal (tableLens (s.at (16 + 128 * i) 128))) then some 4
  else if mapIn && map.any (fun b => !b.legal tables) then some 5
  else if !whole then some 0xC
  else if s.touchesBad 0 n then some 0xD
  else none

/-- The passes of zeroed blocks whose raw bytes start at `r`. -/
def passesFrom : Nat → List BlockInfo → List BlockPass
  | _, [] => []
  | r, b :: bs => ⟨b.kind != 0, 0, r + b.raw⟩ :: passesFrom (r + b.raw) bs

/-- Expand the blocks of a map whose payloads start at `o`, raw bytes at `r` (R114, R115). -/
def expandBlocks (s : PStream) (lanes : Nat) (tabs : List (List CodeLevel)) : List BlockInfo → Nat → Nat → Nat → Expanded
  | [], _, _, _ => ⟨0, [], [], []⟩
  | b :: bs, i, o, r =>
    if b.coded ≠ 0 ∧ s.len < o + b.coded then
      -- the payload leaves the stream: this block and every later one (EXTENT)
      let rest := (b :: bs).foldl (fun t x => t + x.raw) 0
      ⟨0, [(r, rest)], (List.range (bs.length + 1)).map (fun k => ⟨0xC, i + k, false⟩),
        passesFrom r (b :: bs)⟩
    else
      let d : BlockRead :=
        match b.kind with
        | 0 => decodeBlock (tabs.getD b.table []) (s.at o b.coded) b.coded b.raw
        | 1 => ⟨s.at o b.raw, [], none⟩
        | _ => ⟨0, [], none⟩
      let cause := minCause d.cause (if s.touchesBad o b.coded then some 0xD else none)
      let rest := expandBlocks s lanes tabs bs (i + 1) (o + pad8 b.coded) (r + b.raw)
      let slow := blockCycles lanes b.raw d.lens - ceilDiv b.raw (2 * lanes)
      match cause with
      | some c => ⟨rest.raw, (r, b.raw) :: rest.zeroed, ⟨c, i, false⟩ :: rest.faults, ⟨b.kind != 0, 0, r + b.raw⟩ :: rest.blocks⟩
      | none => ⟨rest.raw + d.raw <<< (8 * r), rest.zeroed, rest.faults, ⟨b.kind != 0, slow, r + b.raw⟩ :: rest.blocks⟩

/-- Expand a stream for a consumer that expects `expected` raw bytes. -/
def expand (s : PStream) (lanes expected : Nat) : Expanded :=
  match preambleCause s expected with
  | some c => streamFail expected c
  | none =>
    let tables := s.at 8 1
    let blocks := s.at 2 2
    expandBlocks s lanes ((List.range tables).map fun i => codeLevels (tableLens (s.at (16 + 128 * i) 128)))
      (streamMap s tables blocks) 0 (preambleLen tables blocks) 0

/-- Record the failures a descriptor's expanders met, each with its slice: the flags and log of the descriptor's first,
the count of all (R115, Tables 5.6, 5.8 and 5.9). -/
def Die.pugFaults (d : Die) (source queue : Nat) (fs : List (Nat × PugFault)) : Die :=
  match fs with
  | [] => d
  | (slice, f) :: _ =>
    let d1 := ((d.setReg Reg.PUG_FAULT_LOG (BitVec.ofNat 32
        (source * 2 ^ 28 + f.cause * 2 ^ 24 + slice * 2 ^ 16 + f.block))).setReg
      Reg.PUG_FAULT_QUEUE (BitVec.ofNat 32 (queue % 2 ^ 20))).count Reg.PUG_FAULT_COUNT fs.length
    let d2 := d1.err Reg.PUG_ERR (if f.stream then Bit.PUG_ERR_STREAM else Bit.PUG_ERR_BLOCK)
    d2.errIf (f.cause == 0xD) Reg.PUG_ERR Bit.PUG_ERR_INPUT_POISON

/-- Cause byte a stream fault gives the completion record (Table 8.8). -/
def faultCause (fs : List PugFault) : Nat := (fs.map (·.cause)).headD 0

/-! ### P.EXPAND (R109, R115) -/

/-- Cut expanded bytes into the units of an output stream, poisoning each that holds a zeroed byte. -/
def expandedUnits (x : Expanded) (e : Entry) (s : Stream) (len : Nat) : List OutUnit :=
  let us := unitsOf e.desc s
  let n := s.unitBytes
  let used := ceilDiv len n
  (List.range used).map fun i =>
    ⟨s.space, us.getD i 0, bytesAt x.raw (n * i) n, x.zeroIn (n * i) n⟩

/-- Parameters of P.EXPAND: OUT is exactly raw_len bytes (R109). Where raw_len is no multiple of OUT's unit, DESIGN CHOICE:
OUT has the units that hold raw_len bytes, and the rest of its last unit is written zero (log entry 19). -/
def pExpandLegal (e : Entry) (_ : Die) : Bool :=
  let dst := streamOf e.desc 1
  let len := pF e.desc 31 0
  len != 0 && unitCount e.desc dst == ceilDiv len dst.unitBytes

/-- Whether a run writes its first `upto` bytes, in units of `n`. -/
def wroteUpTo (run : Run) (n upto : Nat) : Bool :=
  match run.stop with
  | none => true
  | some k => decide (upto ≤ n * k)

/-- P.EXPAND after its start checks. PUG_PX_BLOCKS counts the blocks written whole (Table 5.6). -/
def pExpandBody (run : Run) (e : Entry) (d : Die) : Die :=
  let src := streamOf e.desc 0
  let dst := streamOf e.desc 1
  let len := pF e.desc 31 0
  let p := d.readStream e 4 src
  let x := expand (PStream.ofUnits src.unitBytes p.1) 32 len
  let passed := x.blocks.filter fun b => wroteUpTo run dst.unitBytes b.upto
  let d1 := (p.2.pugFaults 2 e.queue (x.faults.map fun f => (0, f))).count Reg.PUG_PX_BLOCKS passed.length
  let lost := p.1.any (·.off)
  let st := if lost then stBankOff else if x.faults.isEmpty then stOk else stDataFault
  d1.deliver e run ⟨expandedUnits x e dst len, 4, st, 0, 0, 0, faultCause x.faults⟩

/-- P_EXPAND: P.EXPAND expands a Pug stream to raw bytes. -/
def Die.pExpand (d : Die) (slot : BitVec 12) (run : Run) : Die := 
  d.runOp 0x51 slot.toNat run freeStart pExpandLegal (pExpandBody run)

/-! ### P.COMPRESS (R105 to R108, R116) -/

/-- Insert into a list by weight, after equals. -/
def insertW (x : Nat × List Nat) : List (Nat × List Nat) → List (Nat × List Nat)
  | [] => [x]
  | y :: ys => if x.1 < y.1 then x :: y :: ys else y :: insertW x ys

/-- Join adjacent pairs of a list of weighted symbol lists. -/
def pairUp : List (Nat × List Nat) → List (Nat × List Nat)
  | x :: y :: r => (x.1 + y.1, x.2 ++ y.2) :: pairUp r
  | _ => []

/-- Packages of the package-merge method after a number of levels. -/
def packages (coins : List (Nat × List Nat)) : Nat → List (Nat × List Nat)
  | 0 => coins
  | n + 1 => (pairUp (packages coins n)).foldr insertW coins

/-- Lengths of a code of least total length under a limit: how often a value occurs in the cheapest 2n − 2
packages (R106). -/
def leastLengths (limit : Nat) (counts : List Nat) : List Nat :=
  let used := (List.range 256).filter fun v => counts.getD v 0 != 0
  if used.length ≤ 1 then (List.range 256).map fun v => if used.contains v then 1 else 0
  else
    let coins := (used.map fun v => (counts.getD v 0, [v])).foldr insertW []
    let chosen := ((packages coins (limit - 1)).take (2 * used.length - 2)).flatMap (·.2)
    (List.range 256).map fun v => chosen.count v

/-- Total coded length of counts under code lengths. -/
def codedCost (counts ls : List Nat) : Nat := (List.range 256).foldl (fun t v => t + counts.getD v 0 * ls.getD v 0) 0

/-- Whether lengths make a legal code of the counts within a limit and of least total length. -/
def lengthsOk (limit : Nat) (counts ls : List Nat) : Bool :=
  ls.length == 256 && tableLegal ls && ls.all (fun l => decide (l ≤ limit)) &&
    (List.range 256).all (fun v => (counts.getD v 0 == 0) == (ls.getD v 0 == 0)) &&
    codedCost counts ls == codedCost counts (leastLengths limit counts)

/-- The code lengths the die uses: the free choice among the codes of least total length. -/
def segmentLengths (limit : Nat) (counts : List Nat) : List Nat :=
  let ls := Config.codeLengths limit counts
  if lengthsOk limit counts ls then ls else leastLengths limit counts

/-- How often each byte value occurs. -/
def byteCounts (bs : List Nat) : List Nat := (List.range 256).map fun v => bs.count v

/-- Bits of a value list under a code, first code first, each most significant bit first, as a little-endian
number, with its length in bits. -/
def codeBits (lv : List CodeLevel) : List Nat → Nat × Nat
  | [] => (0, 0)
  | v :: vs =>
    let r := codeBits lv vs
    match codeOf lv v with
    | none => r
    | some (c, l) =>
      let rev := (List.range l).foldl (fun n i => if c.testBit (l - 1 - i) then n + 2 ^ i else n) 0
      (rev + r.1 <<< l, l + r.2)

/-- The values of substream `j` of a block. -/
def subVals (bs : List Nat) (j : Nat) : List Nat :=
  (List.range (subSyms bs.length j)).map fun k => bs.getD (k / 2 * 256 + 2 * j + k % 2) 0

/-- A coded payload: bytes as a number, its length, and the code lengths by substream (R103). -/
def encodeBlock (ls : List Nat) (bs : List Nat) : Nat × Nat × List (List Nat) :=
  let lv := codeLevels ls
  let subs := (List.range 128).map fun j => codeBits lv (subVals bs j)
  let lens := subs.map fun s => ceilDiv s.2 8
  let body := (subs.zip lens).foldr (fun s acc => s.1.1 + acc <<< (8 * s.2)) 0
  (packElems 6 lens + body <<< 768, 96 + lens.foldl (· + ·) 0,
    (List.range 128).map fun j => (subVals bs j).map fun v => ls.getD v 0)

/-- One written block: its map entry and its payload. -/
structure CodedBlock where
  info : BlockInfo
  payload : Nat
  /-- Stored under rule 2, or under rule 3, of R107. -/
  rule2 : Bool
  rule3 : Bool
  deriving DecidableEq, Repr

/-- Choose a block's kind by the first rule that applies (R107). -/
def chooseBlock (seg : Nat) (ls bs : List Nat) (t : Nat) (rate zero : Bool) : CodedBlock :=
  let c := encodeBlock ls bs
  let raw := bs.length
  let stored : BlockInfo := ⟨1, 0, raw, raw⟩
  if zero && bs.all (· == 0) then ⟨⟨2, 0, 0, raw⟩, 0, false, false⟩
  else if t * raw < 64 * c.2.1 then ⟨stored, packElems 8 bs, true, false⟩
  else if rate && decide (ceilDiv raw 256 < blockCycles 128 raw c.2.2) then ⟨stored, packElems 8 bs, false, true⟩
  else ⟨⟨0, seg, c.2.1, raw⟩, c.1, false, false⟩

/-- Cut a list into pieces of `n`, the last shorter; `fuel` bounds the pieces. -/
def chunks (n : Nat) : Nat → List Nat → List (List Nat)
  | 0, _ => []
  | f + 1, l => if l.isEmpty then [] else l.take n :: chunks n f (l.drop n)

/-- A compressed stream: its bytes, its length, its preamble's length, and its blocks. -/
structure Compressed where
  data : Nat
  len : Nat
  pre : Nat
  blocks : List CodedBlock
  deriving DecidableEq, Repr

/-- Compress raw bytes (R100 to R107). -/
def compress (bs : List Nat) (seg t : Nat) (rate zero : Bool) : Compressed :=
  let b := ceilDiv bs.length 4096
  let segs := chunks (4096 * seg) (ceilDiv b seg) bs
  let tabs := segs.map fun s => segmentLengths (if rate then 8 else 15) (byteCounts s)
  let blocks := ((segs.zip tabs).zipIdx).flatMap fun x =>
    (chunks 4096 seg x.1.1).map fun c => chooseBlock x.2 x.1.2 c t rate zero
  let payloads := blocks.foldr (fun c (acc : Nat × Nat) =>
    (c.payload + acc.1 <<< (8 * pad8 c.info.coded), pad8 c.info.coded + acc.2)) (0, 0)
  let pre := preambleLen tabs.length blocks.length
  let map := packElems 32 (blocks.map fun c => c.info.toNat)
  let tables := (tabs.map (packElems 4)).foldr (fun x acc => x + acc <<< 1024) 0
  let head := 0x9A1C + blocks.length <<< 16 + bs.length <<< 32 + tabs.length <<< 64 +
    (if rate then 1 <<< 72 else 0) + seg <<< 80 + tables <<< 128 + map <<< (128 + 1024 * tabs.length)
  let chk := crc16 (((List.range pre).filter fun i => i != 12 && i != 13).map (byteOf head))
  ⟨head + chk <<< 96 + payloads.1 <<< (8 * pre), pre + payloads.2, pre, blocks⟩

/-- Formats that force rate mode (Table 5.3). -/
def forcesRate (f : Nat) : Bool :=
  f == Fmt.S4 || f == Fmt.NB4 || f == Fmt.NB3 || f == Fmt.E2M1 || f == Fmt.E2M3

/-- Parameters of P.COMPRESS (Table 5.3, R108). -/
def pCompressLegal (e : Entry) (_ : Die) : Bool :=
  let src := streamOf e.desc 0
  let dst := streamOf e.desc 1
  let len := pF e.desc 31 0
  let seg := pF e.desc 47 32
  let b := ceilDiv len 4096
  let segs := ceilDiv b seg
  len != 0 && decide (len ≤ 268431360) && seg != 0 && decide (segs ≤ 16) &&
    unitCount e.desc src == ceilDiv len src.unitBytes &&
    decide (16 + 128 * segs + 8 * ceilDiv b 2 + 8 * ceilDiv len 8 ≤ unitCount e.desc dst * dst.unitBytes)

/-- Note that a P.COMPRESS read a bad byte in the block with map index `block` (R116, Table 5.9). -/
def Die.badInput (d : Die) (queue block : Nat) : Die :=
  (((d.setReg Reg.PUG_FAULT_LOG (BitVec.ofNat 32 (3 * 2 ^ 28 + block))).setReg Reg.PUG_FAULT_QUEUE
    (BitVec.ofNat 32 (queue % 2 ^ 20))).count Reg.PUG_FAULT_COUNT 1).err Reg.PUG_ERR Bit.PUG_ERR_INPUT_POISON

/-- The bytes of a source unit as given: those under a poison mark of the Shelves count as zero (R66, R116). -/
def Die.givenData (d : Die) (space : Nat) (unit : Int) (u : UnitRd) : Nat :=
  let line := unit.toNat
  let pe := d.pte (line / 1024)
  if space = 1 then (zeroFailing true (d.rowMark line) (BitVec.ofNat 4096 u.data)).toNat
  else if pteTier pe = 1 then
    let r := shelfRowOf (pteFrame pe) (line % 1024)
    if (d.rowMark r.1).testBit r.2 then 0 else u.data
  else u.data

/-- The blocks a P.COMPRESS writes before `n`-byte unit `k` of its payload rows is due, all when it runs to its end (R108). -/
def Compressed.written (x : Compressed) (n : Nat) (stop : Option Nat) : List CodedBlock :=
  match stop with
  | none => x.blocks
  | some k =>
    let pre := ceilDiv x.pre n
    if ceilDiv x.len n ≤ k then x.blocks
    else
      let ends := x.blocks.foldl (fun (acc : List (CodedBlock × Nat × Nat) × Nat) b =>
        (acc.1 ++ [(b, acc.2, acc.2 + pad8 b.info.coded)], acc.2 + pad8 b.info.coded)) ([], x.pre)
      (ends.1.filter fun b => decide (n * pre ≤ b.2.1) && decide (b.2.2 ≤ n * (pre + k))).map (·.1)

/-- P.COMPRESS after its start checks. It reads IN twice (R106), codes bad bytes as the zeros it was given (R116), under the T
of its start (R107), and writes the preamble last (R108). RESULT0 counts the stream's bytes; DESIGN CHOICE: without the zero bytes that fill its last row or line (log
entry 19). -/
def pCompressBody (run : Run) (e : Entry) (d : Die) : Die :=
  let src := streamOf e.desc 0
  let dst := streamOf e.desc 1
  let len := pF e.desc 31 0
  let seg := pF e.desc 47 32
  let zero := pB e.desc 49
  let rate := pB e.desc 48 || forcesRate src.fmt
  let p := (d.readStream e 4 src).2.readStream e 4 src
  let bad := p.1.any (·.bad)
  let given := (p.1.zip (unitsOf e.desc src)).map fun u => { u.1 with data := d.givenData src.space u.2 u.1 }
  let thresh := ((d.entry e.slot).bind (·.aux.head?)).getD 0
  let x := compress (toBytes len (concatUnits src.unitBytes given)) seg thresh rate zero
  let n := dst.unitBytes
  let us := unitsOf e.desc dst
  let out := fun (i : Nat) => (⟨dst.space, us.getD i 0, bytesAt x.data (n * i) n, false⟩ : OutUnit)
  let total := ceilDiv x.len n
  let pre := min total (ceilDiv x.pre n)
  let outs := ((List.range (total - pre)).map fun i => out (pre + i)) ++ (List.range pre).map out
  let passed := x.written n run.stop
  let d1 := ((p.2.count Reg.PUG_CX_BLOCKS passed.length).count Reg.PUG_CX_STORED
    (passed.filter (·.rule2)).length).count Reg.PUG_CX_RATE_STORED (passed.filter (·.rule3)).length
  let d2 := if bad then d1.badInput e.queue (p.1.findIdx (·.bad) * src.unitBytes / 4096) else d1
  let st := if p.1.any (·.off) then stBankOff else if bad then stDataFault else stOk
  d2.deliver e run ⟨outs, 4, st, 0, x.len, 0, 0⟩

/-- P_COMPRESS: P.COMPRESS codes raw data into a Pug stream. -/
def Die.pCompress (d : Die) (slot : BitVec 12) (run : Run) : Die := 
  d.runOp 0x50 slot.toNat run freeStart pCompressLegal (pCompressBody run)

/-- Opcodes the Pug executes. -/
def isPug (op : Nat) : Bool := op == 0x50 || op == 0x51

/-- PUG_RESET: PUG_CTRL.RESET ends the executing P.COMPRESS and P.EXPAND (R117). -/
def Die.pugReset (d : Die) : Die := d.resetUnit Reg.PUG_FENCE isPug

end Sys2Proof.Machine
end

