-- ==== Sys2Proof/Machine/Kiln.lean ====
section
/-! DEFINITION. The Kiln: planes, charges, the accumulator and the drain (chapter 04, R71 to R99 and R511;
R33 to R40). A charge reads its streams when it starts and issues one vector a step. -/

namespace Sys2Proof.Machine

/-! ### K.LOAD_IN (R75 to R78) -/

/-- Opcodes the Kiln executes. -/
def isKiln (op : Nat) : Bool := op == 0x10 || op == 0x11

/-- A format that loads a WIDE plane or selects WIDE mode. -/
def isWide (f : Nat) : Bool := f == Fmt.FP16 || f == Fmt.BF16

/-- rows of K.LOAD_IN. -/
def loadRows (x : DescBits) : Nat := pF x 8 0
/-- cols of K.LOAD_IN. -/
def loadCols (x : DescBits) : Nat := pF x 18 9

/-- The fields of Table 4.3 that the plane records are legal. -/
def loadFieldsLegal (x : DescBits) : Bool :=
  let f := (streamOf x 0).fmt
  let sc := streamOf x 1
  isInputFmt f && decide (1 ≤ loadRows x) && decide (loadRows x ≤ if isWide f then 128 else 256) &&
    decide (1 ≤ loadCols x) && decide (loadCols x ≤ if isWide f then 256 else 512) &&
    (!sc.present || (isScaleFmt sc.fmt && loadRows x % 32 == 0))

/-- Row addresses of IN_SCALE (Table 4.3). -/
def loadScaleRows (x : DescBits) : Nat :=
  let s := loadRows x / 32
  if (streamOf x 1).fmt = Fmt.BF16 ∧ 256 < loadCols x then 2 * s else s

/-- Table 4.3 whole. -/
def loadLegal (x : DescBits) : Bool :=
  let sc := streamOf x 1
  loadFieldsLegal x && unitCount x (streamOf x 0) == loadRows x && (!sc.present || unitCount x sc == loadScaleRows x)

/-- The plane a load leaves when it reads nothing: every cell zero (R77). -/
def zeroPlane (x : DescBits) : Plane :=
  let sc := streamOf x 1
  if loadFieldsLegal x then ⟨true, (streamOf x 0).fmt, loadRows x, loadCols x, if sc.present then some sc.fmt else none, [], []⟩
  else ⟨true, Fmt.S8, 256, 512, none, [], []⟩

/-- Fill the shadow with a plane; the load's completion makes it FULL. What a load that is ended early has not read stays as
the load set it: cells zero and scales 1 (R77; DESIGN CHOICE, log entry 17). -/
def Die.fillShadow (d : Die) (p : Plane) : Die :=
  { d with kiln := { d.kiln with shadow := some p, shadowState := .filling } }

/-- A K.LOAD_IN that reads nothing (R77). -/
def Die.loadNothing (d : Die) (e : Entry) (st : Nat) : Die := (d.fillShadow (zeroPlane e.desc)).finish e.slot st 0 0 0 0

/-- Read the plane of a legal load. -/
def Die.loadPlane (d : Die) (e : Entry) (run : Run) : Die :=
  let x := e.desc
  let p := d.readStream e 1 (streamOf x 0)
  let q := if (streamOf x 1).present then p.2.readStream e 1 (streamOf x 1) else ([], p.2)
  let all := p.1 ++ q.1
  let bad := all.any (·.bad)
  let st := if all.any (·.off) then stBankOff else if bad then stDataFault else stOk
  let d1 := q.2.errIf bad Reg.KLN_ERR Bit.KLN_ERR_DATA
  let plane : Plane := { zeroPlane x with
    poison := false
    cells := p.1.map fun u => BitVec.ofNat 4096 u.data
    scales := q.1.map fun u => BitVec.ofNat 4096 u.data }
  match run.stop with
  | none => (d1.fillShadow plane).finish e.slot st (offFlag st) 0 0 0
  | some n =>
    let units := unitsOf x (streamOf x 0) ++ (if (streamOf x 1).present then unitsOf x (streamOf x 1) else [])
    (d1.fillShadow { plane with cells := plane.cells.take n, scales := plane.scales.take (n - plane.cells.length) }).modEntry e.slot
      fun o => { o with left := (units.drop n).map fun u => (1, u) }

/-- The run's faults strike and the entry starts. -/
def Die.kilnStart (d : Die) (e : Entry) (run : Run) : Die :=
  ((d.strike (opcodeOf e.desc) run).markStarted e).modEntry e.slot fun o => { o with tainted := e.tainted }

/-- Whether an entry is skipped for a poisoned predecessor (R193). -/
def Entry.skipped (e : Entry) : Bool := e.status == stPoison || (e.tainted && !e.proceeds)

/-- K_LOAD_IN: a K.LOAD_IN starts on an EMPTY shadow and loads an input plane through KI. -/
def Die.kLoadIn (d : Die) (slot : BitVec 12) (run : Run) : Die :=
  match d.entry slot.toNat with
  | none => d
  | some e0 =>
    let e := d.atStart e0
    if opcodeOf e.desc = 0x10 ∧ d.kiln.shadowState = .empty ∧ d.mayStart e && d.slotTurn e then
      d.attempt slot.toNat fun d0 =>
        let d1 := d0.kilnStart e run
        if e.skipped then d1.loadNothing e stPoison
        else if !loadLegal e.desc then (d1.logFormats e).loadNothing e stIllegal
        else
          match d1.allStartChecks e with
          | (some st, d2) => d2.loadNothing e st
          | (none, d2) => (d2.taintEntry e).loadPlane e run
    else d

/-! ### K.CHARGE parameters (R72, R73, R79) -/

/-- n of K.CHARGE. -/
def chargeN (x : DescBits) : Nat := pF x 11 0
/-- acc_base. -/
def chargeBase (x : DescBits) : Nat := pF x 22 12
/-- acc. -/
def chargeAcc (x : DescBits) : Bool := pB x 23
/-- swap. -/
def chargeSwap (x : DescBits) : Bool := pB x 24
/-- hand. -/
def chargeHand (x : DescBits) : Bool := pB x 25
/-- drain. -/
def chargeDrain (x : DescBits) : Bool := pB x 26
/-- w_fmt. -/
def chargeFmt (x : DescBits) : Nat := (streamOf x 0).fmt

/-- Outputs per vector: 2 in PAIR and PAIR6 (Table 4.1). -/
def kilnLanes (f : Nat) : Nat :=
  if f = Fmt.S4 ∨ f = Fmt.NB4 ∨ f = Fmt.NB3 ∨ f = Fmt.E2M1 ∨ f = Fmt.E2M3 then 2 else 1

/-- Vector size (Table 4.1). -/
def kilnVecBytes (f : Nat) : Nat := if f = Fmt.E2M3 then 384 else 256

/-- Weight scales per output (Table 4.1). -/
def kilnGroups (f : Nat) : Nat := if isWide f then 4 else 8

/-- acc_base and n are legal, so the target rows exist. -/
def chargeRowsLegal (x : DescBits) : Bool :=
  decide (1 ≤ chargeN x) && decide (chargeN x ≤ 2048) && chargeN x % kilnLanes (chargeFmt x) == 0 &&
    decide (chargeBase x + chargeN x ≤ 2048)

/-- The target rows, when they are legal. -/
def chargeRows (x : DescBits) : List Nat :=
  if chargeRowsLegal x then (List.range (chargeN x)).map (· + chargeBase x) else []

/-- Table 4.4 whole. -/
def chargeLegal (x : DescBits) : Bool :=
  let f := chargeFmt x
  let sc := streamOf x 1
  isWeightFmt f && chargeRowsLegal x && !(chargeDrain x && chargeHand x) &&
    (streamOf x 2).present == chargeDrain x &&
    (!sc.present || (isScaleFmt sc.fmt &&
      unitCount x sc == ceilDiv (chargeN x * kilnGroups f * fmtSize sc.fmt) 512))

/-- Vectors of a charge. -/
def chargeVectors (x : DescBits) : Nat := chargeN x / kilnLanes (chargeFmt x)

/-! ### Ends of a charge (R82, R89, R92, R94) -/

/-- An accumulator row. -/
def Die.accRow (d : Die) (r : Nat) : AccRow := SMap.get (fun _ => AccRow.powerUp) d.kiln.acc r

/-- Store an accumulator row. -/
def Die.setAcc (d : Die) (r : Nat) (a : AccRow) : Die :=
  { d with kiln := { d.kiln with acc := SMap.put (fun _ => AccRow.powerUp) d.kiln.acc r a } }

/-- Set POISON of accumulator rows. -/
def Die.poisonRows (d : Die) (rows : List Nat) : Die :=
  rows.foldl (fun acc r => acc.setAcc r { acc.accRow r with poison := true }) d

/-- Set OWED of accumulator rows (R89). A finishing charge that owed one of them again owes it no longer alone. -/
def Die.owe (d : Die) (rows : List Nat) : Die :=
  { d with kiln := { d.kiln with
    owed := setInsertAll rows d.kiln.owed
    finishing := d.kiln.finishing.map fun (c : Charge) => { c with again := c.again.filter fun r => !rows.contains r } } }

/-- Mark an entry executed, keeping the status and results it has gathered. -/
def Die.executed (d : Die) (slot : Nat) : Die := d.modEntry slot fun e => { e with phase := .executed }

/-- Give an entry a status unless it already has one (R96: the case that occurred first). -/
def Die.firstStatus (d : Die) (slot st fl : Nat) : Die :=
  d.modEntry slot fun e => { e with status := if e.status = stOk then st else e.status, flags := e.flags ||| fl }

/-- Poison the target rows of a charge, which records POISON_OUT in its flags (Table 8.9). -/
def Die.poisonCharge (d : Die) (slot : Nat) (rows : List Nat) : Die :=
  (d.poisonRows rows).modEntry slot fun e => { e with flags := e.flags ||| (if rows.isEmpty then 0 else flPoisonOut) }

/-- A charge that completes without issuing: its rows are poisoned, and a hand charge owes them. -/
def Die.endUnissued (d : Die) (e : Entry) : Die :=
  let rows := chargeRows e.desc
  let d1 := d.poisonCharge e.slot rows
  (if chargeHand e.desc then d1.owe rows else d1).executed e.slot

/-- A charge at the end of its issue: OWED on its target rows when it hands over or drains (R89). -/
def Die.oweAtEnd (d : Die) (e : Entry) : Die :=
  if chargeHand e.desc ∨ chargeDrain e.desc then d.owe (chargeRows e.desc) else d

/-- A charge leaves the issue phase and finishes; rows it has drained already are owed again (R83, R89). -/
def Die.finishIssue (d : Die) (e : Entry) (c : Charge) : Die :=
  let d1 := d.oweAtEnd e
  { d1 with kiln := { d1.kiln with
    finishing := d1.kiln.finishing ++ [{ c with again := if chargeDrain e.desc then (chargeRows e.desc).take c.drained else [] }] } }

/-- Whether nothing of a finishing charge is under way. -/
def Die.chargeSettled (d : Die) (c : Charge) (e : Entry) : Bool :=
  !(d.kiln.pipe.any fun g => g.any fun u => u.slot == c.slot) &&
    (c.ended || !chargeDrain e.desc || c.drained == chargeN e.desc)

/-- Complete every finishing charge whose updates have landed and whose drain is done (R92, R94). Rows that drained before the
charge's last issue are owed again from that cycle, as R89 says of each target row; they clear here, unless another charge
has owed them since (DESIGN CHOICE, log entry 14). So do the undrained rows of a drain charge ended early while it was
issuing or finishing (R94; log entry 83). -/
def Die.settleCharges (d : Die) : Die :=
  d.kiln.finishing.foldl (fun acc c =>
    match acc.entry c.slot with
    | none => acc
    | some e =>
      if acc.chargeSettled c e then
        let rows := chargeRows e.desc
        let a1 := if c.ended then acc.poisonCharge c.slot rows else acc
        let a2 := a1.unowe (c.again ++ if c.ended && chargeDrain e.desc then rows.drop c.drained else [])
        ({ a2 with kiln := { a2.kiln with finishing := a2.kiln.finishing.filter fun o => o.slot != c.slot } }).executed c.slot
      else acc) d

/-- A finishing charge ended early: no further row of it drains (R94). -/
def Die.endFinishing (d : Die) (slot : Nat) : Die :=
  ({ d with kiln := { d.kiln with
    finishing := d.kiln.finishing.map fun (o : Charge) => if o.slot = slot then { o with ended := true } else o } }).settleCharges

/-- A charge ended early with a status (R82, R94). -/
def Die.chargeEarlyEnd (d : Die) (slot st : Nat) : Die :=
  match d.entry slot with
  | none => d
  | some e =>
    let d1 := d.firstStatus slot st flEarlyEnd
    let k := d1.kiln
    if k.priming.any fun c => c.slot == slot then
      let d2 := { d1 with kiln := { k with
        priming := none
        swapsOwed := if chargeSwap e.desc then k.swapsOwed + 1 else k.swapsOwed } }
      d2.endUnissued e
    else
      match k.issuing with
      | some c =>
        if c.slot = slot then
          ({ d1 with kiln := { k with issuing := none } }.finishIssue e { c with vectors := [], ended := true }).settleCharges
        else d1.endFinishing slot
      | none => d1.endFinishing slot

/-! ### K.CHARGE start (R79, R80, R83, R93) -/

/-- A fresh charge. -/
def Charge.new (slot : Nat) (vs : List WVec) (scales : Nat) (soft skip : Bool) (out : List Int) : Charge :=
  { slot := slot, vectors := vs, scales := scales, next := 0, held := 0, gap := 0, cycles := 0, cadence := 0,
    softStart := soft, skip := skip, drained := 0, ended := false, fault := false, cause := 0, blocks := [], outRows := out, again := [], cols := 0 }

/-- A charge that completes without issuing: with swap = 1 it still waits for its swap (R82). -/
def Die.chargeSkip (d : Die) (e : Entry) (st : Nat) : Die :=
  let d1 := d.firstStatus e.slot st 0
  if chargeSwap e.desc then { d1 with kiln := { d1.kiln with priming := some (Charge.new e.slot [] 0 false true []) } }
  else d1.endUnissued e

/-- Begin a soft start when the clocks are gated or a barrier has completed (R93). -/
def Die.softStart (d : Die) : Bool × Die :=
  if d.kiln.gated ∨ d.kiln.afterBarrier then
    (true, { d with kiln := { d.kiln with gated := false } }.count Reg.KLN_SOFT_STARTS 1)
  else (false, d)

/-- Whether the scale bytes of a vector come from a bad row. -/
def scaleBad (x : DescBits) (rows : List UnitRd) (i : Nat) : Bool :=
  let per := kilnLanes (chargeFmt x) * kilnGroups (chargeFmt x) * fmtSize (streamOf x 1).fmt
  (rows.getD (per * i / 512) ⟨0, false, false⟩).bad

/-- Read the streams of a legal charge and prime it. -/
def Die.primeCharge (d : Die) (e : Entry) : Die :=
  let x := e.desc
  let f := chargeFmt x
  let nv := chargeVectors x
  let vb := kilnVecBytes f
  let p := d.readStream e 0 (streamOf x 0)
  let sc := streamOf x 1
  let q := if sc.present then p.2.readStream e 1 sc else ([], p.2)
  let w := expand (PStream.ofUnits 512 p.1) 128 (nv * vb)
  let vs := (List.range nv).map fun i =>
    let z := w.zeroIn (vb * i) vb
    (⟨if z then 0 else bytesAt w.raw (vb * i) vb, z || scaleBad x q.1 i⟩ : WVec)
  let bad := !w.faults.isEmpty || p.1.any (·.bad) || q.1.any (·.bad)
  let s := (q.2.pugFaults 0 e.queue (w.faults.map fun f => (0, f))).softStart
  let out := if chargeDrain x then unitsOf x (streamOf x 2) else []
  { s.2 with kiln := { s.2.kiln with
    priming := some { Charge.new e.slot vs (concatUnits 512 q.1) s.1 false out with
      fault := bad, cause := faultCause w.faults, blocks := w.blocks } } }

/-- Whether the Kiln may start a charge (R83). -/
def Die.mayPrime (d : Die) : Bool :=
  d.kiln.priming.isNone &&
    match d.kiln.issuing with
    | none => true
    | some c => decide (c.vectors.length ≤ 32)

/-- K_CHARGE: a K.CHARGE starts priming, checking its parameters and Shelves streams. -/
def Die.kCharge (d : Die) (slot : BitVec 12) (run : Run) : Die :=
  match d.entry slot.toNat with
  | none => d
  | some e0 =>
    let e := d.atStart e0
    if opcodeOf e.desc = 0x11 ∧ d.mayPrime ∧ d.startable e && d.oldest e && d.slotTurn e then
      d.attempt slot.toNat fun d0 =>
        let d1 := d0.kilnStart e run
        if e.skipped then d1.chargeSkip e stPoison
        else if !chargeLegal e.desc then (d1.logFormats e).chargeSkip e stIllegal
        else
          match d1.allStartChecks e with
          | (some st, d2) => d2.chargeSkip e st
          | (none, d2) => d2.primeCharge e
    else d

/-! ### The first issue (R81, R82, R93) -/

/-- A swap makes the shadow active (R75). -/
def Die.kilnSwap (d : Die) : Die :=
  { d with kiln := { d.kiln with active := d.kiln.shadow, shadow := d.kiln.active, shadowState := .releasing } }

/-- Whether a charge accumulates in S32 (R33, R87). -/
def chargeInt (x : DescBits) (p : Plane) : Bool :=
  isIntPairing (chargeFmt x) p.fmt && p.scale.isNone && !(streamOf x 1).present

/-- The tag of a charge's updates. -/
def chargeTag (x : DescBits) (p : Plane) : AccTag := if chargeInt x p then .s32 else .fp32

/-- Whether the checks of R81 but the tag check pass against a plane. -/
def planeFits (x : DescBits) (p : Plane) : Bool :=
  let sc := streamOf x 1
  isPairing (chargeFmt x) p.fmt &&
    (match p.scale with
      | some f => !sc.present || f == sc.fmt
      | none => true) &&
    ((p.scale.isNone && !sc.present) || p.rows % 32 == 0) &&
    (!chargeDrain x || unitCount x (streamOf x 2) == chargeN x * ceilDiv p.cols 256)

/-- The tag a row has once the updates under way have landed (R87, R88). -/
def Die.tagAhead (d : Die) (r : Nat) : AccTag :=
  d.kiln.pipe.foldl (fun t g => g.foldl (fun t u => if u.row = r ∧ u.acc = false then u.tag else t) t) (d.accRow r).tag

/-- Whether every target row of an accumulating charge has the charge's tag. -/
def Die.tagsFit (d : Die) (x : DescBits) (p : Plane) : Bool :=
  !chargeAcc x || (chargeRows x).all fun r => d.tagAhead r == chargeTag x p

/-- Begin the issue phase of a priming charge over a plane, or end it without issue (R81). DESIGN CHOICE: PAIRING alone is set
when the tag check fails with another (log entry 94). -/
def Die.beginIssue (d : Die) (c : Charge) (e : Entry) : Die :=
  let fail := fun (bit : Nat) =>
    ((({ d with kiln := { d.kiln with priming := none } }).err Reg.KLN_ERR bit).firstStatus c.slot stIllegal 0).endUnissued e
  match d.kiln.active with
  | none => fail Bit.KLN_ERR_PAIRING
  | some p =>
    if p.poison && !e.proceeds then
      (({ d with kiln := { d.kiln with priming := none } }).firstStatus c.slot stPoison 0).endUnissued e
    else if !planeFits e.desc p then
      let d1 := fail Bit.KLN_ERR_PAIRING
      if isPairing (chargeFmt e.desc) p.fmt then d1 else d1.logIllegal e.tenant e.queue 0x11 8
    else if !d.tagsFit e.desc p then fail Bit.KLN_ERR_ACC_TAG
    else
      let d1 := { d with kiln := { d.kiln with
        priming := none
        issuing := some { c with cols := p.cols, held := 0 }
        gated := false
        afterBarrier := false } }
      d1.taintEntry { e with tainted := e.tainted || p.poison }

/-- Target rows of the next vector. -/
def nextRows (x : DescBits) (c : Charge) : List Nat :=
  let lanes := kilnLanes (chargeFmt x)
  (List.range lanes).map fun j => chargeBase x + lanes * c.next + j

/-- Whether a target row of a charge's next vector is OWED, so that the vector is held (R86, R89). -/
def Die.owedNext (d : Die) (e : Entry) (c : Charge) : Bool := (nextRows e.desc c).any fun r => d.kiln.owed.contains r

/-- KILN_FIRST_ISSUE_SWAP: the cycle of a charge's first issue, no charge issuing and nothing that keeps its first vector back: it swaps
a FULL shadow in if it asks for one, and is checked. A charge that waits only on the shadow counts the cycle (R82, R83). -/
def Die.kilnFirstIssueSwap (d : Die) : Die :=
  match d.kiln.priming with
  | none => d
  | some c =>
    match d.entry c.slot with
    | none => d
    | some e =>
      let blocked := decide (c.vectors.length = 1) && !d.kiln.finishing.isEmpty
      if c.skip || d.kiln.issuing.isSome || d.owedNext e c || blocked then d
      else if chargeSwap e.desc then
        if d.kiln.shadowState = .full then
          if d.kiln.swapsOwed = 0 then d.kilnSwap.beginIssue c e else d
        else d.count Reg.KLN_PLANE_WAIT 1
      else d.beginIssue c e

/-- KILN_OWED_SWAP: a swap that comes with no issue takes place when the shadow is FULL and no charge is issuing
(R511): swaps owed first, then that of a charge completing without issuing. -/
def Die.kilnOwedSwap (d : Die) : Die :=
  if d.kiln.shadowState = .full ∧ d.kiln.issuing = none then
    if 0 < d.kiln.swapsOwed then
      let d1 := d.kilnSwap
      { d1 with kiln := { d1.kiln with swapsOwed := d1.kiln.swapsOwed - 1 } }
    else
      match d.kiln.priming with
      | none => d
      | some c =>
        match d.entry c.slot with
        | none => d
        | some e =>
          if c.skip then
            let d1 := d.kilnSwap
            ({ d1 with kiln := { d1.kiln with priming := none } }).endUnissued e
          else d
  else d

/-- KILN_SHADOW_RELEASED: the RELEASING shadow becomes EMPTY (R75). -/
def Die.kilnShadowReleased (d : Die) : Die :=
  if d.kiln.shadowState = .releasing then { d with kiln := { d.kiln with shadow := none, shadowState := .empty } } else d

/-! ### Sums (R37 to R40, R71, R73, R74) -/

/-- A finite integer value. -/
def numInt : Num → Int
  | .fin s m e => let v := m <<< e.toNat; if s then -(v : Int) else (v : Int)
  | _ => 0

/-- Element x[m][k] of a plane, 0 outside what it loaded. -/
def Plane.elem (p : Plane) (k m : Nat) : Num :=
  if k < p.rows ∧ m < p.cols then decodeNum p.fmt (elemAt p.fmt (p.cells.getD k 0#4096).toNat m) else Num.zero

/-- Weight w[k] of output `j` of a vector (R73). -/
def weightOf (f lanes data k j : Nat) : Num := decodeNum f (elemAt f data (lanes * k + j))

/-- Input scale x_scale[g][m] (R77): 1 where the load supplied none. -/
def Plane.scaleOf (p : Plane) (g m : Nat) : Num :=
  match p.scale with
  | none => .fin false 1 0
  | some f =>
    let wideBf := f = Fmt.BF16 ∧ 256 < p.cols
    match p.scales[if wideBf then 2 * g + m / 256 else g]? with
    | none => .fin false 1 0
    | some r => if p.rows ≤ 32 * g then .fin false 1 0 else decodeNum f (elemAt f r.toNat (if wideBf then m % 256 else m))

/-- Weight scale w_scale[g] of output `n` (R79). -/
def weightScale (x : DescBits) (scales n g : Nat) : Num :=
  let sc := streamOf x 1
  if sc.present then decodeNum sc.fmt (elemAt sc.fmt scales (kilnGroups (chargeFmt x) * n + g)) else .fin false 1 0

/-- The exact sum of integer products over rows (R38). -/
def intSum (ws xs : List Num) : Int := ((ws.zip xs).map fun p => numInt p.1 * numInt p.2).foldl (· + ·) 0

/-- A group sum: exact for an integer pairing, else through the group tree (R37, R39). -/
def groupSum (int : Bool) (ws xs : List Num) : Num :=
  if int then Num.ofInt (intSum ws xs) else treeSum 5 ((ws.zip xs).map fun p => mulF p.1 p.2)

/-- The 32 elements of group `g` of a list. -/
def groupOf (l : List Num) (g : Nat) : List Num := (l.drop (32 * g)).take 32

/-- The sum of column `m` for one output as an accumulator entry. -/
def columnSum (x : DescBits) (p : Plane) (c : Charge) (ws : List Num) (n m : Nat) : Nat :=
  let groups := kilnGroups (chargeFmt x)
  let xs := (List.range (32 * groups)).map fun k => p.elem k m
  if chargeInt x p then ofSigned 32 (intSum ws xs)
  else
    let int := isIntPairing (chargeFmt x) p.fmt
    toFp32 (treeSum (if groups = 4 then 2 else 3) ((List.range groups).map fun g =>
      rnd32 (Num.mul (groupSum int (groupOf ws g) (groupOf xs g)) (Num.mul (weightScale x c.scales n g) (p.scaleOf g m)))))

/-- What a vector brings to the accumulator: one part for each of its outputs (R73, R84). -/
def vectorParts (x : DescBits) (p : Plane) (c : Charge) (v : WVec) (poison : Bool) : List InFlight :=
  let f := chargeFmt x
  let lanes := kilnLanes f
  (List.range lanes).map fun j =>
    let n := lanes * c.next + j
    let ws := (List.range (32 * kilnGroups f)).map fun k => weightOf f lanes v.data k j
    let sums := (List.range p.cols).map fun m => columnSum x p c ws n m
    { row := chargeBase x + n, sums := sums, tag := chargeTag x p, acc := chargeAcc x,
      poison := poison || v.bad || p.poison,
      nan := !chargeInt x p && sums.any fun s => (ofFp32 s).isNan, slot := c.slot }

/-! ### Issue (R84 to R86, R89, R90, R97) -/

/-- Put the issuing charge back. -/
def Die.setIssuing (d : Die) (c : Charge) : Die := { d with kiln := { d.kiln with issuing := some c } }

/-- Log a residue mismatch (R97, R470). -/
def Die.residueMiss (d : Die) (at_ : BitVec 12) (slot : Nat) : Die :=
  ((((d.setReg Reg.KLN_RESIDUE_LOG (BitVec.ofNat 32 at_.toNat)).err Reg.KLN_ERR Bit.KLN_ERR_RESIDUE).countError 1 at_.toNat).firstStatus
    slot stDataFault 0)

/-- A vector with a fault of its streams behind it, or the last of a charge whose streams have one, gives the charge its
DATA_FAULT (Table 4.8). -/
def Die.streamFault (d : Die) (c : Charge) : Die :=
  ((d.modEntry c.slot fun o => if o.status = stOk then { o with cause := c.cause } else o).firstStatus c.slot stDataFault 0).err
    Reg.KLN_ERR Bit.KLN_ERR_DATA

/-- Count blocks that have gone through the Kiln expander (Table 5.6). -/
def Die.passBlocks (d : Die) (bs : List BlockPass) : Die :=
  let slow := bs.filter fun b => b.slow != 0
  (((d.count Reg.PUG_KX_BLOCKS bs.length).count Reg.PUG_KX_STORED (bs.filter (·.stored)).length).count Reg.PUG_KX_SLOW slow.length).count
    Reg.PUG_KX_SLOW_CYC (slow.foldl (fun t b => t + b.slow) 0)

/-- Issue the next vector of the issuing charge, with the blocks it ends; its last one ends the issue phase and owes its rows. -/
def Die.issueVector (d : Die) (c : Charge) (e : Entry) (p : Plane) (v : WVec) (rest : List WVec)
    (residue : Option (BitVec 12)) : Die :=
  let hit := c.fault && (v.bad || rest.isEmpty)
  let through := fun (b : BlockPass) => decide (b.upto ≤ kilnVecBytes (chargeFmt e.desc) * (c.next + 1))
  let d0 := (if hit then d.streamFault c else d).passBlocks (c.blocks.filter through)
  let d1 := match residue with
    | none => d0
    | some r => d0.residueMiss r c.slot
  let parts := vectorParts e.desc p c v residue.isSome
  let c1 := { c with
    vectors := rest, next := c.next + 1, held := 0, gap := 0, cycles := c.cycles + 1, cadence := c.cadence + 1
    fault := c.fault && !hit, blocks := c.blocks.filter fun b => !through b }
  let d2 := ({ d1 with kiln := { d1.kiln with pipe := d1.kiln.pipe ++ [parts] } }).count Reg.KLN_ISSUED 1
  let d3 := d2.modEntry c.slot fun o => { o with result0 := c1.cycles, result1 := o.result1 + c.gap }
  if rest.isEmpty then
    { d3 with kiln := { d3.kiln with issuing := none } }.finishIssue e c1
  else d3.setIssuing c1

/-- A held cycle: on OWED rows, for the Damper, or both (R86). -/
def Die.heldCycle (d : Die) (owed damper : Bool) : Die :=
  let d1 := if owed then d.count Reg.KLN_HOLD_ACC 1 else d
  if damper then d1.domainHeld 0 1 else d1

/-- A cycle in which a priming charge has all it needs for its first issue but is held: it goes on priming. Without a vector
from the feeder nothing is held (R83, R85, R86). -/
def Die.heldFirst (d : Die) (ready damper : Bool) : Die :=
  match d.kiln.priming with
  | none => d
  | some c =>
    match d.entry c.slot with
    | none => d
    | some e =>
      let plane := !chargeSwap e.desc || (d.kiln.shadowState == .full && d.kiln.swapsOwed == 0)
      let owed := d.owedNext e c
      if c.skip then d
      else if !ready then { d with kiln := { d.kiln with priming := some { c with held := 0 } } }
      else if !(owed || (damper && plane)) then d
      else
        let c1 := { c with held := if owed then c.held + 1 else 0 }
        ({ d with kiln := { d.kiln with priming := some c1 } }).heldCycle owed (damper && plane)

/-- KILN_VECTOR_ISSUE: one issue cycle: a vector, a bubble when the feeder has none, a hold on OWED rows or for the Damper,
or the empty third cycle of PAIR6. A charge whose first issue has come issues in that cycle. The last vector of a charge
waits while another charge is finishing, in a cycle that counts as none of these (R83, R85, R86; DESIGN CHOICE, log entry
14). `residue` is a mismatch's group and column. -/
def Die.kilnVectorIssue (d0 : Die) (feeder : Feeder) (damper : Bool) (residue : Option (BitVec 12)) : Die :=
  let d := if feeder = .reading then d0.count Reg.PUG_KX_WAIT_CYC 1 else d0
  let kept := damper && d.limited 0
  match d.kiln.issuing, d.kiln.active with
  | some c, some p =>
    match d.entry c.slot, c.vectors with
    | some e, v :: rest =>
      let first := c.cycles = 0
      let tick := { c with cycles := if first then 0 else c.cycles + 1, cadence := if first then 0 else c.cadence + 1 }
      let owed := d.owedNext e c
      if chargeFmt e.desc = Fmt.E2M3 ∧ c.cadence % 3 = 2 then d.setIssuing tick
      else if feeder ≠ .ready then
        if first then d
        else (d.setIssuing { tick with gap := c.gap + 1, held := 0 }).count Reg.KLN_BUBBLES 1
      else if !first && (owed || kept) then
        (d.setIssuing { tick with held := if owed then c.held + 1 else 0 }).heldCycle owed kept
      else if rest.isEmpty && !d.kiln.finishing.isEmpty then d
      else d.issueVector c e p v rest residue
    | _, _ => d
  | none, _ => d.heldFirst (feeder == .ready) kept
  | _, _ => d

/-- KILN_HOLD_TIMEOUT: a vector held on OWED rows for KLN_HOLD_LIMIT cycles ends its charge (R90). -/
def Die.kilnHoldTimeout (d : Die) : Die :=
  match d.kiln.issuing.orElse fun _ => d.kiln.priming with
  | none => d
  | some c =>
    let limit := (d.reg Reg.KLN_HOLD_LIMIT).toNat
    if limit ≠ 0 ∧ limit ≤ c.held then (d.err Reg.KLN_ERR Bit.KLN_ERR_HOLD_TIMEOUT).chargeEarlyEnd c.slot stTimeout
    else d

/-! ### The accumulator (R87, R88, R471) -/

/-- An update applied to a row: the row, and whether an addition saturated or gave NaN. -/
def AccRow.land (r : AccRow) (u : InFlight) : AccRow × Bool × Bool :=
  if u.acc then
    let old := elems 32 512 r.cells.toNat
    let int := u.tag = .s32
    let add := fun (a b : Nat) =>
      if int then
        let s := satS32 (toSigned 32 a + toSigned 32 b)
        (ofSigned 32 s.1, s.2)
      else (toFp32 (addF (ofFp32 a) (ofFp32 b)), false)
    let new := old.zipIdx.map fun p => if p.2 < u.sums.length then add p.1 (u.sums.getD p.2 0) else (p.1, false)
    (⟨BitVec.ofNat 16384 (packElems 32 (new.map (·.1))), r.tag, r.poison || u.poison⟩, new.any (·.2),
      !int && (new.take u.sums.length).any fun p => (ofFp32 p.1).isNan)
  else (⟨BitVec.ofNat 16384 (packElems 32 u.sums), u.tag, u.poison⟩, false, u.nan)

/-- Land one part. -/
def Die.landOne (d : Die) (u : InFlight) : Die :=
  let r := (d.accRow u.row).land u
  let fl := (if r.2.1 then flSat else 0) + (if r.2.2 || u.nan then flNan else 0) + (if r.1.poison then flPoisonOut else 0)
  (d.setAcc u.row r.1).modEntry u.slot fun e => { e with flags := e.flags ||| fl }

/-- The effect of an accumulator error (R471). -/
def Die.accUpset (d : Die) (u : AccUpset) : Die :=
  let d1 := d.countError 6 u.word.toNat
  if u.fatal then (d1.poisonRows [u.row.toNat]).err Reg.RAS_ERR Bit.RAS_ERR_CTRL_UE else d1

/-- ACC_UPDATE_LAND: the oldest issued vector's update lands (R88). -/
def Die.accUpdateLand (d : Die) (u : Option AccUpset) : Die :=
  match d.kiln.pipe with
  | [] => d
  | g :: rest =>
    let d1 := g.foldl Die.landOne { d with kiln := { d.kiln with pipe := rest } }
    let d2 := match u with
      | none => d1
      | some x => d1.accUpset x
    d2.settleCharges

/-! ### The drain (R91) -/

/-- The charge whose drain is next: a finishing one, else the issuing one. -/
def Kiln.draining (k : Kiln) : Option Charge :=
  match k.finishing.find? fun c => !c.ended && !c.outRows.isEmpty with
  | some c => some c
  | none => k.issuing.filter fun c => !c.outRows.isEmpty

/-- Write accumulator row `r` to the next OUT rows through KD: the low half of each 256 entries to the even bank,
the high half to the odd one. -/
def Die.drainWrite (d : Die) (e : Entry) (a : AccRow) : Nat → List Int → Bool × Die
  | _, [] => (true, d)
  | h, r :: rs =>
    let part := fun (o : Nat) => BitVec.ofNat 4096 (fld a.cells.toNat (32 * (256 * h + o) + 4095) (32 * (256 * h + o)))
    let p := d.writeRow (e.who 2) r.toNat (part 0) a.poison
    let q := p.2.writeRow (e.who 2) (r.toNat + 1024) (part 128) a.poison
    let t := q.2.drainWrite e a (h + 1) rs
    (p.1 && q.1 && t.1, t.2)

/-- Replace a charge wherever it stands. -/
def Kiln.setCharge (k : Kiln) (c : Charge) : Kiln :=
  { k with
    issuing := k.issuing.map fun o => if o.slot = c.slot then c else o
    finishing := k.finishing.map fun o => if o.slot = c.slot then c else o }

/-- KILN_DRAIN_ROW: a drain charge writes its next target row to the Shelves once the row's update has landed;
the row is owed no longer. -/
def Die.kilnDrainRow (d : Die) : Die :=
  match d.kiln.draining with
  | none => d
  | some c =>
    match d.entry c.slot with
    | none => d
    | some e =>
      let row := chargeBase e.desc + c.drained
      let landed := decide (c.drained / kilnLanes (chargeFmt e.desc) < c.next) &&
        !(d.kiln.pipe.any fun g => g.any fun u => u.slot == c.slot && u.row == row)
      if landed then
        let per := ceilDiv c.cols 256
        let a := d.accRow row
        let p := d.drainWrite e a 0 (c.outRows.take per)
        let d1 := { p.2 with kiln := p.2.kiln.setCharge { c with drained := c.drained + 1, outRows := c.outRows.drop per } }
        let d2 := (d1.unowe [row]).modEntry c.slot fun o =>
          { o with flags := o.flags ||| (if a.poison then flPoisonOut else 0) }
        if p.1 then d2.settleCharges else d2.chargeEarlyEnd c.slot stBankOff
      else d

/-! ### Clocks, spares and resets (R89, R93, R95, R98) -/

/-- KILN_CLOCK_GATE: the column clocks gate after idle cycles with no charge issuing or finishing. -/
def Die.kilnClockGate (d : Die) : Die :=
  if d.kiln.issuing = none ∧ d.kiln.finishing = [] then { d with kiln := { d.kiln with gated := true } } else d

/-- An S.BARRIER has completed: the next first issue comes after a soft start, which a charge already priming
begins now, once (R93, R217; DESIGN CHOICE, log entry 96). -/
def Die.barrierPassed (d : Die) : Die :=
  let d1 := { d with kiln := { d.kiln with afterBarrier := true }, wheel := { d.wheel with afterBarrier := true } }
  match d1.kiln.priming with
  | some c =>
    if c.skip || c.softStart then d1
    else ({ d1 with kiln := { d1.kiln with priming := some { c with softStart := true }, gated := false } }).count
      Reg.KLN_SOFT_STARTS 1
  | none => d1

/-- Whether the Kiln is at the idle point of R98. -/
def Die.kilnIdle (d : Die) : Bool :=
  d.kiln.priming.isNone && d.kiln.issuing.isNone && d.kiln.finishing.isEmpty &&
    !(d.sb.any fun e => e.began && opcodeOf e.desc == 0x10)

/-- Take a spare row, or report that none is left. -/
def Die.kilnSpareRow (d : Die) (loc : Nat) : Die :=
  let n := d.rf Reg.KLN_SPARE_STAT 2 0
  if 0 < n then (d.setRf Reg.KLN_SPARE_STAT 2 0 (n - 1)).spareInService 1 loc
  else (d.err Reg.KLN_ERR Bit.KLN_ERR_SPARE_OUT).noSpare 1 loc

/-- KILN_SPARE_SWAP: at an idle cycle the Kiln brings in the spare its pattern test asks for. -/
def Die.kilnSpareSwap (d : Die) (found : PatternResult) : Die :=
  match d.firstWanted 1 with
  | none => d
  | some loc =>
    if !d.kilnIdle then d
    else
      let g := loc % 512 / 64
      let free := (d.reg Reg.KLN_SPARE_STAT).b (8 + g)
      let takeCol := (d.setRf Reg.KLN_SPARE_STAT (8 + g) (8 + g) 0).spareInService 1 loc
      match found with
      | .row => d.kilnSpareRow loc
      | .column => if free then takeCol else (d.err Reg.KLN_ERR Bit.KLN_ERR_SPARE_OUT).noSpare 1 loc
      | .cell => if free then takeCol else d.kilnSpareRow loc

/-- KLN_OWED_RELEASE: a write of ALL clears every OWED bit and sets the flag (Table 4.9). -/
def Die.klnOwedRelease (d : Die) (w : Word) : Die :=
  if w.b 0 then ({ d with kiln := { d.kiln with owed := [] } }).err Reg.KLN_ERR Bit.KLN_ERR_OWED_RELEASE else d

/-- KILN_RESET: every started Kiln descriptor ends with UNIT_RESET, issued vectors are discarded, and planes,
owed swaps and accumulator return to their power-up state (R95). -/
def Die.kilnReset (d : Die) : Die :=
  let d1 := d.resetUnit Reg.KLN_FENCE isKiln
  { d1 with kiln := { Kiln.powerUp with gated := d1.kiln.gated, afterBarrier := d1.kiln.afterBarrier } }

end Sys2Proof.Machine
end

