-- ==== Sys2Proof/Machine/Glaze.lean ====
section
/-! DEFINITION. The Glaze unit: G.ELEM, G.NORM, G.SOFTMAX, G.ROPE, G.REQUANT, G.TOPK and GLAZE_RESET
(chapter 06, R119 to R136; R41 to R44). -/

namespace Sys2Proof.Machine

/-! ### Lines (R119 to R122) -/

/-- lines of a G.* descriptor, where 0 encodes 262,144. -/
def gLines (x : DescBits) : Nat := if pF x 17 0 = 0 then 262144 else pF x 17 0

/-- cols of a G.* descriptor. -/
def gCols (x : DescBits) : Nat := pF x 27 18

/-- Rows of one line in the Shelves. -/
def rowsPerLine (cols fmt : Nat) : Nat := ceilDiv (cols * fmtSize fmt) 512

/-- Units a tensor of `lines` lines takes in a stream. -/
def tensorUnits (s : Stream) (lines cols fmt : Nat) : Nat := if s.space = 3 then lines else lines * rowsPerLine cols fmt

/-- Units a packed vector of `v` elements takes (Table 6.2). -/
def vectorUnits (s : Stream) (v fmt : Nat) : Nat := if s.space = 3 then ceilDiv v 512 else ceilDiv (v * fmtSize fmt) 512

/-- Whether a read stream is one a Glaze descriptor may use: an accumulator stream holds S32 or FP32 and stays
within the accumulator's rows (R120, R122). -/
def gStreamOk (x : DescBits) (s : Stream) : Bool :=
  isGlazeFmt s.fmt && (s.space != 3 ||
    ((s.fmt == Fmt.S32 || s.fmt == Fmt.FP32) && decide (0 ≤ (reachOf x s).1) && decide ((reachOf x s).2 < 2048)))

/-- One line as the lanes receive it: element bits by column, and whether it is poisoned. -/
structure GLine where
  vals : List Nat
  poison : Bool
  off : Bool
  deriving DecidableEq, Repr

/-- What a read of lines gave: the lines, and by line whether its accumulator tag differed (none for Shelves lines). -/
structure GRead where
  lines : List GLine
  badTags : List Bool
  deriving DecidableEq, Repr

/-- Tag of a format in the accumulator. -/
def tagOfFmt (f : Nat) : AccTag := if f = Fmt.S32 then .s32 else .fp32

/-- One accumulator row as a line of `n` entries (R122). -/
def accLine (a : AccRow) (fmt n : Nat) : GLine × Bool :=
  if a.tag = tagOfFmt fmt then (⟨elems 32 n a.cells.toNat, a.poison, false⟩, false)
  else (⟨List.replicate n 0, true, false⟩, a.tag != .none)

/-- Group a list in runs of `k`. -/
def runs {α : Type} (k : Nat) : Nat → List α → List (List α)
  | 0, _ => []
  | n + 1, l => l.take k :: runs k n (l.drop k)

/-- The first `n` elements of the rows of one line. -/
def rowsLine (fmt n : Nat) (us : List UnitRd) : GLine :=
  ⟨elems (fmtBits fmt) n (concatUnits 512 us), us.any (·.bad), us.any (·.off)⟩

/-- Read `lines` lines of `cols` elements from a stream. -/
def Die.gRead (d : Die) (e : Entry) (s : Stream) (lines cols : Nat) : GRead × Die :=
  if s.space = 3 then
    let ls := (unitsOf e.desc s).map fun r => accLine (d.accRow r.toNat) s.fmt cols
    (⟨ls.map (·.1), ls.map (·.2)⟩, d)
  else
    let p := d.readStream e 3 s
    (⟨(runs (rowsPerLine cols s.fmt) lines p.1).map (rowsLine s.fmt cols), []⟩, p.2)

/-- Read a packed vector of `v` elements: its elements, each with whether its unit was poisoned. -/
def Die.gVector (d : Die) (e : Entry) (s : Stream) (v : Nat) : GRead × Die :=
  if s.space = 3 then
    let ls := (unitsOf e.desc s).map fun r => accLine (d.accRow r.toNat) s.fmt 512
    (⟨(ls.flatMap fun l => l.1.vals.map fun b => (⟨[b], l.1.poison, false⟩ : GLine)).take v,
      (ls.flatMap fun l => l.1.vals.map fun _ => l.2).take v⟩, d)
  else
    let p := d.readStream e 3 s
    let n := 512 / fmtSize s.fmt
    (⟨(p.1.flatMap fun u => (elems (fmtBits s.fmt) n u.data).map fun b => (⟨[b], u.bad, u.off⟩ : GLine)).take v, []⟩, p.2)

/-- An element as FP32 (R121). -/
def gVal (fmt bits : Nat) : Num := rnd32 (decodeNum fmt bits)

/-- The FP32 values of a line. -/
def GLine.nums (l : GLine) (fmt : Nat) : List Num := l.vals.map (gVal fmt)

/-- A result rounded once into the output format (R121). A NaN has no stated integer: it is a free value. -/
def gOut (fmt : Nat) (x : Num) : Nat × ConvFlags :=
  if x.isNan ∧ (fpLayout fmt).isNone then (Config.nanToInt fmt % 2 ^ fmtBits fmt, { nan := true }) else encodeNum fmt x

/-! ### Parameters that shape the reading (Tables 6.3 and 6.6) -/

/-- func of G.ELEM. -/
def elemFunc (x : DescBits) : Nat := pF x 31 28
/-- op of G.ELEM. -/
def elemOp (x : DescBits) : Nat := pF x 34 32
/-- bmode of G.ELEM. -/
def elemBmode (x : DescBits) : Nat := pF x 36 35
/-- post of G.ELEM. -/
def elemPost (x : DescBits) : Bool := pB x 37
/-- qout of G.ELEM. -/
def elemQout (x : DescBits) : Bool := pB x 38

/-- d of G.ROPE. -/
def ropeD (x : DescBits) : Nat := pF x 36 28
/-- pairing of G.ROPE: split halves when true. -/
def ropeSplit (x : DescBits) : Bool := pB x 37
/-- freq of G.ROPE. -/
def ropeFreq (x : DescBits) : Bool := pB x 38

/-- The pair of a line within its head: its partner, its frequency index, and whether it is the first of the
pair. -/
def ropePair (x : DescBits) (n : Nat) : Nat × Nat × Bool :=
  let h := n / ropeD x * ropeD x
  let j := n % ropeD x
  if ropeSplit x then
    let half := ropeD x / 2
    if j < half then (h + j + half, j, true) else (h + j - half, j - half, false)
  else if j % 2 = 0 then (n + 1, j / 2, true) else (n - 1, j / 2, false)

/-- The accumulator rows a descriptor's streams read, each with the line it is read for: a row of A with its own line, or
with the first line of its pair; B by bmode (R123). -/
def glazeReads (x : DescBits) : List (Nat × Nat) :=
  let rows := fun (s : Stream) (line : Nat → Nat) =>
    if s.space = 3 then (unitsOf x s).zipIdx.map fun u => (u.1.toNat, line u.2) else []
  rows (streamOf x 0) (fun i => if opcodeOf x = 0x33 then min i (ropePair x i).1 else i) ++
    if opcodeOf x = 0x30 then
      rows (streamOf x 1) fun j => if elemBmode x = 0 then j else if elemBmode x = 1 then 0 else 512 * j
    else []

/-- Lines completed once `n` output rows have been written: a block's scale row completes none, and G.TOPK writes when it
has taken every line (R127, R132). -/
def linesBy (x : DescBits) (main : Stream) (n : Nat) : Nat :=
  let r := max 1 (rowsPerLine (gCols x) main.fmt)
  if opcodeOf x = 0x35 then (if n = 0 then 0 else gLines x)
  else if opcodeOf x = 0x30 ∧ elemQout x then min (gLines x) (n / (32 * r + 1) * 32 + min 32 (n % (32 * r + 1) / r))
  else min (gLines x) (n / r)

/-- Lines read for the last time once `n` output rows have been written: a row of a line, or of a block, is written only
after all its lines have been read (R127, R133). -/
def readBy (x : DescBits) (main : Stream) (n : Nat) : Nat :=
  let r := max 1 (rowsPerLine (gCols x) main.fmt)
  if opcodeOf x = 0x35 then (if n = 0 then 0 else gLines x)
  else if opcodeOf x = 0x30 ∧ elemQout x then min (gLines x) (ceilDiv n (32 * r + 1) * 32)
  else min (gLines x) (ceilDiv n r)

/-- Whether line `i` of source `k` has been taken once `read` lines of A have: two passes take all of A before a line is
written, a rotation takes a pair at once, and PARAM precedes the first line (R130, R133). -/
def gTaken (x : DescBits) (read k i : Nat) : Bool :=
  if k = 0 then
    if opcodeOf x = 0x30 ∨ opcodeOf x = 0x34 then decide (i < read)
    else if opcodeOf x = 0x33 then decide (min i (ropePair x i).1 < read)
    else decide (0 < read)
  else if opcodeOf x = 0x30 then
    if elemBmode x = 0 then decide (i < read)
    else if elemBmode x = 1 then decide (0 < read)
    else decide (i / 512 * 512 < read)
  else true

/-- Rows whose last read came with the first `done` lines. -/
def lastReadBy (x : DescBits) (done : Nat) : List Nat :=
  let later := (glazeReads x).filterMap fun p => if done ≤ p.2 then some p.1 else none
  (glazeReads x).filterMap fun p => if p.2 < done ∧ later.contains p.1 = false then some p.1 else none

/-! ### Results -/

/-- An output line: element bits by column, its format, and whether it is poisoned. -/
structure OutLine where
  bits : List Nat
  fmt : Nat
  poison : Bool
  deriving DecidableEq, Repr

/-- One row with what lies beyond its elements left free. -/
def padRow (key i used data : Nat) : Nat :=
  data % 2 ^ used + (Config.padBits key i % 2 ^ (4096 - used)) <<< used

/-- The rows of an output line. -/
def OutLine.rows (l : OutLine) (key i : Nat) : List Nat :=
  let w := fmtBits l.fmt
  let n := w * l.bits.length
  let data := packElems w l.bits
  (List.range (ceilDiv n 4096)).map fun r => padRow key (i + r) (min 4096 (n - 4096 * r)) (data >>> (4096 * r))

/-- Output units of lines in order, in the rows a stream yields. -/
def linesOut (key : Nat) (us : List Int) (ls : List OutLine) : List OutUnit :=
  let rows := ls.zipIdx.flatMap fun p => (p.1.rows key (8 * p.2)).map fun r => (r, p.1.poison)
  (us.zip rows).map fun p => ⟨1, p.1, p.2.1, p.2.2⟩

/-- A Glaze result: output lines for the main stream and for a second one, flags, and lines entering a list. -/
structure GRes where
  main : List OutLine
  second : List OutLine
  flags : ConvFlags
  inserts : Nat
  deriving DecidableEq, Repr

/-- What has been taken of a list of source `k`'s lines. -/
def gTakenOf {α : Type} (x : DescBits) (read k : Nat) (l : List α) : List α :=
  l.zipIdx.filterMap fun p => if gTaken x read k p.2 then some p.1 else none

/-- Deliver a Glaze result: OWED of the accumulator rows it has read for the last time clears, faults of the lines it has
taken are flagged, the outputs are written (R123, R124, R136). A stop leaves the rest unread. The entry keeps which rows it
cleared. -/
def Die.gDeliver (d : Die) (e : Entry) (run : Run) (srcs : List GRead) (main second : Stream) (r : GRes) : Die :=
  let done := match run.stop with
    | none => gLines e.desc
    | some n => linesBy e.desc main n
  let read := match run.stop with
    | none => gLines e.desc
    | some n => readBy e.desc main n
  let all := srcs.zipIdx.flatMap fun s => gTakenOf e.desc read s.2 s.1.lines
  let badTag := (srcs.zipIdx.flatMap fun s => gTakenOf e.desc read s.2 s.1.badTags).any id
  let poison := all.any (·.poison)
  let st := if all.any (·.off) then stBankOff else if poison then stDataFault else stOk
  let key := d.freeCtr
  let d1 := { d with freeCtr := d.freeCtr + 1 }
  let gone := if run.stop.isNone then accRows e.desc else lastReadBy e.desc read
  let d2 := (d1.unowe gone).modEntry e.slot fun o => { o with aux := gone }
  let d3 := if badTag || poison then d2.setReg Reg.GLZ_FAULT_QUEUE (BitVec.ofNat 32 (e.queue % 2 ^ 20)) else d2
  let d4 := (d3.errIf badTag Reg.GLZ_ERR Bit.GLZ_ERR_ACC_TAG).errIf poison Reg.GLZ_ERR Bit.GLZ_ERR_POISON_IN
  let d5 := (d4.count Reg.GLZ_LINES done).count Reg.GLZ_TOPK_INSERT (if read = gLines e.desc then r.inserts else 0)
  d5.deliver e run ⟨linesOut key (unitsOf e.desc main) r.main ++ linesOut (key + 1) (unitsOf e.desc second) r.second, 3,
    st, convBits r.flags, 0, 0, 0⟩

/-- Common legality: columns, lines, formats and the count of stream 0 (Tables 6.1 and 6.2). -/
def gCommon (x : DescBits) : Bool :=
  let a := streamOf x 0
  decide (1 ≤ gCols x) && decide (gCols x ≤ 512) && gStreamOk x a && (a.space != 3 || decide (gLines x ≤ 2048)) &&
    unitCount x a == tensorUnits a (gLines x) (gCols x) a.fmt

/-- A plain tensor output of `lines` lines. -/
def gOutOk (x : DescBits) (s : Stream) (lines : Nat) : Bool :=
  isGlazeFmt s.fmt && unitCount x s == lines * rowsPerLine (gCols x) s.fmt

/-- A finite FP32 parameter. -/
def finiteF (bits : Nat) : Bool := (ofFp32 bits).isFinite

/-- A positive finite FP32 parameter. -/
def positiveF (bits : Nat) : Bool := finiteF bits && Num.lt Num.zero (ofFp32 bits)

/-! ### G.ELEM (R126, R127, R134) -/

/-- Rows OUT of G.ELEM must yield: block-scaled output adds a scale row to each block of 32 lines (R127). -/
def elemOutRows (x : DescBits) : Nat :=
  let r := rowsPerLine (gCols x) (streamOf x 2).fmt
  if elemQout x then gLines x / 32 * (32 * r + 1) else gLines x * r

/-- Table 6.3 with the stream counts. -/
def elemLegal (e : Entry) (_ : Die) : Bool :=
  let x := e.desc
  let b := streamOf x 1
  let o := streamOf x 2
  gCommon x && decide (elemFunc x ≤ 9) && decide (elemOp x ≤ 5) && decide (elemBmode x ≤ 2) &&
    finiteF (pF x 95 64) && finiteF (pF x 127 96) && b.present == (elemOp x != 0) &&
    (!b.present || (gStreamOk x b &&
      unitCount x b == (match elemBmode x with
        | 0 => tensorUnits b (gLines x) (gCols x) b.fmt
        | 1 => tensorUnits b 1 (gCols x) b.fmt
        | _ => vectorUnits b (gLines x) b.fmt))) &&
    isGlazeFmt o.fmt && unitCount x o == elemOutRows x &&
    (!elemQout x || ((o.fmt == Fmt.S8 || o.fmt == Fmt.E4M3 || o.fmt == Fmt.E5M2) && gLines x % 32 == 0))

/-- The bound of a function in FP32 ulps of the exact result (Table 6.8). SIGMOID and TANH of a finite value stay below 1
in magnitude, so their ulp near 1 is that of the values below it. -/
def funcBound (func : Nat) (x ref : Num) : Num :=
  let u := if (func = 2 ∨ func = 3) ∧ x.isFinite ∧ ref.abs.eq Num.one then Num.fin false 1 (-24) else Num.ulp ref
  let k := fun (n : Nat) => Num.mul (.fin false n 0) u
  if func = 2 ∨ func = 3 then k 3
  else if func = 4 then k 4
  else if func = 5 then Num.add (k 4) (Num.scale2 x.abs (-24))
  else if func = 6 then k 2
  else k 1

/-- F of R126 on an FP32 value: the result and whether it sets the NaN flag. -/
def elemF (func : Nat) (x : Num) : Num × Bool :=
  let free := Config.approx (0x30 + 256 * func) [toFp32 x] 0
  let near := fun (ref : Num) => (ofFp32 (Num.choose free ref (funcBound func x ref)), false)
  match func with
  | 0 => (x, false)
  | 1 => (if x.isNan then .nan else if Num.lt x Num.zero then Num.zero else x, false)
  | 9 => (mulF x x, false)
  | _ =>
    if x.isNan then (.nan, false)
    else
      match func with
      | 2 => near (match x with
        | .inf s => if s then Num.zero else Num.one
        | y => Num.sigmoid y)
      | 3 => near (match x with
        | .inf s => .fin s 1 0
        | y => Num.tanh y)
      | 4 => (match x with
        | .inf s => if s then (ofFp32 free, false) else (.inf false, false)
        | y => near (Num.silu y))
      | 5 => (match x with
        | .inf s => if s then (ofFp32 free, false) else (.inf false, false)
        | y => near (Num.geluTanh y))
      | 6 => (match x with
        | .inf s => if s then (Num.zero, false) else (.inf false, false)
        | y => if Num.lt (Num.quo (.fin false 8872 0) (.fin false 100 0)) y then (.inf false, false) else near (Num.exp y))
      | 7 =>
        if x.isZero then (.inf false, false)
        else if x.sign then (.nan, true)
        else (match x with
          | .inf _ => (Num.zero, false)
          | y => near (Num.quo Num.one (Num.sqrt y)))
      | _ => (match x with
        | .inf s => (.fin s 0 0, false)
        | y => if y.isZero then (.inf y.sign, false) else near (Num.quo Num.one y))

/-- ⊕ of R126. DESIGN CHOICE: MAX and MIN of a NaN are NaN (log entry 63). -/
def elemJoin (op : Nat) (a b : Num) : Num :=
  match op with
  | 1 => addF a b
  | 2 => subF a b
  | 3 => mulF a b
  | 4 => Num.max a b
  | 5 => Num.min a b
  | _ => a

/-- One output of G.ELEM. -/
def elemOne (x : DescBits) (a b : Num) : Num × Bool :=
  let p0 := ofFp32 (pF x 95 64)
  let p1 := ofFp32 (pF x 127 96)
  if elemPost x then
    let f := elemF (elemFunc x) (addF (mulF p0 a) p1)
    (elemJoin (elemOp x) f.1 b, f.2)
  else elemF (elemFunc x) (addF (elemJoin (elemOp x) (mulF p0 a) b) p1)

/-- ⌊log₂⌋ of a positive value, and 127 for an infinity. -/
def floorLog2 : Num → Int
  | .fin _ m e => e + (log2 m : Nat)
  | .inf _ => 1000
  | .nan => 0

/-- The block exponent of R127 from the block's results, none when it holds a NaN. -/
def blockExp (fmt : Nat) (ys : List Num) : Option Int :=
  if ys.any (·.isNan) then none
  else
    let a := ys.foldl (fun m y => Num.max m y.abs) Num.zero
    let emax : Int := if fmt = Fmt.S8 then 6 else if fmt = Fmt.E4M3 then 8 else 15
    if a.isZero then some (-127) else some (max (-127) (min 127 (floorLog2 a - emax)))

/-- An element of a block (R127). In a block with a NaN no exponent is stated: a NaN element converts as any NaN
does (R29, R121), and the other elements are free values. -/
def blockElem (fmt : Nat) (ex : Option Int) (y : Num) : Nat × ConvFlags :=
  match ex with
  | none =>
    if y.isNan then gOut fmt y
    else (Config.approx (0x130 + 4096 * fmt) [toFp32 y] 0 % 2 ^ fmtBits fmt, { nan := true })
  | some k =>
    let v := Num.scale2 y (-k)
    if fmt = Fmt.S8 then
      let r := toIntTarget v .nearestEven 0 (-127) 127
      (ofSigned 8 r.1, r.2)
    else encodeNum fmt v

/-- The lines of one block: 32 element lines, then the scale line. A block with a NaN sets the NaN flag (R127). -/
def blockLines (fmt : Nat) (ls : List (List Num × Bool)) (cols : Nat) : List OutLine × ConvFlags :=
  let poison := ls.any (·.2)
  let col := fun (m : Nat) => ls.map fun l => l.1.getD m Num.zero
  let exps := (List.range cols).map fun m => blockExp fmt (col m)
  let cells := ls.map fun l => (l.1.zip exps).map fun p => blockElem fmt p.2 p.1
  let scale : OutLine := ⟨exps.map fun k => match k with
    | none => 0xFF
    | some v => (v + 127).toNat, Fmt.UE8, poison⟩
  (cells.map (fun c => (⟨c.map (·.1), fmt, poison⟩ : OutLine)) ++ [scale],
    (joinFlags (cells.flatten.map (·.2))).or { nan := exps.any (·.isNone) })

/-- Plain output lines of values. -/
def plainLines (fmt : Nat) (ls : List (List Num × Bool)) : List OutLine × ConvFlags :=
  let cells := ls.map fun l => (l.1.map (gOut fmt), l.2)
  (cells.map fun c => ⟨c.1.map (·.1), fmt, c.2⟩, joinFlags (cells.flatMap fun c => c.1.map (·.2)))

/-- B of G.ELEM by bmode: its read, and b for line `n` and column `m` with its poison. -/
def elemB (x : DescBits) (bf : Nat) (b : GRead) (n m : Nat) : Num × Bool :=
  match elemBmode x with
  | 0 => let l := b.lines.getD n ⟨[], false, false⟩; (gVal bf (l.vals.getD m 0), l.poison)
  | 1 => let l := b.lines.getD 0 ⟨[], false, false⟩; (gVal bf (l.vals.getD m 0), l.poison)
  | _ => let l := b.lines.getD n ⟨[], false, false⟩; (gVal bf (l.vals.getD 0 0), l.poison)

/-- G.ELEM after its checks. -/
def gElemBody (run : Run) (e : Entry) (d : Die) : Die :=
  let x := e.desc
  let sa := streamOf x 0
  let sb := streamOf x 1
  let so := streamOf x 2
  let cols := gCols x
  let a := d.gRead e sa (gLines x) cols
  let b : GRead × Die :=
    if sb.present then
      (match elemBmode x with
        | 0 => a.2.gRead e sb (gLines x) cols
        | 1 => a.2.gRead e sb 1 cols
        | _ => a.2.gVector e sb (gLines x))
    else (⟨[], []⟩, a.2)
  let ys := a.1.lines.zipIdx.map fun l =>
    let bs := (List.range cols).map fun m => if sb.present then elemB x sb.fmt b.1 l.2 m else (Num.zero, false)
    (((l.1.nums sa.fmt).zip bs).map fun p => elemOne x p.1 p.2.1, l.1.poison || bs.any (·.2))
  let nanF : ConvFlags := { nan := ys.any fun l => l.1.any (·.2) }
  let ls := ys.map fun l => (l.1.map (·.1), l.2)
  let r := if elemQout x then
      let bl := (runs 32 (gLines x / 32) ls).map fun g => blockLines so.fmt g cols
      (bl.flatMap (·.1), joinFlags (bl.map (·.2)))
    else plainLines so.fmt ls
  b.2.gDeliver e run [a.1, b.1] so Stream.absent ⟨r.1, [], r.2.or nanF, 0⟩

/-- G_ELEM: G.ELEM applies an elementwise function and operation to each line. -/
def Die.gElem (d : Die) (slot : BitVec 12) (run : Run) : Die :=
  d.runOp 0x30 slot.toNat run freeStart elemLegal (gElemBody run)

/-! ### G.NORM (R128, R134) -/

/-- LAYER mode of G.NORM. -/
def normLayer (x : DescBits) : Bool := pB x 28
/-- gain of G.NORM. -/
def normGain (x : DescBits) : Bool := pB x 29
/-- bias of G.NORM. -/
def normBias (x : DescBits) : Bool := pB x 30

/-- A parameter format (Table 6.2). -/
def isParamFmt (f : Nat) : Bool := f == Fmt.FP32 || f == Fmt.BF16

/-- Table 6.4 with the stream counts. -/
def normLegal (e : Entry) (_ : Die) : Bool :=
  let x := e.desc
  let p := streamOf x 1
  let v := vectorUnits p (gLines x) p.fmt
  gCommon x && decide (gLines x ≤ 65536) && positiveF (pF x 95 64) && (!normBias x || normLayer x) &&
    p.present == (normGain x || normBias x) &&
    (!p.present || (isParamFmt p.fmt &&
      unitCount x p == (if normGain x then v else 0) + (if normBias x then v else 0))) &&
    gOutOk x (streamOf x 2) (gLines x)

/-- Sum of a list, exactly. -/
def sumExact (xs : List Num) : Num := xs.foldl Num.add Num.zero

/-- Mean, 1 / √(variance + eps) of a column (R128). -/
def normStats (layer : Bool) (eps : Num) (xs : List Num) : Num × Num :=
  let n := Num.fin false xs.length 0
  let mu := if layer then Num.quo (sumExact xs) n else Num.zero
  let var := Num.quo (sumExact (xs.map fun v => let t := Num.cut (Num.sub v mu); Num.cut (Num.mul t t))) n
  (mu, Num.quo Num.one (Num.sqrt (Num.add var eps)))

/-- One output of G.NORM within its bound; a column with a value that is not finite has none stated. -/
def normOne (free : Nat) (ok : Bool) (st : Num × Num) (v g c : Num) : Num :=
  if !ok || !g.isFinite || !c.isFinite then ofFp32 (free % 2 ^ 32)
  else
    let ref := Num.cut (Num.add (Num.mul (Num.cut (Num.mul (Num.cut (Num.sub v st.1)) st.2)) g) c)
    let b := Num.add (Num.scale2 (Num.ulp ref) 2)
      (Num.scale2 (Num.cut (Num.mul (Num.mul (Num.cut (Num.add v.abs st.1.abs)) st.2) g.abs)) (-21))
    ofFp32 (Num.choose free ref b)

/-- G.NORM after its checks: PARAM is read before the first line, then A in two passes (R128, R133). -/
def gNormBody (run : Run) (e : Entry) (d : Die) : Die :=
  let x := e.desc
  let sa := streamOf x 0
  let sp := streamOf x 1
  let so := streamOf x 2
  let n := gLines x
  let p : List UnitRd × Die := if sp.present then d.readStream e 3 sp else ([], d)
  let a := (p.2.gRead e sa n (gCols x)).2.gRead e sa n (gCols x)
  let vec := fun (k : Nat) =>
    ((p.1.drop (k * vectorUnits sp n sp.fmt)).flatMap fun u =>
      (elems (fmtBits sp.fmt) (512 / fmtSize sp.fmt) u.data).map fun b => (gVal sp.fmt b, u.bad)).take n
  let gs := if normGain x then vec 0 else List.replicate n (Num.one, false)
  let cs := if normBias x then vec (if normGain x then 1 else 0) else List.replicate n (Num.zero, false)
  let rows := a.1.lines.map fun l => l.nums sa.fmt
  let col := fun (m : Nat) => rows.map fun r => r.getD m Num.zero
  let stats := (List.range (gCols x)).map fun m =>
    (normStats (normLayer x) (ofFp32 (pF x 95 64)) (col m), (col m).all (·.isFinite), (col m).map toFp32)
  let anyBad := a.1.lines.any (·.poison)
  let ys := rows.zipIdx.map fun r =>
    let g := gs.getD r.2 (Num.one, false)
    let c := cs.getD r.2 (Num.zero, false)
    ((r.1.zip stats).map fun q =>
      normOne (Config.approx 0x31 (x.toNat :: toFp32 g.1 :: toFp32 c.1 :: q.2.2.2) r.2) q.2.2.1 q.2.1 q.1 g.1 c.1,
      anyBad || g.2 || c.2)
  let r := plainLines so.fmt ys
  let pr : GRead := ⟨p.1.map fun u => ⟨[], u.bad, u.off⟩, []⟩
  a.2.gDeliver e run [a.1, pr] so Stream.absent ⟨r.1, [], r.2, 0⟩

/-- G_NORM: G.NORM normalises each column in two passes. -/
def Die.gNorm (d : Die) (slot : BitVec 12) (run : Run) : Die :=
  d.runOp 0x31 slot.toNat run freeStart normLegal (gNormBody run)

/-! ### G.SOFTMAX (R129, R134) -/

/-- mask of G.SOFTMAX. -/
def smMask (x : DescBits) : Nat := pF x 29 28
/-- lse of G.SOFTMAX. -/
def smLse (x : DescBits) : Bool := pB x 30

/-- Table 6.5 with the stream counts. -/
def softmaxLegal (e : Entry) (_ : Die) : Bool :=
  let x := e.desc
  let l := streamOf x 2
  gCommon x && positiveF (pF x 63 32) && decide (smMask x ≤ 2) && (smMask x != 2 || pF x 135 112 != 0) &&
    gOutOk x (streamOf x 1) (gLines x) && l.present == smLse x &&
    (!l.present || (l.fmt == Fmt.FP32 && unitCount x l == rowsPerLine (gCols x) Fmt.FP32))

/-- Whether line `n` is allowed for column `m`. -/
def smAllowed (x : DescBits) (n m : Nat) : Bool :=
  let q := pF x 87 64 + m
  let k := pF x 111 88 + n
  smMask x == 0 || (decide (k ≤ q) && (smMask x == 1 || decide (q < k + pF x 135 112)))

/-- One column of G.SOFTMAX: p by line, and the LSE. `free` numbers free results by line. -/
def smColumn (scale : Num) (xs : List (Num × Bool)) (free : Nat → Nat) : List Num × Num :=
  let zs := xs.map fun p => if p.2 then Num.cut (Num.mul scale p.1) else .inf true
  let live := (xs.zip zs).filterMap fun p => if p.1.2 then some p.2 else none
  if live.isEmpty then (xs.map fun _ => Num.zero, .inf true)
  else
    let mx := live.foldl Num.max (.inf true)
    if !mx.isFinite then ((List.range xs.length).map fun i => ofFp32 (free i % 2 ^ 32), ofFp32 (free xs.length % 2 ^ 32))
    else
      let es := zs.map fun z => match z with
        | .fin _ _ _ => Num.exp (Num.sub z mx)
        | _ => Num.zero
      let tot := Num.cut (sumExact es)
      let ps := es.zipIdx.map fun q =>
        let ref := Num.quo q.1 tot
        ofFp32 (Num.choose (free q.2) ref (Num.add (Num.scale2 ref (-20)) (.fin false 1 (-30))))
      let lref := Num.add mx (Num.ln tot)
      let lb := Num.scale2 (Num.max Num.one lref.abs) (-20)
      (ps, ofFp32 (Num.choose (free xs.length) lref lb))

/-- G.SOFTMAX after its checks, in two passes over A (R129). -/
def gSoftmaxBody (run : Run) (e : Entry) (d : Die) : Die :=
  let x := e.desc
  let sa := streamOf x 0
  let so := streamOf x 1
  let a := (d.gRead e sa (gLines x) (gCols x)).2.gRead e sa (gLines x) (gCols x)
  let rows := a.1.lines.map fun l => l.nums sa.fmt
  let cols := (List.range (gCols x)).map fun m =>
    let xs := rows.zipIdx.map fun r => (r.1.getD m Num.zero, smAllowed x r.2 m)
    smColumn (ofFp32 (pF x 63 32)) xs (Config.approx 0x32 (x.toNat :: m :: xs.map fun p => toFp32 p.1))
  let bad := a.1.lines.any (·.poison)
  let r := plainLines so.fmt ((List.range (gLines x)).map fun n => (cols.map fun c => c.1.getD n Num.zero, bad))
  let l := plainLines Fmt.FP32 (if smLse x then [(cols.map (·.2), bad)] else [])
  a.2.gDeliver e run [a.1] so (if smLse x then streamOf x 2 else Stream.absent) ⟨r.1, l.1, r.2.or l.2, 0⟩

/-- G_SOFTMAX: G.SOFTMAX computes a masked softmax along each column, optionally writing LSE. -/
def Die.gSoftmax (d : Die) (slot : BitVec 12) (run : Run) : Die :=
  d.runOp 0x32 slot.toNat run freeStart softmaxLegal (gSoftmaxBody run)

/-! ### G.ROPE (R130, R134) -/

/-- Table 6.6 with the stream counts. -/
def ropeLegal (e : Entry) (_ : Die) : Bool :=
  let x := e.desc
  let p := streamOf x 1
  gCommon x && decide (2 ≤ ropeD x) && decide (ropeD x ≤ 256) && ropeD x % 2 == 0 && gLines x % ropeD x == 0 &&
    (ropeFreq x || (finiteF (pF x 95 64) && Num.lt Num.one (ofFp32 (pF x 95 64)))) &&
    unitCount x p == ceilDiv (gCols x * 4) 512 + (if ropeFreq x then ceilDiv (ropeD x / 2 * 4) 512 else 0) &&
    gOutOk x (streamOf x 2) (gLines x)

/-- Frequency `i` from the base: the FP32 value within 1 ulp of base^(−2i/d). -/
def ropeBaseFreq (x : DescBits) (i : Nat) : Num :=
  let base := ofFp32 (pF x 95 64)
  let ref := Num.exp (Num.cut (Num.mul (Num.quo (.fin true (2 * i) 0) (.fin false (ropeD x) 0)) (Num.ln base)))
  ofFp32 (Num.choose (Config.approx 0x133 [pF x 95 64, ropeD x] i) ref (Num.ulp ref))

/-- One output of G.ROPE: the first or second of a pair (a, b) turned by θ. -/
def ropeOne (free : Nat) (first : Bool) (a b th : Num) : Num :=
  if !a.isFinite || !b.isFinite || !th.isFinite then ofFp32 (free % 2 ^ 32)
  else
    let sc := Num.sinCos th
    let ref := if first then Num.cut (Num.sub (Num.mul a sc.2) (Num.mul b sc.1)) else Num.cut (Num.add (Num.mul a sc.1) (Num.mul b sc.2))
    ofFp32 (Num.choose free ref (Num.scale2 (Num.add a.abs b.abs) (-22)))

/-- G.ROPE after its checks: PARAM is read before the first line (R133). -/
def gRopeBody (run : Run) (e : Entry) (d : Die) : Die :=
  let x := e.desc
  let sa := streamOf x 0
  let so := streamOf x 2
  let cols := gCols x
  let p := d.readStream e 3 (streamOf x 1)
  let a := p.2.gRead e sa (gLines x) cols
  let np := ceilDiv (cols * 4) 512
  let words := fun (us : List UnitRd) => us.flatMap fun u => (elems 32 128 u.data).map fun w => (w, u.bad)
  let pos := (words (p.1.take np)).take cols
  let fr := (words (p.1.drop np)).take (ropeD x / 2)
  let rows := a.1.lines.map fun l => (l.nums sa.fmt, l.poison)
  let inRange := fun (m : Nat) => let v := toSigned 32 (pos.getD m (0, false)).1; decide (0 ≤ v) && decide (v < 2 ^ 24)
  let ys := (List.range (gLines x)).map fun n =>
    let q := ropePair x n
    let mine := rows.getD n ([], false)
    let other := rows.getD q.1 ([], false)
    let f := if ropeFreq x then fr.getD q.2.1 (0, false) else (toFp32 (ropeBaseFreq x q.2.1), false)
    ((List.range cols).map fun m =>
      if inRange m then
        let s := mine.1.getD m Num.zero
        let o := other.1.getD m Num.zero
        let a' := if q.2.2 then s else o
        let b' := if q.2.2 then o else s
        let th := Num.mul (Num.fin false (pos.getD m (0, false)).1 0) (ofFp32 f.1)
        ropeOne (Config.approx 0x33 [toFp32 a', toFp32 b', (pos.getD m (0, false)).1, f.1] (if q.2.2 then 0 else 1)) q.2.2 a' b' th
      else .nan,
      mine.2 || other.2 || f.2 || pos.any (·.2))
  let r := plainLines so.fmt ys
  let pr : GRead := ⟨p.1.map fun u => ⟨[], u.bad, u.off⟩, []⟩
  let bad : ConvFlags := { nan := !(List.range cols).all inRange }
  a.2.gDeliver e run [a.1, pr] so Stream.absent ⟨r.1, [], r.2.or bad, 0⟩

/-- G_ROPE: G.ROPE rotates pairs of lines of each head by position. -/
def Die.gRope (d : Die) (slot : BitVec 12) (run : Run) : Die :=
  d.runOp 0x33 slot.toNat run freeStart ropeLegal (gRopeBody run)

/-! ### G.REQUANT (R41 to R44, R131) -/

/-- mode of G.REQUANT: float when true. -/
def rqFloat (x : DescBits) : Bool := pB x 28

/-- rounding of G.REQUANT. -/
def rqRound (x : DescBits) : Rounding := if pB x 29 then .nearestAway else .nearestEven

/-- Whether a parameter is per channel, in the order M, s, zero_point, f. -/
def rqPer (x : DescBits) : List Bool := [pB x 30, pB x 31, pB x 32, pB x 33]

/-- Bytes of one element of each per-channel array. -/
def rqSizes : List Nat := [4, 1, 2, 4]

/-- Rows of each per-channel array. -/
def rqRows (x : DescBits) : List Nat :=
  ((rqPer x).zip rqSizes).map fun p => if p.1 then ceilDiv (gLines x * p.2) 512 else 0

/-- An integer output of G.REQUANT. -/
def rqIntTarget (f : Nat) : Bool := f == Fmt.S8 || f == Fmt.U8 || f == Fmt.S16

/-- A zero point is legal for a target (Table 2.6). -/
def rqZpOk (t zp : Nat) : Bool :=
  let v := toSigned 16 zp
  if rqIntTarget t then decide ((intRange t).1 ≤ v) && decide (v ≤ (intRange t).2) else v == 0

/-- Table 2.6, the source rule of R42 and the stream counts. Per-channel values are checked when read. DESIGN CHOICE:
parameters of the other mode are not looked at (log entry 90). -/
def requantLegal (e : Entry) (_ : Die) : Bool :=
  let x := e.desc
  let a := streamOf x 0
  let p := streamOf x 1
  let t := (streamOf x 2).fmt
  let per := rqPer x
  gCommon x && gOutOk x (streamOf x 2) (gLines x) &&
    (if rqFloat x then
      (a.fmt == Fmt.FP32 || a.fmt == Fmt.BF16 || a.fmt == Fmt.FP16) &&
        (rqIntTarget t || ((t == Fmt.E4M3 || t == Fmt.E5M2 || t == Fmt.FP16 || t == Fmt.BF16 || t == Fmt.FP32) && !pB x 29)) &&
        (per.getD 3 false || finiteF (pF x 127 96))
    else a.fmt == Fmt.S32 && rqIntTarget t && (per.getD 1 false || decide (pF x 39 34 ≤ 47))) &&
    (per.getD 2 false || rqZpOk t (pF x 143 128)) && p.present == per.any id &&
    (!p.present || unitCount x p == (rqRows x).foldl (· + ·) 0)

/-- The parameters of one channel as bit patterns, with whether one came from a bad row. -/
structure RqParams where
  m : Nat
  s : Nat
  zp : Nat
  f : Nat
  bad : Bool
  deriving DecidableEq, Repr

/-- Parameters of channel `n` from PARAM's rows. -/
def rqParams (x : DescBits) (us : List UnitRd) (n : Nat) : RqParams :=
  let rows := rqRows x
  let get := fun (k : Nat) =>
    let start := (rows.take k).foldl (· + ·) 0
    let size := rqSizes.getD k 4
    let u := us.getD (start + n * size / 512) ⟨0, false, false⟩
    (bytesAt u.data (n * size % 512) size, u.bad)
  let one := fun (k fixed : Nat) => if (rqPer x).getD k false then get k else (fixed, false)
  let m := one 0 (pF x 95 64)
  let s := one 1 (pF x 39 34)
  let z := one 2 (pF x 143 128)
  let f := one 3 (pF x 127 96)
  ⟨m.1, s.1, z.1, f.1, m.2 || s.2 || z.2 || f.2⟩

/-- Whether the per-channel values of a channel are legal (Table 2.6). -/
def rqChannelOk (x : DescBits) (p : RqParams) : Bool :=
  (if rqFloat x then finiteF p.f else decide (p.s ≤ 47)) && rqZpOk (streamOf x 2).fmt p.zp

/-- One output of G.REQUANT. An infinite source saturates toward its own sign, whatever the factor (R44). -/
def rqOne (x : DescBits) (fmt bits : Nat) (p : RqParams) : Nat × ConvFlags :=
  let t := (streamOf x 2).fmt
  let rg := intRange t
  let zp := toSigned 16 p.zp
  if rqFloat x then
    let v := match decodeNum fmt bits with
      | .inf s => .inf s
      | y => Num.mul y (ofFp32 p.f)
    if rqIntTarget t then
      let r := toIntTarget v (rqRound x) zp rg.1 rg.2
      (ofSigned (fmtBits t) r.1, r.2)
    else encodeNum t v
  else
    let r := requantInt (toSigned 32 bits) (toSigned 32 p.m) p.s zp (rqRound x) rg.1 rg.2
    (ofSigned (fmtBits t) r.1, { sat := r.2 })

/-- G.REQUANT after its checks. -/
def gRequantBody (run : Run) (e : Entry) (d : Die) : Die :=
  let x := e.desc
  let sa := streamOf x 0
  let sp := streamOf x 1
  let so := streamOf x 2
  let p : List UnitRd × Die := if sp.present then d.readStream e 3 sp else ([], d)
  let ps := (List.range (gLines x)).map (rqParams x p.1)
  if !ps.all (rqChannelOk x) then p.2.reject e.slot stIllegal
  else
    let a := p.2.gRead e sa (gLines x) (gCols x)
    let cells := (a.1.lines.zip ps).map fun l => (l.1.vals.map fun b => rqOne x sa.fmt b l.2, l.1.poison || l.2.bad)
    let outs := cells.map fun c => (⟨c.1.map (·.1), so.fmt, c.2⟩ : OutLine)
    let pr : GRead := ⟨p.1.map fun u => ⟨[], u.bad, u.off⟩, []⟩
    a.2.gDeliver e run [a.1, pr] so Stream.absent ⟨outs, [], joinFlags (cells.flatMap fun c => c.1.map (·.2)), 0⟩

/-- G_REQUANT: G.REQUANT multiplies, rounds and clamps sums into the target format. -/
def Die.gRequant (d : Die) (slot : BitVec 12) (run : Run) : Die :=
  d.runOp 0x34 slot.toNat run freeStart requantLegal (gRequantBody run)

/-! ### G.TOPK (R132) -/

/-- k of G.TOPK. -/
def topK (x : DescBits) : Nat := pF x 36 28

/-- Parameters of G.TOPK with the stream counts. -/
def topkLegal (e : Entry) (_ : Die) : Bool :=
  let x := e.desc
  gCommon x && decide (1 ≤ topK x) && decide (topK x ≤ 256) && decide (topK x ≤ gLines x) &&
    gOutOk x (streamOf x 1) (topK x) && (streamOf x 2).fmt == Fmt.S32 &&
    unitCount x (streamOf x 2) == topK x * rowsPerLine (gCols x) Fmt.S32

/-- Whether value `a` ranks strictly above `b`; a NaN ranks below −∞. -/
def ranksAbove (a b : Num) : Bool := !a.isNan && (b.isNan || Num.lt b a)

/-- Put a value behind those it does not rank above. -/
def topInsert (v : Num × Nat) : List (Num × Nat) → List (Num × Nat)
  | [] => [v]
  | w :: ws => if ranksAbove v.1 w.1 then v :: w :: ws else w :: topInsert v ws

/-- Take one more value of a column: the list, and whether the value entered it. -/
def topStep (k : Nat) (l : List (Num × Nat)) (v : Num × Nat) : List (Num × Nat) × Bool :=
  let enters := decide (l.length < k) || (match l.getLast? with
    | none => true
    | some w => ranksAbove v.1 w.1)
  if enters then ((topInsert v l).take k, true) else (l, false)

/-- The lists of every column after every line, and how many lines entered one. -/
def topAll (k : Nat) : List (List Num × Nat) → List (List (Num × Nat)) → Nat → List (List (Num × Nat)) × Nat
  | [], ls, n => (ls, n)
  | r :: rs, ls, n =>
    let st := (ls.zip r.1).map fun p => topStep k p.1 (p.2, r.2)
    topAll k rs (st.map (·.1)) (n + if st.any (·.2) then 1 else 0)

/-- G.TOPK after its checks. -/
def gTopkBody (run : Run) (e : Entry) (d : Die) : Die :=
  let x := e.desc
  let sa := streamOf x 0
  let sv := streamOf x 1
  let a := d.gRead e sa (gLines x) (gCols x)
  let rows := (a.1.lines.map fun l => l.nums sa.fmt).zipIdx
  let t := topAll (topK x) rows (List.replicate (gCols x) []) 0
  let bad := a.1.lines.any (·.poison)
  let pick := fun (j : Nat) => t.1.map fun c => c.getD j (Num.zero, 0)
  let vals := plainLines sv.fmt ((List.range (topK x)).map fun j => ((pick j).map (·.1), bad))
  let idx := (List.range (topK x)).map fun j => (⟨(pick j).map (·.2), Fmt.S32, bad⟩ : OutLine)
  let nanF : ConvFlags := { nan := rows.any fun r => r.1.any (·.isNan) }
  a.2.gDeliver e run [a.1] sv (streamOf x 2) ⟨vals.1, idx, vals.2.or nanF, t.2⟩

/-- G_TOPK: G.TOPK writes the k largest values and their indices for each column. -/
def Die.gTopk (d : Die) (slot : BitVec 12) (run : Run) : Die :=
  d.runOp 0x35 slot.toNat run freeStart topkLegal (gTopkBody run)

/-! ### Reset (R135) -/

/-- Opcodes the Glaze unit executes. -/
def isGlaze (op : Nat) : Bool := unitOf op == some .glaze

/-- GLAZE_RESET: the executing Glaze descriptor ends with UNIT_RESET; its unread accumulator rows clear OWED as
it completes. -/
def Die.glazeReset (d : Die) : Die := d.resetUnit Reg.GLZ_FENCE isGlaze

end Sys2Proof.Machine
end

