-- ==== Sys2Proof/Machine/Movers.lean ====
section
/-! DEFINITION. The data movers: M.COPY, M.GATHER, M.SCATTER, M.FILL and DM_RESET (chapter 08, R183 to R186,
R199). -/

namespace Sys2Proof.Machine

/-- Bytes a stream yields. -/
def streamBytes (x : DescBits) (s : Stream) : Nat := unitCount x s * s.unitBytes

/-- Whether any bad unit lies under bytes `o` to `o + k − 1`, units being `n` bytes. -/
def badUnder (n : Nat) (us : List UnitRd) (o k : Nat) : Bool :=
  (List.range ((o + k - 1) / n + 1 - o / n)).any fun i => (us.getD (o / n + i) ⟨0, false, false⟩).bad

/-- Status of a mover whose source units are `us` (R186, R67). -/
def moverStatus (us : List UnitRd) : Nat :=
  if us.any (·.off) then stBankOff else if us.any (·.bad) then stDataFault else stOk

/-- Parameters of M.COPY: equal byte totals, and no overlap within one space (R183). -/
def mCopyLegal (e : Entry) (_ : Die) : Bool :=
  let s := streamOf e.desc 0
  let t := streamOf e.desc 1
  let r := reachOf e.desc s
  let q := reachOf e.desc t
  streamBytes e.desc s == streamBytes e.desc t &&
    !(s.space == t.space && decide (r.1 ≤ q.2) && decide (q.1 ≤ r.2))

/-- Destination units of a mover that writes bytes `data`, marked bad under `us` of `n`-byte units. -/
def moverOuts (x : DescBits) (t : Stream) (data n : Nat) (us : List UnitRd) : List OutUnit :=
  (unitsOf x t).zipIdx.map fun p =>
    ⟨t.space, p.1, bytesAt data (t.unitBytes * p.2) t.unitBytes, badUnder n us (t.unitBytes * p.2) t.unitBytes⟩

/-- M.COPY after its checks (R183, R186). -/
def mCopyBody (run : Run) (e : Entry) (d : Die) : Die :=
  let s := streamOf e.desc 0
  let t := streamOf e.desc 1
  let p := d.readStream e 4 s
  p.2.deliver e run ⟨moverOuts e.desc t (moverBytes s.unitBytes p.1) s.unitBytes p.1, 4, moverStatus p.1, 0, 0, 0, 0⟩

/-- M_COPY: M.COPY copies the units of SRC into DST. -/
def Die.mCopy (d : Die) (slot : BitVec 12) (run : Run) : Die :=
  d.runOp 0x40 slot.toNat run freeStart mCopyLegal (mCopyBody run)

/-- Parameters of M.GATHER and M.SCATTER: table stream `ti`, the other `oi` (R184, Table 8.5). -/
def indexedLegal (ti oi : Nat) (e : Entry) (_ : Die) : Bool :=
  let t := streamOf e.desc ti
  let o := streamOf e.desc oi
  let ix := streamOf e.desc 1
  let count := pF e.desc 39 16
  let rec_units := pF e.desc 15 0
  count != 0 && rec_units != 0 && pF e.desc 71 40 != 0 && t.levels == 0 && ix.fmt == Fmt.S32 &&
    unitCount e.desc ix == ceilDiv (count * 4) ix.unitBytes &&
    streamBytes e.desc o == count * rec_units * t.unitBytes

/-- The indices of a descriptor: signed, with whether each came from a bad unit. A bad unit's indices read as
zeros. -/
def indices (count n : Nat) (us : List UnitRd) : List (Int × Bool) :=
  let data := moverBytes n us
  (List.range count).map fun i => (toSigned 32 (fld data (32 * i + 31) (32 * i)), badUnder n us (4 * i) 4)

/-- Units of record `i` of the table (R184). -/
def recordUnits (x : DescBits) (t : Stream) (i : Nat) : List Int :=
  (List.range (pF x 15 0)).map fun (j : Nat) => t.baseUnit + (i : Int) * toSigned 32 (pF x 103 72) + (j : Int)

/-- Whether an index is neither −1 nor a record of the table. -/
def badIndex (x : DescBits) (i : Int) : Bool := i != -1 && (decide (i < 0) || decide ((pF x 71 40 : Int) ≤ i))

/-- Read the records the indices select; −1 and bad indices read as zeros, a bad index as a bad record. -/
def Die.gather (d : Die) (e : Entry) (t : Stream) : List (Int × Bool) → List UnitRd × Die
  | [] => ([], d)
  | ix :: rest =>
    let zeros := fun (bad : Bool) => List.replicate (pF e.desc 15 0) (⟨0, bad, false⟩ : UnitRd)
    let p := if ix.1 = -1 then (zeros ix.2, d)
      else if badIndex e.desc ix.1 then (zeros true, d)
      else
        let r := d.readUnits (e.who 4) t.space (recordUnits e.desc t ix.1.toNat)
        (r.1.map fun u => { u with bad := u.bad || ix.2 }, r.2)
    let q := p.2.gather e t rest
    (p.1 ++ q.1, q.2)

/-- M.GATHER after its checks (R184). -/
def mGatherBody (run : Run) (e : Entry) (d : Die) : Die :=
  let t := streamOf e.desc 0
  let o := streamOf e.desc 2
  let ixs := streamOf e.desc 1
  let p := d.readStream e 4 ixs
  let ix := indices (pF e.desc 39 16) ixs.unitBytes p.1
  let q := p.2.gather e t ix
  let wrong := (ix.filter fun i => badIndex e.desc i.1).length
  let st := if q.1.any (·.off) || p.1.any (·.off) then stBankOff
    else if wrong ≠ 0 || q.1.any (·.bad) || p.1.any (·.bad) then stDataFault else stOk
  q.2.deliver e run ⟨moverOuts e.desc o (moverBytes t.unitBytes q.1) t.unitBytes q.1, 4, st, 0, wrong, 0, 0⟩

/-- M_GATHER: M.GATHER copies indexed table records to DST. -/
def Die.mGather (d : Die) (slot : BitVec 12) (run : Run) : Die :=
  d.runOp 0x41 slot.toNat run freeStart (indexedLegal 0 2) (mGatherBody run)

/-- M.SCATTER after its checks (R184): record `k` of SRC goes to the record index `k` selects. -/
def mScatterBody (run : Run) (e : Entry) (d : Die) : Die :=
  let t := streamOf e.desc 2
  let s := streamOf e.desc 0
  let ixs := streamOf e.desc 1
  let p := d.readStream e 4 ixs
  let ix := indices (pF e.desc 39 16) ixs.unitBytes p.1
  let q := p.2.readStream e 4 s
  let n := t.unitBytes
  let recBytes := pF e.desc 15 0 * n
  let data := moverBytes s.unitBytes q.1
  let outs := ix.zipIdx.flatMap fun x =>
    if x.1.1 = -1 ∨ badIndex e.desc x.1.1 then []
    else (recordUnits e.desc t x.1.1.toNat).zipIdx.map fun u =>
      let o := recBytes * x.2 + n * u.2
      (⟨t.space, u.1, bytesAt data o n, x.1.2 || badUnder s.unitBytes q.1 o n⟩ : OutUnit)
  let wrong := (ix.filter fun i => badIndex e.desc i.1).length
  let st := if q.1.any (·.off) || p.1.any (·.off) then stBankOff
    else if wrong ≠ 0 || q.1.any (·.bad) || p.1.any (·.bad) then stDataFault else stOk
  q.2.deliver e run ⟨outs, 4, st, 0, wrong, 0, 0⟩

/-- M_SCATTER: M.SCATTER writes SRC records to indexed table records. -/
def Die.mScatter (d : Die) (slot : BitVec 12) (run : Run) : Die :=
  d.runOp 0x42 slot.toNat run freeStart (indexedLegal 2 0) (mScatterBody run)

/-- `n` bytes of a repeating 4-byte pattern. -/
def patternBytes (pat n : Nat) : Nat := packElems 32 (List.replicate (n / 4) pat)

/-- M.FILL after its checks (R185). -/
def mFillBody (run : Run) (e : Entry) (d : Die) : Die :=
  let t := streamOf e.desc 0
  d.deliver e run ⟨(unitsOf e.desc t).map fun u => ⟨t.space, u, patternBytes (pF e.desc 31 0) t.unitBytes, false⟩, 4,
    stOk, 0, 0, 0, 0⟩

/-- M_FILL: M.FILL writes a repeating 4-byte pattern into DST. -/
def Die.mFill (d : Die) (slot : BitVec 12) (run : Run) : Die :=
  d.runOp 0x43 slot.toNat run freeStart (fun _ _ => true) (mFillBody run)

/-- Opcodes a data-mover channel executes (Table 1.4). -/
def isMover (op : Nat) : Bool := op == 0x40 || op == 0x41 || op == 0x42 || op == 0x43 || op == 0x71

/-- DM_RESET: SCH_DM_CTRL.RESET ends every executing data-mover descriptor with UNIT_RESET (R199). -/
def Die.dmReset (d : Die) : Die := d.resetUnit Reg.SCH_DM_FENCE isMover

end Sys2Proof.Machine
end

