-- ==== Sys2Proof/Machine/Nand.lean ====
section
/-! DEFINITION. NAND units as stored and as read: codewords, the map and its cache, the reads a block counts (chapter 14, R331 to
R333). -/

namespace Sys2Proof.Machine

/-- A block's wear. -/
def Die.nblk (d : Die) (b : Nat) : NandBlock := SMap.get (fun _ => NandBlock.fresh) d.nand.blocks b

/-- Store a block's wear. -/
def Die.setNblk (d : Die) (b : Nat) (k : NandBlock) : Die :=
  { d with nand := { d.nand with blocks := SMap.put (fun _ => NandBlock.fresh) d.nand.blocks b k } }

/-- Location of a block for the tracker (Table 20.1): the block's number carries its channel in bit 24. -/
def blockLoc (b : Nat) : Nat := b % 2 ^ 25

/-- A map entry is looked up: through its cache of NFC_MAP_SIZE MiB, a miss costing one NAND read (R332). -/
def Die.mapLookup (d : Die) (unit : Nat) : Nat × Die :=
  let k := unit / 16
  let x := d.nand
  let d1 : Die :=
    if x.mapCache.contains k then { d with nand := { x with mapCache := x.mapCache.filter (· != k) ++ [k] } }
    else
      let c := if x.mapCache.length < d.rf Reg.NFC_MAP_SIZE 11 0 * 16384 then x.mapCache else x.mapCache.drop 1
      { d with nand := { x with mapCache := c ++ [k], mapReads := x.mapReads + 1 } }
  (SMap.get (fun _ => 0) x.place unit, d1)

/-- A block counts a read (R333). -/
def Die.blockRead (d : Die) (b : Nat) : Die := d.setNblk b { d.nblk b with reads := (d.nblk b).reads + 1 }

/-- A block has been read, with the retries it took (R331, R333, R334). -/
def Die.readBlock (d : Die) (b : Nat) (how : NandHow) : Die :=
  let d1 := d.blockRead b
  let window := hourCycles (d.rf Reg.RAS_LASTING_CFG 15 8)
  match how with
  | .clean => d1
  | .retried false => d1.count Reg.NFC_CE_COUNT 1
  | .retried true =>
    ((d1.setNblk b { d1.nblk b with
      lastLevel := (d.refclk :: (d1.nblk b).lastLevel).filter fun t => decide (d.refclk ≤ t + window) }).count
        Reg.NFC_CE_COUNT 1).countError 5 (blockLoc b)
  | .failed => (d1.count Reg.NFC_UE_COUNT 1).err Reg.NFC_ERR Bit.NFC_ERR_UNCORRECTABLE

/-- The stored unit under a logical number. -/
def Die.unitAt (d : Die) (unit : Nat) : FlashUnit := SMap.get (fun _ => FlashUnit.zero) d.nand.units unit

/-- Store a unit. -/
def Die.setUnit (d : Die) (unit : Nat) (u : FlashUnit) : Die :=
  { d with nand := { d.nand with units := SMap.put (fun _ => FlashUnit.zero) d.nand.units unit u } }

/-- A unit has been programmed with new data: its metadata carry its logical number and the next sequence number (R331). -/
def Die.writtenUnit (d : Die) (unit : Nat) (data : BitVec 32768) (poison : Bool) : Die :=
  { (d.setUnit unit ⟨data, poison, unit, d.nand.seq + 1, false⟩) with
    nand := { (d.setUnit unit ⟨data, poison, unit, d.nand.seq + 1, false⟩).nand with seq := d.nand.seq + 1 } }

/-- Read the NAND unit of a logical number: its place is looked up and its block counts the read. A codeword that fails every
retry once fails until it is written again (R331 to R333; DESIGN CHOICE for the latter, log entry 101). True when it failed. -/
def Die.readCodeword (d : Die) (unit : Nat) (how : NandHow) : Bool × Die :=
  let l := d.mapLookup unit
  if l.1 = 0 then (false, l.2)
  else
    let u := d.unitAt unit
    let lost := u.lost || how == .failed
    (lost, (l.2.readBlock (l.1 - 1) (if lost then .failed else how)).setUnit unit { u with lost := lost })

/-- The 4,608 bytes of a unit's codeword: data, 64 bytes of metadata, parity (R331; DESIGN CHOICE for the place of the metadata's
fields, log entry 101). -/
def FlashUnit.codeword (u : FlashUnit) : List Nat :=
  let data := toBytes 4096 u.data.toNat
  let body := data ++ toBytes 64 (u.logical % 2 ^ 64 + u.seq % 2 ^ 64 * 2 ^ 64 + (if u.poison then 2 ^ 128 else 0) +
    crcReflected 0xEDB88320 data * 2 ^ 136)
  body ++ Config.ldpc body

/-- A line of a FLASH frame (R331): a poisoned unit delivers poisoned lines, one beyond recovery errors. -/
def Die.flashLine (d : Die) (frame off : Nat) : UnitRd :=
  let u := SMap.get (fun _ => FlashUnit.zero) d.nand.units (16 * frame + off / 64)
  if u.poison || u.lost then ⟨0, true, false⟩ else ⟨fld u.data.toNat (512 * (off % 64) + 511) (512 * (off % 64)), false, false⟩

/-- The units of a byte range that lie in FLASH are read, first unit and count given; a frame read whole counts (R291, R333). -/
def Die.flashReads (d : Die) (first n : Nat) : Die :=
  (List.range n).foldl (fun (acc : Die) i =>
    let u := first + i
    let e := acc.pte (u / 16)
    if pteTier e = 5 then
      let d1 := (acc.readCodeword (16 * pteFrame e + u % 16) .clean).2
      if u % 16 = 15 ∧ 15 ≤ i then d1.count Reg.TIR_FLASH_RD 1 else d1
    else acc) d

/-- A FLASH frame is read whole (R291, R333). -/
def Die.frameReads (d : Die) (frame : Nat) : Die :=
  ((List.range 16).foldl (fun (acc : Die) i => (acc.readCodeword (16 * frame + i) .clean).2) d).count Reg.TIR_FLASH_RD 1

end Sys2Proof.Machine
end

