-- ==== Sys2Proof/Machine/Wheel.lean ====
section
/-! DEFINITION. The Wheel: W.GEMV, W.ATTN, W.KVAPPEND, W.KVEVICT, prefetch, the key-value cache, spares and reset
(chapter 07, R137 to R169; R318). -/

namespace Sys2Proof.Machine

/-! ### Common -/

/-- Opcodes the Wheel executes. -/
def isWheel (op : Nat) : Bool := op == 0x20 || op == 0x21 || op == 0x22 || op == 0x23

/-- The output a fault poisons, when it poisons one. -/
def wheelReaches : WheelUpset → Option Nat
  | .residue a => some a.toNat
  | .corrected _ => none
  | .buffer _ a => some a.toNat

/-- Physical slice that runs a share (R137). -/
def Die.physSlice (d : Die) (s : Nat) : Nat := d.rf (Reg.WHL_SHARE_MAP s) 4 0

/-- Set a flag of WHL_ERR with its queue. -/
def Die.wheelErr (d : Die) (queue bit : Nat) : Die :=
  (d.setReg Reg.WHL_FAULT_QUEUE (BitVec.ofNat 32 (queue % 2 ^ 20))).err Reg.WHL_ERR bit

/-- Log a fault of the Wheel's own while it works for a queue (R166, R471): a mismatch counts against the slice of the share
it struck. -/
def Die.wheelUpset (share queue : Nat) (d : Die) (u : WheelUpset) : Die :=
  match u with
  | .residue _ =>
    let p := d.physSlice share
    ((d.setReg Reg.WHL_RESIDUE_LOG (BitVec.ofNat 32 p)).wheelErr queue Bit.WHL_ERR_RESIDUE).countError 2 p
  | .corrected w => d.countError 6 (2 ^ 24 + w.toNat)
  | .buffer w _ => (d.countError 6 (2 ^ 24 + w.toNat)).err Reg.RAS_ERR Bit.RAS_ERR_CTRL_UE

/-- Flag a fault when a condition holds. -/
def Die.wheelErrIf (d : Die) (c : Bool) (queue bit : Nat) : Die := if c then d.wheelErr queue bit else d

/-- The status the first bad unit of a reading gives: BANK_OFF when it was lost to a closed gate, else DATA_FAULT (R165). -/
def firstFault (us : List UnitRd) : Nat :=
  match us.find? fun u => u.bad || u.off with
  | none => stOk
  | some u => if u.off then stBankOff else stDataFault

/-- The first status of a list that is not OK (R165). -/
def firstOf (l : List Nat) : Nat := (l.find? (· != stOk)).getD stOk

/-- How far through its units a reading is cut to the prefetch limit of 128 KiB (R146). -/
abbrev prefetchBytes : Nat := 131072

/-! ### W.GEMV (R141 to R147) -/

/-- k of W.GEMV. -/
def gvK (x : DescBits) : Nat := pF x 15 0
/-- n of W.GEMV. -/
def gvN (x : DescBits) : Nat := pF x 34 16
/-- cols of W.GEMV. -/
def gvCols (x : DescBits) : Nat := pF x 41 35
/-- acc of W.GEMV. -/
def gvAcc (x : DescBits) : Bool := pB x 42
/-- w_scaled. -/
def gvWs (x : DescBits) : Bool := pB x 43
/-- x_scaled. -/
def gvXs (x : DescBits) : Bool := pB x 44
/-- scale_fmt. -/
def gvScale (x : DescBits) : Nat := pF x 48 45
/-- sel. -/
def gvSel (x : DescBits) : Bool := pB x 49
/-- ex_count. -/
def gvExperts (x : DescBits) : Nat := pF x 57 50
/-- sel_row. -/
def gvSelRow (x : DescBits) : Nat := pF x 74 58
/-- sel_byte. -/
def gvSelByte (x : DescBits) : Nat := pF x 83 75
/-- xwait. -/
def gvXwait (x : DescBits) : Nat := pF x 86 84
/-- w_fmt. -/
def gvW (x : DescBits) : Nat := (streamOf x 0).fmt
/-- x_fmt. -/
def gvX (x : DescBits) : Nat := (streamOf x 1).fmt
/-- out_fmt. -/
def gvOut (x : DescBits) : Nat := (streamOf x 2).fmt

/-- Whether W.GEMV accumulates in S32 (R33). -/
def gvInt (x : DescBits) : Bool := isIntPairing (gvW x) (gvX x) && !gvWs x && !gvXs x

/-- Rows of X (R143). -/
def gvXRows (x : DescBits) : Nat := gvK x + if gvXs x then gvK x / 32 else 0

/-- Bytes of one record (R142). -/
def gvRecord (x : DescBits) : Nat :=
  gvK x * fmtBits (gvW x) / 8 + if gvWs x then gvK x / 32 * fmtSize (gvScale x) else 0

/-- Whether units follow one another by one from the base (R143). -/
def contiguous (x : DescBits) (s : Stream) : Bool :=
  (unitsOf x s).zipIdx.all fun p => p.1 == s.baseUnit + (p.2 : Int)

/-- OUT has one of the two layouts of R143. -/
def gvOutOk (x : DescBits) : Bool :=
  let o := streamOf x 2
  if o.space = 1 then unitCount x o == gvN x
  else unitCount x o == ceilDiv (gvCols x * gvN x * fmtSize o.fmt) 64 && contiguous x o

/-- Table 7.2 whole. -/
def gemvLegal (e : Entry) (_ : Die) : Bool :=
  let x := e.desc
  let scaled := gvWs x || gvXs x
  let k := gvK x
  isPairing (gvW x) (gvX x) && (!scaled || isScaleFmt (gvScale x)) && decide (1 ≤ k) &&
    (fmtBits (gvW x) != 4 || k % 2 == 0) && (gvW x != Fmt.E2M3 || k % 4 == 0) && (!scaled || k % 32 == 0) &&
    decide (1 ≤ gvN x) && decide (gvN x ≤ 262144) && decide (1 ≤ gvCols x) && decide (gvCols x ≤ 64) &&
    (if gvInt x then gvOut x == Fmt.S32 else gvOut x == Fmt.FP32 || gvOut x == Fmt.BF16) &&
    (!gvSel x || (decide (1 ≤ gvExperts x) && decide (gvSelRow x < shelfRows) && gvSelByte x % 4 == 0)) &&
    decide (gvXwait x ≤ nwait x) && unitCount x (streamOf x 1) == gvXRows x &&
    decide (gvCols x * k * fmtSize (gvX x) + (if gvXs x then gvCols x * (k / 32) * fmtSize (gvScale x) else 0) ≤ 458752) &&
    gvOutOk x

/-- Bytes `off` to `off + len − 1` of stream W, none when they reach outside it. -/
def Die.gvRead (d : Die) (e : Entry) (off len : Nat) : Option PStream × Die :=
  let s := streamOf e.desc 0
  let n := s.unitBytes
  if unitCount e.desc s * n < off + len then (none, d)
  else if len = 0 then (some ⟨0, 0, n, [], 0, false⟩, d)
  else
    let us := ((unitsOf e.desc s).drop (off / n)).take ((off + len - 1) / n + 1 - off / n)
    let p := d.readUnits (e.who 5) s.space us
    (some (PStream.part n (off % n) len p.1), p.2)

/-- One share as it was read: its expanded records, the outputs it covers, coded bytes. -/
structure Share where
  index : Nat
  first : Nat
  count : Nat
  raw : Expanded
  coded : Nat
  /-- A unit of the share was lost to a closed gate. -/
  lost : Bool
  deriving DecidableEq, Repr

/-- First output of share `s` (R142). -/
def shareFirst (n s : Nat) : Nat := s * n / 16

/-- Read share `s` by the share table at byte `tbl` of W (R142, R147). -/
def Die.readShare (d : Die) (e : Entry) (tbl s : Nat) : Share × Die :=
  let x := e.desc
  let a := shareFirst (gvN x) s
  let cnt := shareFirst (gvN x) (s + 1) - a
  let want := cnt * gvRecord x
  if cnt = 0 then (⟨s, a, 0, ⟨0, [], [], []⟩, 0, false⟩, d)
  else
    match d.gvRead e (tbl + 8 * s) 8 with
    | (none, d1) => (⟨s, a, cnt, streamFail want 0xC, 0, false⟩, d1)
    | (some t, d1) =>
      if t.touchesBad 0 8 then (⟨s, a, cnt, streamFail want 0xD, 0, t.lost⟩, d1)
      else
        match d1.gvRead e (t.at 0 4) (t.at 4 4) with
        | (none, d2) => (⟨s, a, cnt, streamFail want 0xC, 0, false⟩, d2)
        | (some p, d2) => (⟨s, a, cnt, expand p 16 want, t.at 4 4, p.lost⟩, d2)

/-- Read every share. -/
def Die.readShares (d : Die) (e : Entry) (tbl : Nat) : List Nat → List Share × Die
  | [] => ([], d)
  | s :: ss =>
    let p := d.readShare e tbl s
    let q := p.2.readShares e tbl ss
    (p.1 :: q.1, q.2)

/-- Where the share table lies, and how the expert choice went (R145). -/
inductive Choice where
  | table (at_ : Nat)
  | outOfRange
  | damaged (cause : Nat)
  | badIndex (lost : Bool)
  deriving DecidableEq, Repr

/-- EXPERT_SELECT: the expert index picks the share table (R145). -/
def Die.expertSelect (d : Die) (e : Entry) : Choice × Die :=
  let x := e.desc
  if !gvSel x then (.table 0, d)
  else
    let r := d.readShelfRow (e.who 5) (gvSelRow x)
    let i := toSigned 32 (bytesAt r.1.data (gvSelByte x) 4)
    if r.1.bad || r.1.off then (.badIndex r.1.off, r.2)
    else if i < 0 ∨ (gvExperts x : Int) ≤ i then (.outOfRange, r.2)
    else
      match r.2.gvRead e (8 * i.toNat) 8 with
      | (none, d1) => (.damaged 0xC, d1)
      | (some p, d1) => if p.touchesBad 0 8 then (.damaged 0xD, d1) else (.table (p.at 0 4), d1)

/-- Element `i` of X for column `m`, and its block scale (R127, R143). -/
def gvXElem (x : DescBits) (rows : List UnitRd) (i m : Nat) : Num × Num :=
  let row := if gvXs x then i + i / 32 else i
  let v := decodeNum (gvX x) (elemAt (gvX x) (rows.getD row ⟨0, false, false⟩).data m)
  if gvXs x then
    let sr := (rows.getD (33 * (i / 32) + 32) ⟨0, false, false⟩).data
    (v, decodeNum (gvScale x) (elemAt (gvScale x) sr m))
  else (v, Num.one)

/-- Weight `i` of a record and its block scale (R142). -/
def gvWElem (x : DescBits) (rec_ i : Nat) : Num × Num :=
  let v := decodeNum (gvW x) (elemAt (gvW x) rec_ i)
  if gvWs x then
    let o := gvK x * fmtBits (gvW x) / 8
    (v, decodeNum (gvScale x) (bytesAt rec_ (o + i / 32 * fmtSize (gvScale x)) (fmtSize (gvScale x))))
  else (v, Num.one)

/-- The order in which a Wheel tree takes its terms: the implementation's, when it is one. -/
def wheelOrder (n : Nat) : List Nat :=
  let l := (List.range n).map (Config.wheelLeaf n)
  if (List.range n).all fun i => l.contains i then l else (List.range n).map fun i => i % 2 * (n / 2) + i / 2

/-- A fixed binary tree of the Wheel, `depth` levels of FP32 adders deep; missing terms are zero (R39, R144). -/
def wheelTree (depth : Nat) (xs : List Num) : Num :=
  treeSum depth ((wheelOrder (2 ^ depth)).map fun i => xs.getD i Num.zero)

/-- The scaled partial of one group of 32 terms: weights and inputs, each with its block scale (R37, R39). -/
def gemvPartial (int : Bool) (ws xs : List (Num × Num)) : Num :=
  let sum := if int then Num.ofInt (intSum (ws.map (·.1)) (xs.map (·.1)))
    else wheelTree 5 ((ws.zip xs).map fun p => mulF p.1.1 p.2.1)
  match ws, xs with
  | w :: _, x :: _ => rnd32 (Num.mul sum (Num.mul w.2 x.2))
  | _, _ => Num.zero

/-- The sum of a segment of 256 reduction indices through the Wheel's trees (R144). -/
def gemvSegment (int : Bool) (ws xs : List (Num × Num)) : Num :=
  wheelTree 3 ((List.range 8).map fun g => gemvPartial int ((ws.drop (32 * g)).take 32) ((xs.drop (32 * g)).take 32))

/-- One sum of a W.GEMV: its segments, added in order (R37 to R40, R144). -/
def gemvSum (x : DescBits) (ws xs : List (Num × Num)) : Num :=
  let int := isIntPairing (gvW x) (gvX x)
  let segs := (List.range (ceilDiv (gvK x) 256)).map fun s => gemvSegment int (ws.drop (256 * s)) (xs.drop (256 * s))
  match segs with
  | [] => Num.zero
  | s :: ss => ss.foldl addF s

/-- One output: element bits and flags, from the record, the column of X and the value OUT holds (R144). A W.GEMV's own
integer sum of at most 65,535 terms stays in S32. -/
def gemvOne (x : DescBits) (rec_ : Nat) (xs : List (Num × Num)) (old : Option Nat) : Nat × Nat :=
  let ws := (List.range (gvK x)).map (gvWElem x rec_)
  if gvInt x then
    let r := satS32 (intSum (ws.map (·.1)) (xs.map (·.1)) + match old with
      | none => 0
      | some o => toSigned 32 o)
    (ofSigned 32 r.1, if r.2 then flSat else 0)
  else
    let s := gemvSum x ws xs
    let v := match old with
      | none => s
      | some o => addF (decodeNum (gvOut x) o) s
    let r := encodeNum (gvOut x) v
    (r.1, (if v.isNan then flNan else 0) + convBits r.2)

/-- Values OUT holds, for acc = 1: element bits by output and column, and whether the unit was bad. -/
def gvOld (x : DescBits) (us : List UnitRd) (i m : Nat) : Nat × Bool :=
  let o := streamOf x 2
  let sz := fmtSize o.fmt
  if o.space = 1 then let u := us.getD i ⟨0, false, false⟩; (bytesAt u.data (m * sz) sz, u.bad)
  else
    let b := (m * gvN x + i) * sz
    let u := us.getD (b / 64) ⟨0, false, false⟩
    (bytesAt u.data (b % 64) sz, u.bad)

/-- Output units of a W.GEMV from its results by output: bits by column, and poison (R143, R147). -/
def gemvOuts (x : DescBits) (key : Nat) (rs : List (List Nat × Bool)) : List OutUnit :=
  let o := streamOf x 2
  let w := fmtBits o.fmt
  let us := unitsOf x o
  if o.space = 1 then
    (us.zip rs.zipIdx).map fun p => ⟨1, p.1, padRow key p.2.2 (w * gvCols x) (packElems w p.2.1.1), p.2.1.2⟩
  else
    let flat := (List.range (gvCols x)).flatMap fun m => rs.map fun r => (r.1.getD m 0, r.2)
    let per := 512 / w
    us.zipIdx.map fun u =>
      let part := (flat.drop (per * u.2)).take per
      let used := w * part.length
      ⟨2, u.1, packElems w (part.map (·.1)) + (Config.padBits key u.2 % 2 ^ (512 - used)) <<< used, part.any (·.2)⟩

/-- The share that covers an output. -/
def shareOf (n i : Nat) : Nat := ((List.range 16).find? fun s => decide (i < shareFirst n (s + 1))).getD 15

/-- A column of X: its elements with their scales. -/
abbrev GvCol := List (Num × Num)

/-- One output over every column: bits, whether a value OUT held was bad, FLAGS bits. -/
def gemvRow (x : DescBits) (cols : List GvCol) (old : List UnitRd) (i rec_ : Nat) : List Nat × Bool × Nat :=
  let cells : List ((Nat × Nat) × Bool) := cols.zipIdx.map fun p =>
    let o := gvOld x old i p.2
    (gemvOne x rec_ p.1 (if gvAcc x then some o.1 else none), gvAcc x && o.2)
  (cells.map fun c => c.1.1, cells.any fun c => c.2, cells.foldl (fun f c => f ||| c.1.2) 0)

/-- Failures of the streams of a W.GEMV, each with the slice whose expander met it. -/
def Die.gemvFaults (d : Die) (c : Choice) (shares : List Share) : List (Nat × PugFault) :=
  match c with
  | .damaged cause => [(d.physSlice 0, ⟨cause, 0xFFFF, true⟩)]
  | _ => shares.flatMap fun s => s.raw.faults.map fun f => (d.physSlice s.index, f)

/-- The status of a W.GEMV's reading, in its order: expert index, shares, X, OUT (R165). -/
def gemvStatus (c : Choice) (shares : List Share) (px po : List UnitRd) : Nat :=
  firstOf ((match c with
    | .badIndex lost => if lost then stBankOff else stDataFault
    | .table _ => stOk
    | _ => stDataFault) :: shares.map (fun s => if s.lost then stBankOff else if s.raw.faults.isEmpty then stOk else stDataFault) ++
      [firstFault px, firstFault po])

/-- A share as a W.GEMV that stops after `n` outputs has met it: its failures are met when an output they reach is written
(R165). -/
def Share.metBy (rec_ n : Nat) (s : Share) : Share :=
  if (List.range (min s.count (n - s.first))).any fun i => s.raw.zeroIn (rec_ * i) rec_ then s
  else { s with raw := { s.raw with faults := [] }, lost := false }

/-- Outputs a W.GEMV has written when it stops after some units of OUT (R143). -/
def gemvStopped (x : DescBits) (stop : Option Nat) : Nat :=
  match stop with
  | none => gvN x
  | some k => min (gvN x) (if (streamOf x 2).space = 1 then k else k * (512 / fmtBits (streamOf x 2).fmt))

/-- Cycles beyond R of the blocks the slice expanders have passed for the first `n` outputs, whose records are `rec_` bytes
(Table 5.6). -/
def slowCycles (rec_ n : Nat) (shares : List Share) : Nat :=
  (shares.flatMap fun s => s.raw.blocks.filter fun b => decide (s.first + ceilDiv b.upto (max 1 rec_) ≤ n)).foldl (fun t b => t + b.slow) 0

/-- W.GEMV after its checks. One that stops has met only the faults of what it has written, and those of the expert index
and X, which it reads before (R165). -/
def gemvBody (faults : List WheelUpset) (run : Run) (e : Entry) (d : Die) : Die :=
  let x := e.desc
  let n := gvN x
  let c := d.expertSelect e
  let sh : List Share × Die := match c.1 with
    | .table t => c.2.readShares e t (List.range 16)
    | _ => ([], c.2)
  let px := sh.2.readStream e 5 (streamOf x 1)
  let po : List UnitRd × Die := if gvAcc x then px.2.readStream e 5 (streamOf x 2) else ([], px.2)
  let xbad := px.1.any (·.bad)
  let cols : List GvCol := (List.range (gvCols x)).map fun m => (List.range (gvK x)).map fun i => gvXElem x px.1 i m
  let res : List (List Nat × Bool × Nat) := (List.range n).map fun i =>
    let s := shareOf n i
    let rec_ := gvRecord x
    let struck := faults.any fun f => wheelReaches f == some i
    match sh.1[s]? with
    | none => (List.replicate (gvCols x) 0, true, 0)
    | some q =>
      let o := rec_ * (i - q.first)
      if q.raw.zeroIn o rec_ then (List.replicate (gvCols x) 0, true, 0)
      else
        let r := gemvRow x cols po.1 i (bytesAt q.raw.raw o rec_)
        (r.1, xbad || struck || r.2.1, r.2.2)
  let upto := gemvStopped x run.stop
  let met := if run.stop.isNone then sh.1 else sh.1.map (Share.metBy (gvRecord x) upto)
  let old := match run.stop with
    | none => po.1
    | some k => po.1.take k
  let hits := faults.filter fun f => run.stop.isNone || (match wheelReaches f with
    | some i => decide (i < upto)
    | none => true)
  let fs := po.2.gemvFaults c.1 met
  let bad := !fs.isEmpty || (px.1 ++ old).any (·.bad) || (match c.1 with
    | .badIndex _ => true
    | _ => false)
  let st := firstOf [gemvStatus c.1 met px.1 old, if hits.any (fun f => (wheelReaches f).isSome) then stDataFault else stOk]
  let d1 := (((po.2.pugFaults 1 e.queue fs).wheelErrIf bad e.queue Bit.WHL_ERR_DATA).wheelErrIf (c.1 == .outOfRange) e.queue
    Bit.WHL_ERR_SELECT)
  let d2 := hits.foldl (fun acc f => acc.wheelUpset (shareOf n ((wheelReaches f).getD 0)) e.queue f) d1
  let d3 := (d2.count Reg.WHL_WBYTES (ceilDiv (sh.1.foldl (fun t s => t + s.coded) 0) 64)).count Reg.PUG_WX_SLOW_CYC
    (slowCycles (gvRecord x) upto sh.1)
  let d4 := if run.stop.isNone then d3.count Reg.WHL_PASSES 1 else d3
  let d5 := { d4 with
    freeCtr := d4.freeCtr + 1
    wheel := { d4.wheel with
      prefetch := if d4.wheel.prefetch = some e.slot then none else d4.wheel.prefetch
      afterBarrier := false } }
  d5.deliver e run ⟨gemvOuts x d4.freeCtr (res.map fun r => (r.1, r.2.1)), 5, st,
    res.foldl (fun f r => f ||| r.2.2) 0, 0, 0, faultCause (fs.map (·.2))⟩

/-- W_GEMV: a W.GEMV runs its weight-streaming work in 16 shares. -/
def Die.wGemv (d : Die) (slot : BitVec 12) (run : Run) (faults : List WheelUpset) : Die :=
  d.runOp 0x20 slot.toNat run freeStart gemvLegal (gemvBody faults run)

/-! ### Prefetch (R146) -/

/-- Whether the W.GEMV chosen for a prefetch is still admitted and not started. -/
def Die.prefetchLive (d : Die) : Bool :=
  match d.wheel.prefetch with
  | none => false
  | some s => match d.entry s with
    | none => false
    | some e => !e.began && e.phase != .executed && opcodeOf e.desc == 0x20

/-- Whether a prefetch holds bytes (R146, R167). -/
def Die.prefetching (d : Die) : Bool :=
  d.prefetchLive && d.far.arrived.any fun l => some l.slot == d.wheel.prefetch

/-- Whether the reader waits of a W.GEMV are satisfied: all but its last xwait ones. -/
def Die.readerWaits (d : Die) (x : DescBits) : Bool :=
  ((waitsOf x).take (nwait x - gvXwait x)).all fun w => decide (w.2 ≤ d.evt w.1)

/-- Whether stream W alone passes its start checks, SHELF pages included, unlogged (R141, R271). -/
def Die.wPasses (d : Die) (e : Entry) : Bool :=
  match (streamRoles e.desc).head? with
  | none => false
  | some p =>
    if p.1.space = 1 then
      !reachBad e.desc p && (streamBanks e.desc p).all fun b =>
        tenantAllows (d.bankTenant b) e.tenant false && groupAllows (d.bankOwner b) 5 false && d.bankPowered b
    else
      let r := reachOf e.desc p.1
      decide (0 ≤ r.1) && decide (r.2 < 2 ^ 42) && (pagesOf r.1 r.2).all fun g => d.tierCheck e.tenant g false false == 0 &&
        (pteTier (d.pte g) != 1 || (d.shelfPage (e.who 5) g false).isNone)

/-- Whether an executing W.GEMV has completed its X load: it holds X, which it reads from the Shelves as it starts. -/
def Die.xLoaded (d : Die) (e : Entry) : Bool :=
  (unitsOf e.desc (streamOf e.desc 1)).all fun r => ((d.workOf e.slot).heldRow r.toNat).isSome

/-- Whether an admitted W.GEMV may be prefetched for: the executing W.GEMV, if any, has its X (R146). -/
def Die.prefetchable (d : Die) (e : Entry) : Bool :=
  opcodeOf e.desc == 0x20 && !e.began && e.phase != .executed && e.fail == 0 && d.readerWaits e.desc && d.wPasses e &&
    !(d.sb.any fun o => opcodeOf o.desc == 0x20 && o.phase == .loading && !d.xLoaded o)

/-- Read the first bytes of each share's stream, at most 128 KiB a slice. -/
def Die.prefetchShares (d : Die) (e : Entry) (tbl : Nat) : List Nat → Die
  | [] => d
  | s :: ss =>
    match d.gvRead e (tbl + 8 * s) 8 with
    | (some t, d1) =>
      if t.touchesBad 0 8 then d1.prefetchShares e tbl ss
      else (d1.gvRead e (t.at 0 4) (min prefetchBytes (t.at 4 4))).2.prefetchShares e tbl ss
    | (none, d1) => d1.prefetchShares e tbl ss

/-- The reading of a prefetch: the expert index, the share table, then the shares' streams (R146). -/
def prefetchRead (e : Entry) (d : Die) : Die :=
  let c := d.expertSelect e
  match c.1 with
  | .table t => c.2.prefetchShares e t (List.range 16)
  | _ => c.2

/-- What a prefetch that has all its lines leaves: they are held for the W.GEMV. -/
def Die.holdRead (t : Die) : Die :=
  { t with far := { t.far with arrived := t.far.arrived ++ t.far.seen, who := noSlot, seen := [], keeps := false } }

/-- Prefetch for a W.GEMV: its lines are read and held for it, or asked for (R146). -/
def Die.prefetchFor (d : Die) (e : Entry) : Die :=
  let d1 := { d with wheel := { d.wheel with prefetch := some e.slot } }
  let t := prefetchRead e (d1.workOf e.slot)
  if AtHand t then t.holdRead else d1.await e.slot t

/-- The W.GEMV the Wheel prefetches for: the one it prefetches for already, else the oldest that may be. -/
def Die.prefetchPick (d : Die) : Option Entry :=
  if d.prefetchLive then d.wheel.prefetch.bind d.entry
  else d.sb.find? fun e => d.prefetchable e && d.sb.all fun o => !d.prefetchable o || decide (e.order ≤ o.order)

/-- WHEEL_PREFETCH_START: the Wheel begins, or goes on, prefetching for the oldest eligible admitted W.GEMV. -/
def Die.wheelPrefetchStart (d : Die) : Die :=
  match d.prefetchPick with
  | none => d
  | some e => if d.prefetchable e then d.prefetchFor e else d

/-- Discard the prefetch and what it holds (R146, R168). -/
def Die.dropPrefetch (d : Die) : Die :=
  let d1 := if d.prefetchLive then (match d.wheel.prefetch with
    | none => d
    | some s => d.forget s) else d
  { d1 with wheel := { d1.wheel with prefetch := none } }

/-! ### The key-value cache (R148 to R157) -/

/-- A KV context (Table 7.3). -/
structure KvCtx where
  list : Nat
  pool : Nat
  nextPos : Nat
  count : Nat
  budget : Nat
  capacity : Nat
  window : Nat
  kvh : Nat
  dim : Nat
  fmt : Nat
  flags : Nat
  kScale : Nat
  vScale : Nat
  decay : Nat
  pfx : Nat
  sparse : Nat
  sparseBits : Nat
  tail : Nat
  deriving DecidableEq, Repr

/-- The context 64 bytes spell. -/
def KvCtx.ofBytes (n : Nat) : KvCtx :=
  ⟨bytesAt n 0 8, bytesAt n 8 8, bytesAt n 16 4, bytesAt n 20 2, bytesAt n 22 2, bytesAt n 24 2, bytesAt n 26 2,
    bytesAt n 28 1, bytesAt n 29 1, bytesAt n 30 1, bytesAt n 31 1, bytesAt n 32 4, bytesAt n 36 4, bytesAt n 40 4,
    bytesAt n 44 4, bytesAt n 48 8, bytesAt n 56 4, bytesAt n 60 4⟩

/-- Bytes of one KV element. -/
def kvSize (fmt : Nat) : Nat := fmtSize fmt

/-- Bytes of a KV block (R150). -/
def kvBlockBytes (kvh d fmt : Nat) : Nat := 32 * kvh * d * kvSize fmt

/-- Whether a context's fields are legal and match a descriptor's kvh, d and kv_fmt (Tables 7.3 and 7.5). -/
def KvCtx.legal (c : KvCtx) (kvh d fmt : Nat) : Bool :=
  c.list % 16 == 0 && decide (c.list < 2 ^ 48) && c.pool % 64 == 0 && decide (c.pool < 2 ^ 48) &&
    decide (1 ≤ c.capacity) && decide (1 ≤ c.budget) && decide (c.budget ≤ c.capacity) && decide (c.count ≤ c.capacity) &&
    c.kvh == kvh && c.dim * 16 == d && c.fmt == fmt && decide (c.flags < 4) && positiveF c.kScale && positiveF c.vScale &&
    positiveF c.decay && !Num.lt Num.one (ofFp32 c.decay) && c.sparse % 8 == 0 && c.tail == 0 &&
    decide (kvBlockBytes kvh d fmt ≤ 65536)

/-- A block-list entry (Table 7.4). -/
structure KvEntry where
  addr : Nat
  fill : Nat
  base : Nat
  score : Nat
  deriving DecidableEq, Repr

/-- The entry 16 bytes spell. -/
def KvEntry.ofBytes (n : Nat) : KvEntry := ⟨bytesAt n 0 6, bytesAt n 6 1, bytesAt n 8 4, bytesAt n 12 4⟩

/-- The 16 bytes of an entry. -/
def KvEntry.toNat (e : KvEntry) : Nat :=
  e.addr % 2 ^ 48 + (e.fill % 256) <<< 48 + (e.base % 2 ^ 32) <<< 64 + (e.score % 2 ^ 32) <<< 96

/-- Read a context. -/
def KvAcc.ctx (a : KvAcc) (w : Who) (addr : Nat) : KvCtx × KvAcc :=
  let p := a.read w addr 64
  (KvCtx.ofBytes p.1, p.2)

/-- Read a context's live entries. -/
def KvAcc.entries (a : KvAcc) (w : Who) (c : KvCtx) : List KvEntry × KvAcc :=
  let p := a.read w c.list (16 * c.count)
  ((List.range c.count).map fun i => KvEntry.ofBytes (bytesAt p.1 (16 * i) 16), p.2)

/-- Write COUNT of a context. -/
def KvAcc.setCount (a : KvAcc) (w : Who) (addr n : Nat) : KvAcc := a.write w (addr + 20) 2 n

/-- Advance one LOCAL page's epoch for a pushed block (R318): every line outside the block is read under the old epoch, with
every check of Table 14.2, and written back under the new one, poisoned when it failed; the block's lines become zero. -/
def Die.epochPage (d : Die) (code first lo hi : Nat) : Die :=
  let outside := (List.range 64).map (first + ·) |>.filter fun n => !(decide (lo ≤ n) && decide (n < hi))
  let p := outside.foldl (fun (acc : List (Nat × UnitRd) × Die) n =>
    let r := acc.2.readLocal code n
    (acc.1 ++ [(n, r.1)], r.2)) ([], d)
  let d1 : Die := { p.2 with dmc := { p.2.dmc with
    epochs := SMap.put (fun _ => 0) d.dmc.epochs (first / 64) ((d.lineEpoch first + 1) % 2 ^ 32) } }
  let d2 := p.1.foldl (fun (acc : Die) x => (acc.writeLocal code x.1 (BitVec.ofNat 512 x.2.data) x.2.bad).2) d1
  (List.range 64).foldl (fun (acc : Die) j =>
    if lo ≤ first + j ∧ first + j < hi then (acc.writeLocal code (first + j) 0#512 false).2 else acc) d2

/-- KV_BLOCK_EPOCH_ADVANCE: a block pushed to its pool advances the epochs of the 4 KiB pages of LOCAL it touches
and is zeroed (R318). A block in another tier has no epoch. -/
def Die.blockEpochs (d : Die) (addr bytes : Nat) : Die :=
  let e := d.pte (addr / 65536)
  if pteTier e ≠ 2 ∨ d.localFrames ≤ pteFrame e then d
  else
    let line := pteFrame e * 1024 + addr % 65536 / 64
    let n := bytes / 64
    (List.range ((line + n - 1) / 64 + 1 - line / 64)).foldl
      (fun acc j => acc.epochPage (pteKey e) (64 * (line / 64 + j)) line (line + n)) d

/-- The block at the HEAD of a pool and HEAD after its pop, none when the pool is empty (R151). -/
def KvAcc.pop (a : KvAcc) (w : Who) (pool : Nat) : Option (Nat × Nat) × KvAcc :=
  let p := a.read w pool 64
  let head := bytesAt p.1 12 4
  let size := bytesAt p.1 8 4
  if head = bytesAt p.1 16 4 ∨ size = 0 then (none, p.2)
  else
    let r := p.2.read w (bytesAt p.1 0 8 + 8 * (head % size)) 8
    (some (r.1 % 2 ^ 48, (head + 1) % 2 ^ 32), r.2)

/-- Push a block to a pool (R151, R318). -/
def KvAcc.push (a : KvAcc) (w : Who) (pool addr bytes : Nat) : KvAcc :=
  let p := a.read w pool 64
  let tail := bytesAt p.1 16 4
  let size := bytesAt p.1 8 4
  if size = 0 then p.2
  else
    let b : KvAcc := ⟨p.2.bad, p.2.die.blockEpochs addr bytes⟩
    (b.write w (bytesAt p.1 0 8 + 8 * (tail % size)) 8 addr).write w (pool + 16) 4 ((tail + 1) % 2 ^ 32)

/-- Whether an entry is protected (R155). -/
def KvEntry.protectedIn (e : KvEntry) (c : KvCtx) (i : Nat) : Bool :=
  decide (i + 1 = c.count) || decide (e.base < 4) || decide (c.nextPos ≤ e.base + e.fill - 1 + c.window)

/-- Whether score `a` ranks below `b` (R156). -/
def scoreBelow (a b : Nat) : Bool :=
  if (ofFp32 a).isNan then !(ofFp32 b).isNan else !(ofFp32 b).isNan && Num.lt (ofFp32 a) (ofFp32 b)

/-- The entry evict_one removes: the first of lowest score (R156). -/
def evictPick (c : KvCtx) (es : List KvEntry) : Option (KvEntry × Nat) :=
  es.zipIdx.foldl (fun best p =>
    if p.1.protectedIn c p.2 then best
    else match best with
      | none => some p
      | some b => if scoreBelow p.1.score b.1.score then some p else best) none

/-- KV_EVICT_ONE: remove the unprotected block of lowest score, compaction before COUNT (R154, R156). -/
def KvAcc.evictOne (a : KvAcc) (w : Who) (addr : Nat) (c : KvCtx) : Option Nat × KvAcc :=
  let p := a.entries w c
  match evictPick c p.1 with
  | none => (none, p.2)
  | some b =>
    let later := p.1.drop (b.2 + 1)
    let a1 := if later.isEmpty then p.2
      else p.2.write w (c.list + 16 * b.2) (16 * later.length) (packElems 128 (later.map KvEntry.toNat))
    let a2 := a1.setCount w addr (c.count - 1)
    (some b.1.addr, ⟨a2.bad, a2.die.count Reg.WHL_EVICTIONS 1⟩)

/-- Write one token's K and V into a block slot (R150). -/
def KvAcc.token (a : KvAcc) (w : Who) (c : KvCtx) (addr slot : Nat) (k v : List Nat) : KvAcc :=
  let d := c.dim * 16
  let sz := kvSize c.fmt
  let wr := fun (acc : KvAcc) (base : Nat) (vals : List Nat) =>
    (List.range c.kvh).foldl (fun b g =>
      b.write w (addr + base + (16 * g + slot) * d * sz) (d * sz)
        (packElems (fmtBits c.fmt) ((vals.drop (g * d)).take d))) acc
  wr (wr a 0 k) (c.kvh * 16 * d * sz) v

/-- How appending one column went. -/
inductive Appended where
  | stored
  | refused
  | failed
  deriving DecidableEq, Repr

/-- A block for a new entry, COUNT once the eviction it took has committed, and the pool's HEAD after its pop. -/
structure NewBlock where
  addr : Nat
  count : Nat
  head : Option Nat
  deriving DecidableEq, Repr

/-- Refuse a column (R153). -/
def KvAcc.refuse (a : KvAcc) (w : Who) (addr queue : Nat) : KvAcc :=
  let p := a.read w (addr + 31) 1
  let b := p.2.write w (addr + 31) 1 (if p.1 % 2 = 1 then p.1 else p.1 + 1)
  ⟨b.bad, (b.die.count Reg.WHL_REFUSED 1).wheelErr queue Bit.WHL_ERR_REFUSED⟩

/-- Store the token: the block's bytes, the list entry, then the context's NEXT_POS and COUNT (R154). -/
def KvAcc.store (a : KvAcc) (w : Who) (ctx : Nat) (c : KvCtx) (e : KvEntry) (i : Nat) (k v : List Nat) : KvAcc :=
  let a1 := a.token w c e.addr e.fill k v
  let a2 := a1.write w (c.list + 16 * i) 16 ({ e with fill := e.fill + 1 }).toNat
  let a3 := (a2.write w (ctx + 16) 4 ((c.nextPos + 1) % 2 ^ 32)).setCount w ctx (max c.count (i + 1))
  ⟨a3.bad, a3.die.count Reg.WHL_APPENDS 1⟩

/-- A block for a new entry: from the pool, evicting first at BUDGET and when the pool is empty (R153). -/
def KvAcc.newBlock (a : KvAcc) (w : Who) (ctx : Nat) (c : KvCtx) : Option NewBlock × KvAcc :=
  let bytes := kvBlockBytes c.kvh (c.dim * 16) c.fmt
  let fromPool := fun (b : KvAcc) (c1 : KvCtx) =>
    let p := b.pop w c1.pool
    match p.1 with
    | some x => (some (⟨x.1, c1.count, some x.2⟩ : NewBlock), p.2)
    | none =>
      let q := p.2.evictOne w ctx c1
      (q.1.map fun x => ⟨x, c1.count - 1, none⟩, q.2)
  if c.count = c.budget then
    let q := a.evictOne w ctx c
    match q.1 with
    | none => (none, q.2)
    | some x => fromPool (q.2.push w c.pool x bytes) { c with count := c.count - 1 }
  else fromPool a c

/-- append of R153 for one column. The pop's update of the pool comes last (R154). -/
def KvAcc.append (a : KvAcc) (w : Who) (ctx queue : Nat) (k v : List Nat) : Appended × KvAcc :=
  let p := a.ctx w ctx
  let c := p.1
  let es := p.2.entries w c
  let last := es.1.getLast?
  let full := match last with
    | none => true
    | some e => decide (16 ≤ e.fill)
  if es.2.bad then (.failed, es.2)
  else if full then
    let b := es.2.newBlock w ctx c
    match b.1 with
    | none => (.refused, b.2.refuse w ctx queue)
    | some x =>
      let s := b.2.store w ctx { c with count := x.count } ⟨x.addr, 0, c.nextPos, 0⟩ x.count k v
      (.stored, match x.head with
        | none => s
        | some h => s.write w (c.pool + 12) 4 h)
  else
    match last with
    | none => (.failed, es.2)
    | some e => (.stored, es.2.store w ctx c e (c.count - 1) k v)

/-- Addresses CTX holds, `n` bytes an entry, each with whether its row was bad. -/
def ctxList (n cols : Nat) (us : List UnitRd) : List (Nat × Bool) :=
  (List.range cols).map fun i =>
    let u := us.getD (i * n / 512) ⟨0, false, false⟩
    (bytesAt u.data (i * n % 512) 8, u.bad)

/-- Check every context a descriptor names: whether all readable ones are legal (R153). -/
def KvAcc.checkAll (a : KvAcc) (w : Who) (kvh d fmt : Nat) : List (Nat × Bool) → Bool × KvAcc
  | [] => (true, a)
  | c :: cs =>
    let p := (⟨false, a.die⟩ : KvAcc).ctx w c.1
    let ok := p.2.bad || c.2 || p.1.legal kvh d fmt
    let q := (⟨a.bad || p.2.bad || c.2, p.2.die⟩ : KvAcc).checkAll w kvh d fmt cs
    (ok && q.1, q.2)

/-- cols of W.KVAPPEND and W.KVEVICT. -/
def kvCols (x : DescBits) : Nat := pF x 9 0
/-- kvh of W.KVAPPEND and W.KVEVICT. -/
def kvHeads (x : DescBits) : Nat := pF x 16 10
/-- d of W.KVAPPEND and W.KVEVICT. -/
def kvDim (x : DescBits) : Nat := pF x 25 17
/-- kv_fmt of W.KVAPPEND and W.KVEVICT. -/
def kvFmt (x : DescBits) : Nat := pF x 29 26

/-- kvh, d and kv_fmt are legal. -/
def kvShape (kvh d fmt : Nat) : Bool :=
  decide (1 ≤ kvh) && decide (kvh ≤ 64) && d % 16 == 0 && decide (16 ≤ d) && decide (d ≤ 256) && isKvFmt fmt

/-- Table 7.5 for W.KVAPPEND. -/
def appendLegal (e : Entry) (_ : Die) : Bool :=
  let x := e.desc
  let f := (streamOf x 0).fmt
  let rows := kvHeads x * kvDim x * rowsPerLine (kvCols x) f
  decide (1 ≤ kvCols x) && decide (kvCols x ≤ 512) && kvShape (kvHeads x) (kvDim x) (kvFmt x) &&
    (f == Fmt.FP32 || f == Fmt.BF16 || f == Fmt.FP16) && (streamOf x 1).fmt == f &&
    unitCount x (streamOf x 0) == rows && unitCount x (streamOf x 1) == rows &&
    unitCount x (streamOf x 2) == ceilDiv (kvCols x * 8) 512

/-- k / K_SCALE or v / V_SCALE, rounded by R29 or R30, with the FLAGS bits it sets. -/
def kvStore (fin fout bits scale : Nat) : Nat × Nat :=
  let v := decodeNum fin bits
  let q := match v with
    | .fin s m e => (match Num.quo (.fin false m e) (ofFp32 scale) with
      | .fin _ a b => Num.fin s a b
      | y => y)
    | y => y
  let r := encodeNum fout q
  (r.1, convBits r.2)

/-- Column `m` of lines, as KV elements under a context's scale. -/
def kvColumn (fin fout scale : Nat) (ls : List GLine) (m : Nat) : List (Nat × Nat) :=
  ls.map fun l => kvStore fin fout (l.vals.getD m 0) scale

/-- What the columns done so far gave: whether one met a fault, columns refused, FLAGS bits, and the first status. -/
structure AppendSum where
  refused : Nat
  flags : Nat
  status : Nat
  deriving DecidableEq, Repr

/-- Take in one column: the status is that of the first that has one (R165), and only a stored column's conversions set
flags (R153). -/
def AppendSum.add (s : AppendSum) (how : Appended) (bad : Bool) (flags : Nat) : AppendSum :=
  { refused := if how = .refused then s.refused + 1 else s.refused
    flags := if how = .stored then s.flags ||| flags else s.flags
    status := firstOf [s.status, if bad then stDataFault else stOk, if how = .refused then stRefused else stOk] }

/-- Append the columns in order. -/
def KvAcc.appendAll (a : KvAcc) (w : Who) (queue fin : Nat) (ks vs : List GLine) :
    List ((Nat × Bool) × Nat) → AppendSum → KvAcc × AppendSum
  | [], s => (a, s)
  | c :: cs, s =>
    if c.1.2 then (⟨true, a.die⟩ : KvAcc).appendAll w queue fin ks vs cs (s.add .failed true 0)
    else
      let x := (a.ctx w c.1.1).1
      let k := kvColumn fin x.fmt x.kScale ks c.2
      let v := kvColumn fin x.fmt x.vScale vs c.2
      let r := (⟨false, a.die⟩ : KvAcc).append w c.1.1 queue (k.map (·.1)) (v.map (·.1))
      (⟨a.bad || r.2.bad, r.2.die⟩ : KvAcc).appendAll w queue fin ks vs cs
        (s.add r.1 r.2.bad ((k ++ v).foldl (fun g p => g ||| p.2) 0))

/-- Finish a KV descriptor, or leave it started with the status of the columns it has done (R165). -/
def Die.kvFinish (d : Die) (e : Entry) (run : Run) (st fl r0 : Nat) : Die :=
  match run.stop with
  | none => d.finish e.slot st (fl ||| offFlag st) r0 0 0
  | some _ => d.modEntry e.slot fun o => { o with status := st, flags := o.flags ||| fl, result0 := r0 }

/-- Record the contexts a started descriptor names (R163). -/
def Die.setCtxs (d : Die) (slot : Nat) (cs : List Nat) : Die := d.modEntry slot fun o => { o with ctxs := cs }

/-- W.KVAPPEND after its checks. -/
def appendBody (run : Run) (e : Entry) (d : Die) : Die :=
  let x := e.desc
  let w := e.who 4
  let pc := d.readStream e 5 (streamOf x 2)
  let cs := ctxList 8 (kvCols x) pc.1
  let chk := (⟨false, pc.2.setCtxs e.slot (cs.map (·.1))⟩ : KvAcc).checkAll w (kvHeads x) (kvDim x) (kvFmt x) cs
  if !chk.1 then (chk.2.die.wheelErr e.queue Bit.WHL_ERR_CTX).reject e.slot stIllegal
  else
    let f := (streamOf x 0).fmt
    let n := kvHeads x * kvDim x
    let lines := fun (us : List UnitRd) => (runs (rowsPerLine (kvCols x) f) n us).map (rowsLine f (kvCols x))
    let k := chk.2.die.readStream e 5 (streamOf x 0)
    let v := k.2.readStream e 5 (streamOf x 1)
    let bad := (k.1 ++ v.1).any (·.bad)
    let todo := match run.stop with
      | none => cs.zipIdx
      | some m => cs.zipIdx.take m
    let before := firstOf [firstFault pc.1, if chk.2.bad then stDataFault else stOk, firstFault (k.1 ++ v.1)]
    let r := (⟨chk.2.bad, v.2⟩ : KvAcc).appendAll w e.queue f (lines k.1) (lines v.1) todo ⟨0, 0, before⟩
    (r.1.die.wheelErrIf (r.1.bad || bad) e.queue Bit.WHL_ERR_DATA).kvFinish e run r.2.status r.2.flags r.2.refused

/-- W_KVAPPEND: a W.KVAPPEND appends one token per column to its KV contexts. -/
def Die.wKvappend (d : Die) (slot : BitVec 12) (run : Run) : Die :=
  d.runOp 0x22 slot.toNat run freeStart appendLegal (appendBody run)

/-- Table 7.5 for W.KVEVICT. -/
def evictLegal (e : Entry) (_ : Die) : Bool :=
  let x := e.desc
  decide (1 ≤ kvCols x) && decide (kvCols x ≤ 64) && kvShape (kvHeads x) (kvDim x) (kvFmt x) &&
    unitCount x (streamOf x 0) == ceilDiv (kvCols x * 8) 512

/-- Evict and push until COUNT is at most `target` or nothing can be evicted (R157). -/
def KvAcc.evictTo (a : KvAcc) (w : Who) (ctx target : Nat) : Nat → KvAcc
  | 0 => a
  | fuel + 1 =>
    let p := a.ctx w ctx
    if p.2.bad || decide (p.1.count ≤ target) then p.2
    else
      let q := p.2.evictOne w ctx p.1
      match q.1 with
      | none => q.2
      | some x => (q.2.push w p.1.pool x (kvBlockBytes p.1.kvh (p.1.dim * 16) p.1.fmt)).evictTo w ctx target fuel

/-- W.KVEVICT after its checks. -/
def evictBody (run : Run) (e : Entry) (d : Die) : Die :=
  let x := e.desc
  let w := e.who 4
  let pc := d.readStream e 5 (streamOf x 0)
  let cs := ctxList 8 (kvCols x) pc.1
  let chk := (⟨false, pc.2.setCtxs e.slot (cs.map (·.1))⟩ : KvAcc).checkAll w (kvHeads x) (kvDim x) (kvFmt x) cs
  if !chk.1 then (chk.2.die.wheelErr e.queue Bit.WHL_ERR_CTX).reject e.slot stIllegal
  else
    let todo := match run.stop with
      | none => cs
      | some m => cs.take m
    let r := todo.foldl (fun (a : KvAcc) c =>
      if c.2 then ⟨true, a.die⟩
      else
        let q := (⟨false, a.die⟩ : KvAcc).evictTo w c.1 (pF x 45 30) 65536
        ⟨a.bad || q.bad, q.die⟩) chk.2
    let st := firstOf [firstFault pc.1, if r.bad then stDataFault else stOk]
    (r.die.wheelErrIf r.bad e.queue Bit.WHL_ERR_DATA).kvFinish e run st 0 0

/-- W_KVEVICT: a W.KVEVICT evicts blocks of each context down to target. -/
def Die.wKvevict (d : Die) (slot : BitVec 12) (run : Run) : Die :=
  d.runOp 0x23 slot.toNat run freeStart evictLegal (evictBody run)

/-! ### W.ATTN (R158 to R164) -/

/-- cols of W.ATTN. -/
def atCols (x : DescBits) : Nat := pF x 6 0
/-- q_heads. -/
def atHeads (x : DescBits) : Nat := pF x 14 7
/-- kvh of W.ATTN. -/
def atKvh (x : DescBits) : Nat := pF x 21 15
/-- d of W.ATTN. -/
def atD (x : DescBits) : Nat := pF x 30 22
/-- kv_fmt of W.ATTN. -/
def atKv (x : DescBits) : Nat := pF x 34 31
/-- mask of W.ATTN: WINDOW when true. -/
def atWindowed (x : DescBits) : Bool := pB x 35
/-- bias. -/
def atBias (x : DescBits) : Bool := pB x 36
/-- score. -/
def atScore (x : DescBits) : Bool := pB x 37
/-- scale. -/
def atScale (x : DescBits) : Nat := pF x 95 64
/-- window. -/
def atWindow (x : DescBits) : Nat := pF x 119 96
/-- bias_addr. -/
def atBiasAddr (x : DescBits) : Nat := pF x 175 128

/-- Table 7.6 and the limits of R158 that need no context. -/
def attnLegal (e : Entry) (_ : Die) : Bool :=
  let x := e.desc
  let q := (streamOf x 0).fmt
  let o := (streamOf x 2).fmt
  let lines := atHeads x * atD x
  decide (1 ≤ atCols x) && decide (atCols x ≤ 64) && decide (1 ≤ atHeads x) && decide (atHeads x ≤ 128) &&
    kvShape (atKvh x) (atD x) (atKv x) && atHeads x % atKvh x == 0 &&
    (q == Fmt.E4M3 || q == Fmt.E5M2 || q == Fmt.FP16 || q == Fmt.BF16) &&
    (o == Fmt.FP32 || o == Fmt.BF16 || o == Fmt.FP16) && positiveF (atScale x) &&
    (!atWindowed x || atWindow x != 0) && (!atBias x || atBiasAddr x % 128 == 0) &&
    unitCount x (streamOf x 0) == lines * rowsPerLine (atCols x) q &&
    unitCount x (streamOf x 1) == ceilDiv (atCols x * 16) 512 &&
    unitCount x (streamOf x 2) == lines * rowsPerLine (atCols x) o &&
    decide (atCols x * lines * fmtSize q ≤ 327680) && decide (atCols x * lines ≤ 262144)

/-- A query column: context address, position, whether its CTX row was bad. -/
structure AtCol where
  ctx : Nat
  pos : Nat
  /-- Bytes 12 to 15 of the entry, which are zero (Table 7.6). -/
  rest : Nat
  bad : Bool
  col : Nat
  deriving DecidableEq, Repr

/-- The columns CTX names. -/
def atColumns (cols : Nat) (us : List UnitRd) : List AtCol :=
  (List.range cols).map fun i =>
    let u := us.getD (i * 16 / 512) ⟨0, false, false⟩
    ⟨bytesAt u.data (i * 16 % 512) 8, bytesAt u.data (i * 16 % 512 + 8) 4, bytesAt u.data (i * 16 % 512 + 12) 4, u.bad, i⟩

/-- bucket of R159. -/
def biasBucket (delta : Nat) : Nat :=
  if delta < 16 then delta
  else
    let e := log2 delta
    min 63 (16 + 4 * (e - 4) + (delta >>> (e - 2)) % 4)

/-- Whether a key position is allowed for a query position (R159). -/
def keyAllowed (x : DescBits) (c : KvCtx) (bitmap qp kp : Nat) : Bool :=
  (decide (kp < c.pfx) || (decide (kp ≤ qp) && (!atWindowed x || decide (qp < kp + atWindow x)))) &&
    (c.flags / 2 % 2 == 0 || decide (c.sparseBits ≤ kp / 16) || bitmap.testBit (kp / 16))

/-- One key of a head as W.ATTN sees it: score, value vector, block index, and E's term of R164. -/
structure AtKey where
  score : Num
  vals : List Num
  block : Nat
  err : Num
  deriving DecidableEq, Repr

/-- Elements `o` to `o + n − 1` of a KV block. -/
def kvElems (fmt data o n : Nat) : List Num := (List.range n).map fun i => decodeNum fmt (elemAt fmt data (o + i))

/-- The allowed keys of one column and head over the candidate blocks (R159, R161). -/
def atKeys (x : DescBits) (c : KvCtx) (bitmap bias : Nat) (blocks : List (KvEntry × Nat × Nat)) (q : List Num) (h qp : Nat) :
    List AtKey :=
  let d := atD x
  let g := h * atKvh x / atHeads x
  let sk := Num.mul (ofFp32 (atScale x)) (ofFp32 c.kScale)
  blocks.flatMap fun b =>
    ((List.range b.1.fill).filter fun t => keyAllowed x c bitmap qp (b.1.base + t)).map fun t =>
      let ks := kvElems c.fmt b.2.1 ((16 * g + t) * d) d
      let prods := (q.zip ks).map fun p => Num.mul p.1 p.2
      let kp := b.1.base + t
      let bv := if atBias x then
          decodeNum Fmt.FP16 (fld bias (16 * (64 * h + biasBucket (qp - kp + (kp - qp))) + 15)
            (16 * (64 * h + biasBucket (qp - kp + (kp - qp)))))
        else Num.zero
      { score := Num.add (Num.mul sk (sumExact prods)) bv
        vals := kvElems c.fmt b.2.1 (c.kvh * 16 * d + (16 * g + t) * d) d
        block := b.2.2
        err := Num.add (Num.scale2 (Num.mul (Num.mul (.fin false (d + 2) 0) sk) (sumExact (prods.map Num.abs))) (-22))
          (Num.scale2 bv.abs (-24)) }

/-- The result of one column and head: `d` output values and the mass of each candidate block. -/
structure AtHead where
  outs : List Num
  mass : List (Nat × Num)
  deriving DecidableEq, Repr

/-- The partial of one share for one column and head: the maximum m, the sum l and the vector o, and the keys' weights
against m (R161). -/
structure AtPart where
  m : Num
  l : Num
  o : List Num
  ws : List (Nat × Num)
  deriving DecidableEq, Repr

/-- e^x of a difference of scores, 0 for −∞. -/
def weightOfScore (s m : Num) : Num := Num.exp (Num.cut (Num.sub s m))

/-- A term of o: an infinite value under a weight below FP32's range is infinity times zero (R40). -/
def atTerm (w v : Num) : Num := if v.isFinite then Num.cut (Num.mul w v) else Num.mul (rnd32 w) v

/-- The partial of a share's keys; a share with none has m = −∞ and contributes nothing (R161). -/
def atPart (dim : Nat) (keys : List AtKey) : AtPart :=
  let m := keys.foldl (fun a k => Num.max a k.score) (.inf true)
  let ws := keys.map fun k => weightOfScore k.score m
  ⟨m, Num.cut (sumExact ws),
    (List.range dim).map fun i => sumExact ((ws.zip keys).map fun p => atTerm p.1 (p.2.vals.getD i Num.zero)),
    (ws.zip keys).map fun p => (p.2.block, p.1)⟩

/-- Attention of one column and head: the merge of the shares' partials in share order (R161), each output free within the
bound of R164. A score that leaves no finite maximum gives NaN throughout, and a value that is not finite gives the NaN or
the infinity of R40. DESIGN CHOICE: a share whose keys all score −∞ contributes nothing (log entry 89). -/
def atHead (x : DescBits) (c : KvCtx) (shares : List (List AtKey)) (free : Nat → Nat) : AtHead :=
  let keys := shares.flatten
  let parts := (shares.filter fun ks => !ks.isEmpty).map (atPart (atD x))
  if keys.isEmpty then ⟨List.replicate (atD x) Num.zero, []⟩
  else
    let mx := parts.foldl (fun a p => Num.max a p.m) (.inf true)
    if !mx.isFinite then ⟨List.replicate (atD x) .nan, keys.map fun k => (k.block, .nan)⟩
    else
      let scaled := (parts.filter fun p => p.m.isFinite).map fun p => (weightOfScore p.m mx, p)
      let tot := Num.cut (sumExact (scaled.map fun p => Num.cut (Num.mul p.2.l p.1)))
      let big := keys.foldl (fun a k => Num.max a k.err) Num.zero
      let tol := Num.add (.fin false 1 (-20)) (Num.quo (Num.mul (.fin false 201 0) big) (.fin false 100 0))
      let vs := ofFp32 c.vScale
      let outs := (List.range (atD x)).map fun i =>
        match sumExact (scaled.map fun p => atTerm p.1 (p.2.o.getD i Num.zero)) with
        | .fin s m e =>
          let ref := Num.cut (Num.mul vs (Num.quo (.fin s m e) tot))
          let top := keys.foldl (fun a k => Num.max a (k.vals.getD i Num.zero).abs) Num.zero
          ofFp32 (Num.choose (free i) ref (Num.mul tol (Num.mul vs top)))
        | y => y
      let mass := scaled.flatMap fun p => p.2.ws.map fun w => (w.1, Num.quo (Num.mul w.2 p.1) tot)
      ⟨outs, (mass.map (·.1)).eraseDups.map fun b => (b, ofFp32 (Num.choose (free (atD x + b))
        (sumExact ((mass.filter fun w => w.1 == b).map (·.2))) tol))⟩

/-- What the processing of one context gave. -/
structure AtCtx where
  /-- For each of its columns: column, then head by head the outputs. -/
  cols : List (Nat × List (List Num))
  bad : Bool
  deriving DecidableEq, Repr

/-- Read the candidate blocks, one by one (R160). -/
def KvAcc.blocks (a : KvAcc) (w : Who) (bytes : Nat) : List (KvEntry × Nat) → List (KvEntry × Nat × Nat) × KvAcc
  | [] => ([], a)
  | b :: bs =>
    let p := a.read w b.1.addr bytes
    let q := (⟨p.2.bad, p.2.die.count Reg.WHL_KV_BLOCKS 1⟩ : KvAcc).blocks w bytes bs
    ((b.1, p.1, b.2) :: q.1, q.2)

/-- New score of a block (R162): decayed, plus its mean mass, rounded once. -/
def newScore (c : KvCtx) (e : KvEntry) (mass : Num) : Nat :=
  toFp32 (Num.add (Num.mul (ofFp32 e.score) (ofFp32 c.decay)) mass)

/-- The candidates of share `s` among `nb` (R160). -/
def shareOfCands {α : Type} (cand : List α) (s : Nat) : List α :=
  (cand.drop (s * cand.length / 16)).take ((s + 1) * cand.length / 16 - s * cand.length / 16)

/-- SCORE_UPDATE: every live block's score decays and gains its mass (R162). -/
def KvAcc.updateScores (a : KvAcc) (w : Who) (c : KvCtx) (es : List KvEntry) (mass : Nat → Num) : KvAcc :=
  es.zipIdx.foldl (fun acc p => acc.write w (c.list + 16 * p.2 + 12) 4 (newScore c p.1 (mass p.2))) a

/-- One context of a W.ATTN: its columns, queries by column, and the bias table. A block's mass is the mean over columns and
heads; each head's share of it is free within the bound R164 gives an attention output of values 0 and 1 (DEDUCED, log entry
65). -/
def KvAcc.attend (a : KvAcc) (w : Who) (x : DescBits) (ctx : Nat) (cols : List AtCol) (q : Nat → Nat → List Num) (bias : Nat)
    (struck : Bool) : AtCtx × KvAcc :=
  let p := (⟨false, a.die⟩ : KvAcc).ctx w ctx
  let c := p.1
  let es := p.2.entries w c
  let sp := if c.flags / 2 % 2 = 1 then es.2.read w c.sparse (ceilDiv c.sparseBits 8) else (0, es.2)
  let cand := es.1.zipIdx.filter fun b =>
    (List.range b.1.fill).any fun t => cols.any fun k => keyAllowed x c sp.1 k.pos (b.1.base + t)
  let bl := sp.2.blocks w (kvBlockBytes c.kvh (atD x) c.fmt) cand
  let bad := bl.2.bad || cols.any (·.bad) || struck
  let heads := cols.map fun k => (k.col, (List.range (atHeads x)).map fun h =>
    atHead x c ((List.range 16).map fun s => atKeys x c sp.1 bias (shareOfCands bl.1 s) (q k.col h) h k.pos)
      (Config.approx 0x21 (x.toNat :: ctx :: k.pos :: h :: (bl.1.map fun b => b.2.1) ++ (q k.col h).map toFp32)))
  let total := Num.fin false (cols.length * atHeads x) 0
  let mass := fun (i : Nat) => Num.quo (sumExact (heads.flatMap fun k => k.2.flatMap fun h =>
    (h.mass.filter fun m => m.1 == i).map (·.2))) total
  let a1 := if atScore x && !bad then bl.2.updateScores w c es.1 mass else bl.2
  (⟨heads.map fun k => (k.1, k.2.map (·.outs)), bad⟩, ⟨a.bad || bad, a1.die⟩)

/-- Process the contexts in order of first appearance. -/
def KvAcc.attendAll (a : KvAcc) (w : Who) (x : DescBits) (cols : List AtCol) (q : Nat → Nat → List Num) (bias : Nat)
    (struck : Nat → Bool) : List Nat → List AtCtx × KvAcc
  | [] => ([], a)
  | ctx :: rest =>
    let mine := cols.filter fun k => k.ctx == ctx
    let p := a.attend w x ctx mine q bias (mine.any fun k => struck k.col)
    let r := p.2.attendAll w x cols q bias struck rest
    (p.1 :: r.1, r.2)

/-- W.ATTN after its checks. -/
def attnBody (faults : List WheelUpset) (run : Run) (e : Entry) (d : Die) : Die :=
  let x := e.desc
  let w := e.who 4
  let pc := d.readStream e 5 (streamOf x 1)
  let cols := atColumns (atCols x) pc.1
  let ctxs := (cols.map (·.ctx)).eraseDups
  let chk := (⟨false, pc.2.setCtxs e.slot ctxs⟩ : KvAcc).checkAll w (atKvh x) (atD x) (atKv x) (cols.map fun c => (c.ctx, c.bad))
  let fits := ctxs.all fun c => decide ((cols.filter fun k => k.ctx == c).length * atHeads x * (atD x + 2) * 4 ≤ 131072)
  if !chk.1 then (chk.2.die.wheelErr e.queue Bit.WHL_ERR_CTX).reject e.slot stIllegal
  else if !fits || cols.any (fun c => !c.bad && c.rest != 0) then chk.2.die.reject e.slot stIllegal
  else
    let qf := (streamOf x 0).fmt
    let of := (streamOf x 2).fmt
    let n := atHeads x * atD x
    let pq := chk.2.die.readStream e 5 (streamOf x 0)
    let ql := (runs (rowsPerLine (atCols x) qf) n pq.1).map (rowsLine qf (atCols x))
    let q := fun (col h : Nat) =>
      ((ql.drop (h * atD x)).take (atD x)).map fun l => decodeNum qf (l.vals.getD col 0)
    let bt : Nat × KvAcc := if atBias x then (⟨false, pq.2⟩ : KvAcc).read w (atBiasAddr x) (atHeads x * 128) else (0, ⟨false, pq.2⟩)
    let qbad := pq.1.any (·.bad)
    let struck := fun (col : Nat) => qbad || bt.2.bad || faults.any fun f => (wheelReaches f).map (· / 16) == some col
    let r := bt.2.attendAll w x cols q bt.1 struck ctxs
    let bad := r.1.any (·.bad)
    let all := r.1.flatMap (·.cols)
    let lines := (List.range n).map fun j =>
      let cells := (List.range (atCols x)).map fun m =>
        let v := match all.find? fun k => k.1 == m with
          | none => Num.zero
          | some k => (k.2.getD (j / atD x) []).getD (j % atD x) Num.zero
        (encodeNum of v, v.isNan)
      (cells, (⟨cells.map (·.1.1), of, bad⟩ : OutLine))
    let key := r.2.die.freeCtr
    let fl := (lines.flatMap (·.1)).foldl (fun g c => g ||| ((if c.2 then flNan else 0) ||| convBits c.1.2)) 0
    let d1 := faults.foldl (fun acc f => acc.wheelUpset ((wheelReaches f).getD 0 % 16) e.queue f)
      (r.2.die.wheelErrIf bad e.queue Bit.WHL_ERR_DATA)
    let d2 := { d1 with freeCtr := key + 1, wheel := { d1.wheel with afterBarrier := false } }
    let st := firstOf [firstFault pc.1, if chk.2.bad then stDataFault else stOk, firstFault pq.1, if bad then stDataFault else stOk]
    d2.deliver e run ⟨linesOut key (unitsOf x (streamOf x 2)) (lines.map (·.2)), 5, st, fl, 0, 0, 0⟩

/-- W_ATTN: a W.ATTN checks its contexts and computes split attention over candidate blocks. -/
def Die.wAttn (d : Die) (slot : BitVec 12) (run : Run) (faults : List WheelUpset) : Die :=
  d.runOp 0x21 slot.toNat run freeStart attnLegal (attnBody faults run)

/-! ### Contexts in use (R163) -/

/-- Context addresses a KV descriptor names: as read at its start, or as its CTX stream holds them now. -/
def Die.namedCtxs (d : Die) (e : Entry) : List Nat :=
  let op := opcodeOf e.desc
  if e.began then e.ctxs
  else if op = 0x21 ∨ op = 0x22 ∨ op = 0x23 ∨ op = 0x82 ∨ op = 0x83 then
    let s := streamOf e.desc (if op = 0x21 then 1 else if op = 0x22 then 2 else 0)
    let n := if op = 0x21 then 16 else 8
    let cols := if op = 0x21 then atCols e.desc else if op = 0x82 ∨ op = 0x83 then pF e.desc 6 0 else kvCols e.desc
    let us := (unitsOf e.desc s).map fun r => (⟨(SMap.get (fun _ => 0#4096) d.shelf.rows r.toNat).toNat, false, false⟩ : UnitRd)
    (ctxList n cols us).map (·.1)
  else []

/-- Opcodes R163 treats as writers of their contexts; T.PARK and T.RESTORE count as W.KVAPPEND does (R287). -/
def isKvWriter (op : Nat) : Bool := op == 0x22 || op == 0x23 || op == 0x82 || op == 0x83

/-- Whether an older W.ATTN or KV writer holds a context this one names. -/
def Die.ctxHeld (d : Die) (e : Entry) : Bool :=
  let op := opcodeOf e.desc
  if op == 0x21 || isKvWriter op then
    let mine := d.namedCtxs e
    d.sb.any fun o =>
      let p := opcodeOf o.desc
      decide (o.order < e.order) && ((op == 0x21 && isKvWriter p) || (op != 0x21 && p == 0x21)) &&
        (d.namedCtxs o).any fun a => mine.contains a
  else false

/-! ### Spares and reset (R167, R168) -/

/-- The shares a physical slice runs, the highest first. -/
def Die.sharesRunBy (d : Die) (p : Nat) : List Nat := ((List.range 16).filter fun s => d.physSlice s == p).reverse

/-- The slice that takes over share `s` of a failing slice when no spare is left: that of the next share another slice
runs (R167). -/
def Die.nextSlice (d : Die) (p s : Nat) : Nat :=
  (((List.range 16).map fun k => d.physSlice ((s + 1 + k) % 16)).find? (· != p)).getD p

/-- Name a slice for shares. -/
def Die.remap (d : Die) (ss : List Nat) (to_ : Die → Nat → Nat) : Die :=
  ss.foldl (fun acc s => acc.setRf (Reg.WHL_SHARE_MAP s) 4 0 (to_ acc s)) d

/-- WHEEL_SPARE_SWAP: at an idle point the spare slice takes over a failing slice's shares, or other slices run
them too. -/
def Die.wheelSpareSwap (d : Die) : Die :=
  match d.firstWanted 2 with
  | none => d
  | some p =>
    if !(d.inClass 101).isEmpty || d.prefetching then d
    else
      let spare := d.rf Reg.WHL_SPARE_STAT 4 0
      let ss := d.sharesRunBy p
      if ss.isEmpty then (d.setRf Reg.WHL_SPARE_STAT 4 0 (if spare = p then 0x1F else spare)).spareInService 2 p
      else if spare ≠ 0x1F then ((d.remap ss fun _ _ => spare).setRf Reg.WHL_SPARE_STAT 4 0 0x1F).spareInService 2 p
      else
        (((d.remap ss fun acc s => acc.nextSlice p s).setRf Reg.WHL_SPARE_STAT 5 5 1).err Reg.WHL_ERR
          Bit.WHL_ERR_SPARE_OUT).noSpare 2 p

/-- WHEEL_RESET: every executing Wheel descriptor ends with UNIT_RESET and the prefetch is discarded. -/
def Die.wheelReset (d : Die) : Die :=
  (d.dropPrefetch).resetUnit Reg.WHL_FENCE isWheel

end Sys2Proof.Machine
end

