-- ==== Sys2Proof/Machine/Tier.lean ====
section
/-! DEFINITION. The tier manager: page-table commands, frame pools, fills and migrations, residency, parking and
TIER_RESET (chapter 12, R269 to R293). -/

namespace Sys2Proof.Machine

/-! ### Frame pools (R276, R318) -/

/-- Pool number of a tier: LOCAL, HOST, FLASH. -/
def poolIdx (tier : Nat) : Option Nat :=
  match tier with
  | 2 => some 0
  | 3 => some 1
  | 5 => some 2
  | _ => none

/-- Whether a frame of a tier lies in its pool. -/
def Die.poolHas (d : Die) (tier frame : Nat) : Bool :=
  match poolIdx tier with
  | none => false
  | some p =>
    let first := (d.reg (Reg.TIR_POOL_FIRST p)).toNat
    decide (first ≤ frame) && decide (frame < first + d.rf (Reg.TIR_POOL_COUNT p) 25 0) &&
      !(tier == 2 && d.tier.retired.contains frame)

/-- Frames of a tier in use. -/
def Die.framesUsed (d : Die) (tier : Nat) : List Nat :=
  if tier = 2 then d.tier.usedLocal else if tier = 3 then d.tier.usedHost else if tier = 5 then d.tier.usedFlash else []

/-- Set the frames of a tier in use. -/
def Die.setFramesUsed (d : Die) (tier : Nat) (l : List Nat) : Die :=
  { d with tier :=
    if tier = 2 then { d.tier with usedLocal := l }
    else if tier = 3 then { d.tier with usedHost := l }
    else if tier = 5 then { d.tier with usedFlash := l } else d.tier }

/-- Whether a frame is free in its pool. -/
def Die.frameFree (d : Die) (tier frame : Nat) : Bool := d.poolHas tier frame && !(d.framesUsed tier).contains frame

/-- Free frames of a tier's pool. -/
def Die.freeFrames (d : Die) (tier : Nat) : List Nat :=
  match poolIdx tier with
  | none => []
  | some p =>
    ((List.range (d.rf (Reg.TIR_POOL_COUNT p) 25 0)).map (· + (d.reg (Reg.TIR_POOL_FIRST p)).toNat)).filter (d.frameFree tier)

/-- Advance the epochs of a LOCAL frame's sixteen 4 KiB pages (R318). -/
def Die.frameEpochs (d : Die) (frame : Nat) : Die :=
  (List.range 16).foldl (fun acc j =>
    let k := frame * 16 + j
    { acc with dmc := { acc.dmc with
      epochs := SMap.put (fun _ => 0) acc.dmc.epochs k ((SMap.get (fun _ => 0) acc.dmc.epochs k + 1) % 2 ^ 32) } }) d

/-- Take a free frame of a pool; which one is left open. A LOCAL frame leaves under new epochs (R276, R318). -/
def Die.claimFrame (d : Die) (tier : Nat) : Option (Nat × Die) :=
  let free := d.freeFrames tier
  match free[Config.pick d.freeCtr % free.length]? with
  | none => none
  | some f =>
    let d1 := { d.setFramesUsed tier (setInsert f (d.framesUsed tier)) with freeCtr := d.freeCtr + 1 }
    some (f, if tier = 2 then d1.frameEpochs f else d1)

/-- Return a frame to its pool when it lies in it (R276); a returned LOCAL frame loses the mark of a sealed model
(R383). -/
def Die.returnFrame (d : Die) (tier frame : Nat) : Die :=
  if d.poolHas tier frame then
    let d1 := d.setFramesUsed tier (setErase frame (d.framesUsed tier))
    if tier = 2 then { d1 with tier := { d1.tier with sealedFrames := setErase frame d1.tier.sealedFrames } } else d1
  else d

/-- Whether a read of a HOST frame is on its way, be it for a unit in confidential mode. -/
def Die.frameRead (d : Die) (frame : Nat) : Bool :=
  d.far.asked.any fun a => a.key / 1024 == frame || a.key / 1024 == rawKey 0 / 1024 + frame || a.key / 1024 == waitKey 0 / 1024 + frame

/-- A page leaves a frame: the frame returns to its pool once the reads issued to it have come back (R277). -/
def Die.leaveFrame (d : Die) (tier frame : Nat) : Die :=
  if tier = 3 ∧ d.frameRead frame = true then
    { d with tier := { d.tier with leaving := d.tier.leaving ++ [(tier, frame)] } }
  else d.returnFrame tier frame

/-- Return the frames whose last reads have come back (R277). -/
def Die.settleLeaving (d : Die) : Die :=
  let done := d.tier.leaving.filter fun x => !d.frameRead x.2
  done.foldl (fun acc x => acc.returnFrame x.1 x.2)
    { d with tier := { d.tier with leaving := d.tier.leaving.filter fun x => d.frameRead x.2 } }

/-- Trim a FLASH frame: its sixteen units read as zero (R288, R332). -/
def Die.trimFrame (d : Die) (frame : Nat) : Die :=
  { d with nand := { d.nand with
    units := d.nand.units.filter fun kv => decide (kv.1 / 16 ≠ frame)
    place := d.nand.place.filter fun kv => decide (kv.1 / 16 ≠ frame)
    journal := d.nand.journal ++ (List.range 16).map fun i => (16 * frame + i, 0) } }

/-! ### Residency (R278, R280, R281) -/

/-- RESIDENT of a group: its cached pages. -/
def Die.resident (d : Die) (g : Nat) : Nat :=
  (d.tier.pages.filter fun kv => pteCached kv.2 && pteGroup kv.2 == g).length

/-- Recency of a page: one more than the firing of its last access, 0 for none. -/
def Die.pageRecency (d : Die) (p : Nat) : Nat := SMap.get (fun _ => 0) d.tier.recency (d.ptPlace p)

/-- Whether a page is evictable (R280). -/
def Die.evictablePage (d : Die) (p : Nat) (e : BitVec 128) : Bool :=
  pteCached e && !ptePin e && !pteMoving e && decide (d.pageRecency p ≤ d.firing)

/-- The least recently used evictable page among those a test admits; ties take the lower number (R280). -/
def Die.lruPage (d : Die) (want : BitVec 128 → Bool) : Option Nat :=
  d.tier.pages.foldl (fun best kv =>
    if d.evictablePage kv.1 kv.2 && want kv.2 then
      match best with
      | none => some kv.1
      | some b => if d.pageRecency kv.1 < d.pageRecency b then some kv.1 else some b
    else best) none

/-- Switch a cached page back to its home and free its LOCAL frame (R278). -/
def Die.dropCopy (d : Die) (p : Nat) : Die :=
  let e := d.pte p
  let e1 := pteSet (pteSet (pteSet (pteSet (pteSet e 3 0 (pteHome e)) 95 64 (pteHomeFrame e)) 6 6 0) 19 16 0) 127 96 0
  (d.setPte p e1).returnFrame 2 (pteFrame e)

/-- CACHE_EVICT: an eviction, counted for the page's group (R280, R281). -/
def Die.evictPage (d : Die) (p : Nat) : Die :=
  (d.dropCopy p).count (Reg.TIR_RES_EVICT (pteGroup (d.pte p))) 1

/-- A LOCAL frame for a fill of a page in group `g`, by the first rule of R280 that applies. -/
def Die.fillFrame (d : Die) (g : Nat) : Option (Nat × Die) :=
  let limit := d.rf (Reg.TIR_RES_LIMIT g) 20 0
  if limit ≠ 0 ∧ limit ≤ d.resident g then
    match d.lruPage fun e => pteGroup e == g with
    | none => none
    | some p => (d.evictPage p).claimFrame 2
  else
    match d.claimFrame 2 with
    | some r => some r
    | none =>
      match d.lruPage fun _ => true with
      | none => none
      | some p => (d.evictPage p).claimFrame 2

/-! ### Moves (R277, R279) -/

/-- The move of a page under way. -/
def Die.moveOf (d : Die) (p : Nat) : Option Move := d.tier.moves.find? fun m => d.ptPlace m.page == d.ptPlace p

/-- Replace a page's move. -/
def Die.setMove (d : Die) (m : Move) : Die :=
  { d with tier := { d.tier with moves := d.tier.moves.map fun o => if o.page = m.page then m else o } }

/-- Whether a page may gain a cached copy (R278). -/
def cacheable (e : BitVec 128) : Bool := pteRo e && (pteTier e == 3 || pteTier e == 5)

/-- Begin a move: the page is MOVING until its switch. -/
def Die.startMove (d : Die) (m : Move) : Die :=
  let d1 := d.setPte m.page (pteSet (d.pte m.page) 15 15 1)
  { d1 with tier := { d1.tier with moves := d1.tier.moves ++ [m] } }

/-- A move of a page as its entry stands. -/
def Die.newMove (d : Die) (p : Nat) (k : MoveKind) (dst : Nat) (frame : Option Nat) (demand : Bool) (slots : List Nat) : Move :=
  { page := p, kind := k, srcTier := pteTier (d.pte p), srcFrame := pteFrame (d.pte p), dstTier := dst,
    dstFrame := frame.getD 0, hasFrame := frame.isSome, since := none, demand := demand, waiters := slots, units := [],
    badUnits := [] }

/-- Start a fill, counting a miss for its group, once for each descriptor (R278, R281). -/
def Die.startFill (d : Die) (p slot : Nat) (frame : Option Nat) (demand : Bool) : Die :=
  let d1 := d.startMove (d.newMove p .fill 2 frame demand [slot])
  if (d.entry slot).any fun e => e.pages.contains p then d1 else d1.count (Reg.TIR_RES_MISS (pteGroup (d.pte p))) 1

/-- Join a fill under way. -/
def Die.joinMove (d : Die) (m : Move) (slot : Nat) (demand : Bool) : Die :=
  d.setMove { m with
    waiters := if m.waiters.contains slot then m.waiters else m.waiters ++ [slot]
    demand := m.demand || demand }

/-- Note that a descriptor has been counted for a page (R281). -/
def Die.notePage (d : Die) (slot p : Nat) : Die :=
  d.modEntry slot fun e => { e with pages := if e.pages.contains p then e.pages else e.pages ++ [p] }

/-- T.* descriptors of Table 12.6. -/
def isTier (op : Nat) : Bool := op == 0x80 || op == 0x81 || op == 0x82 || op == 0x83

/-- Results a T.* descriptor gathers in its entry: RESULT0 and RESULT1, then a failure mark: 1 an error in what it copied
or asked for, 2 an access lost to a closed gate. T.PARK and T.RESTORE put their park ID first. -/
def tierResults (op : Nat) (aux : List Nat) : Nat × Nat × Nat :=
  match op, aux with
  | 0x82, id :: n :: bad => (id, n, bad.headD 0)
  | 0x83, _ :: n :: bad => (n, 0, bad.headD 0)
  | _, a :: b :: bad => (a, b, bad.headD 0)
  | _, _ => (0, 0, 0)

/-- Status of a failure mark (R64, R67, R283). -/
def tierStatus (mark : Nat) : Nat := if mark = 0 then stOk else if mark = 1 then stDataFault else stBankOff

/-- Finish every T.* descriptor that has started and waits for no move, and start the time of records made for
preemptions whose copies are done (R283 to R290). -/
def Die.tierSettle (d : Die) : Die :=
  let d1 := d.sb.foldl (fun acc e =>
    if isTier (opcodeOf e.desc) ∧ e.phase = .started ∧ !(acc.tier.moves.any fun m => m.waiters.contains e.slot) then
      let r := tierResults (opcodeOf e.desc) e.aux
      acc.finish e.slot (tierStatus r.2.2) (offFlag (tierStatus r.2.2)) r.1 r.2.1 0
    else acc) d
  d1.tier.parks.foldl (fun acc r =>
    if r.mgmt ∧ r.expires = none ∧ !(acc.tier.moves.any fun m => r.pages.contains m.page) then acc.parkDone r.id else acc) d1

/-- Put a failure mark on a T.* descriptor's results. -/
def markAux (mark : Nat) (aux : List Nat) : List Nat :=
  match aux with
  | a :: b :: bad => [a, b, max mark (bad.headD 0)]
  | _ => aux

/-- Whether a slot holds a T.* descriptor. -/
def Die.tierSlot (d : Die) (slot : Nat) : Bool := (d.entry slot).any fun e => isTier (opcodeOf e.desc)

/-- The copy of a parked page that waited for its page's migration begins, or is not needed (R277, R290). -/
def Die.parkOn (d : Die) (page : Nat) : Die :=
  match d.tier.parkNext.find? fun x => x.1 == page with
  | none => d
  | some x =>
    let d1 : Die := { d with tier := { d.tier with parkNext := d.tier.parkNext.erase x } }
    if pteParked (d.pte page) && pteTier (d.pte page) != x.2.1 then d1.startMove (d1.newMove page .park x.2.1 (some x.2.2) false [])
    else d1.returnFrame x.2.1 x.2.2

/-- The T.* descriptors that wait for a move take a failure mark, and POISON_OUT when its copy has poison. -/
def Die.markWaiters (d : Die) (m : Move) (mark : Nat) (poison : Bool) : Die :=
  m.waiters.foldl (fun acc s => if acc.tierSlot s then
    acc.modEntry s fun e => { e with
      aux := markAux mark e.aux
      flags := e.flags ||| (if poison then flPoisonOut else 0) } else acc) d

/-- End a move without its switch: the entry stays, the frames it reserved return, and every access waiting on it reads an
uncorrectable error (R279). -/
def Die.failMove (d : Die) (m : Move) (bit : Nat) : Die :=
  let d1 := d.setPte m.page (pteSet (d.pte m.page) 15 15 0)
  let d2 := if m.hasFrame then d1.returnFrame m.dstTier m.dstFrame else d1
  let asking := (d2.tier.demanded.filter fun x => x.1 == m.page).map (·.2)
  let hit := (m.waiters ++ asking).filter fun s => !d2.tierSlot s
  let d3 := { d2 with tier := { d2.tier with
    moves := d2.tier.moves.filter fun o => o.page != m.page
    demanded := d2.tier.demanded.filter fun x => x.1 != m.page
    fillFailed := d2.tier.fillFailed ++ hit.map fun s => (m.page, s) } }
  (((d3.markWaiters m 1 false).err Reg.TIR_ERR bit).parkOn m.page).tierSettle

/-- DEMAND_FILL: an access to a FLASH page starts a fill, or joins the one under way (R279). -/
def Die.demandFill (d : Die) (page : BitVec 32) : Die :=
  let p := page.toNat
  match d.tier.demanded.find? fun x => x.1 == p with
  | none => d
  | some x =>
    let take := fun (d0 : Die) => { d0 with tier := { d0.tier with demanded := d0.tier.demanded.filter fun y => y != x } }
    match d.moveOf p with
    | some m => if m.kind = .fill then (take (d.joinMove m x.2 true)).notePage x.2 p else d
    | none =>
      if !(cacheable (d.pte p) && pteTier (d.pte p) == 5) then take d
      else
        let r := d.fillFrame (pteGroup (d.pte p))
        let d1 := match r with
          | some q => q.2
          | none => d
        let d2 := d1.startFill p x.2 (r.map (·.1)) true
        let d3 := match r with
          | some _ => d2
          | none => match d2.moveOf p with
            | some m => d2.setMove { m with since := some d2.refclk }
            | none => d2
        ((take d3).notePage x.2 p).count Reg.TIR_DEMAND 1

/-- FILL_NO_FRAME: a fill that has found no LOCAL frame within 1 ms fails (R279). -/
def Die.fillNoFrame (d : Die) (page : BitVec 32) : Die :=
  match d.moveOf page.toNat with
  | none => d
  | some m =>
    match m.since with
    | none => d
    | some t =>
      if m.kind = .fill ∧ m.hasFrame = false ∧ t + msCycles 1 ≤ d.refclk ∧ (d.fillFrame (pteGroup (d.pte m.page))).isNone then
        d.failMove m Bit.TIR_ERR_NO_FRAME
      else d

/-- Who makes a move's accesses: a T.* descriptor that waits for it, else the die (R271, R510). -/
def Die.moveWho (d : Die) (m : Move) : Who :=
  match m.waiters.findSome? fun s => (d.entry s).filter fun e => isTier (opcodeOf e.desc) with
  | some e => e.who 4
  | none => Who.die

/-- Read a line of a move's source outside the Shelves. A NAND unit that could not be read delivers errors. -/
def Die.moveSrc (d : Die) (m : Move) (off : Nat) : UnitRd × Die :=
  match m.srcTier with
  | 2 => d.readFrame (d.moveWho m) (pteKey (d.pte m.page)) m.srcFrame off
  | 3 => d.readHost 0 (m.srcFrame * 1024 + off) (d.moveWho m)
  | 4 => if m.srcFrame / 2 ^ 29 = d.dieId then d.readFrame (d.moveWho m) (pteKey (d.pte m.page)) (m.srcFrame % 2 ^ 29) off
    else d.readFar 0 (peerKey m.srcFrame off) (pteKey (d.pte m.page)) (d.moveWho m)
  | 5 => (if m.badUnits.contains (off / 64) then ⟨0, true, false⟩ else d.flashLine m.srcFrame off, d)
  | _ => (⟨0, true, false⟩, d)

/-- Read several lines of a move's source. -/
def Die.moveSrcs (d : Die) (m : Move) : List Nat → List UnitRd × Die
  | [] => ([], d)
  | o :: os =>
    let p := d.moveSrc m o
    let q := p.2.moveSrcs m os
    (p.1 :: q.1, q.2)

/-- Row `i` of a move's source page in the Shelves as eight lines, once Table 3.3 passes (R271). -/
def Die.moveRow (d : Die) (m : Move) (i : Nat) : List UnitRd × Die :=
  let w := d.moveWho m
  let p : UnitRd × Die := match d.shelfPage w m.page false with
    | some f => (⟨0, true, f.1 == stBankOff⟩, d.shelfFault f.2 (m.srcFrame / 8) 4 (some (w.tenant, w.queue)))
    | none => d.readRow w (shelfRowOf m.srcFrame (8 * i)).1
  ((List.range 8).map fun j => { p.1 with data := fld p.1.data (512 * j + 511) (512 * j) }, p.2)

/-- Eight lines of a move's source. -/
def Die.moveEight (d : Die) (m : Move) (i : Nat) : List UnitRd × Die :=
  if m.srcTier = 1 then d.moveRow m i else d.moveSrcs m ((List.range 8).map (· + 8 * i))

/-- Write eight lines of a move's destination; a bad line is written poisoned. True when all landed. -/
def Die.moveDst (d : Die) (m : Move) (i : Nat) (us : List UnitRd) : Bool × Die :=
  let each := fun (f : Die → Nat → Line → Bool → Bool × Die) => us.zipIdx.foldl (fun (acc : Bool × Die) u =>
    let p := f acc.2 (8 * i + u.2) (BitVec.ofNat 512 u.1.data) u.1.bad
    (acc.1 && p.1, p.2)) (true, d)
  match m.dstTier with
  | 1 => d.writeRow (d.moveWho m) (shelfRowOf m.dstFrame (8 * i)).1 (BitVec.ofNat 4096 (concatUnits 64 us)) (us.any (·.bad))
  | 2 => each fun acc off v bad => acc.writeFrame (d.moveWho m) (pteKey (d.pte m.page)) m.dstFrame off v bad
  | 3 => each fun acc off v bad => acc.writeHost noSlot (m.dstFrame * 1024 + off) v bad
  | _ => (true, d)

/-- What a copy met: a bad line in its source, a write that was lost, an access lost to a closed gate. -/
structure Copied where
  bad : Bool
  lost : Bool
  off : Bool
  die : Die

/-- A copy that has met nothing. -/
def Copied.start (d : Die) : Copied := ⟨false, false, false, d⟩

/-- Read eight lines of a move's source in a copy. -/
def Copied.read (c : Copied) (m : Move) (i : Nat) : List UnitRd × Copied :=
  let p := c.die.moveEight m i
  (p.1, { c with bad := c.bad || p.1.any (·.bad), off := c.off || p.1.any (·.off), die := p.2 })

/-- Copy eight lines. -/
def Copied.eight (c : Copied) (m : Move) (i : Nat) : Copied :=
  let p := c.read m i
  let q := p.2.die.moveDst m i p.1
  { p.2 with
    lost := p.2.lost || !q.1
    off := p.2.off || (!q.1 && m.dstTier == 1)
    die := q.2 }

/-- Copy a page, eight lines at a time. -/
def Die.copyPage (d : Die) (m : Move) : Copied := (List.range 128).foldl (fun acc i => acc.eight m i) (Copied.start d)

/-- What a copy leaves in the T.* descriptors that wait for it: a failure mark for an error or a lost write (R64, R67, R315),
but for the poison a fill brings from NAND (R331), and POISON_OUT. -/
def Copied.mark (c : Copied) (m : Move) : Die :=
  let bad := c.bad && !(m.kind == .fill && m.srcTier == 5)
  c.die.markWaiters m (if c.off then 2 else if bad || c.lost then 1 else 0) c.bad

/-- The HOST writes of a copy are the waiting T.* descriptors' to flush (R368). -/
def Die.oweFlush (d : Die) (m : Move) : Die :=
  if m.dstTier = 3 then
    m.waiters.foldl (fun acc s => if acc.tierSlot s then acc.owesFlush s (m.dstFrame * 1024 + 1023) else acc) d
  else d

/-- The entry a move leaves behind at its switch (R277, R278, R287, R289). -/
def switchedPte (e : BitVec 128) (m : Move) : BitVec 128 :=
  let e1 := pteSet (pteSet (pteSet e 15 15 0) 3 0 m.dstTier) 95 64 m.dstFrame
  match m.kind with
  | .fill => pteSet (pteSet (pteSet e1 6 6 1) 19 16 m.srcTier) 127 96 m.srcFrame
  | .restore => pteSet e1 5 5 0
  | _ => e1

/-- Whether a move's NAND work is done. -/
def Move.nandDone (m : Move) : Bool := !(m.srcTier == 5 || m.dstTier == 5) || decide (16 ≤ m.units.length)

/-- The copy of a page to its destination; units of a page that goes to FLASH are there already. -/
def Die.copyTo (d : Die) (m : Move) : Die := if m.dstTier = 5 then d else ((d.copyPage m).mark m).oweFlush m

/-- A move that has switched is over: its source frame is left, and a page that accesses waited for counts as accessed in
the open firing (R277, R280). -/
def Die.endMove (d : Die) (m : Move) : Die :=
  let d1 := { d with tier := { d.tier with moves := d.tier.moves.filter fun o => o.page != m.page } }
  let d2 := if m.kind = .fill then d1 else d1.leaveFrame m.srcTier m.srcFrame
  ((if m.demand then d2.ptAccess m.page else d2).parkOn m.page).tierSettle

/-- PAGE_MIGRATION_SWITCH: the copy of a page ends and its entry switches to the new frame. A prefetch fill takes
its frame as its page lands; a fill that found a NAND unit it could not read fails (R277 to R280). -/
def Die.pageMigrationSwitch (d : Die) (copy : PageCopy) : Die :=
  match d.moveOf copy.page.toNat with
  | none => d
  | some m =>
    if m.kind = .fill ∧ m.badUnits ≠ [] then d.failMove m Bit.TIR_ERR_FILL
    else if !m.nandDone then d
    else
      let got := if m.hasFrame then some (m.dstFrame, d) else d.fillFrame (pteGroup (d.pte m.page))
      match got with
      | none => if m.since.isSome then d else d.setMove { m with since := some d.refclk }
      | some q =>
        let m1 := { m with dstFrame := q.1, hasFrame := true }
        d.attempt (moveSlot m.page) fun w =>
          let c := ({ q.2 with far := w.far }.count Reg.SHF_CONFLICT copy.lost).copyTo m1
          (c.setPte m.page (switchedPte (c.pte m.page) m1)).endMove m1

/-! ### T.PREFETCH (R282, R283) -/

/-- Table 12.6 for T.PREFETCH. -/
def prefetchLegal (e : Entry) (_ : Die) : Bool :=
  let x := e.desc
  let ix := streamOf x 1
  (streamOf x 0).levels == 0 &&
    (if ix.present then decide (1 ≤ pfNidx x) && decide (pfNidx x ≤ 256) && unitCount x ix == ceilDiv (pfNidx x * 4) 512
    else pfNidx x == 0)

/-- Progress of a T.PREFETCH's requests: pages requested, fills started, and a failed tier check. -/
structure Requested where
  pages : Nat
  fills : Nat
  bad : Bool
  die : Die

/-- Request one page (R281, R283). A page under another move waits for that move to end. -/
def Requested.page (r : Requested) (e : Entry) (p : Nat) : Requested :=
  let d := r.die.ptTouch p
  let chk := d.tierCheck e.tenant p false false
  let seen := match d.entry e.slot with
    | some o => o.pages.contains p
    | none => false
  if chk ≠ 0 then { r with bad := true, die := d.tierFault e.tenant p false chk }
  else if seen then r
  else
    let d1 := d.notePage e.slot p
    let pe := d.pte p
    match d.moveOf p with
    | some m =>
      if m.kind = .fill then { r with pages := r.pages + 1, die := d1.joinMove m e.slot false }
      else { r with die := d1.farHold p }
    | none =>
      if pteCached pe then
        { r with pages := r.pages + 1, die := (d1.ptAccess p).count (Reg.TIR_RES_HIT (pteGroup pe)) 1 }
      else if cacheable pe then
        { r with pages := r.pages + 1, fills := r.fills + 1, die := (d.startFill p e.slot none false).notePage e.slot p }
      else { r with pages := r.pages + 1, die := d1 }

/-- T.PREFETCH after its checks. -/
def prefetchBody (e : Entry) (d : Die) : Die :=
  let q := pfRead e d
  let s := q.2
  match s.ranges with
  | none => s.acc.die.reject e.slot stIllegal
  | some rs =>
    let d1 := s.acc.die.errIf s.badIndex Reg.TIR_ERR Bit.TIR_ERR_INDEX
    let r := (rs.flatMap rangePages).foldl (fun acc p => acc.page e p) (⟨0, 0, false, d1⟩ : Requested)
    let mark := if q.1.any (·.off) then 2 else if s.acc.bad || s.badIndex || r.bad then 1 else 0
    (r.die.modEntry e.slot fun o => { o with aux := [r.pages, r.fills, mark] }).tierSettle

/-- T_PREFETCH: T.PREFETCH requests the pages of a schedule stage, filling cacheable ones. -/
def Die.tPrefetch (d : Die) (slot : BitVec 12) (hits : Hits) : Die :=
  d.runOp 0x80 slot.toNat (Run.hit hits) freeStart prefetchLegal prefetchBody

/-! ### T.MIGRATE (R285) -/

/-- shelf_block of T.MIGRATE. -/
def mgBlock (x : DescBits) : Nat := pF x 14 5
/-- cache of T.MIGRATE. -/
def mgCache (x : DescBits) : Bool := pB x 4
/-- target of T.MIGRATE. -/
def mgTarget (x : DescBits) : Nat := pF x 3 0

/-- The pages of RANGE's reach. -/
def mgPages (x : DescBits) : List Nat := pagesOf (reachOf x (streamOf x 0)).1 (reachOf x (streamOf x 0)).2

/-- The home tier of a page: that of the entry, or of the page it is a copy of. -/
def homeTier (e : BitVec 128) : Nat := if pteCached e then pteHome e else pteTier e

/-- Pages whose home must be copied to reach a target: those not there already, except a cached page whose copy
becomes the page. -/
def Die.mgMoves (d : Die) (x : DescBits) : List Nat :=
  (mgPages x).filter fun p => homeTier (d.pte p) != mgTarget x && !(pteCached (d.pte p) && mgTarget x == 2)

/-- Table 12.6 and the legality rules of R278, R279 and R285. A PARKED page fails the tier check instead. -/
def migrateLegal (e : Entry) (d : Die) : Bool :=
  let x := e.desc
  let t := mgTarget x
  (t == 1 || t == 2 || t == 3 || t == 5) && decide (mgBlock x ≤ 703) &&
    (if mgCache x then t == 2 && (mgPages x).all fun p => cacheable (d.pte p) || pteCached (d.pte p)
    else (t != 5 || (mgPages x).all fun p => pteRo (d.pte p) || pteParked (d.pte p)) &&
      (t != 1 || decide (mgBlock x + (d.mgMoves x).length ≤ 704)))

/-- The target banks of a T.MIGRATE to the Shelves. -/
def Die.mgTargets (d : Die) (x : DescBits) : List Nat :=
  if mgTarget x = 1 ∧ mgCache x = false then
    ((List.range (d.mgMoves x).length).map fun i => (mgBlock x + i) / 8).eraseDups
  else []

/-- Whether no target bank is BUSY (R65). -/
def migrateMay (e : Entry) (d : Die) : Bool := !((d.mgTargets e.desc).any fun b => decide (b < 88) && d.bankBusy b)

/-- The Table 3.3 checks of the target banks, as DM writes of the descriptor's tenant. -/
def Die.mgBanks (d : Die) (e : Entry) : Checked :=
  let banks := d.mgTargets e.desc
  let who := some (e.tenant, e.queue)
  match banks.find? fun b => !tenantAllows (d.bankTenant b) e.tenant true with
  | some b => (some stPermission, d.shelfFault Bit.SHF_ERR_TENANT b 4 who)
  | none =>
    match banks.find? fun b => !groupAllows (d.bankOwner b) 4 true with
    | some b => (some stIllegal, d.shelfFault Bit.SHF_ERR_FOREIGN_PORT b 4 who)
    | none =>
      match banks.find? fun b => !d.bankPowered b with
      | some b => (some stBankOff, d.shelfFault Bit.SHF_ERR_BANK_OFF b 4 who)
      | none => (none, d)

/-- WRITE_PROTECT of the NAND (R334). -/
def Die.flashLocked (d : Die) : Bool := (d.reg Reg.NFC_STAT).b 2

/-- Whether a pool lacks frames for `n` pages, or the NAND takes no writes (R285, R287, R334). -/
def Die.poolShort (d : Die) (tier n : Nat) : Bool :=
  n != 0 && ((tier == 5 && d.flashLocked) || ((poolIdx tier).isSome && decide ((d.freeFrames tier).length < n)))

/-- Start a move of a page to a tier, into a free frame of its pool or a SHELF block. -/
def Die.moveTo (d : Die) (k : MoveKind) (tier block slot p : Nat) : Die :=
  if tier = 1 then d.startMove (d.newMove p k 1 (some block) false [slot])
  else
    match d.claimFrame tier with
    | none => d
    | some q => q.2.startMove (q.2.newMove p k tier (some q.1) false [slot])

/-- A cached page at a T.MIGRATE with cache 0: its copy becomes the page, or is dropped (R285). -/
def Die.promote (d : Die) (target p : Nat) : Die :=
  let e := d.pte p
  if !pteCached e then d
  else if target = 2 then
    (d.setPte p (pteSet (pteSet (pteSet e 6 6 0) 19 16 0) 127 96 0)).leaveFrame (pteHome e) (pteHomeFrame e)
  else d.dropCopy p

/-- T.MIGRATE with cache 1: fill every page that has no copy. -/
def migrateCache (e : Entry) (d : Die) : Die :=
  let ps := mgPages e.desc
  let here := (ps.filter fun p => pteCached (d.pte p)).length
  let d1 := ps.foldl (fun (acc : Requested) p => acc.page e p) ⟨0, 0, false, d⟩
  (d1.die.modEntry e.slot fun o => { o with aux := [ps.length - here, here, if d1.bad then 1 else 0] }).tierSettle

/-- T.MIGRATE with cache 0: move every page's home. -/
def migrateHome (e : Entry) (d : Die) : Die :=
  let t := mgTarget e.desc
  let ps := mgPages e.desc
  let todo := d.mgMoves e.desc
  let here := (ps.filter fun p => homeTier (d.pte p) == t).length
  let d1 := ps.foldl (fun acc p => (acc.ptTouch p).promote t p) d
  let d2 := todo.zipIdx.foldl (fun acc p => acc.moveTo .move t (mgBlock e.desc + p.2) e.slot p.1) d1
  (d2.modEntry e.slot fun o => { o with aux := [ps.length - here, here, 0] }).tierSettle

/-- T.MIGRATE after its parameters: MOVING pages, target banks, capacity, then the moves. -/
def migrateBody (e : Entry) (d : Die) : Die :=
  let x := e.desc
  match (mgPages x).find? fun p => pteMoving (d.pte p) with
  | some p => (d.tierFault e.tenant p false 5).reject e.slot stPermission
  | none =>
    match d.mgBanks e with
    | (some st, d1) => d1.reject e.slot st
    | (none, d1) =>
      if mgCache x then migrateCache e d1
      else if d1.poolShort (mgTarget x) (d1.mgMoves x).length then d1.reject e.slot stRefused
      else migrateHome e d1

/-- T_MIGRATE: T.MIGRATE moves or caches every page of a range to a target tier. -/
def Die.tMigrate (d : Die) (slot : BitVec 12) (hits : Hits) : Die :=
  d.runOp 0x81 slot.toNat (Run.hit hits) migrateMay migrateLegal migrateBody

/-! ### Parking (R286 to R290) -/

/-- Read a line of a context's pages for the tier manager, which reads FLASH directly and, for T.RESTORE, reads
parked pages (R273, R279, R289). -/
def Die.engineLine (d0 : Die) (w : Who) (skip : Bool) (line : Nat) : UnitRd × Die :=
  let p := line / 1024
  let d := if line < 2 ^ 42 then d0.ptTouch p else d0
  let chk := d.tierCheck w.tenant p false skip
  if 2 ^ 42 ≤ line then (⟨0, true, false⟩, d.tierFault w.tenant (p % 2 ^ 32) false 1)
  else if chk ≠ 0 then (⟨0, true, false⟩, d.tierFault w.tenant p false chk)
  else if pteTier (d.pte p) = 5 then (d.flashLine (pteFrame (d.pte p)) (line % 1024), d)
  else if pteTier (d.pte p) = 1 then
    match d.shelfPage { w with port := 4 } p false with
    | some f => (⟨0, true, false⟩, d.shelfFault f.2 (pteFrame (d.pte p) / 8) 4 (some (w.tenant, w.queue)))
    | none => d.readLine { w with port := 4 } line
  else d.readLine { w with port := 4 } line

/-- Read lines for the tier manager as one number. -/
def Die.engineLines (d : Die) (w : Who) (skip : Bool) (line : Nat) : Nat → UnitRd × Die
  | 0 => (⟨0, false, false⟩, d)
  | n + 1 =>
    let p := d.engineLine w skip line
    let q := p.2.engineLines w skip (line + 1) n
    (⟨p.1.data + q.1.data <<< 512, p.1.bad || q.1.bad, false⟩, q.2)

/-- Read bytes for the tier manager. -/
def KvAcc.engine (a : KvAcc) (w : Who) (skip : Bool) (addr k : Nat) : Nat × KvAcc :=
  let d := a.die.flashReads (addr / 4096) ((addr + k + 4095) / 4096 - addr / 4096)
  let p := d.engineLines w skip (addr / 64) ((addr + k + 63) / 64 - addr / 64)
  (bytesAt p.1.data (addr % 64) k, ⟨a.bad || p.1.bad, p.2⟩)

/-- Pages that hold a byte range. -/
def pagesHolding (addr k : Nat) : List Nat :=
  if k = 0 then [] else (List.range ((addr + k - 1) / 65536 + 1 - addr / 65536)).map (· + addr / 65536)

/-- Whether a context's own fields are legal (Tables 7.3 and 7.5). -/
def KvCtx.selfLegal (c : KvCtx) : Bool := kvShape c.kvh (c.dim * 16) c.fmt && c.legal c.kvh (c.dim * 16) c.fmt

/-- The park set of a context, as a rising page list as far as it can be read, and whether the context is legal (R286,
R287). -/
def KvAcc.parkSet (a : KvAcc) (w : Who) (skip : Bool) (ctx : Nat) : Bool × List Nat × KvAcc :=
  let p := a.engine w skip ctx 64
  let c := KvCtx.ofBytes p.1
  if p.2.bad then (true, pagesHolding ctx 64, p.2)
  else if !c.selfLegal then (false, [], p.2)
  else
    let bytes := kvBlockBytes c.kvh (c.dim * 16) c.fmt
    let own := pagesHolding ctx 64 ++ pagesHolding c.list (16 * c.capacity) ++ pagesHolding c.pool 64
    let l := p.2.engine w skip c.list (16 * c.count)
    let blocks := if l.2.bad then [] else (List.range c.count).map fun i => bytesAt l.1 (16 * i) 6
    let q := l.2.engine w skip c.pool 64
    if q.2.bad then (true, setInsertAll (own ++ blocks.flatMap fun b => pagesHolding b bytes) [], q.2)
    else
      let ring := bytesAt q.1 0 8
      let size := bytesAt q.1 8 4
      let r := q.2.engine w skip ring (8 * size)
      let held := if size = 0 ∨ r.2.bad = true then [] else
        (List.range (sub32 (bytesAt q.1 16 4) (bytesAt q.1 12 4))).map fun i =>
          bytesAt r.1 (8 * ((bytesAt q.1 12 4 + i) % size)) 6
      (true, setInsertAll (own ++ pagesHolding ring (8 * size) ++ (blocks ++ held).flatMap fun b => pagesHolding b bytes) [], r.2)

/-- The union of several contexts' park sets. -/
def KvAcc.parkSets (a : KvAcc) (w : Who) (skip : Bool) : List Nat → Bool × List Nat × KvAcc
  | [] => (true, [], a)
  | c :: cs =>
    let p := (⟨false, a.die⟩ : KvAcc).parkSet w skip c
    let q := (⟨a.bad || p.2.2.bad, p.2.2.die⟩ : KvAcc).parkSets w skip cs
    (p.1 && q.1, setInsertAll p.2.1 q.2.1, q.2.2)

/-- A free park ID; which one is left open. -/
def Die.freeParkId (d : Die) : Option Nat :=
  let free := (List.range 4096).filter fun i => !(d.tier.parks.any fun r => r.id == i)
  free[Config.pick d.freeCtr % free.length]?

/-- The tier a page will be in once its move, if it has one, has switched. -/
def Die.tierAhead (d : Die) (p : Nat) : Nat :=
  match d.moveOf p with
  | some m => m.dstTier
  | none => pteTier (d.pte p)

/-- Start the copy of a parked page to a reserved frame, or once its migration under way has ended (R277). -/
def Die.parkMove (d : Die) (target frame : Nat) (slots : List Nat) (p : Nat) : Die :=
  if pteMoving (d.pte p) then { d with tier := { d.tier with parkNext := d.tier.parkNext ++ [(p, target, frame)] } }
  else d.startMove (d.newMove p .park target (some frame) false slots)

/-- Reserve a park record and frames for a set of pages and park them: the pages take PARKED and the record's ID at
once, and those not in the target tier begin to move (R287, R290). None when a reservation fails. -/
def Die.parkPages (d : Die) (tenant target ttl : Nat) (mgmt : Bool) (slots pages : List Nat) : Option (Nat × Die) :=
  let todo := pages.filter fun p => d.tierAhead p != target
  match d.freeParkId with
  | none => none
  | some id =>
    if d.poolShort target todo.length then none
    else
      let d1 := { d with
        freeCtr := d.freeCtr + 1
        tier := { d.tier with parks := d.tier.parks ++ [⟨id, tenant, pages, ttl, none, false, mgmt⟩] } }
      let d2 := pages.foldl (fun acc p => (acc.ptTouch p).setPte p (pteSet (pteSet (acc.pte p) 5 5 1) 35 20 id)) d1
      let d3 := todo.foldl (fun acc p =>
        match acc.claimFrame target with
        | none => acc
        | some q => q.2.parkMove target q.1 slots p) d2
      some (id, d3)

/-- cols of T.PARK and T.RESTORE. -/
def pkCols (x : DescBits) : Nat := pF x 6 0

/-- CTX of T.PARK and T.RESTORE holds cols addresses. -/
def pkCtxOk (x : DescBits) : Bool :=
  decide (1 ≤ pkCols x) && decide (pkCols x ≤ 64) && unitCount x (streamOf x 0) == ceilDiv (pkCols x * 8) 512

/-- Table 12.6 for T.PARK. -/
def parkLegal (e : Entry) (_ : Die) : Bool :=
  let x := e.desc
  pkCtxOk x && decide (1 ≤ pF x 58 32) && decide (pF x 58 32 ≤ 86400000) && (pF x 10 7 == 3 || pF x 10 7 == 5)

/-- T.PARK after its parameters: the contexts are checked as R153 does, then every page of the set as a write (R287). -/
def parkBody (e : Entry) (d : Die) : Die :=
  let x := e.desc
  let pc := d.readStream e 4 (streamOf x 0)
  let cs := (ctxList 8 (pkCols x) pc.1).map (·.1)
  let s := (⟨pc.1.any (·.bad), pc.2.setCtxs e.slot cs⟩ : KvAcc).parkSets (e.who 4) false cs
  if !s.1 then (s.2.2.die.wheelErr e.queue Bit.WHL_ERR_CTX).reject e.slot stIllegal
  else
    match s.2.2.die.firstDenied e.tenant true false s.2.1 with
    | (some p, d1) => (d1.tierFault e.tenant p true (d1.tierCheck e.tenant p true false)).reject e.slot stPermission
    | (none, d1) =>
      if s.2.2.bad then d1.reject e.slot stDataFault
      else
        match s.2.1.find? fun p => pteMoving (d1.pte p) with
        | some p => d1.farHold p
        | none =>
          match d1.parkPages e.tenant (pF x 10 7) (pF x 58 32) false [e.slot] s.2.1 with
          | none => d1.reject e.slot stRefused
          | some q => (q.2.modEntry e.slot fun o => { o with aux := [q.1, s.2.1.length] }).tierSettle

/-- T_PARK: T.PARK parks the pages of conversations' contexts to HOST or FLASH with a time to live. -/
def Die.tPark (d : Die) (slot : BitVec 12) (hits : Hits) : Die :=
  d.runOp 0x82 slot.toNat (Run.hit hits) (fun e d0 => !d0.ctxHeld e) parkLegal parkBody

/-- T.RESTORE after its parameters. A conversation that has expired, whole or in part, gives PERMISSION (R289). -/
def restoreBody (e : Entry) (d : Die) : Die :=
  let x := e.desc
  let pc := d.readStream e 4 (streamOf x 0)
  let cs := (ctxList 8 (pkCols x) pc.1).map (·.1)
  let first := cs.headD 0 / 65536
  let d0 := (pc.2.setCtxs e.slot cs).ptTouch first
  let chk := d0.tierCheck e.tenant first true true
  if pc.1.any (·.bad) then d0.reject e.slot stDataFault
  else if chk ≠ 0 then (d0.tierFault e.tenant first true chk).reject e.slot stPermission
  else
    match d0.tier.parks.find? fun r => r.id == ptePark (d0.pte first) && r.pages.contains first with
    | none => d0.reject e.slot stIllegal
    | some r =>
      if r.expires = none ∨ r.restoring then d0.farHold first
      else
        let s := (⟨false, d0⟩ : KvAcc).parkSets (e.who 4) true cs
        match s.2.2.die.firstDenied e.tenant true true (setInsertAll r.pages s.2.1) with
        | (some p, d1) => (d1.tierFault e.tenant p true (d1.tierCheck e.tenant p true true)).reject e.slot stPermission
        | (none, d1) =>
          let todo := r.pages.filter fun p => !(pteTier (d1.pte p) == 2 && !pteParked (d1.pte p))
          if s.2.2.bad then d1.reject e.slot stDataFault
          else if !s.1 || s.2.1 != r.pages then d1.reject e.slot stIllegal
          else if d1.poolShort 2 todo.length then d1.reject e.slot stRefused
          else
            let mark := fun (o : ParkRec) => if o.id = r.id then { o with restoring := true } else o
            let d2 := { d1 with tier := { d1.tier with parks := d1.tier.parks.map mark } }
            let d3 := todo.foldl (fun acc p => acc.moveTo .restore 2 0 e.slot p) d2
            (d3.modEntry e.slot fun o => { o with aux := [r.id, r.pages.length] }).tierSettle

/-- T_RESTORE: T.RESTORE brings a park record's pages back to LOCAL. -/
def Die.tRestore (d : Die) (slot : BitVec 12) (hits : Hits) : Die :=
  d.runOp 0x83 slot.toNat (Run.hit hits) (fun e d0 => !d0.ctxHeld e) (fun e _ => pkCtxOk e.desc) restoreBody

/-- Unmap a parked page: TIER 0 and PARKED 0; its frame returns, and a FLASH frame is trimmed (R288). -/
def Die.unparkPage (d : Die) (p : Nat) : Die :=
  let e := d.pte p
  let d1 := (d.setPte p (pteSet (pteSet (pteSet e 3 0 0) 5 5 0) 35 20 0)).returnFrame (pteTier e) (pteFrame e)
  if pteTier e = 5 then d1.trimFrame (pteFrame e) else d1

/-- A park record expires (R288). -/
def Die.expirePark (d : Die) (r : ParkRec) : Die :=
  let d1 := r.pages.foldl (fun acc p => if pteParked (acc.pte p) then acc.unparkPage p else acc) d
  ({ d1 with tier := { d1.tier with parks := d1.tier.parks.filter fun o => o.id != r.id } }).count Reg.TIR_PARK_EXPIRED 1

/-- Every park record whose time has passed expires (R288). -/
def Die.parkExpiries (d : Die) : Die :=
  (d.tier.parks.filter fun r => !r.restoring && r.expires.any fun t => decide (t ≤ d.sched.lastTick)).foldl Die.expirePark d

/-- PARK_EXPIRY: a record whose expiry time had passed at the last tick expires, unless its T.PARK has not
completed or a T.RESTORE of it has started (R288). -/
def Die.parkExpiry (d : Die) (id : BitVec 16) : Die :=
  match d.tier.parks.find? fun r => r.id == id.toNat with
  | none => d
  | some r =>
    match r.expires with
    | none => d
    | some t => if t ≤ d.sched.lastTick ∧ r.restoring = false then d.expirePark r else d

/-! ### Reset and page-table commands (R274, R292) -/

/-- Frames reserved for copies that will not take place return. -/
def Die.dropReserved (d : Die) (l : List (Nat × Nat × Nat)) : Die := l.foldl (fun acc x => acc.returnFrame x.2.1 x.2.2) d

/-- A move stops before its switch: its page keeps its entry, and its destination frame returns. -/
def Die.stopMove (d : Die) (m : Move) : Die :=
  let d1 := d.setPte m.page (pteSet (d.pte m.page) 15 15 0)
  let d2 := if m.hasFrame then d1.returnFrame m.dstTier m.dstFrame else d1
  let d3 := if m.dstTier = 5 then d2.trimFrame m.dstFrame else d2
  ({ d3 with tier := { d3.tier with
    moves := d3.tier.moves.filter fun o => o.page != m.page
    parkNext := d3.tier.parkNext.filter fun x => x.1 != m.page } } : Die).dropReserved (d3.tier.parkNext.filter fun x => x.1 == m.page)

/-- Abandon a move that has not switched; accesses that waited for it make their demand again (R292). -/
def Die.abandonMove (d : Die) (m : Move) : Die :=
  let again := m.waiters.filter fun s => match d.entry s with
    | some o => !isTier (opcodeOf o.desc)
    | none => false
  let d1 := d.stopMove m
  let d2 := if m.kind = .park || d.tier.parkNext.any fun x => x.1 == m.page then d1.setPte m.page (pteSet (pteSet (d1.pte m.page) 5 5 0) 35 20 0) else d1
  { d2 with tier := { d2.tier with demanded := d2.tier.demanded ++ again.map fun s => (m.page, s) } }

/-- All of a tenant's park records expire, those still being copied too (R288). -/
def Die.expireTenant (d : Die) (t : Nat) : Die :=
  (d.tier.parks.filter fun r => r.tenant == t).foldl (fun acc r =>
    ((acc.tier.moves.filter fun m => r.pages.contains m.page).foldl Die.stopMove acc).expirePark r) d

/-- TIER_RESET: every executing T.* ends with UNIT_RESET; unswitched moves are abandoned (R292). -/
def Die.tierReset (d : Die) : Die :=
  let d1 := d.tier.moves.foldl (fun acc m => acc.abandonMove m) d
  let ids := d.tier.parks.filter fun r => r.mgmt && r.expires.isNone
  (ids.foldl (fun acc r => acc.parkDone r.id) d1).resetUnit Reg.TIR_FENCE isTier

/-- Take a page-table command, or ignore it while BUSY. -/
def Die.tirTake (d : Die) (f : Die → Die) : Die :=
  if d.tier.busy.isSome then d.err Reg.TIR_ERR Bit.TIR_ERR_CMD_BUSY else f d

/-- A page-table command has acted: BUSY is 1 until its RESULT is set. -/
def Die.tirAnswer (d : Die) (r : Nat) (entry : Option Nat) : Die :=
  { d.setRf Reg.TIR_CMD_STAT 31 31 1 with tier := { d.tier with busy := some (r, entry) } }

/-- A page-table command that copies nothing has acted. -/
def Die.tirResult (d : Die) (r : Nat) : Die := d.tirAnswer r none

/-- Store an entry in TIR_CMD_DATA. -/
def Die.setTirData (d : Die) (n : Nat) : Die :=
  (List.range 4).foldl (fun acc i => acc.setReg (Reg.TIR_CMD_DATA i) (BitVec.ofNat 32 (bytesAt n (4 * i) 4))) d

/-- The RESULT of a page-table command is set; READ copies the entry. -/
def Die.tirDone (d : Die) : Die :=
  match d.tier.busy with
  | none => d
  | some b =>
    let d1 := { d with tier := { d.tier with busy := none } }
    (match b.2 with
      | some n => d1.setTirData n
      | none => d1).setReg Reg.TIR_CMD_STAT (BitVec.ofNat 32 (b.1 % 16))

/-- FIRST of a page-table command. -/
def Die.tirFirst (d : Die) : Nat := (d.reg Reg.TIR_CMD_FIRST).toNat
/-- COUNT of a page-table command. -/
def Die.tirCount (d : Die) : Nat := d.rf Reg.TIR_CMD_COUNT 16 0
/-- TIR_CMD_DATA as a number. -/
def Die.tirData (d : Die) : Nat := packElems 32 ((List.range 4).map fun i => (d.reg (Reg.TIR_CMD_DATA i)).toNat)
/-- The pages of MAP and UNMAP. -/
def Die.tirPages (d : Die) : List Nat := (List.range d.tirCount).map (· + d.tirFirst)
/-- Whether COUNT and the range are legal. -/
def Die.tirRangeOk (d : Die) : Bool :=
  decide (1 ≤ d.tirCount) && decide (d.tirCount ≤ 65536) && decide (d.tirFirst + d.tirCount ≤ 2 ^ 32)
/-- Refusals 3 and 4 of MAP and UNMAP, 0 for none. -/
def Die.tirRefusal (d : Die) : Nat :=
  if !(d.tirPages.all d.dirValid) then 3
  else if d.tirPages.any fun p => pteMoving (d.pte p) || pteParked (d.pte p) then 4 else 0

/-- TIR_CMD_SETDIR (Table 12.4): the leaf is zeroed, also as another entry names it. -/
def Die.tirSetdir (d : Die) : Die := d.tirTake fun d =>
  let i := d.tirFirst / 65536
  let leaf := d.tirData % 2 ^ 64
  if leaf % 2 ^ 20 ≠ 0 then d.tirResult 2
  else if d.dirValid (65536 * i) then d.tirResult 1
  else
    { d with tier := { d.tier with
      dir := SMap.put (fun _ => 0) d.tier.dir i (leaf % 2 ^ 48 + 1)
      pages := d.tier.pages.filter fun kv =>
        decide (kv.1 / 65536 ≠ i) && SMap.get (fun _ => 0) d.tier.dir (kv.1 / 65536) != leaf % 2 ^ 48 + 1 } }.tirResult 0

/-- A page's cached copy and pooled frames return before its entry is replaced: MAP returns a cached copy's frame,
UNMAP every pooled frame. -/
def Die.releasePage (d : Die) (all : Bool) (p : Nat) : Die :=
  let e := d.pte p
  let d1 := if pteCached e || all then d.returnFrame (pteTier e) (pteFrame e) else d
  if pteCached e && all then d1.returnFrame (pteHome e) (pteHomeFrame e) else d1

/-- The template of MAP with its die-written and zero fields cleared. -/
def mapTemplate (n : Nat) : BitVec 128 :=
  let e := BitVec.ofNat 128 n
  pteSet (pteSet (pteSet (pteSet e 127 96 0) 63 46 0) 35 15 0) 6 5 0

/-- TIR_CMD_MAP (Table 12.4). -/
def Die.tirMap (d : Die) : Die := d.tirTake fun d =>
  let t := mapTemplate d.tirData
  if !d.tirRangeOk || decide (5 < pteTier t) || (pteTier t == 5 && !pteRo t) then d.tirResult 2
  else if d.tirRefusal ≠ 0 then d.tirResult d.tirRefusal
  else
    (d.tirPages.zipIdx.foldl (fun acc p =>
      (acc.releasePage false p.1).setPte p.1 (pteSet t 95 64 ((pteFrame t + p.2) % 2 ^ 32))) d).tirResult 0

/-- TIR_CMD_UNMAP (Table 12.4). -/
def Die.tirUnmap (d : Die) : Die := d.tirTake fun d =>
  if !d.tirRangeOk then d.tirResult 2
  else if d.tirRefusal ≠ 0 then d.tirResult d.tirRefusal
  else
    (d.tirPages.foldl (fun acc p =>
      let e := pteSet (pteSet (pteSet (pteSet (acc.pte p) 3 0 0) 6 6 0) 19 16 0) 127 96 0
      (acc.releasePage true p).setPte p e) d).tirResult 0

/-- TIR_CMD_READ (Table 12.4). -/
def Die.tirRead (d : Die) : Die := d.tirTake fun d => d.tirAnswer 0 (some (d.pte d.tirFirst).toNat)

/-! ### The directory (R269) -/

/-- TIR_PT_BASE. -/
def Die.ptBase (d : Die) : Nat := d.rf Reg.TIR_PT_BASE_HI 15 0 * 2 ^ 32 + (d.reg Reg.TIR_PT_BASE_LO).toNat

/-- The directory another TIR_PT_BASE names comes into use, with the entries it had; translations cached from the old one
are gone. A directory that was never in use holds nothing (DESIGN CHOICE, log entry 57). -/
def Die.useTables (d : Die) (old : Nat) : Die :=
  if d.ptBase = old then d
  else
    let kept := d.tier.otherTables.find? fun x => x.1 == d.ptBase
    { d with tier := { d.tier with
      otherTables := (d.tier.otherTables.filter fun x => x.1 != d.ptBase) ++ [(old, d.tier.dir, d.tier.pages)]
      dir := (kept.map (·.2.1)).getD []
      pages := (kept.map (·.2.2)).getD []
      ptCache := [] } }

end Sys2Proof.Machine
end

