-- ==== Sys2Proof/Machine/Sampler.lean ====
section
/-! DEFINITION. The sampler on the Glaze unit: V.SAMPLE and V.MASKSTEP, allow-lists, grammar automata and the
uniform draw (chapter 11, R259 to R265). -/

namespace Sys2Proof.Machine

/-! ### SHAKE256 (R262) -/

/-- Rotate a 64-bit lane left. -/
def rotl64 (x n : Nat) : Nat := ((x <<< n) ||| (x >>> (64 - n))) % 2 ^ 64

/-- Rotation offsets of the rho step, lane (x, y) at x + 5y. -/
def rhoOffsets : List Nat :=
  [0, 1, 62, 28, 27, 36, 44, 6, 55, 20, 3, 10, 43, 25, 39, 41, 45, 15, 21, 8, 18, 2, 61, 56, 14]

/-- Round constants of the iota step. -/
def iotaConstants : List Nat :=
  [0x1, 0x8082, 0x800000000000808A, 0x8000000080008000, 0x808B, 0x80000001, 0x8000000080008081, 0x8000000000008009,
    0x8A, 0x88, 0x80008009, 0x8000000A] ++
  [0x8000808B, 0x800000000000008B, 0x8000000000008089, 0x8000000000008003, 0x8000000000008002, 0x8000000000000080,
    0x800A, 0x800000008000000A, 0x8000000080008081, 0x8000000000008080, 0x80000001, 0x8000000080008008]

/-- One round of Keccak-f[1600] on 25 lanes. -/
def keccakRound (a : List Nat) (rc : Nat) : List Nat :=
  let at_ := fun (l : List Nat) (x y : Nat) => l.getD (x % 5 + 5 * (y % 5)) 0
  let c := (List.range 5).map fun x => (List.range 5).foldl (fun s y => s ^^^ at_ a x y) 0
  let th := (List.range 25).map fun i => a.getD i 0 ^^^ c.getD ((i + 4) % 5) 0 ^^^ rotl64 (c.getD ((i + 1) % 5) 0) 1
  -- lane (x, y) moves to (y, 2x + 3y): lane (u, v) comes from x = u + 3v, y = u
  let b := (List.range 25).map fun i =>
    let u := i % 5
    let v := i / 5
    let j := (u + 3 * v) % 5 + 5 * u
    rotl64 (th.getD j 0) (rhoOffsets.getD j 0)
  let chi := (List.range 25).map fun i =>
    at_ b i (i / 5) ^^^ ((2 ^ 64 - 1 - at_ b (i + 1) (i / 5)) &&& at_ b (i + 2) (i / 5))
  match chi with
  | [] => []
  | l :: ls => (l ^^^ rc) :: ls

/-- Absorb a 136-byte block into the state. -/
def keccakAbsorb (a : List Nat) (block : Nat) : List Nat :=
  iotaConstants.foldl keccakRound (a.zipIdx.map fun p => if p.2 < 17 then p.1 ^^^ fld block (64 * p.2 + 63) (64 * p.2) else p.1)

/-- The state of Keccak after a message has been absorbed under SHAKE256. -/
def shakeAbsorbed (msg : List Nat) : List Nat :=
  let blocks := msg.length / 136 + 1
  let n := ofBytes msg + 0x1F <<< (8 * msg.length) + 0x80 <<< (8 * (136 * blocks - 1))
  (List.range blocks).foldl (fun a k => keccakAbsorb a (n / 2 ^ (1088 * k) % 2 ^ 1088)) (List.replicate 25 0)

/-- SHAKE256 of a message: its first 64 output bytes as a little-endian number. -/
def shake256 (msg : List Nat) : Nat := packElems 64 ((shakeAbsorbed msg).take 8)

/-- The 32-byte SHAKE256 output the manual calls a digest. -/
def digest32 (msg : List Nat) : Nat := shake256 msg % 2 ^ 256

/-- uniform(seed, gen) (R262). -/
def uniformDraw (seed gen : Nat) : Num := .fin false (shake256 (toBytes 8 seed ++ toBytes 4 gen) % 2 ^ 24) (-24)

/-! ### Sampler records and automata (R259, R263, R264) -/

/-- The fields of a sampler record (Table 11.6), from its 64 bytes. -/
structure SampRec where
  temp : Nat
  topP : Nat
  repPen : Nat
  topK : Nat
  repWin : Nat
  seed : Nat
  gen : Nat
  gstate : Nat
  allow : Bool
  grammar : Bool
  hist : Nat
  allowMap : Nat
  image : Nat
  deriving DecidableEq, Repr

/-- The record 64 bytes spell. -/
def SampRec.ofBytes (n : Nat) : SampRec :=
  ⟨bytesAt n 0 4, bytesAt n 4 4, bytesAt n 8 4, bytesAt n 12 2, bytesAt n 14 2, bytesAt n 16 8, bytesAt n 24 4,
    bytesAt n 28 2, n.testBit 240, n.testBit 241, bytesAt n 32 8, bytesAt n 40 8, bytesAt n 48 8⟩

/-- An automaton header (Table 11.8). -/
structure Automaton where
  states : Nat
  vocab : Nat
  bitmaps : Nat
  stateOff : Nat
  mapOff : Nat
  transOff : Nat
  /-- STATES is in its range, the tables are aligned, and the bytes the table leaves out are zero. -/
  legal : Bool
  deriving DecidableEq, Repr

/-- Read an automaton header. -/
def KvAcc.automaton (a : KvAcc) (w : Who) (image : Nat) : Automaton × KvAcc :=
  let p := a.read w image 64
  let o := fun (byte : Nat) => bytesAt p.1 byte 8
  (⟨bytesAt p.1 0 4, bytesAt p.1 4 4, bytesAt p.1 8 4, o 16, o 24, o 32,
    decide (1 ≤ bytesAt p.1 0 4) && decide (bytesAt p.1 0 4 ≤ 65536) && o 16 % 64 == 0 && o 24 % 64 == 0 &&
      o 32 % 64 == 0 && bytesAt p.1 12 4 == 0 && bytesAt p.1 40 24 == 0⟩, p.2)

/-- A state record: bitmap index, first transition, count, default state, whether it is valid, END (Table 11.8). -/
structure AutoState where
  bitmap : Nat
  first : Nat
  count : Nat
  default : Nat
  hasDefault : Bool
  last : Bool
  legal : Bool
  deriving DecidableEq, Repr

/-- Read a state record; one that is not below STATES, or has nonzero reserved bits, is not legal, and neither is any
of a malformed image. -/
def KvAcc.autoState (a : KvAcc) (w : Who) (image : Nat) (h : Automaton) (s : Nat) : AutoState × KvAcc :=
  if h.states ≤ s ∨ h.legal = false then (⟨0, 0, 0, 0, false, false, false⟩, a)
  else
    let p := a.read w (image + h.stateOff + 16 * s) 16
    let b := fld p.1 31 0
    (⟨b, fld p.1 63 32, fld p.1 79 64, fld p.1 95 80, p.1.testBit 96, p.1.testBit 97,
      decide (b < h.bitmaps) && fld p.1 127 98 == 0⟩, p.2)

/-- The bitmap of a state: none when the image or the state is malformed. -/
def KvAcc.stateBitmap (a : KvAcc) (w : Who) (image vocab s : Nat) : Option Nat × KvAcc :=
  let h := a.automaton w image
  if h.1.vocab ≠ vocab then (none, h.2)
  else
    let st := h.2.autoState w image h.1 s
    if !st.1.legal then (none, st.2)
    else
      let bytes := ceilDiv vocab 8
      let p := st.2.read w (image + h.1.mapOff + st.1.bitmap * (64 * ceilDiv bytes 64)) bytes
      (some p.1, p.2)

/-! ### V.SAMPLE (R259 to R262) -/

/-- vocab of V.SAMPLE, where 0 encodes 262,144. -/
def vsVocab (x : DescBits) : Nat := if pF x 17 0 = 0 then 262144 else pF x 17 0
/-- cols of V.SAMPLE. -/
def vsCols (x : DescBits) : Nat := pF x 24 18

/-- The parameters of V.SAMPLE. -/
def sampleLegal (e : Entry) (_ : Die) : Bool :=
  let x := e.desc
  let l := streamOf x 0
  decide (1 ≤ vsCols x) && decide (vsCols x ≤ 65) && (l.fmt == Fmt.FP32 || l.fmt == Fmt.BF16 || l.fmt == Fmt.FP16) &&
    decide (vsCols x * vsVocab x * fmtSize l.fmt ≤ unitCount x l * l.unitBytes) &&
    unitCount x (streamOf x 1) == ceilDiv (vsCols x) 8 && unitCount x (streamOf x 2) == 1

/-- The tokens of the last `win` history places before `gen`. -/
def lastTokens (hist gen win : Nat) : List Int :=
  ((List.range (min win (min gen 256))).map fun i => toSigned 32 (bytesAt hist (4 * ((gen - 1 - i) % 256)) 4)).eraseDups

/-- Apply the repetition penalty to one logit. -/
def penalise (pen z : Num) : Num :=
  if Num.lt Num.zero z then rnd32 (Num.quo z pen) else rnd32 (Num.mul z pen)

/-- Insert a candidate behind those of at least its value; candidates stay in order. -/
def candInsert (v : Num × Nat) : List (Num × Nat) → List (Num × Nat)
  | [] => [v]
  | w :: ws => if Num.lt w.1 v.1 then v :: w :: ws else w :: candInsert v ws

/-- The `k` highest finite values with their indices, descending, lower index first. -/
def topIndices (k : Nat) (zs : List Num) : List (Num × Nat) :=
  zs.zipIdx.foldl (fun acc p => if p.1.isFinite then (candInsert p acc).take k else acc) []

/-- The first candidates whose mass reaches top_p, and their mass. -/
def massKeep (topP : Num) : List (Num × Nat) → Num → List (Num × Nat) × Num
  | [], mass => ([], mass)
  | c :: cs, mass =>
    let m := rnd32 (Num.add mass c.1)
    if !Num.lt m topP then ([c], m)
    else
      let r := massKeep topP cs m
      (c :: r.1, r.2)

/-- The kept candidate a draw selects. -/
def drawToken (target : Num) : List (Num × Nat) → Num → Nat → Nat
  | [], _, last => last
  | c :: cs, acc, _ =>
    let a := rnd32 (Num.add acc c.1)
    if Num.lt target a then c.2 else drawToken target cs a c.2

/-- The index of the largest value, the lowest on a tie. -/
def argmax (zs : List Num) : Nat :=
  (zs.zipIdx.foldl (fun (best : Option (Num × Nat)) p =>
    match best with
    | none => some p
    | some b => if Num.lt b.1 p.1 then some p else best) none).elim 0 (·.2)

/-- NOTOKEN of a column's flags. -/
abbrev resNoToken : Nat := 1
/-- ACCEPT. -/
abbrev resAccept : Nat := 2
/-- DEAD. -/
abbrev resDead : Nat := 4
/-- MASKFAULT. -/
abbrev resMaskFault : Nat := 8

/-- sample of R260 for one column: the token and its flags. `masks` are the bitmaps that apply. -/
def sampleToken (r : SampRec) (hist : Nat) (masks : List Nat) (zs : List Num) : Int × Nat :=
  let seen := lastTokens hist r.gen r.repWin
  let z1 := zs.zipIdx.map fun p => if seen.contains (p.2 : Int) then penalise (ofFp32 r.repPen) p.1 else p.1
  let z2 := z1.zipIdx.map fun p => if masks.all fun m => m.testBit p.2 then p.1 else .inf true
  let top := argmax z2
  if !Num.lt (.inf true) (z2.getD top (.inf true)) then (-1, resNoToken)
  else if (ofFp32 r.temp).isZero then (top, 0)
  else
    let z3 := z2.map fun v => rnd32 (Num.quo v (ofFp32 r.temp))
    let ps := (smColumn Num.one (z3.map fun v => (v, true)) (Config.approx 0x70 (z3.map toFp32))).1
    let cand := topIndices (if r.topK = 0 then 256 else r.topK) z3
    let keep := massKeep (ofFp32 r.topP) (cand.map fun c => (ps.getD c.2 Num.zero, c.2)) Num.zero
    match keep.1 with
    | [] => (Config.approx 0x170 (z3.map toFp32) r.gen % zs.length, 0)
    | _ :: _ => (drawToken (rnd32 (Num.mul (uniformDraw r.seed r.gen) keep.2)) keep.1 Num.zero 0, 0)

/-- Sample one column: read its history and bitmaps, then draw. A failed read gives −1 and MASKFAULT. -/
def sampleColumn (w : Who) (vocab : Nat) (rec_ : Nat) (zs : List Num) (d : Die) : (Int × Nat) × Die :=
  let r := SampRec.ofBytes rec_
  let a0 : KvAcc := ⟨false, d⟩
  let h := if r.repWin = 0 ∨ r.gen = 0 then (0, a0) else a0.read w r.hist 1024
  let m := if r.allow then h.2.read w r.allowMap (ceilDiv vocab 8) else (0, h.2)
  let g := if r.grammar then m.2.stateBitmap w r.image vocab r.gstate else (some 0, m.2)
  let fault := g.2.bad || g.1.isNone
  let masks := (if r.allow then [m.1] else []) ++ (if r.grammar then [g.1.getD 0] else [])
  (if fault then (-1, resMaskFault) else sampleToken r h.1 masks zs, g.2.die)

/-- Sample the columns in order. -/
def sampleColumns (w : Who) (vocab : Nat) : List (Nat × List Num) → Die → List (Int × Nat) × Die
  | [], d => ([], d)
  | c :: cs, d =>
    let p := sampleColumn w vocab c.1 c.2 d
    let q := sampleColumns w vocab cs p.2
    (p.1 :: q.1, q.2)

/-- The 64-byte record of a column in SREC. -/
def srecOf (rows : List UnitRd) (m : Nat) : Nat :=
  fld (rows.getD (m / 8) ⟨0, true, false⟩).data (512 * (m % 8) + 511) (512 * (m % 8))

/-- Bytes 0 to 319 of the RES layout: 64 tokens, then 64 flag bytes. -/
def resBytes (cs : List (Int × Nat)) : Nat :=
  let c := fun (m : Nat) => cs.getD m (-1, 0)
  packElems 32 ((List.range 64).map fun m => ofSigned 32 (c m).1) +
    (packElems 8 ((List.range 64).map fun m => (c m).2)) <<< 2048

/-- Log a poisoned input of a V.* descriptor (R124). -/
def Die.glazePoison (d : Die) (bad : Bool) (queue : Nat) : Die :=
  if bad then (d.setReg Reg.GLZ_FAULT_QUEUE (BitVec.ofNat 32 (queue % 2 ^ 20))).err Reg.GLZ_ERR Bit.GLZ_ERR_POISON_IN else d

/-- V.SAMPLE after its checks. A poisoned logit or record row poisons the output row (R124). -/
def vSampleBody (run : Run) (e : Entry) (d : Die) : Die :=
  let x := e.desc
  let l := streamOf x 0
  let n := vsVocab x
  let p := d.readStream e 3 l
  let q := p.2.readStream e 3 (streamOf x 1)
  let w := fmtBits l.fmt
  let data := concatUnits l.unitBytes p.1
  let raw := (List.range (vsCols x)).map fun m =>
    (elems w n (data >>> (w * n * m))).map fun b => gVal l.fmt b
  let nan := raw.any fun c => c.any (·.isNan)
  let cols := raw.zipIdx.map fun c => (srecOf q.1 c.2, c.1.map fun v => if v.isNan then .inf true else v)
  let key := q.2.fresh
  let r := sampleColumns (e.who 4) n cols key.2
  let bad := (p.1 ++ q.1).any (·.bad)
  let off := (p.1 ++ q.1).any (·.off)
  let st := if off then stBankOff else if bad then stDataFault else stOk
  (r.2.glazePoison bad e.queue).deliver e run
    ⟨(unitsOf x (streamOf x 2)).map fun u => ⟨1, u, padRow key.1 0 2560 (resBytes r.1), bad⟩, 3, st,
      if nan then flNan else 0, 0, 0, 0⟩

/-- V_SAMPLE: V.SAMPLE samples a token per column from logits under the sampler record. -/
def Die.vSample (d : Die) (slot : BitVec 12) (run : Run) : Die :=
  d.runOp 0x70 slot.toNat run freeStart sampleLegal (vSampleBody run)

/-! ### V.MASKSTEP (R259, R265) -/

/-- cols of V.MASKSTEP. -/
def msCols (x : DescBits) : Nat := pF x 6 0

/-- The parameters of V.MASKSTEP. -/
def maskstepLegal (e : Entry) (_ : Die) : Bool :=
  let x := e.desc
  decide (1 ≤ msCols x) && decide (msCols x ≤ 65) && unitCount x (streamOf x 0) == 1 &&
    unitCount x (streamOf x 1) == ceilDiv (msCols x) 8 && unitCount x (streamOf x 2) == 1

/-- Binary search for a token among `n` transitions from index `lo` on: the transition found, if any, and whether
every transition read was well formed (R265). It reads only the transitions it compares, and its first argument
bounds how many. -/
def KvAcc.search (w : Who) (table : Nat) (token : Int) : Nat → Nat → Nat → KvAcc → (Option Nat × Bool) × KvAcc
  | 0, _, _, a => ((none, true), a)
  | fuel + 1, lo, n, a =>
    if n = 0 then ((none, true), a)
    else
      let mid := lo + n / 2
      let p := a.read w (table + 8 * mid) 8
      let t := toSigned 32 (fld p.1 31 0)
      if p.2.bad ∨ fld p.1 63 48 ≠ 0 then ((none, false), p.2)
      else if t = token then ((some p.1, true), p.2)
      else if token < t then KvAcc.search w table token fuel lo (n / 2) p.2
      else KvAcc.search w table token fuel (mid + 1) (n - n / 2 - 1) p.2

/-- The next state of a state's transition for a token, by binary search: at most 17 reads (R265, Table 11.8). -/
def KvAcc.transition (a : KvAcc) (w : Who) (image : Nat) (h : Automaton) (s : AutoState) (token : Int) :
    (Option Nat × Bool) × KvAcc :=
  let p := KvAcc.search w (image + h.transOff) token 17 s.first s.count a
  ((p.1.1.map fun t => fld t 47 32, p.1.2), p.2)

/-- Advance one column's grammar state: the next state and the flags set (R265). -/
def maskColumn (w : Who) (rec_ : Nat) (token : Int) (d : Die) : (Nat × Nat) × Die :=
  let r := SampRec.ofBytes rec_
  if !r.grammar ∨ token = -1 then ((r.gstate, 0), d)
  else
    let h := (⟨false, d⟩ : KvAcc).automaton w r.image
    let s := h.2.autoState w r.image h.1 r.gstate
    if s.2.bad ∨ !s.1.legal then ((r.gstate, resMaskFault), s.2.die)
    else
      let t := s.2.transition w r.image h.1 s.1 token
      let next := match t.1.1 with
        | some n => some n
        | none => if s.1.hasDefault then some s.1.default else none
      if t.2.bad ∨ t.1.2 = false then ((r.gstate, resMaskFault), t.2.die)
      else
        match next with
        | none => ((r.gstate, resDead), t.2.die)
        | some n =>
          let u := t.2.autoState w r.image h.1 n
          if u.2.bad ∨ !u.1.legal then ((r.gstate, resMaskFault), u.2.die)
          else ((n, if u.1.last then resAccept else 0), u.2.die)

/-- Advance the columns in order. -/
def maskColumns (w : Who) : List (Nat × Int) → Die → List (Nat × Nat) × Die
  | [], d => ([], d)
  | c :: cs, d =>
    let p := maskColumn w c.1 c.2 d
    let q := maskColumns w cs p.2
    (p.1 :: q.1, q.2)

/-- The RES row with flags and next states filled in. -/
def resFill (row : Nat) (cs : List (Nat × Nat)) : Nat :=
  cs.zipIdx.foldl (fun acc c =>
    if 64 ≤ c.2 then acc
    else
      let o := 8 * (256 + c.2)
      setFld (setFld acc (o + 7) o (fld acc (o + 7) o ||| c.1.2)) (8 * (320 + 2 * c.2) + 15) (8 * (320 + 2 * c.2)) c.1.1) row

/-- V.MASKSTEP after its checks. -/
def vMaskstepBody (run : Run) (e : Entry) (d : Die) : Die :=
  let x := e.desc
  let p := d.readStream e 3 (streamOf x 0)
  let q := p.2.readStream e 3 (streamOf x 1)
  let row := concatUnits 512 p.1
  let r := maskColumns (e.who 4) ((List.range (msCols x)).map fun m => (srecOf q.1 m, toSigned 32 (bytesAt row (4 * m) 4))) q.2
  let bad := (p.1 ++ q.1).any (·.bad)
  let off := (p.1 ++ q.1).any (·.off)
  let st := if off then stBankOff else if bad then stDataFault else stOk
  (r.2.glazePoison bad e.queue).deliver e run
    ⟨(unitsOf x (streamOf x 2)).map fun u => ⟨1, u, resFill row r.1, bad⟩, 3, st, 0, 0, 0, 0⟩

/-- V_MASKSTEP: V.MASKSTEP advances each column's grammar state by its token. -/
def Die.vMaskstep (d : Die) (slot : BitVec 12) (run : Run) : Die :=
  d.runOp 0x72 slot.toNat run freeStart maskstepLegal (vMaskstepBody run)

end Sys2Proof.Machine
end

