-- ==== Sys2Proof/Machine/Falcon.lean ====
section
/-! DEFINITION. Verification of a Falcon-1024 signature, as the Falcon specification v1.2 defines it (R296, R447; the manual
names the scheme and its compressed format). A byte string is a list of bytes. -/

namespace Sys2Proof.Machine

/-- Modulus of Falcon's ring. -/
abbrev falconQ : Nat := 12289

/-- The bits of bytes, most significant first. -/
def bitsBe (l : List Nat) : List Bool := l.flatMap fun b => (List.range 8).map fun i => b.testBit (7 - i)

/-- The number a list of bits spells, most significant first. -/
def ofBitsBe (l : List Bool) : Nat := l.foldl (fun n b => 2 * n + if b then 1 else 0) 0

/-- The 1,024 coefficients of a public key of 1,793 bytes: 14 bits each after the header 0x0A, all below the modulus. -/
def falconKey (pk : List Nat) : Option (List Nat) :=
  let bits := bitsBe (pk.drop 1)
  let h := (List.range 1024).map fun i => ofBitsBe ((bits.drop (14 * i)).take 14)
  if pk.length = 1793 ∧ pk.headD 0 = 0x0A ∧ h.all (· < falconQ) = true then some h else none

/-- One coefficient of the compressed format: sign, 7 low bits, and the rest in unary. A negative zero, and a magnitude of
2,048 or more, are no coefficients. -/
def falconCoef (l : List Bool) : Option (Int × List Bool) :=
  let low := ofBitsBe ((l.drop 1).take 7)
  let k := ((l.drop 8).takeWhile fun b => !b).length
  let m := 128 * k + low
  if l.length < 9 + k ∨ 2047 < m ∨ (l.headD false = true ∧ m = 0) then none
  else some (if l.headD false then -(m : Int) else m, l.drop (9 + k))

/-- `n` coefficients, after which only the zero bits that fill the last byte remain. -/
def falconCoefs : Nat → List Bool → Option (List Int)
  | 0, l => if l.length < 8 ∧ l.all (fun b => !b) = true then some [] else none
  | n + 1, l =>
    match falconCoef l with
    | none => none
    | some c => (falconCoefs n c.2).map fun r => c.1 :: r

/-- Coefficients from the squeezed output: 16-bit values below five times the modulus; `n` bounds the blocks. -/
def falconPoint : Nat → List Nat → List Nat → List Nat
  | 0, _, acc => acc
  | n + 1, st, acc =>
    if 1024 ≤ acc.length then acc.take 1024
    else
      let out := (chunks 2 68 (toBytes 136 (packElems 64 (st.take 17)))).map fun p => 256 * p.getD 0 0 + p.getD 1 0
      falconPoint n (iotaConstants.foldl keccakRound st) (acc ++ (out.filter (· < 5 * falconQ)).map (· % falconQ))

/-- Times x in the ring, whose x^1024 is −1. -/
def falconShift (l : List Int) : List Int := -(l.getLastD 0) :: l.dropLast

/-- A product in the ring, coefficients exact. -/
def falconMul (s : List Int) (h : List Int) : List Int :=
  (s.foldl (fun (st : List Int × List Int) c => ((st.1.zip st.2).map fun p => p.1 + c * p.2, falconShift st.2))
    (List.replicate h.length 0, h)).1

/-- The residue of least magnitude. -/
def falconCentre (x : Int) : Int :=
  let r := x % falconQ
  if r ≤ 6144 then r else r - falconQ

/-- Whether a signature in the compressed format holds for a message under a public key: header 0x3A, a salt of 40 bytes, and a
short pair. -/
def falconVerify (pk sig msg : List Nat) : Bool :=
  match falconKey pk, falconCoefs 1024 (bitsBe (sig.drop 41)) with
  | some h, some s2 =>
    let c := falconPoint 4096 (shakeAbsorbed ((sig.drop 1).take 40 ++ msg)) []
    let p := falconMul s2 (h.map fun x => (x : Int))
    let s1 := (c.zip p).map fun x => falconCentre ((x.1 : Int) - x.2)
    let norm := fun (l : List Int) => l.foldl (fun (t x : Int) => t + x * x) (0 : Int)
    sig.headD 0 == 0x3A && decide (41 ≤ sig.length) && c.length == 1024 && decide (norm s1 + norm s2 ≤ 70265242)
  | _, _ => false

end Sys2Proof.Machine
end

