-- ==== Sys2Proof/Machine/Dram.lean ====
section
/-! DEFINITION. The LPDDR5X and NAND controllers: line transfers, scrub, retraining, row disturbance, repair, and the
translation layer (chapter 14, R312 to R337). -/

namespace Sys2Proof.Machine

/-! ### Lines (R313 to R320) -/

/-- Lines of LOCAL that exist. -/
def Die.localLines (d : Die) : Nat := d.localFrames * 1024

/-! What stands in the devices (R314, R316, R318). -/

/-- Bytes of ciphertext, MAC and check word a line's write put into the devices, as one number (R314, R316). -/
def LineCell.codeword (n : Nat) (c : LineCell) : Nat :=
  let k := (Config.dramKey c.gen).toNat
  let cipher := if c.gen = 0 then 0
    else ofBytes (xtsEncrypt (toBytes 32 k) (toBytes 32 (k >>> 256)) (64 * n) (toBytes 64 c.data.toNat))
  let mac := if c.gen = 0 then 0 else (Config.lineMac (k >>> 512) cipher (64 * n) c.key c.epoch).toNat
  cipher + mac * 2 ^ 512 + (Config.lineCode cipher mac).toNat * 2 ^ 544

/-- The 72 bytes of a line in the devices: 64 of ciphertext at P, and the MAC and check word at its sideband (R314). -/
def Die.lineBits (d : Die) (n : Nat) : Nat :=
  let c := d.lineCell n
  if c.key = noCode then (Config.dramPowerUp n).toNat ^^^ c.flips else c.codeword n ^^^ c.flips

/-- Address of a line's sideband: 7C/8 + P/8 (R314). -/
def Die.sidebandOf (d : Die) (n : Nat) : Nat := d.localFrames * 65536 + 8 * n

/-- Bytes of epoch line `k` in segment 7: fourteen epochs, then its MAC and check word (R318). -/
def Die.epochLine (d : Die) (k : Nat) : List Nat :=
  let es := (List.range 14).map fun i => SMap.get (fun _ => 0) d.dmc.epochs (14 * k + i)
  let body := es.flatMap (toBytes 4)
  let mac := (Config.epochMac body).toNat
  body ++ toBytes 4 mac ++ toBytes 4 (Config.lineCode (ofBytes body) mac).toNat

/-! Accesses. -/

/-- One access to a line, its segment and channel open (R314 to R317, R319, R326). -/
def Die.lineWork (d : Die) (a : LineAccess) (w : LineWork) : Die :=
  let d1 := d.openRow a.line a.tenant a.queue a.act
  match w with
  | .read linkCe fault =>
    let d2 := if fault.stored then d1.putLine a.line ((d1.lineCell a.line).struck fault.flips.toNat fault.forged) else d1
    let d3 := if linkCe then d2.count Reg.DMC_LINK_CE 1 else d2
    let first := if fault.stored then d3.lineCell a.line else (d3.lineCell a.line).struck fault.flips.toNat fault.forged
    let p := d3.readThrough a.key a.line first
    p.2.emit (.line (if p.1.bad && !first.poison then none else some (BitVec.ofNat 512 p.1.data)) first.poison)
  | .write v poison => (d1.writeLocal a.key a.line v poison).2
  | .merge mask v => (d1.mergeLocal a.key a.line mask v).2

/-- Whether an access cannot be served now: the devices refresh themselves, the segment is clearing, or the channel retrains
first (R322, R324, R325). -/
def Die.lineHeld (d : Die) (n : Nat) : Bool := decide (2 ≤ d.rf Reg.DMP_STAT 2 0) || (d.lineWaits n).isSome

/-- An access comes to the DMC: it is served, or waits behind those to its line that came before it (R317, R322, R325). -/
def Die.lineRequest (d : Die) (a : LineAccess) (w : LineWork) : Die :=
  if d.localLines ≤ a.line then d
  else if d.lineHeld a.line then { d with dmc := { d.dmc with waiting := d.dmc.waiting ++ [(a, w)] } }
  else d.lineWork a w

/-- Serve the accesses that need wait no longer, in arrival order (R322, R325). -/
def Die.serveWaiting (d : Die) : Die :=
  d.dmc.waiting.foldl (fun (acc : Die) x => acc.lineRequest x.1 x.2) { d with dmc := { d.dmc with waiting := [] } }

/-- DRAM_LINE_READ: a LOCAL line read passes the checks of Table 14.2 and is delivered (R315). -/
def Die.dramLineRead (d : Die) (key : BitVec 7) (line : BitVec 30) (tenant : BitVec 7) (queue : BitVec 20)
    (act linkCe : Bool) (fault : Strike) : Die :=
  d.lineRequest ⟨key.toNat, line.toNat, tenant.toNat, queue.toNat, act⟩ (.read linkCe fault)

/-- DRAM_LINE_WRITE: a LOCAL line write is encrypted, MACed and coded (R314, R316, R319). -/
def Die.dramLineWrite (d : Die) (key : BitVec 7) (line : BitVec 30) (v : Line) (poison : Bool) (tenant : BitVec 7)
    (queue : BitVec 20) (act : Bool) : Die :=
  d.lineRequest ⟨key.toNat, line.toNat, tenant.toNat, queue.toNat, act⟩ (.write v poison)

/-- DRAM_PARTIAL_WRITE: a partial line write is merged by read-modify-write, or dropped on a bad line or an empty
key slot (R317, R319). -/
def Die.dramPartialWrite (d : Die) (key : BitVec 7) (line : BitVec 30) (mask : BitVec 64) (v : Line) (tenant : BitVec 7)
    (queue : BitVec 20) (act : Bool) : Die :=
  d.lineRequest ⟨key.toNat, line.toNat, tenant.toNat, queue.toNat, act⟩ (.merge mask v)

/-- Rewrite a corrected line. -/
def Die.rewriteLine (d : Die) (n : Nat) : Die := d.setLine n (d.lineCell n).corrected

/-- DRAM_CE_REWRITE: a corrected line is rewritten when its channel is idle; a newer write has already dropped the
rewrite (R315, R317). -/
def Die.dramCeRewrite (d : Die) (line : BitVec 30) : Die :=
  if d.dmc.rewrites.contains line.toNat ∧ d.lineHeld line.toNat = false then d.rewriteLine line.toNat else d

/-- The page a LOCAL frame holds. -/
def Die.pageIn (d : Die) (f : Nat) : Option Nat :=
  (d.tier.pages.find? fun kv => pteTier kv.2 == 2 && pteFrame kv.2 == f).map (·.1)

/-- The DMC reads a line for itself, under the management context's tag: as the page's KEY opens it, or to check 3 where no page
is mapped (R315, R320, R327; DESIGN CHOICE for the latter, log entry 99). -/
def Die.checkLine (d : Die) (n : Nat) : Die :=
  let d1 := d.openRow n mgmtCode 0 false
  match d1.pageIn (n / 1024) with
  | some p => (d1.readLocal (pteKey (d1.pte p)) n).2
  | none =>
    let c := d1.lineCell n
    if c.poison then d1 else if c.verdict = 2 then d1.loseLine n else (d1.lineCorrected n c).2

/-- The next line of the patrol scrub, none until its next pass is due: a pass begins HOURS after the one before it (R17,
R320). -/
def Die.scrubNext (d : Die) : Option (Nat × Die) :=
  if d.dmc.scrub < d.localLines then some (d.dmc.scrub, d)
  else if d.refclk < d.dmc.scrubStart + hourCycles (d.rf Reg.DMC_SCRUB_CFG 7 0) then none
  else some (0, { d with dmc := { d.dmc with scrubStart := d.refclk } })

/-- DRAM_PATROL_SCRUB: the next LOCAL line is read in an idle cycle; its errors follow Table 14.2 (R320). -/
def Die.dramPatrolScrub (d : Die) (fault : Strike) : Die :=
  if d.rf Reg.DMC_SCRUB_CFG 7 0 = 0 then d
  else match d.scrubNext with
  | none => d
  | some q =>
    if d.localLines ≤ q.1 ∨ d.lineHeld q.1 then d
    else
      let d1 : Die := { q.2 with dmc := { q.2.dmc with scrub := q.1 + 1 } }
      (d1.putLine q.1 ((d1.lineCell q.1).struck fault.flips.toNat fault.forged)).checkLine q.1

/-! ### Retraining (R322, R323) -/

/-- Mark a location lasting at once, with no spare to request. -/
def Die.markLasting (d : Die) (src loc : Nat) : Die :=
  ((d.spareInService src loc).takeTrack ⟨src, loc, [d.refclk], true, false⟩).lastingFault src loc

/-- Whether the next channel's pause is due: PERIOD / 16 has passed, or an event brought it forward (R322). -/
def Die.trainDue (d : Die) (warm : Bool) : Bool :=
  warm || d.dmc.trainSoon.contains d.dmc.trainNext ||
    decide (d.dmc.trainLast * 16 + msCycles (d.rf Reg.DMC_TRAIN_CFG 15 0) ≤ d.refclk * 16)

/-- DRAM_RETRAIN: the next channel in turn pauses for periodic retraining; `warm` says its device has changed
temperature by 10 °C or more. A failure keeps the previous settings, and the third in a row is a lasting fault
(R322, R323). -/
def Die.dramRetrain (d : Die) (warm ok : Bool) : Die :=
  let c := d.dmc.trainNext
  if !(d.reg Reg.DMC_STAT).b c || !d.trainDue warm || decide (2 ≤ d.rf Reg.DMP_STAT 2 0) then d
  else
    let fails := if ok then 0 else SMap.get (fun _ => 0) d.dmc.trainFails c + 1
    let d1 := { d with dmc := { d.dmc with
      trainNext := (c + 1) % 16
      trainLast := d.refclk
      trainSoon := d.dmc.trainSoon.filter (· != c)
      trainFails := SMap.put (fun _ => 0) d.dmc.trainFails c (if fails = 3 then 0 else fails) } }
    let d2 := d1.setRf (Reg.DMC_CH_STAT c) 8 8 (if ok then 0 else 1)
    let d3 := d2.errIf (!ok) Reg.DMC_ERR Bit.DMC_ERR_TRAIN
    (if fails = 3 then d3.markLasting 4 (c * 2 ^ 24) else d3).serveWaiting

/-! ### Row disturbance (R326, R327) -/

/-- ROW_HAMMER_ACTION: a row count that reached THRESH issues refresh management for the row's neighbours, naming the row where
the device supports it, and throttles the requester on that bank (R327). -/
def Die.rowHammerAction (d : Die) : Die :=
  match d.dmc.rhDue with
  | [] => d
  | a :: rest =>
    let log := a.1 / 16 * 2 ^ 28 + a.1 % 16 * 2 ^ 24 + a.2.2.1 % 128 * 2 ^ 17 + a.2.1 % 2 ^ 17
    let th := (a.1, a.2.2.1, a.2.2.2)
    let d1 := { d with dmc := { d.dmc with
      rhDue := rest
      throttles := if d.dmc.throttles.contains th then d.dmc.throttles else d.dmc.throttles ++ [th] } }
    ((((d1.emit (.rfm a.1 (if d.dmc.directed then some a.2.1 else none))).setReg Reg.DMC_RH_LOG (BitVec.ofNat 32 log)).setReg
      Reg.DMC_RH_QUEUE (BitVec.ofNat 32 (a.2.2.2 % 2 ^ 20))).count Reg.DMC_RH_EVENTS 1).err Reg.DMC_ERR Bit.DMC_ERR_RH

/-- ROW_HAMMER_WINDOW_END: at the end of DMC_RH_WINDOW every tracker clears and the throttles lift (R326, R327). -/
def Die.rowHammerWindowEnd (d : Die) : Die :=
  if d.dmc.rhStart + d.rf Reg.DMC_RH_WINDOW 9 0 * 3840 ≤ d.refclk then
    { d with dmc := { d.dmc with rows := [], throttles := [], rhStart := d.refclk } }
  else d

/-! ### Repair and retired frames (R328, R329) -/

/-- The frame a DRAM row lies in (R313). -/
def frameOfRow (loc : Nat) : Nat := loc % 2 ^ 20 * 8 + loc / 2 ^ 20 % 16 / 2

/-- Spare rows left in a bank (R329). -/
def Die.sparesIn (d : Die) (bank : Nat) : Nat := SMap.get (fun _ => 0) d.dmc.bankSpares bank

/-- A bank gives up spare rows; its channel's count follows (R328, Table 14.5). -/
def Die.takeSpareRows (d : Die) (bank k : Nat) : Die :=
  let d1 : Die := { d with dmc := { d.dmc with bankSpares := SMap.put (fun _ => 0) d.dmc.bankSpares bank (d.sparesIn bank - k) } }
  d1.setRf (Reg.DMC_CH_STAT (bank / 16)) 7 0
    (min 255 ((List.range 16).foldl (fun m b => m + d1.sparesIn (bank / 16 * 16 + b)) 0))

/-- A row is read with correction and written back (R328). -/
def Die.rewriteRow (d : Die) (loc : Nat) : Die :=
  let row := (d.dmc.lines.filter fun kv => dramLocation kv.1 == loc).map (·.1)
  let d1 := row.foldl (fun (acc : Die) n => if acc.dmc.rewrites.contains n then acc else acc.checkLine n) d
  (d1.dmc.rewrites.filter fun n => dramLocation n == loc).foldl Die.rewriteLine d1

/-- The frame of a row without a spare is retired: one of the LOCAL pool at the next tick, one outside it is reported (R329). -/
def Die.retireFrame (d : Die) (f : Nat) : Die :=
  if d.poolHas 2 f then
    { d with tier := { d.tier with
      retired := setInsert f d.tier.retired
      retireDue := setInsert f d.tier.retireDue } }
  else if d.tier.retired.contains f then d
  else { d with dmc := { d.dmc with outside := setInsert f d.dmc.outside } }

/-- DRAM_PPR: at an idle period a lasting row fault is repaired from a spare row of its bank by soft PPR and logged; without a
spare its frame is retired (R328, R329). -/
def Die.dramPpr (d : Die) : Die :=
  match d.firstWanted 4 with
  | none => d
  | some loc =>
    if 2 ≤ d.rf Reg.DMP_STAT 2 0 then d
    else if d.sparesIn (loc / 2 ^ 20) ≠ 0 then
      { ((d.rewriteRow loc).takeSpareRows (loc / 2 ^ 20) 1).spareInService 4 loc with repairLog := d.repairLog ++ [(loc, false)] }
    else ((d.err Reg.DMC_ERR Bit.DMC_ERR_PPR_OUT).noSpare 4 loc).retireFrame (frameOfRow loc)

/-- FRAME_RETIRE: at a tick, the page in a frame due for retirement is migrated away; once the frame is empty it has
left the pool for good (R329). -/
def Die.frameRetire (d : Die) (f : Nat) : Die :=
  match d.pageIn f with
  | some p =>
    if pteMoving (d.pte p) then d
    else
      match d.claimFrame 2 with
      | none => d
      | some q => q.2.startMove (q.2.newMove p .move 2 (some q.1) false [])
  | none =>
    if d.tier.moves.any fun m => m.dstTier == 2 && m.hasFrame && m.dstFrame == f then d
    else
      ({ d with tier := { d.tier with
        retireDue := setErase f d.tier.retireDue
        usedLocal := setErase f d.tier.usedLocal } }).setRf Reg.DMC_RETIRED 15 0 (d.rf Reg.DMC_RETIRED 15 0 + 1)

/-- DRAM_SEGMENT_CLEAR: a segment lost over SLEEP has been rewritten as poisoned lines, and what waited for it is served. With
segment 7 the epochs are gone, and start again at 0 (R318, R325; DESIGN CHOICE for the epochs, log entry 100). -/
def Die.dramSegmentClear (d : Die) (seg : BitVec 3) : Die :=
  let s := seg.toNat
  if !d.segClearing s then d
  else
    let d1 := { d with dmc := { d.dmc with
      lines := d.dmc.lines.filter fun kv => decide (d.segmentOf (kv.1 / 1024) ≠ s)
      cleared := setInsert s d.dmc.cleared
      epochs := if s = 7 then [] else d.dmc.epochs
      rewrites := d.dmc.rewrites.filter fun n => decide (d.segmentOf (n / 1024) ≠ s) } }
    (d1.setRf Reg.DMC_STAT (24 + s) (24 + s) 0).serveWaiting

/-! ### NAND blocks (R332 to R334) -/

/-- The block of lowest erase count, the first on a tie. -/
def Die.leastWorn (d : Die) : List Nat → Option Nat
  | [] => none
  | b :: bs =>
    match d.leastWorn bs with
    | none => some b
    | some c => if (d.nblk c).erases < (d.nblk b).erases then some c else some b

/-- The block new writes go to: the one being written, else the free block of lowest erase count (R333). -/
def Die.writeBlock (d : Die) : Option (Nat × Die) :=
  let fresh := match d.leastWorn d.nand.free with
    | none => none
    | some b => some (b, { d with nand := { d.nand with
        free := d.nand.free.filter (· != b), used := d.nand.used ++ [b], current := some b } })
  match d.nand.current with
  | some b => if (d.nblk b).filled < d.nand.perBlock ∧ (d.nblk b).failed = false then some (b, d) else fresh
  | none => fresh

/-- A change of the map goes into the journal (R332). -/
def Die.mapUnit (d : Die) (unit place : Nat) : Die :=
  { d with nand := { d.nand with
    place := SMap.put (fun _ => 0) d.nand.place unit place
    journal := d.nand.journal ++ [(unit, place)] } }

/-- Program a logical unit into the block being written, data and journal record (R332). -/
def Die.placeUnit (d : Die) (unit : Nat) : Option Die :=
  match d.writeBlock with
  | none => none
  | some q =>
    let k := q.2.nblk q.1
    some ((q.2.setNblk q.1 { k with filled := k.filled + 1 }).mapUnit unit (q.1 + 1))

/-- A block's program or erase has reported failure (R334). -/
def Die.blockFailed (d : Die) (b : Nat) : Die := d.setNblk b { d.nblk b with failed := true }

/-- Program a unit for the layer itself: a block whose program reports failure is left, and the unit goes elsewhere (R334). Which
programs fail is open. The number bounds the attempts. -/
def Die.programUnit (d : Die) (unit : Nat) : Nat → Option Die
  | 0 => none
  | n + 1 =>
    let f := d.fresh
    if Config.programFails f.1 then
      match f.2.writeBlock with
      | none => none
      | some q => (q.2.blockFailed q.1).programUnit unit n
    else f.2.placeUnit unit

/-- Logical units a block holds. -/
def Die.unitsIn (d : Die) (b : Nat) : List Nat := (d.nand.place.filter fun kv => kv.2 == b + 1).map (·.1)

/-- Rewrite units elsewhere, one after another. -/
def Die.placeUnits (d : Die) : List Nat → Option Die
  | [] => some d
  | u :: us =>
    match d.programUnit u (d.nand.free.length + 2) with
    | none => none
    | some d1 => d1.placeUnits us

/-- Rewrite every unit of a block elsewhere. -/
def Die.moveUnits (d : Die) (b : Nat) : Option Die :=
  let d0 := { d with nand := { d.nand with current := if d.nand.current = some b then none else d.nand.current } }
  d0.placeUnits (d0.unitsIn b)

/-- Erase a block: it is free again and counts one erase more; one whose erase reports failure, or whose program did, stays to be
replaced (R333, R334, Table 14.8). Which erases fail is open. -/
def Die.eraseBlock (d : Die) (b : Nat) : Die :=
  let f := d.fresh
  let k := d.nblk b
  if k.failed then d
  else if Config.eraseFails f.1 then f.2.blockFailed b
  else
    let d1 := f.2.setNblk b { k with erases := k.erases + 1, reads := 0, filled := 0, lastLevel := [] }
    let d2 := { d1 with nand := { d1.nand with used := d1.nand.used.filter (· != b), free := d1.nand.free ++ [b] } }
    if d.rf Reg.NFC_ERASE_MAX 15 0 < k.erases + 1 then d2.setRf Reg.NFC_ERASE_MAX 15 0 (k.erases + 1) else d2

/-- Whether a fill still reads NAND units; the layer's own work waits for it (R333). -/
def Die.fillsReading (d : Die) : Bool := d.tier.moves.any fun m => m.srcTier == 5 && decide (m.units.length < 16)

/-- NAND_UNIT_READ: a 4 KiB unit that a fill or migration wants is read and decoded with retries. Demand fills come
before prefetch fills (R279, R331, R333). -/
def Die.nandUnitRead (d : Die) (page : BitVec 32) (unit : BitVec 4) (how : NandHow) : Die :=
  match d.moveOf page.toNat with
  | none => d
  | some m =>
    let turn := m.demand || !(d.tier.moves.any fun o => o.srcTier == 5 && o.demand && decide (o.units.length < 16))
    if m.srcTier ≠ 5 ∨ m.units.contains unit.toNat ∨ !turn then d
    else
      let r := d.readCodeword (16 * m.srcFrame + unit.toNat) how
      let m1 := { m with
        units := m.units ++ [unit.toNat]
        badUnits := if r.1 then m.badUnits ++ [unit.toNat] else m.badUnits }
      let d2 := r.2.setMove m1
      if m1.units.length = 16 then d2.count Reg.TIR_FLASH_RD 1 else d2

/-- The 4 KiB of a move's source that a unit takes; a bad line poisons the unit (R316, R331). -/
def Die.unitOfMove (d : Die) (m : Move) (unit : Nat) : (BitVec 32768 × Bool) × Die :=
  let p := (List.range 8).foldl (fun (acc : List UnitRd × Copied) i =>
    let q := acc.2.read m (8 * unit + i)
    (acc.1 ++ q.1, q.2)) ([], Copied.start d)
  (if p.2.bad then ⟨0#32768, true⟩ else ⟨BitVec.ofNat 32768 (concatUnits 64 p.1), false⟩, p.2.mark m)

/-- NAND_UNIT_WRITE: a unit of a migration into FLASH is done once its data and its journal record have been
programmed; a program that reports failure marks its block, and the unit goes elsewhere (R332, R334). -/
def Die.nandUnitWrite (d : Die) (page : BitVec 32) (unit : BitVec 4) (fails : Bool) : Die :=
  match d.moveOf page.toNat with
  | none => d
  | some m =>
    if m.dstTier ≠ 5 ∨ m.units.contains unit.toNat then d
    else
      d.attempt (moveSlot m.page) fun d0 =>
        let u := d0.unitOfMove m unit.toNat
        match u.2.writeBlock with
        | none => d
        | some q =>
          if fails then q.2.blockFailed q.1
          else
            match q.2.placeUnit (16 * m.dstFrame + unit.toNat) with
            | none => d
            | some d1 =>
              let d2 := d1.writtenUnit (16 * m.dstFrame + unit.toNat) u.1.1 u.1.2
              let d3 := d2.setMove { m with units := m.units ++ [unit.toNat] }
              if m.units.length = 15 then d3.count Reg.TIR_FLASH_WR 1 else d3

/-- NAND_READ_DISTURB_RELOC: a block that has reached NFC_RD_LIMIT reads is relocated and erased (R333). -/
def Die.nandReadDisturbReloc (d : Die) (block : BitVec 25) : Die :=
  let b := block.toNat
  if !d.nand.used.contains b || decide ((d.nblk b).reads < d.rf Reg.NFC_RD_LIMIT 23 0) || d.fillsReading then d
  else
    match d.moveUnits b with
    | none => d
    | some d1 => (d1.eraseBlock b).count Reg.NFC_RELOC_RD 1

/-- Highest and lowest erase counts of the blocks in service. -/
def Die.eraseSpread (d : Die) : Nat × Nat :=
  let es := (d.nand.used ++ d.nand.free).map fun b => (d.nblk b).erases
  (es.foldl max 0, es.foldl min (es.headD 0))

/-- NAND_WEAR_LEVEL: when erase counts spread beyond NFC_WL_SPREAD, the data of the coldest block moves (R333). -/
def Die.nandWearLevel (d : Die) : Die :=
  let s := d.eraseSpread
  match d.leastWorn d.nand.used with
  | none => d
  | some b =>
    if d.rf Reg.NFC_WL_SPREAD 15 0 < s.1 - s.2 ∧ d.fillsReading = false then
      match d.moveUnits b with
      | none => d
      | some d1 => (d1.eraseBlock b).count Reg.NFC_RELOC_WL 1
    else d

/-- NAND_GARBAGE_COLLECT: a block's valid units are rewritten and the block is erased (R333). -/
def Die.nandGarbageCollect (d : Die) (block : BitVec 25) : Die :=
  let b := block.toNat
  if !d.nand.used.contains b || d.nand.current == some b || d.fillsReading then d
  else
    match d.moveUnits b with
    | none => d
    | some d1 => d1.eraseBlock b

/-- Whether a block is a grown bad block (R334). -/
def Die.grownBad (d : Die) (b : Nat) : Bool :=
  let window := hourCycles (d.rf Reg.RAS_LASTING_CFG 15 8)
  (d.nblk b).failed || decide (3 ≤ ((d.nblk b).lastLevel.filter fun t => decide (d.refclk ≤ t + window)).length)

/-- With no spare block left, writing is protected (R334). -/
def Die.flashProtect (d : Die) : Die := (d.setRf Reg.NFC_STAT 2 2 1).err Reg.NFC_ERR Bit.NFC_ERR_SPARE_OUT

/-- A spare block joins the free blocks, when one is left; when none remains, writing is protected. -/
def Die.takeSpare (d : Die) : Die :=
  match d.nand.spare with
  | [] => d.flashProtect
  | s :: rest =>
    let d1 := ({ d with nand := { d.nand with spare := rest, free := d.nand.free ++ [s] } }).setRf Reg.NFC_SPARES 15 0 rest.length
    if rest = [] then d1.flashProtect else d1

/-- NAND_GROWN_BAD: a failing block is replaced from the spares, its data rewritten elsewhere and the block retired; when
no spare remains, writing is protected (R334). Data that has no room stays. -/
def Die.nandGrownBad (d : Die) (block : BitVec 25) : Die :=
  let b := block.toNat
  if !d.nand.used.contains b || !d.grownBad b then d
  else
    let d0 := if d.nand.spare = [] then d.takeSpare.noSpare 5 (blockLoc b) else d.takeSpare.spareInService 5 (blockLoc b)
    match d0.moveUnits b with
    | none => d0
    | some d1 =>
      let d2 := { d1 with nand := { d1.nand with used := d1.nand.used.filter (· != b), bad := d1.nand.bad ++ [b], grown := d1.nand.grown + 1 } }
      (d2.setRf Reg.NFC_BAD_GROWN 15 0 (d2.rf Reg.NFC_BAD_GROWN 15 0 + 1)).err Reg.NFC_ERR Bit.NFC_ERR_GROWN_BAD

end Sys2Proof.Machine
end

