-- ==== Sys2Proof/Machine/Sync.lean ====
section
/-! DEFINITION. Synchronisation descriptors, their timeouts, and the barrier of the fabric (R187 to R190, R213,
R216, R391, R392). -/

namespace Sys2Proof.Machine

/-! ### S.WAIT and S.SIGNAL (R187, R188) -/

/-- Every parameter is legal. -/
def anyLegal (_ : Entry) (_ : Die) : Bool := true

/-- S_WAIT: completes OK when ready. -/
def Die.sWait (d : Die) (slot : BitVec 12) : Die :=
  d.runOp 0x60 slot.toNat Run.clean freeStart anyLegal fun e d1 => d1.finish e.slot stOk 0 0 0 0

/-- Whether an S.WAIT has seen its last tick (R187). -/
def Entry.waitOver (e : Entry) : Bool :=
  opcodeOf e.desc == 0x60 && pF e.desc 15 0 != 0 && decide (pF e.desc 15 0 ≤ e.ticks)

/-- S_WAIT_TIMEOUT: an S.WAIT that its timeout-th tick found not ready completes with TIMEOUT. -/
def Die.sWaitTimeout (d : Die) (slot : BitVec 12) : Die :=
  match d.entry slot.toNat with
  | none => d
  | some e => if e.phase = .waiting ∧ e.fail = 0 ∧ e.waitOver then d.finish e.slot stTimeout 0 0 0 0 else d

/-- The body of S.SIGNAL: the named counter must be permitted (R172); the action itself falls in the completion
cycle (R188). -/
def signalBody (e : Entry) (d : Die) : Die :=
  d.finish e.slot (if d.evtPermitted e.tenant (pF e.desc 31 16) then stOk else stPermission) 0 0 0 0

/-- An S.SIGNAL in one mode. -/
def Die.sSignal (d : Die) (mode : Nat) (slot : BitVec 12) : Die :=
  d.runOp 0x61 slot.toNat Run.clean (fun e _ => pF e.desc 1 0 == mode) anyLegal signalBody

/-- S_SIGNAL_ADD. -/
def Die.sSignalAdd (d : Die) (slot : BitVec 12) : Die := d.sSignal 0 slot

/-- S_SIGNAL_SET. -/
def Die.sSignalSet (d : Die) (slot : BitVec 12) : Die := d.sSignal 1 slot

/-- S_SIGNAL_CLEAR. -/
def Die.sSignalClear (d : Die) (slot : BitVec 12) : Die := d.sSignal 2 slot

/-! ### S.TICKWAIT (R190) -/

/-- abs of S.TICKWAIT. -/
def tickAbs (x : DescBits) : Bool := pB x 0

/-- Whether a firing is current or less than 2³¹ firings past. -/
def Die.firingReached (d : Die) (f : Nat) : Bool := decide (sub32 d.firing f < 2 ^ 31)

/-- Whether the tick an S.TICKWAIT waits for has come: an absolute firing reached, or the ticks-th tick since its
waits were satisfied. -/
def Die.tickCome (d : Die) (e : Entry) : Bool :=
  if tickAbs e.desc then d.firingReached (pF e.desc 63 32) else decide (pF e.desc 31 16 ≤ e.ticks)

/-- What a tick adds to a waiting S.WAIT or S.TICKWAIT: a tick seen since its dispatch, or since its waits were satisfied, for
those in `met` (R187, R190). -/
def seeTick (met : List Nat) (e : Entry) : Entry :=
  let op := opcodeOf e.desc
  if e.phase ≠ .waiting then e
  else if op = 0x60 then { e with ticks := e.ticks + 1 }
  else if op = 0x63 then { e with ticks := if met.contains e.slot then e.ticks + 1 else 0 }
  else e

/-- An S.TICKWAIT becomes ready, with LATE when its absolute firing is past, not current. RESULT0 is the firing in which it
becomes ready (Table 8.10). -/
def Die.tickwaitReady (d : Die) (e : Entry) : Die :=
  let late := tickAbs e.desc && pF e.desc 63 32 != d.firing % 2 ^ 32
  let d1 := d.becomeReady e (d.tickCome e)
  match d1.entry e.slot with
  | none => d1
  | some o =>
    if o.phase = .ready then
      d1.setEntry { o with
        flags := if late then o.flags ||| flLate else o.flags
        result0 := d.firing % 2 ^ 32 }
    else d1

/-- S_TICKWAIT_READY: an S.TICKWAIT becomes ready at its tick. -/
def Die.sTickwaitReady (d : Die) (slot : BitVec 12) : Die :=
  match d.entry slot.toNat with
  | none => d
  | some e => if opcodeOf e.desc = 0x63 then d.tickwaitReady e else d

/-- S_TICKWAIT: a ready S.TICKWAIT completes; RESULT0 is the firing it became ready in (Table 8.10). -/
def Die.sTickwait (d : Die) (slot : BitVec 12) : Die :=
  d.runOp 0x63 slot.toNat Run.clean freeStart anyLegal fun e d1 => d1.finish e.slot stOk 0 e.result0 0 0

/-! ### S.BARRIER (R189, R216, R391, R392) -/

/-- id of S.BARRIER. -/
def barId (x : DescBits) : Nat := pF x 7 0

/-- The lowest die of a mask: its coordinator. -/
def coordinator (mask : Nat) : Nat := ((List.range 8).find? fun k => mask.testBit k).getD 0

/-- Members of the fabric. -/
def Die.members (d : Die) : Nat := d.rf Reg.LNK_STAT 23 16

/-- The topology's largest CTL latency in nanoseconds (R390): 120 ns for each hop, less 40. -/
def Die.ctlLatency (d : Die) : Nat :=
  let n := (diesOf d.members).length
  120 * (if d.rf Reg.LNK_STAT 15 14 = 2 then n / 2 else n - 1) - 40

/-- Entries of started S.BARRIERs matched by an id and a count. -/
def Die.barriersOf (d : Die) (id k : Nat) : List Entry :=
  d.sb.filter fun e => opcodeOf e.desc == 0x62 && e.phase == .started && e.aux == [id, k]

/-- Complete the S.BARRIER of a release: SKIPPED_ILLEGAL when masks differed (R392). -/
def Die.releaseBarrier (d : Die) (r : Release) : Die :=
  let d1 := (d.barriersOf r.id r.k).foldl (fun acc e =>
    (acc.finish e.slot (if r.badMask then stIllegal else stOk) 0 0 0 0).barrierPassed) d
  { d1 with sched := { d1.sched with releases := d1.sched.releases.filter fun o => !(o.id == r.id && o.k == r.k) } }

/-- Whether this die's instant of a release has come (R216). -/
def Die.instantCome (d : Die) (r : Release) : Bool := decide (r.t0 + 250 * d.dieId ≤ d.ftime)

/-- BARRIER_RELEASE_INSTANT: FTIME has reached T0 + 250 ns × die ID and the barriers released then complete. -/
def Die.barrierReleaseInstant (d : Die) : Die :=
  (d.sched.releases.filter d.instantCome).foldl Die.releaseBarrier d

/-- The coordinator fixes T0 once its own descriptor is ready and every arrival is in hand, and sends RELEASE; the
header's POISON bit tells that masks differed (R391, R392). -/
def Die.fixRelease (d : Die) (id k : Nat) : Die :=
  let here := d.sched.arrivals.filter fun a => a.id == id && a.k == k
  match here.find? fun a => a.src == d.dieId with
  | none => d
  | some own =>
    if (diesOf own.mask).all fun x => here.any fun a => a.src == x then
      let t0 := d.ftime + max (d.rf Reg.LNK_FAB_CFG 31 16) d.ctlLatency
      let bad := here.any fun a => a.mask != own.mask
      let dests := (diesOf (here.foldl (fun m a => m ||| a.mask) 0)).filter fun x => x != d.dieId
      let d1 := dests.foldl (fun acc x => acc.sendMsg 0xB x bad 0 0 [id, k, t0] []) d
      { d1 with
        sched := { d1.sched with
          arrivals := d1.sched.arrivals.filter fun a => !(a.id == id && a.k == k)
          releases := d1.sched.releases ++ [⟨id, k, t0, bad⟩] }
        link := { d1.link with quietUntil := max d1.link.quietUntil (t0 + 1750) } }
    else d

/-- Record an arrival at the coordinator; one whose mask differs from the coordinator's own sets BAR_MASK (R392). -/
def Die.arrive (d : Die) (a : Arrival) : Die :=
  let same := d.sched.arrivals.filter fun o => o.id == a.id && o.k == a.k
  let differs := if a.src = d.dieId then same.any fun o => o.mask != a.mask
    else same.any fun o => o.src == d.dieId && o.mask != a.mask
  (({ d with sched := { d.sched with arrivals := d.sched.arrivals ++ [a] } }).errIf differs Reg.LNK_ERR
    Bit.LNK_ERR_BAR_MASK).fixRelease a.id a.k

/-- The body of S.BARRIER: it is counted under its id; with its own bit alone it completes, else its ARRIVE goes to the
coordinator (R189). -/
def barrierBody (e : Entry) (d : Die) : Die :=
  let mask := barMask e.desc
  let id := barId e.desc
  let k := SMap.get (fun _ => 0) d.sched.barCount id + 1
  let d0 := { d with sched := { d.sched with barCount := SMap.put (fun _ => 0) d.sched.barCount id k } }
  if mask = 2 ^ d0.dieId then (d0.finish e.slot stOk 0 0 0 0).barrierPassed
  else
    let d1 := d0.modEntry e.slot fun o => { o with aux := [id, k] }
    if coordinator mask = d.dieId then d1.arrive ⟨id, k, mask, d.dieId⟩
    else d1.sendMsg 0xA (coordinator mask) false 0 0 [id, k, mask] []

/-- S_BARRIER: a ready S.BARRIER joins the dies of its mask. -/
def Die.sBarrier (d : Die) (slot : BitVec 12) : Die :=
  d.runOp 0x62 slot.toNat Run.clean freeStart (fun e d1 => (barMask e.desc).testBit d1.dieId) barrierBody

end Sys2Proof.Machine
end

