-- ==== Sys2Proof/Machine/Link.lean ====
section
/-! DEFINITION. The host link and the Eslis fabric: HOST reads, discovery, flits, remote access, F.SEND and F.BCAST,
time messages, retraining and failure (chapter 16, R366 to R397). -/

namespace Sys2Proof.Machine

/-! ### HOST reads (R367, R369, R374) -/

/-- A read comes back: its line is held for the operation that asked; one whose operation has ended is discarded. -/
def Die.deliverFar (d : Die) (slot key via : Nat) (c : FarCell) : Die :=
  if slot = orphanSlot then d
  else { d with far := { d.far with arrived := d.far.arrived ++ [⟨slot, key, via, c⟩] } }

/-- A line delivered as an uncorrectable error. -/
def FarCell.error : FarCell := ⟨0#512, false, true⟩

/-- HOST reads end with a line each; frames that waited for them return to their pools (R277). -/
def Die.landReads (d : Die) (l : List FarAsk) (c : FarCell) : Die :=
  (l.foldl (fun (acc : Die) a => acc.deliverFar a.slot a.key a.via c)
    { d with far := { d.far with asked := d.far.asked.filter fun a => !l.contains a } }).settleLeaving

/-- The host line a read goes to; none for a wait on a unit. -/
def Die.askLine (d : Die) (a : FarAsk) : Option Nat :=
  if a.key < rawKey 0 then some a.key
  else if a.key < plainKey 0 then some (a.key - rawKey 0)
  else if a.key < waitKey 0 then some (d.recordAddr ((a.key - recKey 0) * 64) / 64)
  else none

/-- Whether a key is of a line or record of the unit that holds a line. -/
def unitPart (n key : Nat) : Bool := key == recKey n || key / 64 == rawKey n / 64

/-- Drop what an operation holds of a unit before its verification. -/
def Die.dropParts (d : Die) (slot n : Nat) : Die :=
  { d with far := { d.far with arrived := d.far.arrived.filter fun l => !(l.slot == slot && unitPart n l.key) } }

/-- An operation's waits on a unit end, each line of it delivered as given (R374). -/
def Die.landUnit (d : Die) (slot n : Nat) (cell : Nat → FarCell) : Die :=
  let mine := d.far.asked.filter fun a => a.slot == slot && a.key / 64 == waitKey n / 64
  (mine.foldl (fun (acc : Die) a => acc.deliverFar slot (a.key - waitKey 0) a.via (cell (a.key % 64)))
    { d with far := { d.far with asked := d.far.asked.filter fun a => !mine.contains a } }).settleLeaving

/-- The parts of a unit an operation has gathered: its record, and its lines in order. -/
def Die.gathered (d : Die) (slot n : Nat) : Option (FarLine × List FarLine) :=
  let part := fun (k : Nat) => d.far.arrived.find? fun l => l.slot == slot && l.key == k
  let lines := (List.range 64).filterMap fun j => part (rawKey (n / 64 * 64 + j))
  match part (recKey n) with
  | some r => if lines.length = 64 then some (r, lines) else none
  | none => none

/-- A unit whose lines have come without error is checked against its record: it is decrypted and kept for its operation, or
every line of it is an error (R373, R374). -/
def Die.verifyUnit (d : Die) (slot n : Nat) (r : FarLine) (lines : List FarLine) : Die :=
  let rec32 := ((toBytes 64 r.cell.data.toNat).drop (d.recordAddr n % 64)).take 32
  let writer := rec32.getD 24 0
  let iv := d.confIv (ofBytes ((rec32.drop 16).take 8))
  let ct := lines.flatMap fun l => toBytes 64 l.cell.data.toNat
  if writer < 2 ∧ gcmTag (d.confKey writer) iv (confAad n writer) ct = rec32.take 16 then
    let plain := ofBytes (gcmCrypt (d.confKey writer) iv ct)
    let cell := fun (j : Nat) => (⟨BitVec.ofNat 512 (plain >>> (512 * j)), false, false⟩ : FarCell)
    (List.range 64).foldl (fun acc j => acc.deliverFar slot (plainKey (n / 64 * 64 + j)) 0 (cell j)) (d.landUnit slot n cell)
  else ((d.landUnit slot n fun _ => FarCell.error).count Reg.LNK_CONF_FAIL 1).err Reg.LNK_ERR Bit.LNK_ERR_CONF_TAG

/-- Settle a unit once its last part has come. One with a poisoned or failed line, or whose session is over, is delivered so
whole (R369, R374, R440; DESIGN CHOICE, log entry 86). -/
def Die.settleUnit (d : Die) (slot n : Nat) : Die :=
  if d.far.asked.any fun a => a.slot == slot && unitPart n a.key then d
  else
    match d.gathered slot n with
    | none => d.dropParts slot n
    | some (r, lines) =>
      let d1 := d.dropParts slot n
      match (r :: lines).find? fun l => l.cell.poison || l.cell.bad with
      | some l => d1.landUnit slot n fun _ => l.cell
      | none => if d.saggar.confKeys.isNone then d1.landUnit slot n fun _ => FarCell.error else d1.verifyUnit slot n r lines

/-- A read of the link comes back. -/
def Die.landRead (d : Die) (a : FarAsk) (c : FarCell) : Die :=
  let d1 := d.landReads [a] c
  if a.key < rawKey 0 then d1
  else d1.settleUnit a.slot (if a.key < plainKey 0 then a.key - rawKey 0 else (a.key - recKey 0) * 64)

/-- HOST_READ_RESPONSE: the oldest read of a line returns data, poison or an error (R369); in confidential mode the line is one
of a unit's, or holds its record (R374). A line nobody waits for any more is discarded. -/
def Die.hostReadResponse (d : Die) (line : BitVec 42) (data : Line) (how : HostReply) : Die :=
  match d.far.asked.find? fun a => d.askLine a == some line.toNat with
  | none => d
  | some a =>
    let d0 := if d.confMode then { d with saggar := { d.saggar with traffic := d.refclk } } else d
    match how with
    | .data => d0.landRead a ⟨data, false, false⟩
    | .poison => d0.landRead a ⟨0#512, true, false⟩
    | .error => (d0.landRead a FarCell.error).err Reg.LNK_ERR Bit.LNK_ERR_HOST_ERR

/-- HOST_READ_TIMEOUT: a read with no data in TIMEOUT µs is delivered as an uncorrectable error. -/
def Die.hostReadTimeout (d : Die) (line : BitVec 42) : Die :=
  match d.far.asked.find? fun a => d.askLine a == some line.toNat && d.elapsed a.since (d.rf Reg.LNK_HOST_CFG 15 0) with
  | none => d
  | some a => (d.landRead a FarCell.error).err Reg.LNK_ERR Bit.LNK_ERR_HOST_TIMEOUT

/-- Every HOST read outstanding ends as an uncorrectable error (R394, R395). -/
def Die.failHost (d : Die) : Die :=
  let asks := d.far.asked
  let d1 : Die := { d with far := { d.far with
    asked := []
    arrived := d.far.arrived.filter fun l => !(decide (rawKey 0 ≤ l.key) && decide (l.key < plainKey 0)) &&
      !(decide (recKey 0 ≤ l.key) && decide (l.key < waitKey 0)) } }
  (asks.foldl (fun (acc : Die) a =>
    if a.key < rawKey 0 then acc.deliverFar a.slot a.key a.via FarCell.error
    else if a.key < waitKey 0 then acc
    else acc.deliverFar a.slot (a.key - waitKey 0) a.via FarCell.error) d1).settleLeaving

/-- HOST_SNOOP: every snoop is answered with RspIHitI (R367). -/
def Die.hostSnoop (d : Die) (line : BitVec 42) : Die := d.emit (.snoop (64 * line.toNat))

/-- The flushing reads under way have ended with the link or the engine that held them (R394, R395; DESIGN CHOICE, log entry
86). -/
def Die.dropFlushes (d : Die) : Die :=
  let keep := fun (f : Option Flush) => f.filter fun x => !x.issued
  { d with
    sb := d.sb.map fun e => { e with hostFlush := keep e.hostFlush }
    link := { d.link with incoming := d.link.incoming.map fun x => { x with hostFlush := keep x.hostFlush } } }

/-! ### Discovery (R376, R377) -/

/-- This die's neighbours by port, 0xFF for none. -/
def Die.neighbours (d : Die) : Nat × Nat :=
  let on := fun (p : Nat) => if d.portState p = 3 then (d.peerOn p).getD 0xFF else 0xFF
  (on 1, on 2)

/-- A die's neighbours as its TOPO named them. -/
def Die.topoOf (d : Die) (x : Nat) : Option (Nat × Nat) :=
  if x = d.dieId then some d.neighbours else (d.link.topos.find? fun t => t.1 == x).map (·.2)

/-- The dies met by walking out from a port, in order; none beyond a die whose TOPO is missing. -/
def Die.walk (d : Die) : Nat → Nat → Nat → List Nat
  | 0, _, _ => []
  | n + 1, prev, cur =>
    if cur = 0xFF ∨ cur = d.dieId then []
    else
      match d.topoOf cur with
      | none => [cur]
      | some t => cur :: d.walk n cur (if t.1 = prev then t.2 else t.1)

/-- The dies reached through a port. -/
def Die.reachedBy (d : Die) (p : Nat) : List Nat :=
  let n := d.neighbours
  d.walk 8 d.dieId (if p = 1 then n.1 else n.2)

/-- Every die reached, this one included, as a mask. -/
def Die.reachMask (d : Die) : Nat :=
  (d.reachedBy 1 ++ d.reachedBy 2).foldl (fun m x => m ||| 2 ^ (x % 8)) (2 ^ d.dieId)

/-- The default route to a die: a shortest one, ties to port 1; 3 where no route leads (R377, R382). -/
def Die.defaultRoute (d : Die) (x : Nat) : Nat :=
  if x = d.dieId then 0
  else
    let a := (d.reachedBy 1).findIdx? (· == x)
    let b := (d.reachedBy 2).findIdx? (· == x)
    match a, b with
    | some i, some j => if i ≤ j then 1 else 2
    | some _, none => 1
    | none, some _ => 2
    | none, none => 3

/-- A routing table as its register holds it. -/
def tableWord (l : List Nat) : Word := BitVec.ofNat 32 (packElems 2 l)

/-- Topology: 0 single die, 2 ring when a walk comes back, else 1 (R376, Table 16.9). -/
def Die.topology (d : Die) : Nat :=
  let n := d.neighbours
  if n.1 = 0xFF ∧ n.2 = 0xFF then 0
  else if n.1 ≠ 0xFF ∧ n.2 ≠ 0xFF ∧ (d.reachedBy 1).contains n.2 then 2 else 1

/-- Set MEMBERS, with the fabric interrupt when it changes (Table 20.5). The dies no longer reached are noted for the next
tick (R392). -/
def Die.setMembers (d : Die) (m : Nat) : Die :=
  if d.members = m then d
  else
    let gone := (diesOf d.members).filter fun x => !m.testBit x
    let d1 := { d with link := { d.link with lost := (d.link.lost.filter fun x => !gone.contains x) ++ gone } }
    (d1.setRf Reg.LNK_STAT 23 16 m).event 12

/-- Firmware's default routes in all three tables, with the topology and the members. -/
def Die.installDefaults (d : Die) : Die :=
  let w := tableWord ((List.range 8).map d.defaultRoute)
  let d1 := ((d.setReg (Reg.LNK_ROUTE 0) w).setReg (Reg.LNK_ROUTE 1) w).setReg (Reg.LNK_ROUTE 2) w
  (d1.setRf Reg.LNK_STAT 15 14 d.topology).setMembers d.reachMask

/-- Whether discovery is complete: a TOPO from every die reached, die 0 among them. -/
def Die.discovered (d : Die) : Bool :=
  (d.reachMask).testBit 0 && (diesOf d.reachMask).all fun x => (d.topoOf x).isSome

/-- FABRIC_READY: routes, members and FAB_READY once discovery completes; the route latency has been measured. -/
def Die.fabricReady (d : Die) (latency : Nat) : Die :=
  if d.discovered ∧ (d.neighbours ≠ (0xFF, 0xFF)) then
    let d1 := { d with link := { d.link with latency := latency } }
    d1.installDefaults.setRf Reg.LNK_STAT 12 12 1
  else d

/-- Send this die's TOPO on every active peer port. -/
def Die.sendTopo (d : Die) : Die :=
  [1, 2].foldl (fun acc p => if acc.portState p = 3 then acc.portMsg p 0xD 7 false 0 0 [d.neighbours.1, d.neighbours.2] [] else acc) d

/-- PEER_PORT_TRAINED: a peer port finishes UCIe training and sends HELLO. -/
def Die.peerPortTrained (d : Die) (port : Bool) (rate : BitVec 3) (repaired : BitVec 4) : Die :=
  let p := if port then 2 else 1
  let x := d.port p
  if x.enabled ∧ d.portState p ≤ 1 ∧ 1 ≤ rate.toNat ∧ rate.toNat ≤ 4 ∧ rate.toNat ≤ x.cap then
    let d1 := ((d.setRf (Reg.LNK_PORT_STAT p) 6 4 rate.toNat).setRf (Reg.LNK_PORT_STAT p) 11 8 repaired.toNat).setPortState p 2
    (d1.setPort p { x with fails := 0 }).portMsg p 0xC 7 false 0 0 [(d.reg Reg.NS_ID).toNat, p] []
  else d

/-- Port number of a header. -/
def portOf (h : Hdr) : Nat := if h.port then 2 else 1

/-- Lane number of a header. -/
def laneOf (h : Hdr) : Nat := if h.lane then 1 else 0

/-- Take a message off a port: its buffer's credit goes back, and its payload is counted (R380, Table 16.8). -/
def Die.received (d : Die) (p cls lane bytes : Nat) : Die :=
  let x := d.port p
  let c := d.countPayload (Reg.LNK_PORT_RX p) x.rxRem bytes
  (c.2.setPort p { x with owed := bump x.owed (2 * cls + lane) (· + 1), rxRem := c.1 }).ackNow p

/-- Lane of a forwarded message: 1 from the link into die 0 of a ring on (R380). -/
def Die.forwardLane (d : Die) (q lane : Nat) : Nat :=
  if d.rf Reg.LNK_STAT 15 14 = 2 ∧ d.peerOn q = some 0 then 1 else lane

/-- Send a TOPO on its way on a port. -/
def Die.passTopo (d : Die) (q lane tag : Nat) (t : Nat × Nat × Nat) : Die :=
  d.sendFlit q (msgFlit 0xD (d.forwardLane q lane) t.1 7 false 0 tag [t.2.1, t.2.2] [])

/-- Whether a port carries messages. -/
def Die.portOpen (d : Die) (p : Nat) : Bool := d.portState p == 3

/-- ESLIS_HELLO: a HELLO activates the link, or the link is refused for a shared die ID or another MAJOR. A die that joins is
sent the TOPOs held (R377; DESIGN CHOICE, log entry 87). -/
def Die.eslisHello (d : Die) (h : Hdr) (nsId : Word) : Die :=
  let p := (portOf h)
  if d.portState p ≠ 2 then d
  else
    let d1 := d.received p 3 (laneOf h) 0
    if h.src.toNat = d.dieId then (d1.setPortState p 5).err Reg.LNK_ERR Bit.LNK_ERR_DUP_ID
    else if nsId.f 15 8 ≠ d.rf Reg.NS_ID 15 8 then (d1.setPortState p 5).err Reg.LNK_ERR Bit.LNK_ERR_REVISION
    else
      let d2 := (((d1.setRf (Reg.LNK_PORT_STAT p) 14 12 h.src.toNat).setRf (Reg.LNK_PORT_STAT p) 15 15 1).setPortState p 3).sendTopo
      (d2.link.topos.filter fun t => t.1 != h.src.toNat).foldl (fun acc t => acc.passTopo p 0 0 t) d2

/-- ESLIS_TOPO: a TOPO is recorded, forwarded once, and may complete discovery. In a fabric that is ready it has the routes
recomputed at the next tick (R394). -/
def Die.eslisTopo (d : Die) (h : Hdr) (die1 die2 : BitVec 8) (latency : BitVec 32) : Die :=
  let t := (h.src.toNat, die1.toNat, die2.toNat)
  if !d.portOpen (portOf h) then d
  else
    let d1 := d.received (portOf h) 3 (laneOf h) 0
    if d1.link.topos.contains t || h.src.toNat == d.dieId then d1
    else
      let d2 := { d1 with link := { d1.link with topos := (d1.link.topos.filter fun (o : Nat × Nat × Nat) => o.1 != t.1) ++ [t] } }
      let q := 3 - (portOf h)
      let d3 := if d2.portState q = 3 then d2.passTopo q (laneOf h) h.tag.toNat t else d2
      if d3.rf Reg.LNK_STAT 12 12 = 1 then { d3 with link := { d3.link with recompute := true } } else d3.fabricReady latency.toNat

/-! ### Flits (R379, R380, R381, R393) -/

/-- A port goes into retraining; between a RELEASE and T0 + 1,750 ns it waits to (R393). -/
def Die.startRetrain (d : Die) (p : Nat) : Die :=
  if d.portState p = 2 ∨ d.portState p = 3 then
    if d.link.quietUntil ≤ d.ftime then (d.setPort p { d.port p with retrainDue := false }).setPortState p 4
    else d.setPort p { d.port p with retrainDue := true }
  else d

/-- Retrainings that waited begin once they may (R393). -/
def Die.dueRetrains (d : Die) : Die :=
  [0, 1, 2].foldl (fun (acc : Die) p => if (acc.port p).retrainDue then acc.startRetrain p else acc) d

/-- Replay every unacknowledged flit of a port; one sent 8 times without acceptance starts a retraining. -/
def Die.replayPort (d : Die) (p : Nat) : Die :=
  let x := d.port p
  match x.replay with
  | [] => d
  | u :: _ =>
    if 8 ≤ u.sent then d.startRetrain p
    else
      let d1 := (d.setPort p { x with replay := x.replay.map fun o => { o with sent := o.sent + 1, since := d.refclk } }).count
        (Reg.LNK_PORT_REPLAY p) 1
      x.replay.foldl (fun acc o => acc.emit (.flit p o.flit (flitBytes o.seq x.ack false [] o.flit))) d1

/-- Flits acknowledged: those up to and including the SEQ in ACK. -/
def ackReplay (ack : Nat) (l : List Unacked) : List Unacked :=
  match l.findIdx? fun u => u.seq == ack with
  | some i => l.drop (i + 1)
  | none => l

/-- Credits after a flit's CREDIT fields (Table 16.3). -/
def creditAdd (credits : List Nat) (w : BitVec 32) : List Nat :=
  (List.range 4).foldl (fun l c =>
    let b := byteOf w.toNat c
    bump l (2 * c + b / 128) (· + b % 128)) credits

/-- More than 64 CRC errors within 1 ms start a retraining (R393). -/
def Die.crcError (d : Die) (p : Nat) : Die :=
  let x := d.port p
  let recent := (d.refclk :: x.crcs).filter fun t => decide (d.refclk ≤ t + 38400)
  let d1 := (d.setPort p { x with crcs := recent }).count (Reg.LNK_PORT_CRC p) 1
  if 64 < recent.length then d1.startRetrain p else d1

/-- Discard a flit and ask for a replay from ACK + 1 (R379). -/
def Die.sendNak (d : Die) (p : Nat) : Die :=
  d.emit (.flit p Flit.null (flitBytes (d.port p).txSeq (d.port p).ack true [] Flit.null))

/-- Take a flit in: its acknowledgement and credits act, and each illegal message in it is dropped with PROTOCOL (R379, R381). -/
def Die.takeFlit (d : Die) (p : Nat) (v : Nat) : Die :=
  let x := d.port p
  let kind := fld v 26 25
  let d1 := d.setPort p { x with
    rxSeq := if kind = 0 then x.rxSeq else (x.rxSeq + 1) % 4096
    replay := ackReplay (fld v 23 12) x.replay
    credits := creditAdd x.credits (BitVec.ofNat 32 (fld v 63 32)) }
  let bad := if kind = 1 then badMessages 15 15 (fld v 2015 96) else 0
  let d2 := (List.range bad).foldl (fun acc _ => acc.err Reg.LNK_ERR Bit.LNK_ERR_PROTOCOL) d1
  let d3 := (if v.testBit 24 then d2.replayPort p else d2).pump p
  if kind ≠ 0 ∧ (d3.port p).txSeq = x.txSeq then d3.ackNow p else d3

/-- FLIT_RECEIVE: a flit is accepted, or discarded with NAK on a CRC error, an illegal KIND or a SEQ out of order (R378,
R379). A NULL flit holds no SEQ of its own (DESIGN CHOICE, log entry 66). -/
def Die.flitReceive (d0 : Die) (f : FlitWords) : Die :=
  let d := d0.dueRetrains
  let p := if f.port then 2 else 1
  let v := f.bits.toNat
  if d.portState p ≠ 2 ∧ d.portState p ≠ 3 then d
  else if crc32c (toBytes 252 v) ≠ fld v 2047 2016 then (d.crcError p).sendNak p
  else if fld v 26 25 = 3 ∨ (fld v 26 25 ≠ 0 ∧ fld v 11 0 ≠ (d.port p).rxSeq) then d.sendNak p
  else d.takeFlit p v

/-- FLIT_ACK_TIMEOUT: a flit unacknowledged for 2 µs is replayed. -/
def Die.flitAckTimeout (d0 : Die) (port : Bool) : Die :=
  let d := d0.dueRetrains
  let p := if port then 2 else 1
  match (d.port p).replay with
  | [] => d
  | u :: _ => if d.elapsed u.since 2 ∧ (d.portState p = 2 ∨ d.portState p = 3) then d.replayPort p else d

/-! ### Routes held and requests answered (R382, R384) -/

/-- Release messages held on changed routes whose old responses have all arrived (R382). -/
def Die.releaseHeld (d : Die) : Die :=
  let live := fun (x t : Nat) => (d.far.txns.any fun y => y.idx == t) || d.link.sends.any fun s => 4096 + s.slot == t && s.left.contains x
  let holds := (d.link.holds.map fun h => (h.1, h.2.filter (live h.1))).filter fun h => h.2 != []
  let still := fun (m : Nat × Flit) => holds.any fun h => h.1 == m.1
  let go := d.link.heldMsgs.filter fun m => !still m
  let d1 := { d with link := { d.link with holds := holds, heldMsgs := d.link.heldMsgs.filter still } }
  go.foldl (fun acc m => match acc.egress m.1 with
    | some p => acc.sendFlit p m.2
    | none => acc.err Reg.LNK_ERR Bit.LNK_ERR_ROUTE) d1

/-! ### Model slots (Table 13.5) -/

abbrev mdlEmpty : Nat := 0
abbrev mdlLoading : Nat := 1
abbrev mdlReady : Nat := 2
abbrev mdlDamaged : Nat := 3
abbrev mdlRepairing : Nat := 4
abbrev mdlUnloading : Nat := 5

/-- A model slot. -/
def Die.model (d : Die) (s : Nat) : Model := SMap.get (fun _ => Model.empty) d.models s

/-- Store a model slot. -/
def Die.setModel (d : Die) (s : Nat) (m : Model) : Die := { d with models := SMap.put (fun _ => Model.empty) d.models s m }

/-- The slot and shard a transfer carries: its destination is the first page of a shard this die loads or repairs, as the
management context, and its length the shard's in whole lines (R308; DESIGN CHOICE, log entry 104). -/
def Die.shardAt (d : Die) (dst len tenant : Nat) : Option (Nat × Nat) :=
  if tenant ≠ mgmtCode then none
  else (List.range 32).findSome? fun s =>
    let m := d.model s
    if m.state = mdlLoading ∨ m.state = mdlRepairing then
      ((List.range m.shards.length).find? fun i => (m.shards[i]?).any fun h =>
        65536 * (m.base + h.page) == dst && 64 * ceilDiv h.len 64 == len).map fun i => (s, i)
    else none

/-- A shard has come in. -/
def Die.shardCame (d : Die) (s i : Nat) (bytes : List Nat) (bad : Bool) : Die :=
  let m := d.model s
  d.setModel s { m with inbox := m.inbox.filter (fun x => x.1 != i) ++ [(i, bytes, bad)] }

/-! ### The end of an incoming transfer (R15, R385, R387) -/

/-- Reply DONE to the source of a transfer. -/
def Die.done (d : Die) (x : Incoming) (st : Nat) : Die := d.sendMsg 7 x.src false 0 x.tag [st] []

/-- Perform the signal of a transfer whose last line is visible; a poisoned line poisons the counter (R387). -/
def Die.transferSignal (d : Die) (x : Incoming) : Die :=
  match x.signal with
  | none => d
  | some s =>
    let d1 := d.addEvt s.1 s.2
    if x.poison || x.status != stOk then d1.poisonEvt s.1 else d1

/-- End a transfer at its target: signal, then DONE; a shard is taken in. -/
def Die.transferEnd (d : Die) (x : Incoming) : Die :=
  if x.status = stPermission then d.done x stPermission
  else match x.shard with
  | some s => (d.shardCame s.1 s.2 x.buf (x.bufBad != 0)).done x stOk
  | none => (d.transferSignal x).done x (if x.poison then stDataFault else x.status)

/-- Whether every line of a transfer is visible: no flush and no acknowledgement is due (R15). -/
def Die.transferVisible (d : Die) (x : Incoming) : Bool :=
  x.hostFlush.isNone && !(d.far.txns.any fun t => t.write && t.slot == transferSlot x.id)

/-- Issue the flush a transfer's HOST writes owe (R368). -/
def Die.flushTransfer (d : Die) (x : Incoming) : Die :=
  match x.hostFlush with
  | some ⟨l, false⟩ =>
    if d.hostUp then (d.modIncoming x.id fun o => { o with hostFlush := some ⟨l, true⟩ }).emit (.hostFlush (64 * l))
    else d.modIncoming x.id fun o => { o with hostFlush := none }
  | _ => d

/-- Transfers whose last flit has come flush their HOST writes, and end once every line is visible (R385, R387). -/
def Die.settleTransfers (d : Die) : Die :=
  let d1 := (d.link.incoming.filter (·.ended)).foldl Die.flushTransfer d
  let done := d1.link.incoming.filter fun x => x.ended && d1.transferVisible x
  done.foldl Die.transferEnd { d1 with link := { d1.link with incoming := d1.link.incoming.filter fun x => !done.contains x } }

/-- HOST_WRITE_FLUSH_DONE: the zero-length read behind the HOST writes of a descriptor or a transfer completes (R368). -/
def Die.hostWriteFlushDone (d : Die) (of : FlushOf) : Die :=
  let clear := fun (f : Option Flush) => f.filter fun x => !x.issued
  match of with
  | .descriptor slot => d.modEntry slot.toNat fun e => { e with hostFlush := clear e.hostFlush }
  | .transfer id => (d.modIncoming id fun x => { x with hostFlush := clear x.hostFlush }).settleTransfers

/-! ### Remote requests answered (R384) -/

/-- Close a remote request. -/
def Die.closeTxn (d : Die) (t : Txn) : Die :=
  ({ d with far := { d.far with txns := d.far.txns.filter fun o => o != t } }).releaseHeld.settleTransfers

/-- A writer that met an uncorrectable error, a descriptor or an incoming transfer, ends with DATA_FAULT unless an earlier case
applies. -/
def Die.writeFailed (d : Die) (slot : Nat) : Die :=
  if transferSlot 0 ≤ slot then
    d.modIncoming (slot - transferSlot 0) fun x => { x with status := if x.status = stOk then stDataFault else x.status }
  else d.modEntry slot fun e => { e with status := if e.status = stOk then stDataFault else e.status }

/-- A request ends as an uncorrectable error. -/
def Die.failTxn (d : Die) (t : Txn) : Die :=
  (if t.write then d.writeFailed t.slot else d.deliverFar t.slot t.line t.via FarCell.error).closeTxn t

/-- The request a response's TAG names, when its epoch still holds. -/
def Die.txnOf (d : Die) (tag : BitVec 16) (write : Bool) : Option Txn :=
  d.far.txns.find? fun t => t.idx == tag.toNat % 4096 && t.write == write && t.epoch == tag.toNat / 4096 &&
    t.epoch == d.rf Reg.LNK_FENCE 3 0

/-- PEER_REQUEST_TIMEOUT: a remote request without response in TIMEOUT µs is an uncorrectable error. -/
def Die.peerRequestTimeout (d : Die) (idx : BitVec 12) : Die :=
  match d.far.txns.find? fun t => t.idx == idx.toNat && d.elapsed t.since (d.rf Reg.LNK_FAB_CFG 15 0) with
  | none => d
  | some t => ((d.failTxn t).count Reg.LNK_PEER_TIMEOUTS 1).err Reg.LNK_ERR Bit.LNK_ERR_PEER_TIMEOUT

/-! ### Messages on their way (R380, R382) -/

/-- A message whose body breaks Table 16.4: a field out of its range, or a poisoned payload that is not zero (R381). -/
def badMessage (h : Hdr) (op : Nat) (body payload : List Nat) : Bool := bodyBad op body || (op == 4 && h.poison && payload.any fun b => b != 0)

/-- Handle a message for one die: this die's own part when its tables say local, else on its way. One whose body breaks
Table 16.4 is dropped (R381). -/
def Die.routed (d : Die) (h : Hdr) (op bytes : Nat) (body payload : List Nat) (own : Die → Die) : Die :=
  if !d.portOpen (portOf h) then d
  else
    let d1 := d.received (portOf h) (msgClass op) (laneOf h) bytes
    if badMessage h op body payload then d1.err Reg.LNK_ERR Bit.LNK_ERR_PROTOCOL
    else
      match d1.route (portOf h) h.dst.toNat with
      | 0 => own d1
      | 3 => d1.err Reg.LNK_ERR Bit.LNK_ERR_ROUTE
      | q =>
        let f := msgFlit op (d1.forwardLane q (laneOf h)) h.src.toNat h.dst.toNat h.poison h.bulk.toNat h.tag.toNat body payload
        d1.sendFlit q f

/-- Table and lane of a message: its own, or those of the port and lane it arrived on. -/
def tableOf (via : Option Hdr) : Nat := (via.map portOf).getD 0

/-- Lane in which a message leaves on a port: 0 where it starts, else that of its forwarding (R380). -/
def Die.laneOut (d : Die) (via : Option Hdr) (q : Nat) : Nat :=
  match via with
  | none => 0
  | some h => d.forwardLane q (laneOf h)

/-- Members of a mask that a table leads out on a port. -/
def Die.maskVia (d : Die) (table q mask : Nat) : Nat :=
  (diesOf mask).foldl (fun m x => if x ≠ d.dieId ∧ d.route table x = q then m + 2 ^ x else m) 0

/-- A member with a drop entry sets ROUTE (R382). -/
def Die.dropMembers (d : Die) (table mask : Nat) : Die :=
  d.errIf ((diesOf mask).any fun x => x != d.dieId && d.route table x == 3) Reg.LNK_ERR Bit.LNK_ERR_ROUTE

/-- Send a CTL message to the members of a mask: DST 7 with the mask in its body, on each port that leads to some
of them (R382); a TICK goes ahead of every other queued flit (R390). One this die originates waits for each member whose
changed entry is held. -/
def Die.sendAll (d : Die) (via : Option Hdr) (op src value mask : Nat) : Die :=
  let held := if via.isNone then (diesOf mask).filter fun x => x != d.dieId && d.routeHeld x && (d.egress x).isSome else []
  let msg := fun (lane m : Nat) => msgFlit op lane src 7 false 0 0 [value, m] []
  let d1 := held.foldl (fun acc x => acc.holdFlit x (msg 0 (2 ^ x))) (d.dropMembers (tableOf via) mask)
  let rest := (diesOf mask).foldl (fun m x => if held.contains x then m else m + 2 ^ x) 0
  [1, 2].foldl (fun acc q =>
    let m := acc.maskVia (tableOf via) q rest
    let f := msg (acc.laneOut via q) m
    if m = 0 then acc else if op = 8 then acc.sendAhead q f else acc.sendFlit q f) d1

/-! ### Remote access served (R383, R385) -/

/-- Whether a remote access to an address is refused: outside the export window, or in a frame of a sealed model. -/
def Die.exportRefused (d : Die) (addr : Nat) : Bool :=
  let f := addr / 65536
  !(decide (d.link.expFirst ≤ f) && decide (f < d.link.expFirst + d.link.expCount)) || d.tier.sealedFrames.contains f

/-- Answer a remote request. -/
def Die.answer (d : Die) (h : Hdr) (op : Nat) (poison : Bool) (st : Nat) (payload : List Nat) : Die :=
  d.sendMsg op h.src.toNat poison 0 h.tag.toNat [st] payload

/-- Payload of a line message. -/
def linePayload (v : Nat) : List Nat := toBytes 64 v

/-- ESLIS_RD: a remote read of an exported line, served under the checks of the DMC. -/
def Die.eslisRd (d : Die) (h : Hdr) (addr : BitVec 36) (key tenant : BitVec 7) (queue : BitVec 20) : Die :=
  d.attempt serveSlot fun d => d.routed h 1 0 [addr.toNat, key.toNat, tenant.toNat, queue.toNat] [] fun d0 =>
    if d0.exportRefused addr.toNat then
      (d0.err Reg.LNK_ERR Bit.LNK_ERR_EXPORT).answer h 4 false stPermission (linePayload 0)
    else
      let n := addr.toNat / 64
      let mark := (d0.lineCell n).poison
      let p := d0.readFrame ⟨4, tenant.toNat, queue.toNat, serveSlot⟩ key.toNat (n / 1024) (n % 1024)
      if p.1.bad then p.2.answer h 4 mark (if mark then stOk else stDataFault) (linePayload 0)
      else p.2.answer h 4 false stOk (linePayload p.1.data)

/-- Serve a remote write with the write that lands it. -/
def Die.serveWrite (d : Die) (h : Hdr) (addr tenant queue : Nat) (write : Who → Die → Bool × Die) : Die :=
  if d.exportRefused addr then (d.err Reg.LNK_ERR Bit.LNK_ERR_EXPORT).answer h 5 false stPermission []
  else
    let p := write ⟨4, tenant, queue, serveSlot⟩ d
    p.2.answer h 5 false (if p.1 then stOk else stDataFault) []

/-- ESLIS_WR: a remote line write; WACK follows once it is visible. -/
def Die.eslisWr (d : Die) (h : Hdr) (addr : BitVec 36) (key tenant : BitVec 7) (queue : BitVec 20) (v : Line) : Die :=
  d.attempt serveSlot fun d => d.routed h 2 64 [addr.toNat, key.toNat, tenant.toNat, queue.toNat] (linePayload v.toNat) fun d0 =>
    d0.serveWrite h addr.toNat tenant.toNat queue.toNat fun w d1 =>
      d1.writeFrame w key.toNat (addr.toNat / 65536) (addr.toNat / 64 % 1024) v h.poison

/-- ESLIS_WRM: a remote masked line write. -/
def Die.eslisWrm (d : Die) (h : Hdr) (addr : BitVec 36) (key tenant : BitVec 7) (queue : BitVec 20) (mask : BitVec 64)
    (v : Line) : Die :=
  d.attempt serveSlot fun d => d.routed h 3 64 [addr.toNat, key.toNat, tenant.toNat, queue.toNat, mask.toNat] (linePayload v.toNat) fun d0 =>
    d0.serveWrite h addr.toNat tenant.toNat queue.toNat fun w d1 =>
      d1.mergeFrame w key.toNat (addr.toNat / 65536) (addr.toNat / 64 % 1024) mask v

/-- ESLIS_RDATA: read data returns to its request; one whose epoch or request is gone is discarded. -/
def Die.eslisRdata (d : Die) (h : Hdr) (st : BitVec 8) (v : Line) : Die :=
  d.routed h 4 64 [st.toNat] (linePayload v.toNat) fun d0 =>
    match d0.txnOf h.tag false with
    | none => d0
    | some t =>
      let c : FarCell := if h.poison then ⟨0#512, true, false⟩ else if st.toNat ≠ stOk then FarCell.error else ⟨v, false, false⟩
      (d0.deliverFar t.slot t.line t.via c).closeTxn t

/-- ESLIS_WACK: a write acknowledgement returns to its request. -/
def Die.eslisWack (d : Die) (h : Hdr) (st : BitVec 8) : Die :=
  d.routed h 5 0 [st.toNat] [] fun d0 =>
    match d0.txnOf h.tag true with
    | none => d0
    | some t => (if st.toNat ≠ stOk then d0.writeFailed t.slot else d0).closeTxn t

/-! ### F.SEND and F.BCAST (R386 to R388) -/

/-- Destination, target mask, sig, counter and increment of an F.* (Table 16.5). -/
structure FParams where
  dst : Nat
  mask : Nat
  sig : Bool
  counter : Nat
  inc : Nat
  deriving DecidableEq, Repr

/-- The parameters of an F.*. -/
def fParams (x : DescBits) : FParams :=
  if opcodeOf x = 0xA0 then ⟨pF x 47 0, 2 ^ pF x 50 48, pB x 51, pF x 67 52, pF x 83 68⟩
  else ⟨pF x 47 0, pF x 55 48, pB x 56, pF x 72 57, pF x 88 73⟩

/-- Bytes of SRC: 0 when it is absent. -/
def fLength (x : DescBits) : Nat :=
  let s := streamOf x 0
  if s.present then unitCount x s * s.unitBytes else 0

/-- Whether the parameters and LENGTH are legal (R386, Table 16.5). -/
def fLegal (e : Entry) (d : Die) : Bool :=
  let q := fParams e.desc
  let s := streamOf e.desc 0
  q.dst % 64 == 0 && (s.present || q.sig) && (!q.sig || decide (1 ≤ q.inc)) && decide (fLength e.desc ≤ 2 ^ 32 - 64) &&
    q.mask != 0 && !q.mask.testBit d.dieId && (diesOf q.mask).all fun x => d.members.testBit x

/-- Egress ports on the routes to the dies of a mask. -/
def Die.fPorts (d : Die) (mask : Nat) : List Nat := [1, 2].filter fun q => d.maskVia 0 q mask != 0

/-- Egress ports an executing F.* holds (R387). -/
def Die.fHolds (d : Die) (e : Entry) : List Nat :=
  match d.link.sends.find? fun s => s.slot == e.slot with
  | some s => s.ports
  | none => d.fPorts (fParams e.desc).mask

/-- Whether no other executing F.* holds a port of the routes, nor a shard on its way (R12, R308, R387). -/
def fMay (e : Entry) (d : Die) : Bool :=
  !(d.link.sends.any fun s => s.slot == shardSlot && s.ports.any fun q => (d.fPorts (fParams e.desc).mask).contains q) &&
  !(d.sb.any fun o => o.slot != e.slot && (o.phase == .started || o.phase == .loading) && unitOf (opcodeOf o.desc) == some ExecUnit.link &&
    (d.fHolds o).any fun q => (d.fPorts (fParams e.desc).mask).contains q)

/-- The BULK flits of a transfer: 240 bytes each, the last marked LAST; each tells which of the lines its bytes touch come from
a bad unit of `n` bytes. -/
def bulkFlits (data len n : Nat) (bad : List Bool) (lane bid : Nat) : List Flit :=
  (List.range (ceilDiv len 240)).map fun i =>
    let o := 240 * i
    let k := min 240 (len - o)
    let mask := ((List.range ((o + k - 1) / 64 + 1 - o / 64)).map fun j => if bad.getD ((o / 64 + j) * 64 / n) false then 2 ^ j else 0).foldl
      (· + ·) 0
    ⟨2, 2, lane, bid, decide (len ≤ o + k), false, mask, toBytes k (bytesAt data o k), []⟩

/-- Body of OPEN (Table 16.4). -/
def openBody (dst len mask : Nat) (sig : Bool) (counter inc tenant queue : Nat) : List Nat :=
  [dst, len, mask, if sig then 1 else 0, counter, inc, tenant, queue]

/-- Whether a flit is the OPEN of a BULK_ID. -/
def Flit.opens (f : Flit) (bid : Nat) : Bool := f.kind == 1 && f.cls == 0 && f.bulk == bid && f.payload.headD 0 % 16 == 6

/-- Send a flit of a transfer behind its OPEN, which may be held (R382, R385). -/
def Die.sendBulk (d : Die) (q : Nat) (f : Flit) : Die :=
  match d.link.heldMsgs.find? fun m => m.2.opens f.bulk && d.egress m.1 == some q with
  | some m => d.holdFlit m.1 f
  | none => d.sendFlit q f

/-- Send OPEN and flits on one port under a BULK_ID of its own, to the dies of a mask. -/
def Die.sendTransfer (d : Die) (via : Option Hdr) (q src mask tag : Nat) (body : List Nat) (fs : Nat → Nat → List Flit) : Nat × Die :=
  let bid := (d.port q).nextBulk
  let lane := d.laneOut via q
  let f := msgFlit 6 lane src ((diesOf mask).headD 0) false bid tag body []
  let d1 := d.setPort q { d.port q with nextBulk := (bid + 1) % 16 }
  let d2 := match if via.isNone then (diesOf mask).find? fun x => d1.routeHeld x else none with
    | some x => d1.holdFlit x f
    | none => d1.sendFlit q f
  (bid, (fs lane bid).foldl (fun acc g => acc.sendBulk q g) d2)

/-- The body of F.SEND and F.BCAST: OPEN and the data go out on every port of the routes (R387). -/
def fBody (run : Run) (e : Entry) (d : Die) : Die :=
  let x := e.desc
  let q := fParams x
  let s := streamOf x 0
  let r : List UnitRd × Die := if s.present then d.readStream e 4 s else ([], d)
  let len := fLength x
  let data := concatUnits s.unitBytes (r.1.map fun u => if u.bad then { u with data := 0 } else u)
  let bad := r.1.map (·.bad)
  let tag := r.2.txnTag (e.slot % 4096)
  let flits := fun (lane bid : Nat) =>
    let fs := bulkFlits data len s.unitBytes bad lane bid
    match run.stop with
    | none => fs
    | some n => fs.take n
  let ports := r.2.fPorts q.mask
  let bulks := ports.map fun p => (p, (r.2.port p).nextBulk)
  let d1 : Die := { r.2 with link := { r.2.link with sends := r.2.link.sends ++
    [⟨e.slot, tag, diesOf q.mask, 0, bad.any id, false, ports, r.2.refclk, bulks, bulks⟩] } }
  ports.foldl (fun acc p =>
    let m := acc.maskVia 0 p q.mask
    (acc.sendTransfer none p acc.dieId m tag (openBody q.dst len m q.sig q.counter q.inc e.tenant e.queue) flits).2) d1

/-- Send the next shard as firmware's F.* to the dies that take it, once no executing F.* holds a port of the route
(R308, R387). -/
def Die.startShard (d : Die) : Die :=
  match d.link.shards with
  | [] => d
  | x :: rest =>
    let ports := d.fPorts x.mask
    if ports = [] ∨ (d.link.sends.any (·.slot == shardSlot)) = true ∨
        (d.sb.any fun o => (o.phase == .started || o.phase == .loading) && unitOf (opcodeOf o.desc) == some ExecUnit.link &&
          (d.fHolds o).any fun q => ports.contains q) = true then d
    else
      let tag := d.txnTag (shardSlot % 4096)
      let len := 64 * ceilDiv x.bytes.length 64
      let bulks := ports.map fun p => (p, (d.port p).nextBulk)
      let d1 : Die := { d with link := { d.link with shards := rest, sends := d.link.sends ++
        [⟨shardSlot, tag, diesOf x.mask, 0, false, false, ports, d.refclk, bulks, bulks⟩] } }
      ports.foldl (fun acc p =>
        let m := acc.maskVia 0 p x.mask
        (acc.sendTransfer none p acc.dieId m tag (openBody (65536 * x.page) len m false 0 0 mgmtCode 0)
          (bulkFlits (ofBytes x.bytes) len 64 [])).2) d1

/-- F_SEND: sends data and an optional signal to one die. -/
def Die.fSend (d : Die) (slot : BitVec 12) (run : Run) : Die := d.runOp 0xA0 slot.toNat run fMay fLegal (fBody run)

/-- F_BCAST: sends data and an optional signal to a set of dies. -/
def Die.fBcast (d : Die) (slot : BitVec 12) (run : Run) : Die := d.runOp 0xA1 slot.toNat run fMay fLegal (fBody run)

/-- Forget a transfer under way. -/
def Die.dropSend (d : Die) (slot : Nat) : Die :=
  ({ d with link := { d.link with sends := d.link.sends.filter fun s => s.slot != slot } }).releaseHeld

/-- The status of Table 16.6 once the answers are in, or time has run out. -/
def Sending.outcome (s : Sending) (timeout : Bool) : Nat :=
  if s.status = stPermission then stPermission
  else if s.poison || s.status == stDataFault then stDataFault
  else if timeout then stTimeout else s.status

/-- Complete an F.* (R388). -/
def Die.endSend (d : Die) (s : Sending) (timeout : Bool) : Die :=
  ((d.dropSend s.slot).finish s.slot (s.outcome timeout) 0 0 0 0).startShard

/-- Abandon a transfer whose last flit has not gone out: its flits that still wait are dropped, and ABORT goes out behind OPEN
(Table 16.6). -/
def Die.abortBulk (d : Die) (b : Nat × Nat) : Die :=
  let mine := fun (f : Flit) => f.kind == 2 && f.bulk == b.2
  let x := d.port b.1
  let lane := ((x.queue.find? mine).map (·.lane)).getD 0
  let d1 := d.setPort b.1 { x with queue := x.queue.filter fun f => !mine f }
  let d2 : Die := { d1 with link := { d1.link with heldMsgs := d1.link.heldMsgs.filter fun m => !(mine m.2 && d1.egress m.1 == some b.1) } }
  d2.sendBulk b.1 ⟨2, 2, lane, b.2, false, true, 0, [], []⟩

/-- Send the ABORT flits of an F.* that is ended early (Table 16.6). -/
def Die.abortSend (d : Die) (slot : Nat) : Die :=
  match d.link.sends.find? fun s => s.slot == slot with
  | none => d
  | some s => (s.due.foldl Die.abortBulk d).dropSend slot

/-- Whether a target permits a transfer: the tier check on its destination, and its counter (R387). -/
def Die.transferOk (d : Die) (tenant dst len : Nat) (sig : Bool) (counter : Nat) : Bool × Die :=
  let lines := if len = 0 then [] else pagesOf ((dst / 64 : Nat) : Int) (((dst + len - 1) / 64 : Nat) : Int)
  let c := lines.foldl (fun acc g => if acc.1 then acc.2.dataCheck ⟨4, tenant, 0, noSlot⟩ (g * 1024) true else acc) (true, d)
  if c.1 && sig && !c.2.evtPermitted tenant counter then (false, c.2.err Reg.SCH_EVT_ERR Bit.SCH_EVT_ERR_FOREIGN) else c

/-- ESLIS_OPEN: a target checks the destination and counter of a transfer; dies on the way pass it on. -/
def Die.eslisOpen (d : Die) (h : Hdr) (dst : BitVec 48) (len : Word) (mask : BitVec 8) (sig : Bool) (counter inc : BitVec 16)
    (tenant : BitVec 7) (queue : BitVec 20) : Die :=
  let m := mask.toNat
  let body := fun (k : Nat) => openBody dst.toNat len.toNat k sig counter.toNat inc.toNat tenant.toNat queue.toNat
  if !d.portOpen (portOf h) then d
  else if bodyBad 6 (body m) then (d.received (portOf h) 0 (laneOf h) 0).err Reg.LNK_ERR Bit.LNK_ERR_PROTOCOL
  else
    let d1 := (d.received (portOf h) 0 (laneOf h) 0).dropMembers (portOf h) m
    let out := [1, 2].foldl (fun (acc : List (Nat × Nat) × Die) q =>
      let mq := acc.2.maskVia (portOf h) q m
      if mq = 0 then acc
      else
        let t := acc.2.sendTransfer (some h) q h.src.toNat mq h.tag.toNat (body mq) (fun _ _ => [])
        (acc.1 ++ [(q, t.1)], t.2)) (([] : List (Nat × Nat)), d1)
    let own := m.testBit d.dieId
    let shard := if own then d.shardAt dst.toNat len.toNat tenant.toNat else none
    let ok : Bool × Die := if own && shard.isNone then out.2.transferOk tenant.toNat dst.toNat len.toNat sig counter.toNat else (true, out.2)
    let x : Incoming := ⟨ok.2.link.nextIn, (portOf h), (laneOf h), h.bulk.toNat, h.src.toNat, h.tag.toNat, tenant.toNat, queue.toNat, own,
      out.1, dst.toNat, len.toNat, [], 0, if sig then some (counter.toNat, inc.toNat) else none, if ok.1 then stOk else stPermission, false,
      false, none, shard⟩
    if len = 0#32 then (if own then ok.2.transferEnd x else ok.2)
    else { ok.2 with link := { ok.2.link with incoming := ok.2.link.incoming ++ [x], nextIn := x.id + 1 } }

/-- Write the whole lines an incoming transfer has gathered; a lost write leaves DATA_FAULT. -/
def Die.flushLines (d : Die) (id : Nat) : Nat → Die
  | 0 => d
  | n + 1 =>
    match d.link.incoming.find? fun x => x.id == id with
    | none => d
    | some x =>
      if x.buf.length < 64 then d
      else
        let bad := x.bufBad % 2 == 1
        let p := d.writeData ⟨4, x.tenant, x.queue, transferSlot id⟩ (x.addr / 64) (if bad then 0#512 else BitVec.ofNat 512 (ofBytes (x.buf.take 64))) bad
        (p.2.modIncoming id fun o => { o with
          buf := x.buf.drop 64
          addr := x.addr + 64
          poison := x.poison || bad
          bufBad := x.bufBad / 2
          status := if p.1 then o.status else stDataFault }).flushLines id n

/-- This die's part in a BULK flit. -/
def Die.takeBulk (d : Die) (x : Incoming) (f : BulkFlit) : Die :=
  if x.own && x.status != stPermission && !f.abort then
    let n := min (min 240 f.bytes.toNat) x.left
    (d.modIncoming x.id fun o => { o with
      buf := o.buf ++ toBytes n f.data.toNat
      bufBad := o.bufBad ||| f.poison.toNat * 2 ^ (o.buf.length / 64)
      left := o.left - n }).flushLines x.id (if x.shard.isSome then 0 else 5)
  else d

/-- ESLIS_BULK: a BULK flit's data is written or forwarded; its LAST triggers the signal and DONE, its ABORT ends
the transfer. -/
def Die.eslisBulk (d : Die) (f : BulkFlit) : Die :=
  let p := if f.port then 2 else 1
  let ln := if f.lane then 1 else 0
  if !d.portOpen p then d
  else
    match d.link.incoming.find? fun x => x.port == p && x.lane == ln && x.bulk == f.bulk.toNat && !x.ended with
    | none => (d.received p 2 ln 0).err Reg.LNK_ERR Bit.LNK_ERR_PROTOCOL
    | some x => d.attempt serveSlot fun d0 =>
      let n := min 240 f.bytes.toNat
      let d1 := d0.received p 2 ln n
      let d2 := x.forward.foldl (fun acc q => acc.sendFlit q.1
        ⟨2, 2, acc.forwardLane q.1 ln, q.2, f.last, f.abort, f.poison.toNat, toBytes n f.data.toNat, []⟩) d1
      let d3 := d2.takeBulk x f
      let gone : Die := { d3 with link := { d3.link with incoming := d3.link.incoming.filter fun o => o.id != x.id } }
      if f.abort then (if x.own then gone.done x stCancelled else gone)
      else if f.last then (if x.own then (d3.modIncoming x.id fun o => { o with ended := true }).settleTransfers else gone)
      else d3

/-- ESLIS_DONE: a target's DONE; the first status other than OK to arrive decides, and the last answer completes the
F.* (R388). -/
def Die.eslisDone (d : Die) (h : Hdr) (st : BitVec 8) : Die :=
  d.routed h 7 0 [st.toNat] [] fun d0 =>
    match d0.link.sends.find? fun s => s.tag == h.tag.toNat && s.left.contains h.src.toNat with
    | none => d0
    | some s =>
      let s' := { s with left := s.left.filter (· != h.src.toNat), status := if s.status = 0 then st.toNat else s.status }
      if s'.left = [] then d0.endSend s' false
      else ({ d0 with link := { d0.link with sends := d0.link.sends.map fun o => if o = s then s' else o } }).releaseHeld

/-- FABRIC_DONE_TIMEOUT: an F.* with no DONE in TIMEOUT after its last flit completes. -/
def Die.fabricDoneTimeout (d : Die) (slot : BitVec 12) : Die :=
  match d.link.sends.find? fun s => s.slot == slot.toNat with
  | none => d
  | some s => if s.sent ∧ d.elapsed s.since (d.rf Reg.LNK_FAB_CFG 15 0) = true then d.endSend s true else d

/-- Firmware's transfers of shards go on: one without its DONE in time ends, and the next begins. -/
def Die.shardsGoOn (d : Die) : Die :=
  match d.link.sends.find? fun s => s.slot == shardSlot && s.sent && d.elapsed s.since (d.rf Reg.LNK_FAB_CFG 15 0) with
  | some s => d.endSend s true
  | none => d.startShard

/-! ### Time and barriers (R389, R391, R392) -/

/-- ESLIS_TIME_SEND: die 0 of a ready fabric sends TIME once per millisecond. -/
def Die.eslisTimeSend (d : Die) : Die :=
  if d.dieId = 0 ∧ d.rf Reg.LNK_STAT 12 12 = 1 ∧ d.elapsed d.link.timeSent 1000 = true then
    (({ d with link := { d.link with timeSent := d.refclk } }).sendAll none 9 0 d.ftime d.members)
  else d

/-- ESLIS_TIME: FTIME is set from the message plus the route's latency, and the message goes on. -/
def Die.eslisTime (d : Die) (h : Hdr) (value : BitVec 64) (mask : BitVec 8) : Die :=
  if !d.portOpen (portOf h) then d
  else
    let d1 := (d.received (portOf h) 3 (laneOf h) 0).sendAll (some h) 9 h.src.toNat value.toNat mask.toNat
    if mask.toNat.testBit d.dieId then
      { d1 with link := { d1.link with
        ftOffset := (value.toNat + d.link.latency + 2 ^ 64 - d.refclk * 625 / 24 % 2 ^ 64) % 2 ^ 64 } }
    else d1

/-- ESLIS_ARRIVE: the coordinator records an arrival and may fix T0. -/
def Die.eslisArrive (d : Die) (h : Hdr) (id : BitVec 8) (k : BitVec 24) (mask : BitVec 8) : Die :=
  d.routed h 0xA 0 [id.toNat, k.toNat, mask.toNat] [] fun d0 => d0.arrive ⟨id.toNat, k.toNat, mask.toNat, h.src.toNat⟩

/-- ESLIS_RELEASE: a die learns a barrier's T0, and begins no retraining until it is past (R393); one that comes after the die's instant completes it on arrival. -/
def Die.eslisRelease (d : Die) (h : Hdr) (id : BitVec 8) (k : BitVec 24) (t0 : BitVec 64) : Die :=
  let quiet := if d.portOpen (portOf h) then max d.link.quietUntil (t0.toNat + 1750) else d.link.quietUntil
  ({ d with link := { d.link with quietUntil := quiet } }).routed h 0xB 0 [id.toNat, k.toNat, t0.toNat] [] fun d1 =>
    let r : Release := ⟨id.toNat, k.toNat, t0.toNat, h.poison⟩
    if d1.ftime ≤ t0.toNat + 250 * d1.dieId then
      { d1 with sched := { d1.sched with releases := d1.sched.releases ++ [r] } }
    else (d1.releaseBarrier r).err Reg.LNK_ERR Bit.LNK_ERR_BAR_LATE

/-! ### Retraining, failure and reset (R393 to R395) -/

/-- LINK_RETRAIN: a port ends its training, or its retraining. When that succeeds it carries traffic at the highest rate both
ends train at under its cap, or goes on with discovery; lanes beyond the spare ones set REPAIR_OUT, and the port takes the next
lower rate (R366, R393). -/
def Die.linkRetrain (d : Die) (port : BitVec 2) (ok repairOut : Bool) (t : Trained) : Die :=
  let p := port.toNat
  let old := d.rf (Reg.LNK_PORT_STAT p) 6 4
  let best := min (d.port p).cap (min 4 t.rate.toNat)
  if 2 < p ∨ !(d.portState p == 4 || (p == 0 && d.portState p == 1)) ∨ t.rate.toNat = 0 then d
  else
    let d1 := if d.portState p = 4 then d.count (Reg.LNK_PORT_RETRAIN p) 1 else d
    let d2 := d1.errIf repairOut Reg.LNK_ERR Bit.LNK_ERR_REPAIR_OUT
    if ok then
      let rate := if repairOut then min best (max 1 ((if old = 0 then best else old) - 1)) else best
      let d3 := ((d2.setRf (Reg.LNK_PORT_STAT p) 6 4 rate).setRf (Reg.LNK_PORT_STAT p) 11 8 t.repaired.toNat).setPortState p
        (if p = 0 ∨ (d.peerOn p).isSome then 3 else 2)
      (d3.setPort p { d3.port p with
        fails := 0
        crcs := []
        replay := (d3.port p).replay.map fun u => { u with sent := 1, since := d.refclk } }).pump p
    else d2.setPort p { d2.port p with fails := (d2.port p).fails + 1 }

/-- Close a peer port: what it held is gone, and members are recomputed at the next tick (R394). -/
def Die.portDown (d : Die) (p : Nat) : Die :=
  let x := d.port p
  let d1 := (((d.setPortState p 0).setRf (Reg.LNK_PORT_STAT p) 6 4 0).setRf (Reg.LNK_PORT_STAT p) 15 12 0).setPort p
    { Port.fresh with cap := x.cap, enabled := x.enabled, shut := x.shut }
  { d1 with link := { d1.link with recompute := true, portLost := true } }

/-- PEER_PORT_DOWN: a peer port that fails three retrainings in a row goes DOWN. -/
def Die.peerPortDown (d : Die) (port : Bool) : Die :=
  let p := if port then 2 else 1
  if d.portState p = 4 ∧ 3 ≤ (d.port p).fails then (d.portDown p).err Reg.LNK_ERR Bit.LNK_ERR_PEER_DOWN else d

/-- Firmware recomputes members and routes; after a port went DOWN it raises the fabric interrupt whatever came of them
(R394). What is held of dies no longer reached is out of date. -/
def Die.recomputeRoutes (d : Die) : Die :=
  if d.link.recompute then
    let d1 := ({ d with link := { d.link with recompute := false, portLost := false } }).installDefaults
    let d2 := if d.link.portLost && d.members == d1.members then d1.event 12 else d1
    ({ d2 with link := { d2.link with topos := d2.link.topos.filter fun (t : Nat × Nat × Nat) => d2.members.testBit t.1 } }).sendTopo
  else d

/-- Firmware's work at the tick: after a port went DOWN it recomputes routes and members; transfers and barriers towards a
die that became unreachable time out (R388, R392, R394). -/
def Die.recomputeMembers (d : Die) : Die :=
  let d0 := d.dueRetrains.recomputeRoutes
  let lost := d0.link.lost
  if lost = [] then d0
  else
    let d1 := { d0 with link := { d0.link with lost := [] } }
    let d2 := (d1.link.sends.filter fun s => s.left.any fun x => lost.contains x).foldl (fun acc s => acc.endSend s true) d1
    let hit := d2.sb.filter fun e => opcodeOf e.desc == 0x62 && e.phase == .started &&
      (diesOf (barMask e.desc)).any fun x => lost.contains x
    hit.foldl (fun acc e =>
      let a1 := acc.finish e.slot stTimeout 0 0 0 0
      { a1 with sched := { a1.sched with
        arrivals := a1.sched.arrivals.filter fun a => e.aux != [a.id, a.k]
        releases := a1.sched.releases.filter fun a => e.aux != [a.id, a.k] } }) d2

/-- LINK_RESET: the fabric engine resets; flits still to come of a transfer it answered are dropped or passed on (R395). -/
def Die.linkReset (d : Die) : Die :=
  let d1 := d.link.sends.foldl (fun acc s => acc.abortSend s.slot) d
  let d2 := d1.far.txns.foldl (fun acc t => acc.failTxn t) d1
  let d3 := d2.failHost.dropFlushes
  let d4 := (d3.link.incoming.filter (·.own)).foldl (fun acc x => acc.done x stUnitReset) d3
  let rest := (d4.link.incoming.filter fun x => !x.ended).map fun x => { x with own := false }
  ({ d4 with link := { d4.link with incoming := rest } }).resetUnit Reg.LNK_FENCE fun op => unitOf op == some ExecUnit.link

end Sys2Proof.Machine
end

