-- ==== Sys2Proof/Machine/Isp.lean ====
section
/-! DEFINITION. The in-line camera pipeline on the samples of one frame: Tables 15.3 and 15.4 stage by stage, with a free
value wherever the manual leaves a rounding, a filter or a place open (R344, R345, R349, log entries 40 and 42). -/

namespace Sys2Proof.Machine

/-! ### What a stage leaves open -/

/-- A value the manual only bounds: any from `a` to `b`. -/
def between (key stage i a b : Nat) : Nat := a + Config.isp key stage i % (b - a + 1)

/-- A quotient whose rounding the manual does not state: it or the next integer, unless it is exact. -/
def openQuot (key stage i p q : Nat) : Nat := between key stage i (p / q) (ceilDiv p q)

/-- A quotient rounded to nearest, a tie either way. -/
def nearest (key stage i p q : Nat) : Nat :=
  if 2 * (p % q) < q then p / q else if q < 2 * (p % q) then p / q + 1 else between key stage i (p / q) (p / q + 1)

/-- Index of a pixel's free values. -/
def pixIndex (ch y x : Nat) : Nat := (ch * 16384 + y) * 16384 + x

/-! ### Samples (Table 15.1) -/

/-- Image data type, order of colours, and mode of a frame's context. -/
def Frame.dt (f : Frame) : Nat := f.cfg.f 23 18
def Frame.inLine (f : Frame) : Bool := f.cfg.b 30

/-- CFA of a frame: from its parameter block in line, else from the register (R345). -/
def Frame.cfa (f : Frame) : Nat := if f.inLine then bytesAt f.block 10 1 % 4 else f.cfg.f 17 16

/-- The black level of a sample (R342). -/
def Frame.black (f : Frame) (y x : Nat) : Nat :=
  if f.dt = 0x1E then (if x % 2 = 1 then 0x10 else 0x80)
  else if f.inLine then bytesAt f.block (2 * (2 * (y % 2) + x % 2)) 2
  else f.blackReg.f 15 0

/-- WHITE of a frame. -/
def Frame.white (f : Frame) : Nat := if f.inLine then bytesAt f.block 8 2 else f.blackReg.f 31 16

/-- A sample of a frame, the black level where none was placed (Table 15.2: SHORT, LINE, OVERFLOW). -/
def Frame.sample (f : Frame) (y x : Nat) : Nat := ((f.lines.getD y ([], false)).1[x]?).getD (f.black y x)

/-! ### Linear values before the demosaic (Table 15.3) -/

/-- Black level: subtracted, clamped at 0, and WHITE − BLACK scaled to 65,535. -/
def Frame.linear (f : Frame) (y x : Nat) : Nat :=
  min 65535 (openQuot f.key 20 (pixIndex 0 y x) ((f.sample y x - f.black y x) * 65535) (f.white - f.black y x))

/-- Insert into an ascending list. -/
def ascInsert (v : Nat) : List Nat → List Nat
  | [] => [v]
  | o :: os => if v ≤ o then v :: o :: os else o :: ascInsert v os

/-- Whether a pixel is a green one. -/
def Frame.isGreen (f : Frame) (y x : Nat) : Bool :=
  let even := (y + x) % 2 == 0
  if f.cfa = 1 ∨ f.cfa = 2 then even else !even

/-- Places of a pixel's 8 same-colour neighbours that lie in the frame. Which 8 a green pixel has, at its CFA position or
the nearest, is left open. -/
def Frame.neighbours (f : Frame) (y x : Nat) : List (Nat × Nat) :=
  let near : List (Nat × Nat) := [(1, 1), (1, 3), (3, 1), (3, 3), (0, 2), (2, 0), (2, 4), (4, 2)]
  let far : List (Nat × Nat) := [(0, 0), (0, 2), (0, 4), (2, 0), (2, 4), (4, 0), (4, 2), (4, 4)]
  (if f.isGreen y x && Config.greenNear then near else far).filterMap fun o =>
    if 2 ≤ y + o.1 ∧ y + o.1 < f.height + 2 ∧ 2 ≤ x + o.2 ∧ x + o.2 < f.width + 2 then some (y + o.1 - 2, x + o.2 - 2) else none

/-- Median of a pixel's neighbours: between the fourth and the fifth; at the frame's edges, where fewer are, not stated. -/
def Frame.median (f : Frame) (y x : Nat) : Nat :=
  let l := (f.neighbours y x).foldl (fun acc n => ascInsert (f.linear n.1 n.2) acc) []
  if l.length = 8 then between f.key 21 (pixIndex 0 y x) (l.getD 3 0) (l.getD 4 0) else Config.isp f.key 21 (pixIndex 0 y x) % 65536

/-- Whether the DPC list names a pixel. -/
def Frame.listed (f : Frame) (y x : Nat) : Bool :=
  (List.range (bytesAt f.block 14 2)).any fun i =>
    let w := bytesAt f.block (3968 + 4 * i) 4
    fld w 13 0 == x && fld w 29 16 == y

/-- Defect pixel: the median, where the pixel differs from it by more than DPC_THRESH, and at each listed coordinate. -/
def Frame.defect (f : Frame) (y x : Nat) : Nat :=
  let v := f.linear y x
  let m := f.median y x
  if (bytesAt f.block 11 1).testBit 0 = true ∧ (f.listed y x = true ∨ bytesAt f.block 12 2 < (v - m) + (m - v)) then m else v

/-- Lens shading: the gain lies between the least and the greatest of its CFA position's grid. Where the grid's points
lie in the frame is left open. -/
def Frame.shaded (f : Frame) (y x : Nat) : Nat :=
  let v := f.defect y x
  if (bytesAt f.block 11 1).testBit 1 = false then v
  else
    let gains := (List.range 221).map fun i => bytesAt f.block (64 + 2 * (4 * i + (2 * (y % 2) + x % 2))) 2
    let lo := gains.foldl min 65535
    let hi := gains.foldl max 0
    min 65535 (between f.key 22 (pixIndex 0 y x) (v * lo / 4096) (ceilDiv (v * hi) 4096))

/-! ### Linear RGB (Table 15.3) -/

/-- Demosaic: edge-directed interpolation, whose filter is left open. -/
def demosaic (key ch y x : Nat) : Nat := Config.isp key 0 (pixIndex ch y x) % 65536

/-- An element of a denoise tile's output as a linear value (R349). -/
def tileValue (key i : Nat) (fp16 : Bool) (e : Nat) : Nat :=
  if fp16 then
    match decodeNum Fmt.FP16 e with
    | .nan => 0
    | .inf s => if s then 0 else 65535
    | .fin s m x => if s then 0 else min 65535 (nearest key 23 i (m * 65535 * 2 ^ x.toNat) (2 ^ (-x).toNat))
  else (e + 128) % 256 * 257

/-- Rows each line of a tile takes, for `n` elements (R347). -/
def tileLineRows (n : Nat) (fp16 : Bool) : Nat := ceilDiv (n * if fp16 then 2 else 1) 512

/-- Linear RGB after the denoise: from the output of the pixel's tile when that was used, else from the demosaic
(R349, R350). -/
def Frame.denoised (f : Frame) (ch y x : Nat) : Nat :=
  let tw := 16 * f.dnCfg.f 18 13
  let th := f.dnCfg.f 24 19
  let fp16 := f.dnCfg.b 29
  let t := y / th * (f.width / tw) + x / tw
  match f.tiles.find? fun p => p.1 == t with
  | none => demosaic f.key ch y x
  | some p =>
    let per := if fp16 then 256 else 512
    let bits := if fp16 then 16 else 8
    let row := p.2.getD ((ch * th + y % th) * tileLineRows tw fp16 + x % tw / per) 0
    let i := x % tw % per
    tileValue f.key (pixIndex ch y x) fp16 (fld row (bits * i + bits - 1) (bits * i))

/-- A signed field of 16 bits. -/
def s16 (v : Nat) : Int := if v < 32768 then (v : Int) else (v : Int) - 65536

/-- White balance and matrix: between the least and the greatest sum its gains and the roundings in between give. Whether a
gained value is clamped before the matrix is left open. -/
def Frame.matrixed (f : Frame) (ch y x : Nat) : Nat :=
  let term := fun (k : Nat) =>
    let p := f.denoised k y x * bytesAt f.block (16 + 2 * k) 2
    let lo : Int := (min 65535 (p / 4096) : Nat)
    let hi : Int := (ceilDiv p 4096 : Nat)
    let c := s16 (bytesAt f.block (24 + 2 * (3 * ch + k)) 2)
    (min (c * lo) (c * hi), max (c * lo) (c * hi))
  let a := (term 0).1 + (term 1).1 + (term 2).1
  let b := (term 0).2 + (term 1).2 + (term 2).2
  between f.key 24 (pixIndex ch y x) (min 65535 (a / 4096).toNat) (min 65535 ((b + 4095) / 4096).toNat)

/-- Tone: a 10-bit code on the line between two of the curve's 1,025 points. -/
def Frame.code (f : Frame) (ch y x : Nat) : Nat :=
  let v := f.matrixed ch y x
  let t := fun (i : Nat) => bytesAt f.block (1856 + 2 * i) 2 % 1024
  openQuot f.key 25 (pixIndex ch y x) (t (v / 64) * (64 - v % 64) + t (v / 64 + 1) * (v % 64)) 64

/-! ### YCbCr (Table 15.3) -/

/-- Weights of R and B in Y, in 1/10,000, by MATRIX (PRESUMED: those of BT.709 and BT.2020; log entry 42). -/
def Frame.lumaWeights (f : Frame) : Nat × Nat := if (bytesAt f.block 11 1).testBit 3 then (2627, 593) else (2126, 722)

/-- 10,000 × Y' of a pixel, in codes. -/
def Frame.lumaSum (f : Frame) (y x : Nat) : Nat :=
  let k := f.lumaWeights
  k.1 * f.code 0 y x + (10000 - k.1 - k.2) * f.code 1 y x + k.2 * f.code 2 y x

/-- Y of a pixel in narrow range, 10 bits. -/
def Frame.luma (f : Frame) (y x : Nat) : Nat :=
  64 + openQuot f.key 26 (pixIndex 0 y x) (876 * f.lumaSum y x) (10000 * 1023)

/-- Cb of a pixel, or Cr, in narrow range, 10 bits. -/
def Frame.chromaAt (f : Frame) (cr : Bool) (y x : Nat) : Nat :=
  let k := f.lumaWeights
  let c := if cr then f.code 0 y x else f.code 2 y x
  let q := 2 * (10000 - if cr then k.1 else k.2) * 1023
  openQuot f.key 27 (pixIndex (if cr then 1 else 0) y x) (512 * q + 896 * 10000 * c - 896 * f.lumaSum y x) q

/-- Cb, or Cr, of a 2 × 2 block whose first pixel is given: how its four pixels are weighed is left open. -/
def Frame.chroma (f : Frame) (cr : Bool) (y x : Nat) : Nat :=
  let l := [f.chromaAt cr y x, f.chromaAt cr y (x + 1), f.chromaAt cr (y + 1) x, f.chromaAt cr (y + 1) (x + 1)]
  between f.key 28 (pixIndex (if cr then 1 else 0) y x) (l.foldl min 1023) (l.foldl max 0)

/-! ### Crop and scalers (Table 15.3) -/

/-- An output's crop: its origin and size, and the size it is scaled to. -/
structure Scaling where
  y : Nat
  x : Nat
  h : Nat
  w : Nat
  toH : Nat
  toW : Nat
  deriving DecidableEq, Repr

/-- A downscaler from 1: a size equal to the crop's changes nothing. -/
def Scaling.same (s : Scaling) : Bool := s.h == s.toH && s.w == s.toW

/-- A code of an output of number `o`: the scaler's filter is left open. -/
def Frame.scaled (f : Frame) (s : Scaling) (o plane y x : Nat) (at1 : Nat → Nat → Nat) : Nat :=
  if s.same then at1 (s.y + y) (s.x + x) else Config.isp f.key (30 + o) (pixIndex plane y x) % 1024

/-- Sample `i` of row `y` of an output's Y plane. -/
def Frame.outLuma (f : Frame) (s : Scaling) (o y i : Nat) : Nat := f.scaled s o 0 y i f.luma

/-- Sample `i` of row `y` of an output's CbCr plane, Cb first in each pair. -/
def Frame.outChroma (f : Frame) (s : Scaling) (o y i : Nat) : Nat :=
  f.scaled s o (1 + i % 2) (2 * y) (i / 2 * 2) (f.chroma (i % 2 == 1))

/-- A code of plane `ch` of the vision output. -/
def Frame.outRgb (f : Frame) (s : Scaling) (ch y x : Nat) : Nat := f.scaled s 2 ch y x (f.code ch)

end Sys2Proof.Machine
end

