-- ==== Sys2Proof/Machine/Ife.lean ====
section
/-! DEFINITION. The image front end: frames and their marks, the in-line pipeline's tiles and outputs, C.BIND and
C.STATS, statistics, settings records and the camera's reset (chapter 15, R338 to R365). -/

namespace Sys2Proof.Machine

/-! ### Contexts (R339) -/

/-- A sensor context. -/
def Die.sensor (d : Die) (c : Nat) : Sensor := SMap.get (fun _ => Sensor.fresh) d.ife.sensors c

/-- Store a sensor context. -/
def Die.setSensor (d : Die) (c : Nat) (x : Sensor) : Die :=
  { d with ife := { d.ife with sensors := SMap.put (fun _ => Sensor.fresh) d.ife.sensors c x } }

/-- A field of IFE_CTX_CFG. -/
def Die.camF (d : Die) (c hi lo : Nat) : Nat := d.rf (Reg.IFE_CTX_CFG c) hi lo

/-- EN of a context. -/
def Die.camOn (d : Die) (c : Nat) : Bool := (d.reg (Reg.IFE_CTX_CFG c)).b 31

/-- MODE of a context: in-line when true. -/
def Die.camInline (d : Die) (c : Nat) : Bool := (d.reg (Reg.IFE_CTX_CFG c)).b 30

/-- WIDTH and HEIGHT of a context. -/
def Die.camW (d : Die) (c : Nat) : Nat := d.rf (Reg.IFE_CTX_SIZE c) 13 0
def Die.camH (d : Die) (c : Nat) : Nat := d.rf (Reg.IFE_CTX_SIZE c) 29 16

/-- TENANT of a context. -/
def Die.camTenant (d : Die) (c : Nat) : Nat := d.camF c 10 4

/-- The enabled context of a port and virtual channel. -/
def Die.camOf (d : Die) (port : Bool) (vc : BitVec 4) : Option Nat :=
  (List.range 4).find? fun c => d.camOn c && (d.reg (Reg.IFE_CTX_CFG c)).b 29 == port && d.camF c 27 24 == vc.toNat

/-- Whether a data type is a legal image type (Table 15.1). -/
def isImageDt (dt : Nat) : Bool := dt == 0x1E || (decide (0x2B ≤ dt) && decide (dt ≤ 0x2E))

/-- Whether a value of IFE_CTX_CFG with EN keeps the limits of R339 beside the other contexts. -/
def Die.camLimits (d : Die) (c : Nat) (w : Word) : Bool :=
  let others := (List.range 4).filter fun o => o != c && d.camOn o
  let wd := d.camW c
  let ht := d.camH c
  (others.all fun o => !((d.reg (Reg.IFE_CTX_CFG o)).b 29 == w.b 29 && d.camF o 27 24 == w.f 27 24)) &&
    isImageDt (w.f 23 18) && decide (1 ≤ w.f 15 13) && decide (w.f 15 13 ≤ 4) &&
    (if w.b 30 then
      (others.all fun o => !d.camInline o) && w.f 23 18 != 0x1E && wd % 2 == 0 && ht % 2 == 0 && decide (0 < wd) &&
        decide (0 < ht) && decide (wd ≤ 8192) && decide (ht ≤ 8192)
    else decide (16 ≤ wd) && decide (wd ≤ 16383) && decide (16 ≤ ht) && decide (ht ≤ 16383))

/-! ### Samples (Tables 15.1 and 15.5) -/

/-- Bits of a sample by data type. -/
def dtBits (dt : Nat) : Nat :=
  if dt == 0x2B then 10 else if dt == 0x2C then 12 else if dt == 0x2D then 14 else if dt == 0x2E then 16 else 8

/-- Samples a line carries: one a pixel, two for YUV422. -/
def lineSamples (dt w : Nat) : Nat := if dt = 0x1E then 2 * w else w

/-- A group of packed samples: how many samples, how many bytes. -/
def dtGroup (dt : Nat) : Nat × Nat :=
  if dt == 0x2B then (4, 5) else if dt == 0x2C then (2, 3) else if dt == 0x2D then (4, 7) else if dt == 0x2E then (1, 2) else (1, 1)

/-- The samples of one packed group (PRESUMED: the packings of MIPI CSI-2, log entry 40). -/
def unpackGroup (dt : Nat) (b : List Nat) : List Nat :=
  let g := fun (i : Nat) => b.getD i 0
  if dt == 0x2B then (List.range 4).map fun i => 4 * g i + g 4 / 4 ^ i % 4
  else if dt == 0x2C then [16 * g 0 + g 2 % 16, 16 * g 1 + g 2 / 16]
  else if dt == 0x2D then
    let low := g 4 + 256 * g 5 + 65536 * g 6
    (List.range 4).map fun i => 64 * g i + low / 64 ^ i % 64
  else if dt == 0x2E then [g 0 + 256 * g 1]
  else [g 0]

/-- One group of samples packed. -/
def packGroup (dt : Nat) (s : List Nat) : List Nat :=
  let g := fun (i : Nat) => s.getD i 0
  if dt == 0x2B then (List.range 4).map (fun i => g i / 4) ++ [packElems 2 (s.take 4)]
  else if dt == 0x2C then [g 0 / 16, g 1 / 16, g 0 % 16 + 16 * (g 1 % 16)]
  else if dt == 0x2D then (List.range 4).map (fun i => g i / 64) ++ toBytes 3 (packElems 6 (s.take 4))
  else if dt == 0x2E then [g 0 % 256, g 0 / 256]
  else [g 0]

/-- The samples of a line's payload. -/
def unpackLine (dt : Nat) (bytes : List Nat) : List Nat :=
  (chunks (dtGroup dt).2 (bytes.length / (dtGroup dt).2) bytes).flatMap (unpackGroup dt)

/-- A line's payload as its data type packs it. -/
def packLine (dt : Nat) (s : List Nat) : List Nat :=
  (chunks (dtGroup dt).1 (ceilDiv s.length (dtGroup dt).1) s).flatMap (packGroup dt)

/-! ### Frames -/

/-- The open frame of a context. -/
def Die.openFrame (d : Die) (c : Nat) : Option Frame := (d.sensor c).frames.find? (·.isOpen)

/-- Change a frame, named by its key. -/
def Die.modFrame (d : Die) (c key : Nat) (f : Frame → Frame) : Die :=
  let s := d.sensor c
  d.setSensor c { s with frames := s.frames.map fun o => if o.key = key then f o else o }

/-- A frame of a context by its key. -/
def Die.frameOf (d : Die) (c key : Nat) : Option Frame := (d.sensor c).frames.find? fun f => f.key == key

/-- The closed frames a context holds, oldest first (R355). -/
def Sensor.held (s : Sensor) : List Frame := s.frames.filter fun f => !f.isOpen && !f.dropped

/-- Add to a counter of a context. -/
def Die.camCount (d : Die) (c k : Nat) : Die := d.count (Reg.IFE_CTX_CNT c k) 1

/-- Counter numbers of IFE_CTX_CNT (Table 15.13). -/
abbrev cntEccCorr : Nat := 0
abbrev cntEccUncorr : Nat := 1
abbrev cntCrc : Nat := 2
abbrev cntShort : Nat := 3
abbrev cntLong : Nat := 4
abbrev cntLate : Nat := 5
abbrev cntOverflow : Nat := 6
abbrev cntUnbound : Nat := 7
abbrev cntOrphan : Nat := 8
abbrev cntStatsDrop : Nat := 9
abbrev cntSetFail : Nat := 10
abbrev cntDenoise : Nat := 11

/-- A frame with a mark of Table 15.2. -/
def Frame.mark (f : Frame) (bit : Nat) : Frame := { f with flags := f.flags ||| 2 ^ bit }

/-- Whether a frame carries a mark. -/
def Frame.marked (f : Frame) (bit : Nat) : Bool := f.flags.testBit bit

/-- Mark a frame, counting it once when the mark has a counter. -/
def Die.markFrame (d : Die) (c : Nat) (f : Frame) (bit : Nat) (counter : Option Nat) : Die :=
  let d1 := match counter with
    | some k => if f.marked bit then d else d.camCount c k
    | none => d
  d1.modFrame c f.key fun o => o.mark bit

/-! ### Output writes (R346, R354) -/

/-- The first of checks 2 to 4 of Table 3.3 that an access of the IF port to a bank fails, with its log: the die, and whether
the bank was off (R348, R354). -/
def Die.ifRefusal (d : Die) (bank tenant queue : Nat) (write : Bool) : Option (Bool × Die) :=
  if !tenantAllows (d.bankTenant bank) tenant write then
    some (false, d.shelfFault Bit.SHF_ERR_TENANT bank 6 (some (tenant, queue)))
  else if !groupAllows (d.bankOwner bank) 6 write then
    some (false, d.shelfFault Bit.SHF_ERR_FOREIGN_PORT bank 6 (some (tenant, queue)))
  else if !d.bankPowered bank then some (true, d.shelfFault Bit.SHF_ERR_BANK_OFF bank 6 (some (tenant, queue)))
  else none

/-- Write one unit of a bound output under its checks: none when it landed, else the status of the failure. -/
def Die.camWrite (d : Die) (c : Nat) (b : Binding) (space : Nat) (unit : Int) (v : Nat) (poison : Bool) : Option Nat × Die :=
  let w : Who := ⟨6, b.tenant, b.queue, camWriteSlot c⟩
  let lost := fun (p : Bool × Die) => if p.1 then (none, p.2) else (some stPermission, p.2)
  if space = 1 then
    match d.ifRefusal (bankOf unit.toNat) b.tenant b.queue true with
    | some r => (some (if r.1 then stBankOff else stPermission), r.2)
    | none => lost (d.writeRow w unit.toNat (BitVec.ofNat 4096 v) poison)
  else
    let page := unit.toNat / 1024
    let chk := d.tierCheck b.tenant page true false
    if chk ≠ 0 then (some stPermission, d.tierFault b.tenant page true chk)
    else
      match (if pteTier (d.pte page) = 1 then d.shelfPage w page true else none) with
      | some f => (some (if f.1 = stBankOff then stBankOff else stPermission),
          d.shelfFault f.2 (pteFrame (d.pte page) / 8) 6 (some (b.tenant, b.queue)))
      | none => lost (d.writeLine w unit.toNat (BitVec.ofNat 512 v) poison)

/-- An output write has failed: the frame is marked, and nothing more of that output is written (R354, Table 15.9). -/
def Die.outputFailed (d : Die) (o : CamWrite) (st : Nat) : Die :=
  let d1 := d.modFrame o.ctx o.key fun f => { f.mark 12 with
    failedOuts := f.failedOuts ++ [o.out], fault := if f.fault = 0 then st else f.fault }
  ({ d1 with ife := { d1.ife with writes := d1.ife.writes.filter fun x => !(x.key == o.key && x.out == o.out) } }).err
    Reg.IFE_ERR Bit.IFE_ERR_BIND

/-- Write units of an output of a frame, poisoned when the line buffers lost what they hold, to the first failure. -/
def Die.camOutput (d : Die) (o : CamWrite) : List (Int × Nat) → Die
  | [] => d
  | u :: us =>
    let p := d.camWrite o.ctx o.binding (streamOf o.binding.desc o.out).space u.1 u.2 o.poison
    match p.1 with
    | none => p.2.camOutput o us
    | some st => p.2.outputFailed o st

/-- Make a queued output write. -/
def Die.makeWrite (d : Die) (o : CamWrite) : Die :=
  (({ d with ife := { d.ife with writes := d.ife.writes.erase o } }).camOutput o o.units)

/-- The oldest output write of a context. -/
def Die.nextWrite (d : Die) (c : Nat) : Option CamWrite := d.ife.writes.find? fun o => o.ctx == c

/-- Make the output writes of a context in order, until one lacks a line. -/
def Die.makeWrites (d : Die) (c : Nat) : Nat → Die
  | 0 => d
  | n + 1 =>
    match d.nextWrite c with
    | none => d
    | some o =>
      let d1 := d.attempt (camWriteSlot c) fun d0 => d0.makeWrite o
      if d1.ife.writes.length = d.ife.writes.length then d1 else d1.makeWrites c n

/-- Queue an output write. -/
def Die.queueWrite (d : Die) (o : CamWrite) : Die := { d with ife := { d.ife with writes := d.ife.writes ++ [o] } }

/-- A row of bytes as the units of its output, the rest of the last one zero. -/
def rowUnits (n : Nat) (bytes : List Nat) : List Nat := cutUnits n (ceilDiv bytes.length n) (ofBytes bytes)

/-- pack of a C.BIND. -/
def bindPack (x : DescBits) : Bool := pB x 3

/-- Bytes of a raw row (Table 15.5). -/
def rawBytes (dt : Nat) (pack : Bool) (s : List Nat) : List Nat :=
  if pack then s.flatMap fun v => [v % 256, v / 256] else packLine dt s

/-- Bytes of a raw row of a given width. -/
def rawRowLen (dt w : Nat) (pack : Bool) : Nat :=
  let n := lineSamples dt w
  if pack then 2 * n else ceilDiv n (dtGroup dt).1 * (dtGroup dt).2

/-- Write a raw line of a memory-path frame to its binding. -/
def Die.writeRaw (d : Die) (c : Nat) (f : Frame) (y : Nat) (s : List Nat) (poison : Bool) : Die :=
  match f.binding with
  | none => d
  | some b =>
    let st := streamOf b.desc 0
    if f.inLine || !st.present || f.failedOuts.contains 0 then d
    else
      let row := (List.range (lineSamples f.dt f.width)).map fun x => (s[x]?).getD (f.black y x)
      let rows := rowUnits 64 (rawBytes f.dt (bindPack b.desc) row)
      d.queueWrite ⟨c, f.key, b, 0, (((unitsOf b.desc st).drop (y * rows.length)).take rows.length).zip rows, poison⟩

/-! ### In-line outputs (Table 15.5) -/

/-- Sizes of a C.BIND: crop, display, coding and vision, zeros resolved (R352). -/
structure BindSizes where
  cw : Nat
  ch : Nat
  dw : Nat
  dh : Nat
  cdw : Nat
  cdh : Nat
  vw : Nat
  vh : Nat
  deriving DecidableEq, Repr

/-- The sizes a C.BIND asks for of frames of a size. -/
def bindSizes (w h : Nat) (x : DescBits) : BindSizes :=
  let whole := pF x 45 32 = 0
  let cw := if whole then w else pF x 45 32
  let ch := if whole then h else pF x 59 46
  let or := fun (v dflt : Nat) => if v = 0 then dflt else v
  ⟨cw, ch, or (pF x 73 60) cw, or (pF x 87 74) ch, or (pF x 101 88) cw, or (pF x 115 102) ch, or (pF x 129 116) cw,
    or (pF x 143 130) ch⟩

/-- The scaling of output `i`: its crop and size. -/
def scalingOf (w h : Nat) (x : DescBits) (i : Nat) : Scaling :=
  let z := bindSizes w h x
  let whole := pF x 45 32 = 0
  let size := match i with
    | 0 => (z.dh, z.dw)
    | 1 => (z.cdh, z.cdw)
    | _ => (z.vh, z.vw)
  ⟨if whole then 0 else pF x 31 18, if whole then 0 else pF x 17 4, z.ch, z.cw, size.1, size.2⟩

/-- A quotient p / q as FP16 by R30. -/
def ratFp16 (p q : Nat) : Nat :=
  let m := p * 2 ^ 40 / q
  (encodeNum Fmt.FP16 (.fin false (2 * m + (if m * q = p * 2 ^ 40 then 0 else 1)) (-41))).1

/-- The display output: a Y plane, then a CbCr plane of half the rows. -/
def Frame.displayUnits (f : Frame) (s : Scaling) (p010 : Bool) : List Nat :=
  let bytes := fun (i v : Nat) => if p010 then toBytes 2 (64 * v) else [min 255 (nearest f.key 29 i v 4)]
  let row := fun (plane : Nat) (code : Nat → Nat) =>
    rowUnits 64 ((List.range s.toW).flatMap fun x => bytes (pixIndex plane 0 x) (code x))
  (List.range s.toH).flatMap (fun y => row y (f.outLuma s 0 y)) ++
    (List.range (s.toH / 2)).flatMap fun y => row (s.toH + y) (f.outChroma s 0 y)

/-- A coding unit: 48 samples, three to a 32-bit word. -/
def codingUnit (s : List Nat) : Nat := packElems 32 ((chunks 3 16 s).map (packElems 10))

/-- The coding output: luma tiles of 48 × 4, then chroma tiles of 24 pairs × 2 rows, in raster order. -/
def Frame.codingUnits (f : Frame) (s : Scaling) : List Nat :=
  let plane := fun (rows tile : Nat) (code : Nat → Nat → Nat) => (List.range (rows / tile)).flatMap fun ty =>
    (List.range (s.toW / 48)).flatMap fun tx => (List.range tile).map fun r =>
      codingUnit ((List.range 48).map fun i => code (ty * tile + r) (48 * tx + i))
  plane s.toH 4 (f.outLuma s 1) ++ plane (s.toH / 2) 2 (f.outChroma s 1)

/-- The vision output: planes R, G and B in the stream's format. -/
def Frame.visionUnits (f : Frame) (s : Scaling) (fmt n : Nat) : List Nat :=
  let u8 := fun (v : Nat) => (2 * 255 * v + 1023) / 2046
  let bytes := fun (v : Nat) => if fmt = Fmt.FP16 then toBytes 2 (ratFp16 v 1023)
    else if fmt = Fmt.S8 then [(u8 v + 128) % 256] else [u8 v]
  (List.range 3).flatMap fun ch => (List.range s.toH).flatMap fun y =>
    rowUnits n ((List.range s.toW).flatMap fun x => bytes (f.outRgb s ch y x))

/-- The units an output of an in-line frame takes. -/
def Frame.outputUnits (f : Frame) (x : DescBits) (i : Nat) : List Nat :=
  let s := scalingOf f.width f.height x i
  match i with
  | 0 => f.displayUnits s (pB x 2)
  | 1 => f.codingUnits s
  | _ => f.visionUnits s (streamOf x 2).fmt (streamOf x 2).unitBytes

/-- How many units an output takes. -/
def Die.outputCount (d : Die) (c : Nat) (x : DescBits) (i : Nat) : Nat :=
  let z := bindSizes (d.camW c) (d.camH c) x
  match i with
  | 0 => (z.dh + z.dh / 2) * ceilDiv (z.dw * (if pB x 2 then 2 else 1)) 64
  | 1 => z.cdw / 48 * z.cdh + z.cdw / 48 * (z.cdh / 2)
  | _ => 3 * z.vh * ceilDiv (z.vw * fmtSize (streamOf x 2).fmt) (streamOf x 2).unitBytes

/-- Whether a frame's tiles are still under way. -/
def Die.tilesLeft (d : Die) (key : Nat) : Bool := d.ife.dn.any fun j => j.key == key && decide (j.read < j.tiles) &&
  ((List.range j.tiles).drop j.read).any fun t => !j.bypassed.contains t

/-- The bound outputs of a closed in-line frame, when its block is there and its last tile is done, or it has none. -/
def Die.queueOutputs (d : Die) (c : Nat) (f : Frame) : Die :=
  if f.isOpen || f.queued || f.blockAt.isSome || d.tilesLeft f.key then d
  else
    let d1 := match f.binding with
      | none => d
      | some b => if f.inLine then ([0, 1, 2].filter fun i => (streamOf b.desc i).present).foldl (fun acc i =>
          acc.queueWrite ⟨c, f.key, b, i, (unitsOf b.desc (streamOf b.desc i)).zip (f.outputUnits b.desc i), f.damaged⟩) d
        else d
    d1.modFrame c f.key fun o => { o with queued := true }

/-- A binding is done with: the slots its vision output fills make their transition (Table 3.4, R61). -/
def Die.bindingDone (d : Die) (st : Nat) (b : Binding) : Die := b.slots.foldl (fun acc n => acc.slotDone st (n, .writer)) d

/-- Status that a frame's outputs leave in a slot. -/
def Frame.outStatus (f : Frame) : Nat := if f.fault ≠ 0 then f.fault else if f.damaged then stDataFault else stOk

/-- The outputs of a frame have all been written, PEER lines acknowledged (R356, R385). -/
def Die.outputsWritten (d : Die) (c : Nat) (f : Frame) : Die :=
  if !f.queued || f.outputs || d.ife.writes.any (fun o => o.key == f.key) ||
      d.far.txns.any (fun t => t.write && t.slot == camWriteSlot c) then d
  else
    let d1 := d.modFrame c f.key fun o => { o with outputs := true }
    match f.binding with
    | none => d1
    | some b => d1.bindingDone f.outStatus b

/-- Go on with the outputs of a context; a frame no longer held goes once they are written. -/
def Die.goOutputs (d : Die) (c : Nat) : Die :=
  let d1 := (d.sensor c).frames.foldl (fun acc f => acc.queueOutputs c f) d
  let d2 := d1.makeWrites c d1.ife.writes.length
  let d3 := (d2.sensor c).frames.foldl (fun acc f => acc.outputsWritten c f) d2
  let s := d3.sensor c
  d3.setSensor c { s with frames := s.frames.filter fun f => !(f.dropped && f.outputs) }

/-! ### Settings records (R358 to R361) -/

/-- Whether frame `a` comes no later than frame `b`, modulo 2³². -/
def notAfter (a b : Nat) : Bool := decide (sub32 b a < 2 ^ 31)

/-- A transfer fails: the frame it would first reach is marked, and nothing is retried (R361). -/
def Die.settingsFail (d : Die) (c : Nat) (t : Transfer) : Die :=
  let s := d.sensor c
  ((d.setSensor c { s with
    transfers := s.transfers.filter fun o => o != t
    old := s.old.filter fun o => o != t
    setFails := if s.old.contains t then s.setFails else s.setFails ++ [t.reach] }).camCount c cntSetFail).err Reg.IFE_ERR Bit.IFE_ERR_SETTINGS

/-- SETTINGS_ID a frame carries: that of the last successful record that has reached it (R360). -/
def Sensor.idFor (s : Sensor) (frame : Nat) : Nat :=
  s.transfers.foldl (fun cur t => if t.outcome = some true ∧ notAfter t.reach frame then t.id else cur) s.current

/-- The entries of a settings record: register address and value. -/
def settingsEntries (n : Nat) : List (Nat × Nat) :=
  (List.range (min 14 (bytesAt n 5 1))).map fun i => (bytesAt n (8 + 4 * i) 2, bytesAt n (10 + 4 * i) 1)

/-- Runs of consecutive register addresses joined into single transfers: address and values. -/
def joinRuns : List (Nat × Nat) → List (Nat × List Nat)
  | [] => []
  | e :: es =>
    match joinRuns es with
    | [] => [(e.1, [e.2])]
    | r :: rs => if r.1 = e.1 + 1 then (e.1, e.2 :: r.2) :: rs else (e.1, [e.2]) :: r :: rs

/-- The Media core writes the latched entries in order on the context's I3C port. -/
def Die.sendSettings (d : Die) (c n : Nat) : Die :=
  (joinRuns (settingsEntries n)).foldl (fun acc r =>
    acc.emit (.camera (d.camF c 28 28) ([bytesAt n 7 1 % 128, bytesAt n 6 1 % 2, r.1 / 256, r.1 % 256] ++ r.2))) d

/-- Address of a context's settings record. -/
def Die.settingsAddr (d : Die) (c : Nat) : Nat :=
  d.rf (Reg.IFE_CTX_SET_HI c) 15 0 * 2 ^ 32 + (d.reg (Reg.IFE_CTX_SET_LO c)).toNat / 64 * 64

/-- The Media core is down (Table 19.10). -/
def Die.mediaDown (d : Die) : Bool := (d.reg Reg.FWP_STAT).b 7

/-- Every settings transfer under way fails as the Media core freezes (R361, R462). -/
def Die.failSettings (d : Die) : Die :=
  (List.range 4).foldl (fun acc c =>
    ((acc.sensor c).old ++ (acc.sensor c).transfers).foldl (fun a t => if t.outcome = none then a.settingsFail c t else a) acc) d

/-- A record read at frame `id`'s Frame Start: a new SEQ is latched, and fails at once while the Media core is down (R359,
R462). -/
def Die.latchSettings (d : Die) (c id line tenant : Nat) : Die :=
  let p := d.readData ⟨4, tenant, 0, noSlot⟩ line
  let s0 := p.2.sensor c
  let d1 := p.2.setSensor c { s0 with latchDue := s0.latchDue.drop 1 }
  if p.1.bad then d1.err Reg.IFE_ERR Bit.IFE_ERR_SET_READ
  else
    let n := p.1.data
    let s := d1.sensor c
    if bytesAt n 0 4 = s.seq then d1
    else
      let t : Transfer := ⟨bytesAt n 0 4, bytesAt n 4 1, (id + d.camF c 15 13 - 1) % 2 ^ 32,
        d.refclk + usCycles (d.rf (Reg.IFE_CTX_SET_CFG c) 13 0), d.camF c 28 28, none⟩
      let d2 := d1.setSensor c { s with seq := t.seq, transfers := s.transfers ++ [t] }
      if d2.mediaDown then d2.settingsFail c t else d2.sendSettings c n

/-- Read the settings records that are due, in order, until one lacks its line. -/
def Die.latchAll (d : Die) (c : Nat) : Nat → Die
  | 0 => d
  | n + 1 =>
    match (d.sensor c).latchDue with
    | [] => d
    | x :: xs =>
      let d1 := d.attempt (camSlot c) fun d0 => d0.latchSettings c x.1 x.2.1 x.2.2
      if (d1.sensor c).latchDue.length = xs.length + 1 then d1 else d1.latchAll c n

/-- The transfers of a context whose outcome is open, oldest first. -/
def Sensor.underWay (s : Sensor) : List Transfer := (s.old ++ s.transfers).filter fun t => t.outcome == none

/-- Whether a settings transfer is under way on a control port (R363). -/
def Die.settingsOn (d : Die) (port : Nat) : Bool := d.ife.sensors.any fun kv => kv.2.underWay.any fun t => t.port == port

/-- SETTINGS_TRANSFER_DONE: the Media core reports the oldest transfer complete, every byte acknowledged or not. -/
def Die.settingsTransferDone (d : Die) (ctx : BitVec 2) (acked : Bool) : Die :=
  let c := ctx.toNat
  let s := d.sensor c
  match s.underWay.head? with
  | none => d
  | some t =>
    if acked && decide (d.refclk ≤ t.due) then
      d.setSensor c { s with
        transfers := s.transfers.map fun o => if o = t then { o with outcome := some true } else o
        old := s.old.filter fun o => o != t }
    else d.settingsFail c t

/-- SETTINGS_WINDOW_EXPIRY: a transfer not done by its window fails. -/
def Die.settingsWindowExpiry (d : Die) (ctx : BitVec 2) : Die :=
  match (d.sensor ctx.toNat).underWay.find? fun t => decide (t.due < d.refclk) with
  | none => d
  | some t => d.settingsFail ctx.toNat t

/-- Fix the outcome of the transfers whose first frame closes now (R359). -/
def Die.settleSettings (d : Die) (c id : Nat) : Die :=
  let d1 := ((d.sensor c).transfers.filter fun t => t.outcome == none && notAfter t.reach id).foldl
    (fun acc t => acc.settingsFail c t) d
  let s := d1.sensor c
  d1.setSensor c { s with
    current := s.idFor id
    transfers := s.transfers.filter fun t => !(t.outcome == some true && notAfter t.reach id)
    setFails := s.setFails.filter fun r => r != id }

/-! ### Closing a frame (R341, R342, R355) -/

/-- Drop the oldest closed frame beyond four. -/
def Die.dropFifth (d : Die) (c : Nat) : Die :=
  match (d.sensor c).held with
  | [] => d
  | o :: closed => if closed.length < 4 then d else (d.modFrame c o.key fun f => { f with dropped := true }).camCount c cntStatsDrop

/-- Fill the missing lines of a frame with black, at the bottom (Table 15.2, SHORT). -/
def Die.fillShort (d : Die) (c : Nat) (f : Frame) : Die :=
  let missing := (List.range f.height).drop f.lines.length
  if missing = [] then d
  else
    let d1 := d.markFrame c f 0 (some cntShort)
    missing.foldl (fun acc y =>
      (acc.writeRaw c f y [] false).modFrame c f.key fun o => { o with lines := o.lines ++ [([], false)], tEnd := d.refclk }) d1

/-- Close the open frame of a context. -/
def Die.closeFrame (d : Die) (c : Nat) : Die :=
  match d.openFrame c with
  | none => d
  | some f =>
    let failed := (d.sensor c).setFails.contains f.id ||
      (d.sensor c).transfers.any fun t => t.outcome == none && t.reach == f.id
    let d1 := (d.fillShort c f).settleSettings c f.id
    let d2 := d1.modFrame c f.key fun o =>
      { (if failed then o.mark 10 else o) with isOpen := false, settings := (d1.sensor c).current }
    ({ d2 with ife := { d2.ife with dn := d2.ife.dn.map fun (j : DnJob) =>
      if j.key = f.key then { j with closed := some d.refclk } else j } }).dropFifth c

/-! ### Taking in a frame (R341 to R343, R345) -/

/-- Whether a parameter block is legal (Table 15.4). -/
def blockLegal (n : Nat) : Bool :=
  ((List.range 4).all fun i => decide (bytesAt n (2 * i) 2 < bytesAt n 8 2)) && decide (bytesAt n 10 1 < 4) &&
    decide (bytesAt n 11 1 < 16) && decide (bytesAt n 14 2 ≤ 4096)

/-- Rows of an input tile and of an output tile (R347). -/
def tileRows (tw th halo : Nat) (fp16 : Bool) : Nat × Nat :=
  let size := if fp16 then 2 else 1
  (3 * (th + 2 * halo) * ceilDiv ((tw + 2 * halo) * size) 512, 3 * th * ceilDiv (tw * size) 512)

/-- Whether a slot serves the tiles of a context (R348). -/
def Die.tileSlotOk (d : Die) (n rows tenant : Nat) (out : Bool) : Bool :=
  let r := d.slotRange n
  d.slotDeclared n && r.2 == rows && d.bankOwner (bankOf r.1) == 4 && d.bankTenant (bankOf r.1) == tenant &&
    (!out || d.rf (Reg.SHF_SLOT_CTRL n) 11 8 == 1)

/-- The tiles of an in-line frame; none when its geometry or slots break R347 or R348. -/
def Die.startTiles (d : Die) (c : Nat) (f : Frame) : Die :=
  let cfg := f.dnCfg
  let sl := f.dnSlots
  let tw := 16 * cfg.f 18 13
  let th := cfg.f 24 19
  let halo := cfg.f 28 25
  let k := sl.f 23 20
  let tenant := f.cfg.f 10 4
  let rows := tileRows tw th halo (cfg.b 29)
  let ok := decide (0 < tw) && decide (0 < th) && f.width % tw == 0 && f.height % th == 0 && decide (tw + 2 * halo ≤ 512) &&
    decide (2 ≤ k) && decide (k ≤ 8) && (List.range k).all fun i =>
      d.tileSlotOk (sl.f 9 0 + i) rows.1 tenant false && d.tileSlotOk (sl.f 19 10 + i) rows.2 tenant true
  if !(bytesAt f.block 11 1).testBit 2 then d
  else if !ok then d.err Reg.IFE_ERR Bit.IFE_ERR_DN_CFG
  else { d with ife := { d.ife with dn := d.ife.dn ++
    [⟨c, f.id, f.key, f.width, f.height, tw, th, halo, cfg.b 29, cfg.f 9 0, sl.f 9 0, sl.f 19 10, k, tenant, f.times,
      if f.isOpen then none else some d.refclk, 0, 0, [], false⟩] } }

/-- The parameter block of an in-line frame is read as the management context; a read that fails keeps the block in force
(R345). -/
def Die.readIspBlock (d : Die) (c : Nat) (f : Frame) (base : Nat) : Die :=
  let p := d.readBytes Who.die base 20352
  let fails := p.1.bad || !blockLegal p.1.data
  let block := if fails then d.ife.block else p.1.data
  let d1 := p.2.errIf fails Reg.IFE_ERR Bit.IFE_ERR_CONFIG
  let d2 := { d1 with ife := { d1.ife with block := block } }
  let got : Frame := { f with block := block, blockAt := none }
  (d2.modFrame c f.key fun o => { o with block := block, blockAt := none }).startTiles c got

/-- The oldest in-line frame whose block is still to be read: its context, itself, and the block's address. -/
def Die.blockDue (d : Die) : Option (Nat × Frame × Nat) :=
  (d.ife.sensors.findSome? fun kv => kv.2.frames.findSome? fun f => f.blockAt.map fun b => (kv.1, f, b))

/-- Read the blocks that are due, until one lacks a line. -/
def Die.readBlocks (d : Die) : Nat → Die
  | 0 => d
  | n + 1 =>
    match d.blockDue with
    | none => d
    | some x =>
      let d1 := d.attempt ispSlot fun d0 => d0.readIspBlock x.1 x.2.1 x.2.2
      if (d1.frameOf x.1 x.2.1.key).bind (·.blockAt) = some x.2.2 then d1 else d1.readBlocks n

/-- Reference cycles of the 1.0 µs between a Frame Start and its tick (Table 9.1). -/
abbrev camDelay : Nat := 39

/-- A Frame Start as a tick source: its tick follows, or it is merged into the previous one, or into one that is still
to fall (R201, R203). -/
def Die.camTickSource (d : Die) (c : Nat) : Die :=
  if d.rf Reg.SCH_TICK_CFG 1 0 = 1 ∧ d.rf Reg.SCH_TICK_CFG 3 2 = c then
    if d.refclk < d.sched.lastTick + 384 ∨ d.sched.camTick.isSome then d.count Reg.SCH_TICK_MERGED 1
    else { d with sched := { d.sched with camTick := some (d.refclk + camDelay) } }
  else d

/-- Frames whose firing is fixed by now: 1.0 µs has passed since their Frame Start (R343). It is the firing open then: that
of a tick which has fallen by then but has not taken effect counts, and one that a Frame Start has made due is waited for. -/
def Die.fixFirings (d : Die) : Die :=
  let settled := fun (f : Frame) => f.firing.isNone && decide (f.tStart + camDelay < d.refclk) &&
    !(d.sched.camTick.any fun t => decide (t ≤ f.tStart + camDelay))
  let num := fun (f : Frame) => match d.sched.late with
    | some t => if t.instant ≤ f.tStart + camDelay then t.number else d.firing
    | none => d.firing
  (List.range 4).foldl (fun acc c =>
    let s := acc.sensor c
    acc.setSensor c { s with frames := s.frames.map fun f =>
      if (settled f) = true then { f with firing := some (num f % 2 ^ 32) } else f }) d

/-- Open a frame of an enabled context: its settings record, and in line its block, are to be read. -/
def Die.startFrame (d : Die) (c : Nat) : Die :=
  let s := d.sensor c
  let id := if s.started then (d.rf (Reg.IFE_CTX_FRAME c) 31 0 + 1) % 2 ^ 32 else 0
  let k := d.fresh
  let period := d.rf (Reg.IFE_CTX_PERIOD c) 25 0
  let late := period != 0 &&
    match s.lastStart with
    | some t => decide (384 * d.rf Reg.IFE_LATE_US 15 0 < 10 * (d.refclk - t - period))
    | none => false
  let bound := s.bindings.head?
  let base := d.rf Reg.IFE_ISP_BASE_HI 15 0 * 2 ^ 32 + (d.reg Reg.IFE_ISP_BASE_LO).toNat / 64 * 64
  let f : Frame := ⟨id, k.1, bound,
    (if late then 4 else 0) + (if s.fallback && s.lastStart.isSome then 8 else 0) + (if s.badHeader then 16 else 0) + (if bound.isNone then 256 else 0),
    0, 0, none, d.refclk, d.refclk, [], 0, 0, 0, 0, 0, [], true, false, false, false, [], 0,
    d.reg (Reg.IFE_CTX_CFG c), d.camW c, d.camH c, d.reg (Reg.IFE_CTX_BLACK c), [], d.ife.block,
    if d.camInline c then some base else none, d.reg Reg.IFE_DN_CFG, d.reg Reg.IFE_DN_SLOTS, [], false, false⟩
  let d1 := (k.2.setReg (Reg.IFE_CTX_FRAME c) (BitVec.ofNat 32 id)).setSensor c { s with
    frames := s.frames ++ [f]
    bindings := s.bindings.drop 1
    started := true
    lastStart := some d.refclk
    fallback := false
    badHeader := false
    latchDue := s.latchDue ++ [(id, d.settingsAddr c / 64, d.camTenant c)] }
  let d2 := if late then d1.camCount c cntLate else d1
  let d3 := if bound.isNone then d2.camCount c cntUnbound else d2
  d3.camTickSource c

/-- Go on with what the frames read and write: settings records, parameter blocks and outputs. -/
def Die.camGoOn (d : Die) : Die :=
  let d1 := (List.range 4).foldl (fun acc c => acc.latchAll c (acc.sensor c).latchDue.length) d
  let d2 := d1.readBlocks ((d1.sensor 0).frames.length + (d1.sensor 1).frames.length + (d1.sensor 2).frames.length +
    (d1.sensor 3).frames.length)
  (List.range 4).foldl Die.goOutputs d2

/-- CSI_FRAME_START: a Frame Start opens a frame of its context, closing the one before. -/
def Die.csiFrameStart (d : Die) (port : Bool) (vc : BitVec 4) : Die :=
  match d.camOf port vc with
  | none => d
  | some c => ((d.fixFirings.closeFrame c).startFrame c).camGoOn

/-- CSI_FRAME_END: a Frame End closes the open frame; without one it is an orphan. -/
def Die.csiFrameEnd (d : Die) (port : Bool) (vc : BitVec 4) : Die :=
  match d.camOf port vc with
  | none => d
  | some c => if (d.openFrame c).isSome then (d.fixFirings.closeFrame c).camGoOn else d.camCount c cntOrphan

/-- FRAME_CLOSE_TIMEOUT: a frame open for 1.5 × its period, or 100 ms, closes. -/
def Die.frameCloseTimeout (d : Die) (ctx : BitVec 2) : Die :=
  let c := ctx.toNat
  match d.openFrame c with
  | none => d
  | some f =>
    let p := d.rf (Reg.IFE_CTX_PERIOD c) 25 0
    if (if p = 0 then f.tStart + 3840000 ≤ d.refclk else 2 * f.tStart + 3 * p ≤ 2 * d.refclk) then
      (d.fixFirings.closeFrame c).camGoOn
    else d

/-! ### Denoise tiles (R347 to R351) -/

/-- When a tile's last input line arrived, or its frame closed. -/
def DnJob.arrived (j : DnJob) (t : Nat) : Option Nat :=
  match j.times[j.need t - 1]? with
  | some a => if j.strip t + 1 = j.height / j.tileH then j.closed else some a
  | none => j.closed

/-- The oldest tile neither used nor bypassed. -/
def DnJob.oldest (j : DnJob) : Option Nat :=
  ((List.range j.tiles).drop j.read).find? fun t => !j.bypassed.contains t

/-- Replace a job. -/
def Die.setJob (d : Die) (j j' : DnJob) : Die := { d with ife := { d.ife with dn := d.ife.dn.map fun o => if o = j then j' else o } }

/-- Bypass a tile: its own pixels go on, and the frame is marked (R350). -/
def Die.bypassTile (d : Die) (j : DnJob) (t : Nat) : Die :=
  let d1 := (d.setJob j { j with bypassed := j.bypassed ++ [t] }).count Reg.IFE_DN_BYPASS 1
  match d1.frameOf j.ctx j.key with
  | none => d1
  | some f => (d1.markFrame j.ctx f 9 (some cntDenoise)).modFrame j.ctx j.key fun o => { o with bypass := o.bypass + 1 }

/-- The job of a frame. -/
def Die.jobOf (d : Die) (key : Nat) : Option DnJob := d.ife.dn.find? fun j => j.key == key

/-- A job whose late outputs have been read and discarded goes, and the outputs of the frames go on (R350). -/
def Die.settleTiles (d : Die) : Die :=
  ({ d with ife := { d.ife with dn := d.ife.dn.filter fun j => !(j.read == j.tiles && j.filled == j.tiles && j.closed.isSome) } }).camGoOn

/-- Make every job's tiles bypassed from now on: a slot access failed (R348). -/
def Die.dnFault (d : Die) (j : DnJob) : Die :=
  let rest := (List.range j.tiles).filter fun t => decide (j.read ≤ t) && !j.bypassed.contains t
  let d1 := rest.foldl (fun acc t =>
    match acc.jobOf j.key with
    | some o => acc.bypassTile o t
    | none => acc) (d.err Reg.IFE_ERR Bit.IFE_ERR_DN_FAULT)
  { d1 with ife := { d1.ife with dn := d1.ife.dn.map fun (o : DnJob) =>
    if o.key = j.key then { o with fault := true, filled := o.tiles, read := o.tiles } else o } }

/-- The failure of an access of the IF port to a slot for the context's tenant, logged (R348, Table 3.3). -/
def Die.tileRefusal (d : Die) (n tenant : Nat) (write : Bool) : Option Die :=
  if !d.slotDeclared n then some d else (d.ifRefusal (bankOf (d.slotRange n).1) tenant 0 write).map (·.2)

/-- One row of an input tile: elements of one channel of one line, from the demosaic, edges replicated. -/
def DnJob.inputRow (j : DnJob) (t ch l r : Nat) : Nat :=
  let perRow := if j.fp16 then 256 else 512
  let tx := t % (j.width / j.tileW)
  let clamp := fun (v n : Nat) => min (n - 1) (v - j.halo)
  let y := clamp (j.strip t * j.tileH + l) j.height
  let elem := fun (i : Nat) =>
    let x := clamp (tx * j.tileW + i) j.width
    let v := demosaic j.key ch y x
    if j.fp16 then ratFp16 v 65535 else ((2 * v + 257) / 514 + 128) % 256
  let n := min perRow (j.tileW + 2 * j.halo - perRow * r)
  let bits := if j.fp16 then 16 else 8
  padRow j.key (t * 65536 + ch * 4096 + l * 8 + r) (bits * n) (packElems bits ((List.range n).map fun i => elem (perRow * r + i)))

/-- The rows of an input tile in order. -/
def DnJob.inputRows (j : DnJob) (t : Nat) : List Nat :=
  let r := ceilDiv ((j.tileW + 2 * j.halo) * (if j.fp16 then 2 else 1)) 512
  (List.range 3).flatMap fun ch => (List.range (j.tileH + 2 * j.halo)).flatMap fun l =>
    (List.range r).map fun i => j.inputRow t ch l i

/-- Write consecutive rows through the IF port. -/
def Die.writeTile (d : Die) (tenant first : Nat) (rows : List Nat) (poison : Bool) : Die :=
  (rows.zipIdx).foldl (fun acc p => (acc.writeRow ⟨6, tenant, 0, noSlot⟩ (first + p.2) (BitVec.ofNat 4096 p.1) poison).2) d

/-- DN_TILE_FILL: the next input slot is filled once its lines have arrived and it is drained; a bypassed tile's slot
is filled, once drained, with zeros and POISON 1. -/
def Die.dnTileFill (d : Die) : Die :=
  match d.fillJob with
  | none => d
  | some j =>
    let t := j.filled
    let n := j.inFirst + t % j.slots
    let byp := j.bypassed.contains t
    if j.nextFill.isNone || !d.slotAllows n .writer then d
    else match d.tileRefusal n j.tenant true with
    | some d1 => (d1.dnFault j).settleTiles
    | none =>
      let rows := j.inputRows t
      let d1 := d.writeTile j.tenant (d.slotRange n).1 (if byp then rows.map fun _ => 0 else rows) false
      ((d1.slotDone (if byp then stPoison else stOk) (n, .writer)).setJob j { j with filled := t + 1 }).settleTiles

/-- Longest tile latency in microseconds (Table 15.13). -/
def Die.noteLatency (d : Die) (since : Nat) : Die :=
  let us := min 65535 ((d.refclk - since) * 10 / 384)
  if d.rf Reg.IFE_DN_LAT_MAX 15 0 < us then d.setRf Reg.IFE_DN_LAT_MAX 15 0 us else d

/-- Read consecutive rows through the IF port. -/
def Die.readTile (d : Die) (tenant first : Nat) : Nat → List Nat × Die
  | 0 => ([], d)
  | n + 1 =>
    let p := d.readRow ⟨6, tenant, 0, noSlot⟩ first
    let q := p.2.readTile tenant (first + 1) n
    (p.1.data :: q.1, q.2)

/-- DN_TILE_OUTPUT: a filled output slot is read; its tile is used, or discarded when it was bypassed, or bypassed when
it carries POISON. -/
def Die.dnTileOutput (d : Die) : Die :=
  match d.readJob with
  | none => d
  | some j =>
    let t := j.read
    let n := j.outFirst + t % j.slots
    if j.nextRead.isNone || !d.slotAllows n .reader then d
    else match d.tileRefusal n j.tenant false with
    | some d1 => (d1.dnFault j).settleTiles
    | none =>
      let byp := j.bypassed.contains t
      let use := !byp && !d.slotPoison n
      let d1 := if use || byp then d else d.bypassTile j t
      let j1 := (d1.jobOf j.key).getD j
      let r := d1.readTile j.tenant (d.slotRange n).1 (d.slotRange n).2
      let d2 := (r.2.slotDone stOk (n, .reader)).setJob j1 { j1 with read := t + 1 }
      let d3 := if use then d2.modFrame j.ctx j.key fun f => { f with tiles := f.tiles ++ [(t, r.1)] } else d2
      (if byp then d3 else d3.noteLatency ((j.arrived t).getD d.refclk)).settleTiles

/-- DN_TILE_DEADLINE: the oldest tile whose output has missed its LIMIT is bypassed. -/
def Die.dnTileDeadline (d : Die) : Die :=
  match d.ife.dn.find? fun j => match j.oldest with
    | some t => match j.arrived t with
      | some a => d.elapsed a j.limit
      | none => false
    | none => false with
  | none => d
  | some j => match j.oldest with
    | some t => (d.bypassTile j t).settleTiles
    | none => d

/-- Lines a job holds: from the first its oldest unfinished tile uses. -/
def DnJob.holds (j : DnJob) : Nat :=
  match j.oldest with
  | none => 0
  | some t => (if j.closed.isSome then j.height else j.times.length) - (j.strip t * j.tileH - j.halo)

/-- Bypass the oldest unfinished tiles, whichever frame's, until a new line of a width fits the 1 MiB that holds undenoised
lines (R351). -/
def Die.dnRoom (d : Die) (width : Nat) : Nat → Die
  | 0 => d
  | n + 1 =>
    if d.ife.dn.foldl (fun t j => t + 4 * j.width * j.holds) 0 + 4 * width ≤ 2 ^ 20 then d
    else match d.ife.dn.findSome? fun j => j.oldest.map fun t => (j, t) with
      | none => d
      | some x => (d.bypassTile x.1 x.2).dnRoom width n

/-- Note the arrival of a line for the tiles. -/
def Die.dnLine (d : Die) (key : Nat) : Die :=
  match d.jobOf key with
  | none => d
  | some j =>
    let d1 := d.dnRoom j.width 16384
    { d1 with ife := { d1.ife with dn := d1.ife.dn.map fun (o : DnJob) =>
      if o.key = key then { o with times := o.times ++ [d.refclk] } else o } }

/-! ### Packets (R342) -/

/-- A header corrected by its ECC, and a payload whose CRC failed; the CRC mark is for lines (Table 15.2). -/
def Die.packetErrors (d : Die) (c : Nat) (f : Frame) (eccCorr crcBad line : Bool) : Die :=
  let d1 := if eccCorr then
      (d.camCount c cntEccCorr).modFrame c f.key fun o => { o with eccCorr := min 65535 (o.eccCorr + 1) } else d
  if crcBad then
    let d2 := (d1.camCount c cntCrc).modFrame c f.key fun o => { o with crcErrs := min 65535 (o.crcErrs + 1) }
    (if line then d2.markFrame c f 5 none else d2).err Reg.IFE_ERR Bit.IFE_ERR_PACKET
  else d1

/-- An error in the line buffers, array 3 of Table 20.2, counted; an uncorrectable one damages the frame (R470, R471). -/
def Die.lineUpset (d : Die) (c : Nat) (f : Frame) : Option LineUpset → Die
  | none => d
  | some u =>
    let d1 := d.countError 6 (3 * 2 ^ 24 + u.word.toNat)
    if u.fatal then (d1.modFrame c f.key fun o => { o with damaged := true }).err Reg.RAS_ERR Bit.RAS_ERR_CTRL_UE else d1

/-- One line of the open frame; `bad` says that the line buffers lost part of it. What it lacks is black (Table 15.2). -/
def Die.takeLine (d : Die) (c : Nat) (f : Frame) (s : List Nat) (overflow bad : Bool) : Die :=
  let y := f.lines.length
  let n := lineSamples f.dt f.width
  let d0 := if s.length = n then d else d.markFrame c f 6 none
  if f.height ≤ y then
    (d0.markFrame c f 1 (some cntLong)).modFrame c f.key fun o => { o with extra := min 65535 (o.extra + 1) }
  else
    let d1 := if overflow then ((d0.markFrame c f 7 none).camCount c cntOverflow).err Reg.IFE_ERR Bit.IFE_ERR_OVERFLOW else d0
    let line := if overflow then [] else s.take n
    let d2 := (d1.writeRaw c f y line bad).modFrame c f.key fun o =>
      { o with lines := o.lines ++ [(line, !overflow)], times := o.times ++ [d.refclk], tEnd := d.refclk }
    (d2.dnLine f.key).settleTiles

/-- Whether an error is an uncorrectable one. -/
def lineLost : Option LineUpset → Bool
  | none => false
  | some u => u.fatal

/-- CSI_LINE: a long packet of the context's data type is a line of the open frame; with no frame open it is an
orphan. -/
def Die.csiLine (d : Die) (port : Bool) (vc : BitVec 4) (dt : BitVec 6) (bytes : List (BitVec 8)) (eccCorr crcBad : Bool)
    (buffered : Buffered) : Die :=
  match d.camOf port vc with
  | none => d
  | some c =>
    match d.openFrame c with
    | none => d.camCount c cntOrphan
    | some f =>
      if dt.toNat ≠ d.camF c 23 18 then d.packetErrors c f eccCorr crcBad false
      else
        ((d.packetErrors c f eccCorr crcBad true).lineUpset c f buffered.upset).takeLine c f (unpackLine dt.toNat (bytes.map (·.toNat)))
          buffered.overflow (lineLost buffered.upset)

/-- CSI_EMBEDDED: an embedded-data packet is kept for C.STATS with EMBED, else discarded. -/
def Die.csiEmbedded (d : Die) (port : Bool) (vc : BitVec 4) (bytes : List (BitVec 8)) (eccCorr crcBad : Bool) : Die :=
  match d.camOf port vc with
  | none => d
  | some c =>
    match d.openFrame c with
    | none => d.camCount c cntOrphan
    | some f =>
      let d1 := d.packetErrors c f eccCorr crcBad false
      if d.camF c 0 0 = 1 then d1.modFrame c f.key fun o => { o with embed := o.embed ++ bytes.map (·.toNat) } else d1

/-- CSI_HEADER_UNCORRECTABLE: the packet is discarded and marks the open frame, or the next that opens. -/
def Die.csiHeaderUncorrectable (d : Die) (ctx : BitVec 2) : Die :=
  let c := ctx.toNat
  if !d.camOn c then d
  else
    let d1 := (d.camCount c cntEccUncorr).err Reg.IFE_ERR Bit.IFE_ERR_PACKET
    match d1.openFrame c with
    | some f => d1.markFrame c f 4 none
    | none => d1.setSensor c { d1.sensor c with badHeader := true }

/-! ### Statistics (R355, Tables 15.7 and 15.8) -/

/-- A sum that saturates at 0xFFFF_FFFF. -/
def sat32 (n : Nat) : Nat := min n 0xFFFFFFFF

/-- Colour at a CFA position: 0 R, 1 green of the R rows, 2 green of the B rows, 3 B. -/
def cfaColour (cfa y x : Nat) : Nat :=
  let p := 2 * (y % 2) + x % 2
  (([[0, 1, 2, 3], [1, 0, 3, 2], [2, 3, 0, 1], [3, 2, 1, 0]] : List (List Nat)).getD cfa []).getD p 0

/-- The value of a sample at the statistics tap, and whether it is at or above WHITE: in line after the lens shading, where
WHITE is 65,535; else after its black level (R344). -/
def Frame.tap (f : Frame) (y x : Nat) : Nat × Bool :=
  if f.inLine then (f.shaded y x, decide (65535 ≤ f.shaded y x))
  else (f.sample y x - f.black y x, decide (f.white ≤ f.sample y x))

/-- Bits of a sample at the tap. -/
def Frame.tapBits (f : Frame) : Nat := if f.inLine then 16 else dtBits f.dt

/-- The top `n` bits of a `w`-bit value. -/
def topBits (w n v : Nat) : Nat := v >>> (w - n)

/-- A lit pixel at the tap: place, colour, value, and whether it is at or above WHITE. -/
structure TapPix where
  y : Nat
  x : Nat
  colour : Nat
  v : Nat
  white : Bool
  deriving DecidableEq, Repr

/-- The samples of the lines placed as received. -/
def Frame.tapPixels (f : Frame) : List TapPix :=
  (f.lines.zipIdx).flatMap fun l =>
    if l.1.2 then (List.range (lineSamples f.dt f.width)).map fun x =>
      let t := f.tap l.2 x
      ⟨l.2, x, cfaColour f.cfa l.2 x, t.1, t.2⟩
    else []

/-- Zone of a pixel: 32 columns by 24 rows, the remainder in the last, all of it when a zone would be empty. -/
def zoneOf (w h y x : Nat) : Nat :=
  32 * (if h / 24 = 0 then 23 else min 23 (y / (h / 24))) + if w / 32 = 0 then 31 else min 31 (x / (w / 32))

/-- The quads of a RAW frame: those whose two lines were placed as received. -/
def quadsOf (ps : List TapPix) : List (List TapPix) :=
  (ps.filter fun p => p.y % 2 == 0 && p.x % 2 == 0).filterMap fun p =>
    let q := ps.filter fun o => o.y / 2 == p.y / 2 && o.x / 2 == p.x / 2
    if q.length = 4 then some q else none

/-- Little-endian bytes of 32-bit words. -/
def words32 (l : List Nat) : Nat := packElems 32 l

/-- The luma histogram, zone and focus words of a RAW frame. -/
def Frame.rawStats (f : Frame) (ps : List TapPix) : Nat :=
  let w := f.width
  let h := f.height
  let bits := f.tapBits
  let quads := quadsOf ps
  let luma := quads.map fun q => topBits bits 8 (q.foldl (fun t p => t + p.v) 0 / 4)
  let hist := (List.range 256).map fun b => sat32 (luma.count b)
  let zone := fun (z : Nat) =>
    let mine := quads.filter fun q => match q with
      | p :: _ => zoneOf w h p.y p.x == z
      | [] => false
    let sum := fun (ok : Nat → Bool) => sat32 (mine.foldl (fun t q =>
      q.foldl (fun u p => if ok p.colour then u + topBits bits 12 p.v else u) t) 0)
    [sum (· == 0), sum (fun k => k == 1 || k == 2), sum (· == 3), sat32 (mine.countP fun q => q.any (·.white))]
  let greens := ps.filter fun p => p.colour == 1 || p.colour == 2
  let focus := fun (z : Nat) => sat32 ((greens.filter fun p => zoneOf w h p.y p.x == z).foldl (fun t p =>
    match greens.find? fun o => o.y == p.y && o.x == p.x + 2 with
    | some o => t + (topBits bits 12 p.v - topBits bits 12 o.v) + (topBits bits 12 o.v - topBits bits 12 p.v)
    | none => t) 0)
  words32 (hist ++ (List.range 768).flatMap zone ++ (List.range 768).map focus)

/-- The same words of a YUV422 frame: the histogram over Y, zone sums of Y, Cb and Cr; its WHITE counts and focus
values are not stated and stay free. -/
def Frame.yuvStats (f : Frame) (ps : List TapPix) : Nat :=
  let w := f.width
  let h := f.height
  let ys := ps.filter fun p => p.x % 2 == 1
  let hist := (List.range 256).map fun b => sat32 (ys.countP fun p => p.v == b)
  let zone := fun (z : Nat) =>
    let sum := fun (ok : TapPix → Bool) =>
      sat32 ((ps.filter fun p => ok p && zoneOf w h p.y (p.x / 2) == z).foldl (fun t p => t + p.v) 0)
    [sum fun p => p.x % 2 == 1, sum fun p => p.x % 4 == 0, sum fun p => p.x % 4 == 2, Config.isp f.key 10 z % 2 ^ 32]
  words32 (hist ++ (List.range 768).flatMap zone ++ (List.range 768).map fun z => Config.isp f.key 11 z % 2 ^ 32)

/-- The frame record of Table 15.8, with the FLAGS and bypass count given. -/
def Die.frameRecord (d : Die) (c : Nat) (f : Frame) (flags byp : Nat) : Nat :=
  let g := fun (byte v : Nat) => v <<< (8 * byte)
  let tag := match f.binding with
    | some b => tagOf b.desc
    | none => 0
  g 0 f.id + g 4 (f.firing.getD (d.firing % 2 ^ 32)) + g 8 (f.tStart % 2 ^ 64) + g 16 (f.tEnd % 2 ^ 64) +
    g 24 (f.lines.countP (·.2)) + g 26 f.height + g 28 (flags % 2 ^ 16) + g 30 (f.settings % 256) + g 31 c +
    g 32 f.crcErrs + g 34 f.eccCorr + g 36 (min 65535 byp) + g 38 f.extra + g 40 tag

/-- The statistics block of Table 15.7: 16,448 bytes. -/
def Die.statsBlock (d : Die) (c : Nat) (f : Frame) (flags byp : Nat) : Nat :=
  let ps := f.tapPixels
  d.frameRecord c f flags byp + (if f.dt = 0x1E then f.yuvStats ps else f.rawStats ps) <<< 512

/-- STATS_READY: the oldest closed frame whose statistics are to come gets them and is held; one in line needs its block. -/
def Die.statsReady (d : Die) (ctx : BitVec 2) : Die :=
  let c := ctx.toNat
  let d1 := d.camGoOn.fixFirings
  match (d1.sensor c).held.find? fun f => !f.ready && f.blockAt.isNone with
  | none => d1
  | some f => d1.modFrame c f.key fun o => { o with
      ready := true
      statFlags := o.flags
      statBypass := o.bypass
      firing := some (o.firing.getD (d1.firing % 2 ^ 32)) }

/-! ### C.BIND and C.STATS (R352 to R357) -/

/-- ctx of a C.*. -/
def camCtx (x : DescBits) : Nat := pF x 1 0

/-- Whether an output size lies between crop/16 and the crop. -/
def sizeIn (v crop : Nat) : Bool := decide (v ≤ crop) && decide (crop ≤ 16 * v) && decide (0 < v)

/-- Whether the parameters and streams of a C.BIND fit its context (R352, Tables 15.5 and 15.6). -/
def Die.bindLegal (d : Die) (x : DescBits) : Bool :=
  let c := camCtx x
  let z := bindSizes (d.camW c) (d.camH c) x
  let s := fun (i : Nat) => streamOf x i
  let count := fun (i : Nat) => !(s i).present || unitCount x (s i) == d.outputCount c x i
  let crop := pF x 45 32 = 0 || (decide (pF x 17 4 + z.cw ≤ d.camW c) && decide (pF x 31 18 + z.ch ≤ d.camH c) && decide (0 < z.ch))
  d.camOn c &&
    if d.camInline c then
      crop && count 0 && count 1 && count 2 &&
        (!(s 0).present || (z.dw % 2 == 0 && z.dh % 2 == 0 && sizeIn z.dw z.cw && sizeIn z.dh z.ch)) &&
        (!(s 1).present || (z.cdw % 48 == 0 && z.cdh % 4 == 0 && sizeIn z.cdw z.cw && sizeIn z.cdh z.ch)) &&
        (!(s 2).present || (sizeIn z.vw z.cw && sizeIn z.vh z.ch &&
          ((s 2).fmt == Fmt.U8 || (s 2).fmt == Fmt.S8 || (s 2).fmt == Fmt.FP16)))
    else
      !(s 1).present && !(s 2).present && (!(s 0).present ||
        unitCount x (s 0) == d.camH c * ceilDiv (rawRowLen (d.camF c 23 18) (d.camW c) (bindPack x)) 64)

/-- Whether a C.*'s tenant may use its context (R357). -/
def Die.camMine (d : Die) (e : Entry) : Bool := e.tenant == mgmtCode || e.tenant == d.camTenant (camCtx e.desc)

/-- C_BIND: installs the binding of a coming frame. -/
def Die.cBind (d : Die) (slot : BitVec 12) : Die :=
  d.runOpBy 0x90 slot.toNat Run.clean freeStart
    (fun e d0 => if !d0.bindLegal e.desc then stIllegal else if !d0.camMine e then stPermission else stOk)
    fun e d0 =>
      let c := camCtx e.desc
      let s := d0.sensor c
      let slots := ((d0.slotUses8 e.desc).filter fun u => u.2 == .writer).map (·.1)
      (d0.setSensor c { s with bindings := s.bindings ++ [⟨e.desc, e.tenant, e.queue, slots⟩] }).finish e.slot stOk 0 0 0 0

/-- The frame a C.STATS names, when it is held with its statistics. -/
def Die.statsFrame (d : Die) (x : DescBits) : Option Frame :=
  (d.sensor (camCtx x)).held.find? fun f => f.id == pF x 63 32 && f.ready && (!pB x 2 || f.outputs)

/-- Whether a C.STATS names a frame older than the frames held. -/
def Die.statsOld (d : Die) (x : DescBits) : Bool :=
  let s := d.sensor (camCtx x)
  s.started && !(s.frames.any fun f => !f.dropped && f.id == pF x 63 32) &&
    notAfter (pF x 63 32) (d.rf (Reg.IFE_CTX_FRAME (camCtx x)) 31 0)

/-- C.BINDs of a context that are ready and have not installed their binding. -/
def Die.bindsReady (d : Die) (c : Nat) : Nat :=
  (d.sb.filter fun e => opcodeOf e.desc == 0x90 && camCtx e.desc == c && (e.phase == .ready || e.phase == .loading)).length

/-- Whether a C.STATS has its frame, or can only fail for want of it: the context is not enabled, or the frame is older than
those held (R356, Table 15.9). -/
def Die.statsComes (d : Die) (x : DescBits) : Bool := !d.camOn (camCtx x) || (d.statsFrame x).isSome || d.statsOld x

/-- What a C.* waits for besides its events: a free binding, or its frame (R353, R356). -/
def Die.camReady (d : Die) (x : DescBits) : Bool :=
  let c := camCtx x
  if opcodeOf x = 0x90 then decide ((d.sensor c).bindings.length + d.bindsReady c < 2)
  else if opcodeOf x = 0x91 then d.statsComes x
  else true

/-- Whether the streams of a C.STATS have the units it needs (R356). -/
def Die.statsLegal (d : Die) (x : DescBits) : Bool :=
  let s := streamOf x 0
  d.camOn (camCtx x) && unitCount x s == (if s.space = 1 then 33 else 257)

/-- The units of a byte image whose last bytes are free. -/
def imageUnits (key n bytes v : Nat) : List Nat :=
  (List.range (ceilDiv bytes n)).map fun i =>
    let used := min n (bytes - n * i)
    fld v (8 * (n * i + used) - 1) (8 * n * i) + (Config.padBits key i % 2 ^ (8 * (n - used))) <<< (8 * used)

/-- The body of C.STATS: the block, then the embedded data. -/
def statsBody (bufferError : Bool) (e : Entry) (d : Die) : Die :=
  let x := e.desc
  match d.statsFrame x with
  | none => d.finish e.slot stTimeout 0 0 0 0
  | some f =>
    let c := camCtx x
    let s0 := streamOf x 0
    let s1 := streamOf x 1
    let room := if s1.present then 64 * unitCount x s1 else 0
    let trunc := s1.present && decide (room < f.embed.length)
    let flags := (if pB x 2 then f.flags else f.statFlags) ||| (if trunc then 2 ^ 11 else 0)
    let byp := if pB x 2 then f.bypass else f.statBypass
    let k := d.fresh
    let main := (unitsOf x s0).zip (imageUnits k.1 s0.unitBytes 16448 (k.2.statsBlock c f flags byp))
    let bytes := f.embed.take room
    let emb := (if s1.present then unitsOf x s1 else []).zip (imageUnits (k.1 + 1) 64 bytes.length (ofBytes bytes))
    let bad := bufferError || f.damaged
    let st := if pB x 2 ∧ f.fault ≠ 0 then f.fault else if bad then stDataFault else stOk
    let outs := (main.map fun p => (⟨s0.space, p.1, p.2, bad⟩ : OutUnit)) ++
      emb.map fun p => ⟨2, p.1, p.2, bad⟩
    let d1 := { k.2 with freeCtr := k.2.freeCtr + 1 }
    (if trunc then d1.modFrame c f.key fun o => o.mark 11 else d1).deliver e Run.clean
      ⟨outs, 6, st, 0, f.id, flags % 2 ^ 16 + f.settings % 256 * 2 ^ 16, 0⟩

/-- C_STATS: writes a held frame's statistics block and embedded data. `bufferError` is an uncorrectable error in the
statistics store; one in the line buffers has damaged the frame (Table 15.9). -/
def Die.cStats (d : Die) (slot : BitVec 12) (bufferError : Bool) : Die :=
  d.camGoOn.runOpBy 0x91 slot.toNat Run.clean (fun e d0 => e.phase == .loading || d0.statsComes e.desc)
    (fun e d0 => if !d0.statsLegal e.desc then stIllegal else if !d0.camMine e then stPermission else stOk)
    (statsBody bufferError)

/-! ### Enable, disable, interrupts and reset (R339, R340, R362, R364) -/

/-- IFE_CTX_ENABLE: a write to IFE_CTX_CFG sets EN; intake starts at the next Frame Start with frame ID 0. One that finds
EN set is ignored. -/
def Die.ifeCtxEnable (d : Die) (ctx : BitVec 2) (w : Word) : Die :=
  let c := ctx.toNat
  if !w.b 31 then d
  else if d.camOn c || !d.camLimits c w then d.err Reg.IFE_ERR Bit.IFE_ERR_CONFIG
  else
    let s := d.sensor c
    (d.setReg (Reg.IFE_CTX_CFG c) (w &&& 0xFFFFE7F1#32)).setSensor c
      { Sensor.fresh with seq := s.seq, old := s.underWay, frames := s.frames }

/-- Complete the C.* of a context, or of all, that wait. -/
def Die.endWaiting (d : Die) (mine : Nat → Bool) (st : Nat) : Die :=
  (d.sb.filter fun e => (opcodeOf e.desc == 0x90 || opcodeOf e.desc == 0x91) && mine (camCtx e.desc) &&
    (e.phase == .waiting || e.phase == .ready)).foldl (fun acc e => acc.finish e.slot st 0 0 0 0) d

/-- Drop what a context holds: its bindings, whose slots no frame will fill, and its closed frames (R61, R340, R364). -/
def Die.dropHeld (d : Die) (c st : Nat) : Die :=
  let s := d.sensor c
  s.bindings.foldl (fun acc b => acc.bindingDone st b)
    (d.setSensor c { s with bindings := [], latchDue := [], frames := s.frames.map fun f => { f with dropped := true } })

/-- IFE_CTX_DISABLE: a write clears EN; the open frame closes, bindings and held frames go, and waiting C.* complete
CANCELLED. What it would change of the other fields is ignored (R339). -/
def Die.ifeCtxDisable (d : Die) (ctx : BitVec 2) (w : Word) : Die :=
  let c := ctx.toNat
  if w.b 31 || !d.camOn c then d
  else
    let more := (w ^^^ d.reg (Reg.IFE_CTX_CFG c)) &&& 0x7FFFE7F1#32 != 0#32
    let d1 := ((d.fixFirings.closeFrame c).setRf (Reg.IFE_CTX_CFG c) 31 31 0).errIf more Reg.IFE_ERR Bit.IFE_ERR_CONFIG
    ((d1.dropHeld c stCancelled).endWaiting (· == c) stCancelled).camGoOn

/-- I3C_IBI: an in-band interrupt arrives and its first 8 payload bytes are logged (R362). -/
def Die.i3cIbi (d : Die) (port : Bool) (addr : BitVec 7) (payload : List (BitVec 8)) : Die :=
  let log : Nat × List Nat := (addr.toNat, (payload.take 8).map (·.toNat))
  { d with ife := { d.ife with ibis := SMap.put (fun _ => (0, [])) d.ife.ibis (if port then 1 else 0) log } }

/-- A frame the reset ends: it closes without statistics, the transfers due at its close are settled, and the slot its outputs
would fill makes its transition (R359, R364). -/
def Die.resetFrame (d : Die) (c : Nat) (f : Frame) : Die :=
  let d1 := if f.isOpen then d.settleSettings c f.id else d
  match f.binding with
  | some b => if f.outputs then d1 else d1.bindingDone stUnitReset b
  | none => d1

/-- IFE_RESET: frames close without statistics, bindings and held frames go, tiles are released as written, and C.*
complete with UNIT_RESET. -/
def Die.ifeReset (d : Die) : Die :=
  let d1 := (List.range 4).foldl (fun acc c =>
    let a1 := ((acc.sensor c).frames.foldl (fun a f => a.resetFrame c f) acc).dropHeld c stUnitReset
    a1.setSensor c { a1.sensor c with frames := [] }) d
  (({ d1 with ife := { d1.ife with dn := [], writes := [] } }).endWaiting (fun _ => true) stUnitReset).resetUnit Reg.IFE_FENCE
    fun op => op == 0x90 || op == 0x91

/-- IFE_CTX_STAT as it reads (Table 15.13). -/
def Die.ifeStat (d : Die) (c : Nat) : Word :=
  let s := d.sensor c
  let cur := match d.openFrame c with
    | some f => s.idFor f.id
    | none => 0
  BitVec.ofNat 32 (s.bindings.length % 4 + s.held.length % 8 * 4 + s.seq % 256 * 256 +
    cur % 256 * 65536)

end Sys2Proof.Machine
end

