-- ==== Sys2Proof/Machine/Serving.lean ====
section
/-! DEFINITION. Serving: V.EMIT, requests, the serving tick and result rings (chapter 11, R241 to R258 and R266 to
R268). -/

namespace Sys2Proof.Machine

/-! ### V.EMIT (R243, R246, R255) -/

/-- kind of V.EMIT. -/
def veKind (x : DescBits) : Nat := pF x 1 0

/-- A SUBMIT or CANCEL leaves its channel and waits for the tick (R246). -/
def Die.parkEntry (d : Die) (slot : Nat) : Die := d.modEntry slot fun e => { e with phase := .parked }

/-- V.EMIT STEP after its checks: the RES row goes to the group's post area (R255). -/
def emitStepBody (e : Entry) (d : Die) : Die :=
  let g := pF e.desc 5 2
  let p := d.readStream e 4 (streamOf e.desc 0)
  let st := if p.1.any (·.off) then stBankOff else if p.1.any (·.bad) then stDataFault else stOk
  (p.2.setGrp g { p.2.grp g with post := BitVec.ofNat 4096 (concatUnits 512 p.1) }).finish e.slot st (offFlag st) 0 0 0

/-- V_EMIT_STEP: V.EMIT STEP copies the RES row to the group's post area; its completion marks the step posted. One that names
the open step as it starts posts it, whatever its status (R255). -/
def Die.vEmitStep (d : Die) (slot : BitVec 12) (hits : Hits) : Die :=
  let t := d.runOp 0x71 slot.toNat (Run.hit hits) (fun e _ => veKind e.desc == 0)
    (fun e d0 => unitCount e.desc (streamOf e.desc 0) == 1 && d0.stepNamed e) emitStepBody
  match d.entry slot.toNat with
  | none => t
  | some e =>
    if e.phase = .ready ∧ d.stepNamed e = true then t.modEntry slot.toNat fun o => { o with lawful := o.lawful || o.began } else t

/-- The first page that fails the tier check for reads, among those a byte range touches. -/
def Die.deniedPage (d : Die) (code addr k : Nat) : Option Nat :=
  (pagesHolding addr k).find? fun p => decide (2 ^ 32 ≤ p) || d.tierCheck code p false false != 0

/-- Log the page that fails the tier check of a SUBMIT's read (R267, R276). -/
def Die.submitDenied (d0 : Die) (code page : Nat) : Die :=
  let d := if page < 2 ^ 32 then d0.ptTouch page else d0
  d.tierFault code (page % 2 ^ 32) false (max 1 (d.tierCheck code page false false))

/-- The STATES of the automaton a record with GRAMMAR names, when its address is aligned (Table 11.1, Table 11.8): a
page that fails the tier check gives PERMISSION, a bad line DATA_FAULT (log entry 62). -/
def Die.submitStates (d : Die) (w : Who) (rec_ : Nat) : (Nat × Option Nat) × Die :=
  let image := bytesAt rec_ 88 8
  if !(bytesAt rec_ 6 1).testBit 3 ∨ image % 64 ≠ 0 then ((stOk, none), d)
  else
    match d.deniedPage w.tenant image 4 with
    | some g => ((stPermission, none), d.submitDenied w.tenant g)
    | none =>
      let p := d.readBytes w image 4
      ((if p.1.bad then stDataFault else stOk, some p.1.data), p.2)

/-- LAYERS in force of the group a record names; a GROUP that is no group, or one never configured, has no contexts. -/
def Die.layersOf (d : Die) (rec_ : Nat) : Nat :=
  if bytesAt rec_ 4 1 < 16 then (d.grp (bytesAt rec_ 4 1)).cfg.f 27 20 else 0

/-- What a SUBMIT reads beside its record, by LAYERS: CTX_TABLE, layer 0's context and the automaton's STATES (R246, R249,
R267). -/
def Die.readSubmit (d : Die) (w : Who) (slot rec_ layers : Nat) : Submit × Die :=
  let table := bytesAt rec_ 8 8
  if layers = 0 then (⟨slot, stOk, rec_, [], 0, 0, none, some 0⟩, d)
  else
    match d.deniedPage w.tenant table (8 * layers) with
    | some g => (⟨slot, stPermission, rec_, [], 0, 0, none, some layers⟩, d.submitDenied w.tenant g)
    | none =>
      let t := (⟨false, d⟩ : KvAcc).read w table (8 * layers)
      let ctxs := (List.range layers).map fun i => bytesAt t.1 (8 * i) 8
      match ctxs.findSome? fun c => t.2.die.deniedPage w.tenant c 64 with
      | some g => (⟨slot, if t.2.bad then stDataFault else stPermission, rec_, ctxs, 0, 0, none, some layers⟩,
          t.2.die.submitDenied w.tenant g)
      | none =>
        let c := t.2.ctx w (ctxs.headD 0)
        let a := c.2.die.submitStates w rec_
        (⟨slot, if a.1.1 = stPermission then stPermission else if c.2.bad then stDataFault else a.1.1, rec_, ctxs, c.1.count,
          c.1.nextPos, a.1.2, some layers⟩, a.2)

/-- V.EMIT SUBMIT after its checks: it reads the record and what the record names, and waits for the tick (R246). -/
def emitSubmitBody (e : Entry) (d : Die) : Die :=
  let p := d.readStream e 4 (streamOf e.desc 0)
  let rec_ := concatUnits 64 p.1
  let r : Submit × Die :=
    if p.1.any (·.off) then (⟨e.slot, stBankOff, rec_, [], 0, 0, none, none⟩, p.2)
    else if p.1.any (·.bad) then (⟨e.slot, stDataFault, rec_, [], 0, 0, none, none⟩, p.2)
    else p.2.readSubmit (e.who 4) e.slot rec_ (p.2.layersOf rec_)
  ({ r.2 with serving := { r.2.serving with submits := r.2.serving.submits ++ [r.1] } }).parkEntry e.slot

/-- V_EMIT_SUBMIT: V.EMIT SUBMIT reads a request record and waits for the next serving tick. -/
def Die.vEmitSubmit (d : Die) (slot : BitVec 12) (hits : Hits) : Die :=
  d.runOp 0x71 slot.toNat (Run.hit hits) (fun e _ => veKind e.desc == 1)
    (fun e _ => unitCount e.desc (streamOf e.desc 0) == 2) emitSubmitBody

/-- V_EMIT_CANCEL: V.EMIT CANCEL does nothing on its channel and waits for the next serving tick. -/
def Die.vEmitCancel (d : Die) (slot : BitVec 12) : Die :=
  d.runOp 0x71 slot.toNat Run.clean (fun e _ => veKind e.desc == 2) (fun _ _ => true) fun e d0 => d0.parkEntry e.slot

/-! ### Groups and requests (R241, R248) -/

/-- A field of a group's configuration in force. -/
def Group.f (g : Group) (hi lo : Nat) : Nat := g.cfg.f hi lo

/-- ROWS. -/
def Group.nRows (g : Group) : Nat := g.f 6 0
/-- WAIT_MAX. -/
def Group.waitMax (g : Group) : Nat := g.f 19 12
/-- LAYERS. -/
def Group.layers (g : Group) : Nat := g.f 27 20
/-- PREEMPT. -/
def Group.preempt (g : Group) : Bool := g.cfg.b 30
/-- EN. -/
def Group.on (g : Group) : Bool := g.cfg.b 31

/-- An access on behalf of a request's tenant. -/
def Req.who (q : Req) : Who := ⟨4, q.tenant, 0, noSlot⟩

/-- KEEP of a request. -/
def Req.keep (q : Req) : Bool := q.flags % 2 == 1

/-- WEIGHT of a tenant. -/
def Die.weightOf (d : Die) (code : Nat) : Nat := d.rf (Reg.QUE_TEN_CFG (tenantIdx code)) 7 0

/-- Rank of a request as a number, lower first (R248). -/
def Die.rank (d : Die) (q : Req) : Nat :=
  (if q.tenant = mgmtCode then 0 else 1) * 2 ^ 220 + (256 - d.weightOf q.tenant) * 2 ^ 200 + q.prio * 2 ^ 190 +
    q.entered * 2 ^ 100 + q.order

/-- Whether a waiting request strictly outranks a row request (R250). -/
def Die.outranks (d : Die) (a b : Req) : Bool :=
  if a.tenant = mgmtCode then b.tenant != mgmtCode || decide (a.prio < b.prio)
  else b.tenant != mgmtCode && (decide (d.weightOf b.tenant < d.weightOf a.tenant) ||
    (d.weightOf a.tenant == d.weightOf b.tenant && decide (a.prio < b.prio)))

/-- Insert a request by rank. -/
def Die.rankInsert (d : Die) (q : Req) : List Req → List Req
  | [] => [q]
  | r :: rs => if d.rank q < d.rank r then q :: r :: rs else r :: d.rankInsert q rs

/-- Requests in rank order. -/
def Die.ranked (d : Die) (l : List Req) : List Req := l.foldr (fun q acc => d.rankInsert q acc) []

/-- Every request of a tenant in a row or a wait list, over all groups. -/
def Die.liveOf (d : Die) (tenant : Nat) : List Req :=
  (d.serving.groups.flatMap fun kv => kv.2.rows.map (·.2) ++ kv.2.wait).filter fun q => q.tenant == tenant

/-- Whether a tenant is held (R258). -/
def Die.held (d : Die) (code : Nat) : Bool :=
  let i := tenantIdx code
  !(SMap.get (fun _ => []) d.serving.owed i).isEmpty || d.serving.ringBad.contains i

/-- Whether a row is in the step in progress. -/
def Group.rowInStep (g : Group) (r : Nat) : Bool :=
  g.inStep && (g.cols.contains r || (match g.chunk with
    | some c => c.1 == r
    | none => false))

/-- Replace the request of a row. -/
def Group.setRow (g : Group) (r : Nat) (q : Req) : Group :=
  { g with rows := g.rows.map fun p => if p.1 = r then (r, q) else p }

/-- Free a row. -/
def Group.freeRow (g : Group) (r : Nat) : Group := { g with rows := g.rows.filter fun p => p.1 != r }

/-- The request of a row. -/
def Group.at_ (g : Group) (r : Nat) : Option Req := (g.rows.find? fun p => p.1 == r).map (·.2)

/-! ### Result entries (Table 11.7) -/

/-- The place of a waiting request in a batch record: behind every row, in the order of the wait list (R258). -/
def Req.waitPlace (q : Req) : Nat := 64 + (q.entered * 2 ^ 64 + q.order)

/-- Note an entry of the tick (R258). -/
def Die.note (d : Die) (tenant g place entry : Nat) : Die :=
  { d with serving := { d.serving with now := d.serving.now ++ [(tenantIdx tenant, g, place, entry)] } }

/-- A 16-byte entry but for its PHASE: words at 0, 4 and 8, then GROUP, byte 13, KIND and REASON. -/
def entryOf (w0 w4 w8 group b13 kind reason : Nat) : Nat :=
  w0 % 2 ^ 32 + (w4 % 2 ^ 32) <<< 32 + (w8 % 2 ^ 32) <<< 64 + (group % 256) <<< 96 + (b13 % 256) <<< 104 +
    (kind % 16 + reason % 16 * 16) <<< 112

/-- Release a context: its live blocks go to its pool, COUNT and NEXT_POS become 0 (R245). -/
def Die.releaseCtx (d : Die) (w : Who) (ctx : Nat) : Die :=
  let p := (⟨false, d⟩ : KvAcc).ctx w ctx
  if p.2.bad then p.2.die
  else
    let es := p.2.entries w p.1
    let bytes := kvBlockBytes p.1.kvh (p.1.dim * 16) p.1.fmt
    let a := es.1.foldl (fun (acc : KvAcc) e => acc.push w p.1.pool e.addr bytes) es.2
    ((a.setCount w ctx 0).write w (ctx + 16) 4 0).die

/-- Layer 0's NEXT_POS of a request. -/
def Die.nextPosOf (d : Die) (q : Req) : Nat × Die :=
  let p := (⟨false, d⟩ : KvAcc).read q.who (q.ctxs.headD 0 + 16) 4
  (p.1, p.2.die)

/-- End a request whose layer 0 has reached NEXT_POS `np`: its END entry, and its contexts released unless KEEP is 1 or
they were parked (R245, R257, Table 11.7). The caller frees its place; it stays live, and its tenant's counter stands,
until the entry is written (R241, R258). -/
def Die.endReqAt (d : Die) (q : Req) (g place np status reason : Nat) : Die :=
  let d1 := d.note q.tenant g place (entryOf q.id q.delivered np g status 3 reason)
  if q.keep || status == stPreempted then d1 else q.ctxs.foldl (fun acc c => acc.releaseCtx q.who c) d1

/-- End a live request where it stands. -/
def Die.endReq (d : Die) (q : Req) (g place status reason : Nat) : Die :=
  let np := d.nextPosOf q
  np.2.endReqAt q g place np.1 status reason

/-- END entries of a tenant record that no ring holds yet: the requests they name are still live (R241). -/
def Die.endsOwed (d : Die) (i : Nat) : List Nat :=
  (SMap.get (fun _ => []) d.serving.owed i ++ (d.serving.now.filter fun e => e.1 == i).map fun e => e.2.2.2).filter
    fun e => fld e 115 112 == 3

/-- Complete a parked SUBMIT or CANCEL with a status. -/
def Die.completeParked (d : Die) (slot st : Nat) : Die :=
  match d.entry slot with
  | none => d
  | some e =>
    if e.phase = .parked ∧ opcodeOf e.desc = 0x71 then d.complete { e with status := st, flags := e.flags ||| offFlag st } else d

/-- Complete the CANCELs held for a request (R252). -/
def Die.completeCancels (d : Die) (q : Req) (st : Nat) : Die := q.cancels.foldl (fun acc s => acc.completeParked s st) d

/-! ### Action 1: deliver (R257) -/

/-- Clear FLAGS.REFUSED in a request's contexts; true when one was set. -/
def Die.clearRefused (d : Die) (q : Req) : Bool × Die :=
  q.ctxs.foldl (fun acc c =>
    let p := (⟨false, acc.2⟩ : KvAcc).read q.who (c + 31) 1
    if p.1 % 2 = 1 ∧ p.2.bad = false then (true, (p.2.write q.who (c + 31) 1 (p.1 - 1)).die) else (acc.1, p.2.die)) (false, d)

/-- Base of the serving area (Table 11.9). -/
def Die.srvArea (d : Die) : Nat := d.rf Reg.QUE_SRV_AREA_HI 15 0 * 2 ^ 32 + (d.reg Reg.QUE_SRV_AREA_LO).toNat / 65536 * 65536

/-- HIST of a row: 1 KiB in the serving area, whose place in the area is left open (Table 11.6). -/
def Die.histAddr (d : Die) (g r : Nat) : Nat := d.srvArea + 2 ^ 20 * (Config.pick 0 % 32) + 1024 * (64 * g + r)

/-- How a delivery went on. -/
inductive Fate where
  | live (q : Req)
  | finished (q : Req) (status reason : Nat)

/-- Deliver one token to a request, and decide whether it ends (R251, R257). -/
def Die.deliverToken (d : Die) (q : Req) (g r tok flg next closing : Nat) : Fate × Die :=
  let late := match q.dl with
    | some x => decide (x < closing)
    | none => false
  let h := (⟨false, d⟩ : KvAcc).write Who.die (d.histAddr g r + 4 * (q.delivered % 256)) 4 tok
  let d1 := h.die.note q.tenant g r (entryOf q.id tok q.delivered g (if late then 1 else 0) 2 0)
  let q1 := { q with
    delivered := q.delivered + 1, lastToken := tok, decode := true, gstate := next,
    prefilled := if q.decode then q.prefilled else q.promptLen }
  let okSt := if late then stDeadline else stOk
  (if flg.testBit 2 then .finished q1 stDataFault 9
    else if q.stops.contains tok then .finished q1 okSt 1
    else if flg.testBit 1 then .finished q1 okSt 3
    else if q.maxNew ≤ q1.delivered then .finished q1 okSt 2
    else if q.overdue then .finished q1 stDeadline 5
    else .live q1, d1)

/-- What becomes of one request of a posted step; `col` is its column, none for a chunk that samples nothing. -/
def Die.deliverOne (d : Die) (g r : Nat) (q : Req) (col : Option Nat) (failed : Bool) (len closing : Nat) : Fate × Die :=
  let post := (d.grp g).post.toNat
  match col with
  | none =>
    if failed then (.finished q stDataFault 7, d)
    else
      let q1 := { q with prefilled := q.prefilled + len }
      (if q.overdue then .finished q1 stDeadline 5 else .live q1, d)
  | some m =>
    let flg := bytesAt post (256 + m) 1
    if failed ∨ flg.testBit 0 ∨ flg.testBit 3 then (.finished q stDataFault 7, d)
    else
      let c := d.clearRefused q
      if c.1 then (.finished q stRefused 8, c.2)
      else c.2.deliverToken q g r (bytesAt post (4 * m) 4) flg (bytesAt post (320 + 2 * m) 2) closing

/-- Deliver one request of the step, then its held CANCELs (R252, R257). -/
def Die.deliverRow (d : Die) (g r : Nat) (col : Option Nat) (failed : Bool) (len closing : Nat) : Die :=
  match (d.grp g).at_ r with
  | none => d
  | some q =>
    let p := d.deliverOne g r q col failed len closing
    match p.1 with
    | .finished q1 st rs =>
      let d1 := p.2.endReq q1 g r st rs
      (d1.setGrp g ((d1.grp g).freeRow r)).completeCancels q1 stAlreadyDone
    | .live q1 =>
      if q1.cancels.isEmpty then p.2.setGrp g ((p.2.grp g).setRow r q1)
      else
        let d1 := p.2.endReq q1 g r stCancelled 4
        let d2 := d1.setGrp g ((d1.grp g).freeRow r)
      -- the first ends the request, so the others find none
      (d2.completeCancels { q1 with cancels := q1.cancels.take 1 } stOk).completeCancels
        { q1 with cancels := q1.cancels.drop 1 } stAlreadyDone

/-- SERVING_DELIVER: the columns of a posted step are delivered, and the group leaves the step (R242, R257). -/
def Die.srvDeliver (d : Die) (g closing : Nat) : Die :=
  let x := d.grp g
  match x.posted with
  | none => d
  | some failed =>
    let d1 := x.cols.zipIdx.foldl (fun acc c => acc.deliverRow g c.1 (some c.2) failed 0 closing) d
    let d2 := match x.chunk with
      | none => d1
      | some c => d1.deliverRow g c.1 (if c.2.2 then some x.cols.length else none) failed c.2.1 closing
    d2.setGrp g { d2.grp g with inStep := false, posted := none, abort := false, cols := [], chunk := none }

/-! ### Action 2: deadlines (R251) -/

/-- Whether a request's deadline has passed in a closing firing. -/
def Req.expired (q : Req) (closing : Nat) : Bool :=
  match q.dl with
  | some x => decide (x ≤ closing)
  | none => false

/-- Apply R251 to a row request. -/
def Die.deadlineRow (d : Die) (g closing r : Nat) : Die :=
  match (d.grp g).at_ r with
  | none => d
  | some q =>
    if !q.expired closing then d
    else if (d.grp g).rowInStep r then d.setGrp g ((d.grp g).setRow r { q with overdue := true })
    else
      let d1 := d.endReq q g r stDeadline 5
      d1.setGrp g ((d1.grp g).freeRow r)

/-- Apply R251 to a waiting request. -/
def Die.deadlineWait (d : Die) (g closing : Nat) (q : Req) : Die :=
  if !q.expired closing then d
  else
    let d1 := d.endReq q g q.waitPlace stDeadline 5
    d1.setGrp g { d1.grp g with wait := (d1.grp g).wait.filter fun o => o != q }

/-- Deadlines of a group. -/
def Die.srvDeadlines (d : Die) (g closing : Nat) : Die :=
  let d1 := ((d.grp g).rows.map (·.1)).foldl (fun acc r => acc.deadlineRow g closing r) d
  (d1.grp g).wait.foldl (fun acc q => acc.deadlineWait g closing q) d1

/-- SERVING_DEADLINE: R251 for one live request whose deadline firing has closed. TICK applies it to every request
in its place among the actions of R247. -/
def Die.servingDeadline (d : Die) (group : BitVec 4) (tenant : BitVec 7) (id : Word) : Die :=
  let g := group.toNat
  let mine := fun (q : Req) => q.tenant == tenant.toNat && q.id == id.toNat
  let closing := d.sched.closed
  if d.firing = 0 then d
  else
    d.attempt serveSlot fun d0 =>
      match (d0.grp g).rows.find? fun p => mine p.2 with
      | some p => d0.deadlineRow g closing p.1
      | none =>
        match (d0.grp g).wait.find? mine with
        | some q => d0.deadlineWait g closing q
        | none => d0

/-! ### Actions 3 and 4: submit and cancel (R249, R252) -/

/-- A finite FP32 value of at least `lo`. -/
def atLeastF (bits : Nat) (lo : Num) : Bool := finiteF bits && !Num.lt (ofFp32 bits) lo

/-- Whether every page of a range lies in the tenant's windows for reads. -/
def Die.windowed (d : Die) (code addr k : Nat) : Bool :=
  code == mgmtCode || (pagesHolding addr k).all fun p => d.inWindow code p false

/-- Whether a request record's fields are legal (Table 11.1). -/
def Die.recordOk (d : Die) (code n : Nat) (states : Option Nat) : Bool :=
  let flags := bytesAt n 6 1
  let len := bytesAt n 24 4
  let maxNew := bytesAt n 28 4
  decide (bytesAt n 5 1 ≤ 3) && decide (flags < 16) && decide (bytesAt n 7 1 ≤ 4) &&
    bytesAt n 8 8 % 8 == 0 && bytesAt n 16 8 % 4 == 0 && decide (1 ≤ len) && decide (len < 2 ^ 24) && decide (1 ≤ maxNew) &&
    decide (maxNew < 2 ^ 24) && decide (bytesAt n 34 2 ≤ 256) && decide (bytesAt n 36 2 ≤ 256) &&
    atLeastF (bytesAt n 40 4) Num.zero && positiveF (bytesAt n 44 4) && !Num.lt Num.one (ofFp32 (bytesAt n 44 4)) &&
    atLeastF (bytesAt n 48 4) Num.one && bytesAt n 60 4 == 0 && bytesAt n 96 32 == 0 &&
    (!flags.testBit 2 || bytesAt n 80 8 % 64 == 0) && (!flags.testBit 3 || (bytesAt n 88 8 % 64 == 0 && decide (bytesAt n 38 2 < states.getD 0))) &&
    d.windowed code (bytesAt n 16 8) (4 * len)

/-- The request a record makes. -/
def reqOf (s : Submit) (tenant entered order : Nat) : Req :=
  let n := s.record
  { tenant := tenant, id := bytesAt n 0 4, prio := bytesAt n 5 1, flags := bytesAt n 6 1, ctxs := s.ctxs,
    prompt := bytesAt n 16 8, promptLen := bytesAt n 24 4, maxNew := bytesAt n 28 4, deadline := bytesAt n 32 2,
    topK := bytesAt n 34 2, repWin := bytesAt n 36 2, gstate := bytesAt n 38 2, temp := bytesAt n 40 4,
    topP := bytesAt n 44 4, repPen := bytesAt n 48 4, seed := bytesAt n 52 8,
    stops := (List.range (bytesAt n 7 1)).map fun i => bytesAt n (64 + 4 * i) 4, allowMap := bytesAt n 80 8,
    grammar := bytesAt n 88 8, startPos := s.startPos, prefilled := 0, delivered := 0, decode := false, lastToken := 0,
    dl := if bytesAt n 32 2 = 0 then none else some (entered + bytesAt n 32 2 - 1), overdue := false, cancels := [],
    entered := entered, order := order, placed := 0, slot := some s.slot }

/-- Take one SUBMIT: it enters the wait list, or completes with the status of Table 11.3 that its checks give. DESIGN CHOICE:
one that read by another LAYERS than the one now in force reads again (R246, R249, R268; log entry 62). -/
def Die.takeSubmit (d : Die) (g : Nat) (s0 : Submit) : Die :=
  let dr := { d with serving := { d.serving with submits := d.serving.submits.filter fun o => o.slot != s0.slot } }
  match dr.entry s0.slot with
  | none => dr
  | some e =>
    let p := if s0.layers.isNone ∨ s0.layers = some (dr.layersOf s0.record) then (s0, dr)
      else dr.readSubmit (e.who 4) s0.slot s0.record (dr.layersOf s0.record)
    let s := p.1
    let d0 := p.2
    let q := reqOf s e.tenant d0.firing e.order
    let x := d0.grp g
    let bad := !(d0.recordOk e.tenant s.record s.states && decide (bytesAt s.record 4 1 < 16) && x.on &&
      (d0.reg (Reg.QUE_SRV_RCFG (tenantIdx e.tenant))).b 31 && !(d0.liveOf e.tenant).any (fun o => o.id == q.id) &&
      !(d0.endsOwed (tenantIdx e.tenant)).any (fun o => bytesAt o 0 4 == q.id) &&
      (q.flags.testBit 1 || s.count == 0))
    if s.status ≠ stOk then d0.completeParked s.slot s.status
    else if bad then d0.completeParked s.slot stIllegal
    else d0.setGrp g { x with wait := x.wait ++ [q] }

/-- Insert a submit by the dispatch order of its descriptor. -/
def Die.submitInsert (d : Die) (s : Submit) : List Submit → List Submit
  | [] => [s]
  | t :: ts =>
    let o := fun (u : Submit) => match d.entry u.slot with
      | some e => e.order
      | none => 0
    if o s < o t then s :: t :: ts else t :: d.submitInsert s ts

/-- Action 3: the SUBMITs of a group, in admission order; one whose GROUP is no group is taken with group 0. -/
def Die.srvSubmit (d : Die) (g : Nat) : Die :=
  let mine := d.serving.submits.filter fun s => (if bytesAt s.record 4 1 < 16 then bytesAt s.record 4 1 else 0) == g
  (mine.foldr (fun s acc => d.submitInsert s acc) []).foldl (fun acc s => acc.takeSubmit g s) d

/-- The tenant a CANCEL names (R252, Table 11.2). -/
def cancelTenant (e : Entry) : Nat := if e.tenant = mgmtCode then pF e.desc 12 6 else e.tenant

/-- Apply Table 11.4 to a CANCEL whose target may be in a group; unchanged when it is not there. -/
def Die.takeCancel (d : Die) (g : Nat) (e : Entry) : Die :=
  let mine := fun (q : Req) => q.tenant == cancelTenant e && q.id == pF e.desc 63 32
  let x := d.grp g
  match x.wait.find? mine with
  | some q =>
    let d1 := d.endReq q g q.waitPlace stCancelled 4
    let d2 := d1.setGrp g { d1.grp g with wait := (d1.grp g).wait.filter fun o => o != q }
    let d3 := match q.slot with
      | some s => d2.completeParked s stCancelled
      | none => d2
    d3.completeParked e.slot stOk
  | none =>
    match x.rows.find? fun p => mine p.2 with
    | none => d
    | some p =>
      if x.rowInStep p.1 then d.setGrp g (x.setRow p.1 { p.2 with cancels := p.2.cancels ++ [e.slot] })
      else
        let d1 := d.endReq p.2 g p.1 stCancelled 4
        (d1.setGrp g ((d1.grp g).freeRow p.1)).completeParked e.slot stOk

/-- The CANCELs that wait for the tick, in admission order, apart from those held for a delivery. -/
def Die.readyCancels (d : Die) : List Entry :=
  let held := d.serving.groups.flatMap fun kv => kv.2.rows.flatMap fun p => p.2.cancels
  d.sb.filter fun e => opcodeOf e.desc == 0x71 && veKind e.desc == 2 && e.phase == .parked && !held.contains e.slot

/-- Action 4. -/
def Die.srvCancel (d : Die) (g : Nat) : Die := d.readyCancels.foldl (fun acc e => acc.takeCancel g e) d

/-! ### Action 5: admit and preempt (R248, R250, R290) -/

/-- The lowest free row of a group. -/
def Group.lowRow (g : Group) : Option Nat := (List.range g.nRows).find? fun r => (g.at_ r).isNone

/-- Insert a row request in row order. -/
def rowInsert (p : Nat × Req) : List (Nat × Req) → List (Nat × Req)
  | [] => [p]
  | q :: qs => if p.1 < q.1 then p :: q :: qs else q :: rowInsert p qs

/-- Place a waiting request in a row with its START entry. -/
def Die.placeReq (d : Die) (g r : Nat) (q : Req) : Die :=
  let x := d.grp g
  let d1 := d.setGrp g { x with
    wait := x.wait.filter fun o => o != q
    rows := rowInsert (r, { q with placed := d.serving.placed }) x.rows }
  ({ d1 with serving := { d1.serving with placed := d1.serving.placed + 1 } }).note q.tenant g r (entryOf q.id r 0 g 0 1 0)

/-- SERVING_ADMIT: waiting requests move into free rows in rank order; those of a held tenant wait (R248, R258). -/
def Die.srvAdmit (d : Die) (g : Nat) : Die :=
  (d.ranked (d.grp g).wait).foldl (fun acc q =>
    if acc.held q.tenant then acc
    else match (acc.grp g).lowRow with
      | none => acc
      | some r => acc.placeReq g r q) d

/-- The lowest-ranked row request a waiting one strictly outranks and may preempt. -/
def Die.victim (d : Die) (g : Nat) (q : Req) : Option (Nat × Req) :=
  ((d.grp g).rows.filter fun p => d.outranks q p.2 && !p.2.overdue && p.2.cancels.isEmpty).foldl
    (fun best p => match best with
      | none => some p
      | some b => if d.rank b.2 < d.rank p.2 then some p else some b) none

/-- PARK_TIER as a tier code. -/
def Group.parkTier (g : Group) : Nat := if g.f 29 28 = 2 then 5 else 3

/-- Park a loser's contexts; none when the record or the frames cannot be reserved (R250, R290). -/
def Die.parkLoser (d : Die) (g : Nat) (q : Req) : Option Die :=
  let s := (⟨false, d⟩ : KvAcc).parkSets q.who false q.ctxs
  let d1 := s.2.2.die
  if !s.1 || s.2.2.bad || s.2.1.any fun p => pteParked (d1.pte p) then none
  else (d1.parkPages q.tenant (d1.grp g).parkTier (d1.rf (Reg.QUE_SRV_GCFG3 g) 26 0) true [] s.2.1).map (·.2)

/-- SERVING_PREEMPT: waiting requests, highest rank first, preempt until none strictly outranks a row request, or a
park cannot be reserved (R250, R290). -/
def Die.srvPreempt (d : Die) (g : Nat) : Die :=
  if !(d.grp g).preempt then d
  else
    ((d.ranked (d.grp g).wait).foldl (fun (acc : Bool × Die) q =>
      if acc.1 || acc.2.held q.tenant then acc
      else
        match acc.2.victim g q with
        | none => acc
        | some v =>
          let np := acc.2.nextPosOf v.2
          match np.2.parkLoser g v.2 with
          | none => (true, np.2.err Reg.TIR_ERR Bit.TIR_ERR_PARK_FULL)
          | some d1 =>
            let d2 := d1.endReqAt v.2 g v.1 np.1 stPreempted 6
            (false, ((d2.setGrp g ((d2.grp g).freeRow v.1)).placeReq g v.1 q).tierSettle)) (false, d)).2

/-! ### Actions 6 to 8: refuse, complete, latch (R247, R249, R253, R254) -/

/-- Action 6: newcomers beyond the first WAIT_MAX by rank leave. -/
def Die.srvRefuse (d : Die) (g : Nat) : Die :=
  let x := d.grp g
  let out := ((d.ranked x.wait).drop x.waitMax).filter fun q => q.slot.isSome
  let d1 := d.setGrp g { x with wait := x.wait.filter fun q => !out.contains q }
  out.foldl (fun acc q => match q.slot with
    | some s => acc.completeParked s stRefused
    | none => acc) d1

/-- Action 7: the SUBMITs of this tick complete, OK in a row and DEFERRED in the wait list. -/
def Die.srvComplete (d : Die) (g : Nat) : Die :=
  let x := d.grp g
  let d1 := d.setGrp g { x with
    rows := x.rows.map fun p => (p.1, { p.2 with slot := none })
    wait := x.wait.map fun q => { q with slot := none } }
  let fin := fun (st : Nat) (acc : Die) (q : Req) => match q.slot with
    | some s => acc.completeParked s st
    | none => acc
  x.wait.foldl (fin stDeferred) ((x.rows.map (·.2)).foldl (fin stOk) d1)

/-- The prefill row of a latch: not held, placed earliest (R253). -/
def Die.prefillRow (d : Die) (g : Nat) : Option (Nat × Req) :=
  ((d.grp g).rows.filter fun p => !p.2.decode && !d.held p.2.tenant).foldl (fun best p => match best with
    | none => some p
    | some b => if p.2.placed < b.2.placed then some p else some b) none

/-- Position of the token a request feeds next. -/
def Req.pos (q : Req) : Nat := q.startPos + (if q.decode then q.promptLen + q.delivered - 1 else q.prefilled)

/-- A sampler record (Table 11.6). -/
def Die.srecBytes (d : Die) (g r : Nat) (q : Req) : Nat :=
  let f := fun (byte v : Nat) => v <<< (8 * byte)
  f 0 q.temp + f 4 q.topP + f 8 q.repPen + f 12 q.topK + f 14 q.repWin + f 16 q.seed + f 24 (q.delivered % 2 ^ 32) +
    f 28 (q.gstate % 2 ^ 16) + f 30 (q.flags / 4 % 4) + f 32 (d.histAddr g r) + f 40 q.allowMap + f 48 q.grammar

/-- The rows of the batch page (Table 11.5). -/
def Die.pageRows (d : Die) (g step : Nat) (dec : List (Nat × Req)) (pf : Option (Nat × Req)) : List Nat :=
  let f := fun (byte v : Nat) => v <<< (8 * byte)
  let len := match pf with
    | some p => min 512 (p.2.promptLen - p.2.prefilled)
    | none => 0
  let lastC := match pf with
    | some p => decide (p.2.prefilled + len = p.2.promptLen)
    | none => false
  let row0 := f 0 (step % 2 ^ 32) + f 4 dec.length + f 5 (dec.length + if lastC then 1 else 0) +
    f 6 (if pf.isSome then 1 else 0) + f 7 (if lastC then 1 else 0) +
    (match pf with
      | some p => f 8 (p.2.pos % 2 ^ 32) + f 12 len + f 16 (p.2.prompt + 4 * p.2.prefilled) + f 24 p.1
      | none => f 24 0xFF) +
    f 32 (packElems 8 ((List.range 64).map fun m => (dec.map (·.1)).getD m 0xFF))
  let row1 := packElems 32 (dec.map fun p => p.2.lastToken) + f 256 (packElems 32 (dec.map fun p => p.2.pos))
  let recs := (dec ++ (match pf with
    | some p => if lastC then [p] else []
    | none => [])).map fun p => d.srecBytes g p.1 p.2
  let srows := (List.range 8).map fun i => packElems 512 ((recs.drop (8 * i)).take 8)
  let layer := fun (l : Nat) =>
    let attn := dec.map fun p => p.2.ctxs.getD l 0 % 2 ^ 64 + (p.2.pos % 2 ^ 32) <<< 64
    let kv := dec.map fun p => p.2.ctxs.getD l 0
    let pfc := match pf with
      | some p => List.replicate 64 (p.2.ctxs.getD l 0)
      | none => []
    [packElems 128 (attn.take 32), packElems 128 (attn.drop 32), packElems 64 kv, packElems 64 pfc]
  [row0, row1] ++ srows ++ (List.range (d.grp g).layers).flatMap layer

/-- Whether the page rows lie in one bank of the Wheel's, for the management context (R253). -/
def Die.pageOk (d : Die) (g : Nat) : Bool :=
  let page := d.rf (Reg.QUE_SRV_GCFG1 g) 16 0
  let b := bankOf page
  decide (page % 1024 + 10 + 4 * (d.grp g).layers ≤ 1024) && decide (page < shelfRows) && d.bankOwner b == 3 &&
    d.bankTenant b == mgmtCode

/-- SERVING_LATCH: latch the next step: its number and the batch page (R253, R254). -/
def Die.srvLatch (d : Die) (g : Nat) : Die :=
  let x := d.grp g
  if x.inStep then d.count (Reg.QUE_SRV_GLATE g) 1
  else if x.rows.isEmpty then d
  else if !d.pageOk g then
    (d.setReg Reg.QUE_SRV_ERR_INFO (BitVec.ofNat 32 (g + mgmtCode * 16))).err Reg.QUE_SRV_ERR Bit.QUE_SRV_ERR_PAGE
  else
    let dec := x.rows.filter fun p => p.2.decode && !d.held p.2.tenant
    let pf := d.prefillRow g
    let step := (d.reg (Reg.QUE_SRV_GSTEP g)).toNat + 1
    let page := d.rf (Reg.QUE_SRV_GCFG1 g) 16 0
    let d1 := (d.pageRows g step dec pf).zipIdx.foldl (fun acc r =>
      (acc.writeRow Who.die (page + r.2) (BitVec.ofNat 4096 r.1) false).2) d
    let len := match pf with
      | some p => min 512 (p.2.promptLen - p.2.prefilled)
      | none => 0
    let d2 := d1.setGrp g { d1.grp g with
      inStep := true, posted := none, cols := dec.map (·.1)
      chunk := pf.map fun p => (p.1, len, decide (p.2.prefilled + len = p.2.promptLen)) }
    d2.setReg (Reg.QUE_SRV_GSTEP g) (BitVec.ofNat 32 step)

/-- The signals of a latched step, which come last: STEP_EVT, then its vector (R247, Table 11.9). -/
def Die.srvSignal (d : Die) (g : Nat) : Die :=
  let d1 := d.addEvt (d.rf (Reg.QUE_SRV_GCFG2 g) 15 0) 1
  if (d1.reg (Reg.QUE_SRV_GCFG2 g)).b 27 then d1.msix (d1.rf (Reg.QUE_SRV_GCFG2 g) 26 16) else d1

/-! ### Result rings (R256, R258) -/

/-- Insert an entry of the tick in group order, then by its place, then as it came. -/
def nowInsert (e : Nat × Nat × Nat × Nat) : List (Nat × Nat × Nat × Nat) → List (Nat × Nat × Nat × Nat)
  | [] => [e]
  | f :: fs => if e.2.1 < f.2.1 ∨ e.2.1 = f.2.1 ∧ e.2.2.1 < f.2.2.1 then e :: f :: fs else f :: nowInsert e fs

/-- The tick's entries of a tenant, in record order. -/
def Die.nowOf (d : Die) (i : Nat) : List Nat :=
  ((d.serving.now.filter fun e => e.1 == i).foldl (fun acc e => nowInsert e acc) []).map fun e => e.2.2.2

/-- Set a tenant's waiting entries with QUE_SRV_RSTAT, and count a tick held. -/
def Die.holdRing (d : Die) (i : Nat) (es : List Nat) (heldNow : Bool) : Die :=
  let d1 := { d with serving := { d.serving with owed := SMap.put (fun _ => []) d.serving.owed i es } }
  let d2 := d1.setReg (Reg.QUE_SRV_RSTAT i) (BitVec.ofNat 32 ((if heldNow then 2 ^ 31 else 0) + es.length % 2 ^ 14))
  if heldNow then d2.count (Reg.QUE_SRV_RHELD i) 1 else d2

/-- A ring fault: the tenant is held until it is repaired (Table 11.12). -/
def Die.ringFault (d : Die) (i : Nat) (es : List Nat) : Die :=
  (({ d with serving := { d.serving with ringBad := setInsert i d.serving.ringBad } }.setReg Reg.QUE_SRV_ERR_INFO
    (BitVec.ofNat 32 (tenantCode i % 128 * 16))).err Reg.QUE_SRV_ERR Bit.QUE_SRV_ERR_RING).holdRing i es true

/-- Write ring entries at RTAIL on, each with its PHASE; false when one failed. -/
def Die.writeEntries (d : Die) (w : Who) (base log2 : Nat) : List Nat → Nat → Bool × Die
  | [], _ => (true, d)
  | e :: es, tail =>
    let phase := if tail / 2 ^ log2 % 2 = 0 then 1 else 0
    let addr := base + 16 * (tail % 2 ^ log2)
    if !d.ringPages addr 16 then (false, d)
    else
      let p := d.writeBytes w addr 16 (e + phase <<< 120)
      if p.1 then p.2.writeEntries w base log2 es (tail + 1) else (false, p.2)

/-- A tenant's counters as END entries are written (R239, Table 11.7). -/
def Die.countEnds (d : Die) (i : Nat) (es : List Nat) : Die :=
  (es.filter fun e => fld e 115 112 == 3).foldl (fun acc e => acc.countOutcome (tenantCode i) (bytesAt e 13 1)) d

/-- A ring that reads and writes again is repaired; the tenant's entries are set. -/
def Die.ringRepaired (d : Die) (i : Nat) : Die :=
  ({ d with serving := { d.serving with ringBad := setErase i d.serving.ringBad } }).holdRing i [] false

/-- RESULT_RING_WRITE: the die reads RHEAD of an enabled ring at each tick, and a tenant's batch record is written when
the whole of it fits; else the tenant is held (R256, R258). -/
def Die.resultRing (d : Die) (i : Nat) : Die :=
  let es := SMap.get (fun _ => []) d.serving.owed i ++ d.nowOf i
  if !(d.reg (Reg.QUE_SRV_RCFG i)).b 31 then
    if es.isEmpty && !d.serving.ringBad.contains i then d else d.holdRing i es true
  else
    let w : Who := ⟨4, tenantCode i, 0, noSlot⟩
    let base := d.rf (Reg.QUE_SRV_RBASE_HI i) 15 0 * 2 ^ 32 + (d.reg (Reg.QUE_SRV_RBASE_LO i)).toNat / 4096 * 4096
    let hAddr := d.rf (Reg.QUE_SRV_RHEAD_HI i) 15 0 * 2 ^ 32 + (d.reg (Reg.QUE_SRV_RHEAD_LO i)).toNat / 8 * 8
    let log2 := d.rf (Reg.QUE_SRV_RCFG i) 4 0
    let h := d.readBytes w hAddr 4
    let tail := (d.reg (Reg.QUE_SRV_RTAIL i)).toNat
    if h.1.bad then h.2.ringFault i es
    else if es.isEmpty then h.2.ringRepaired i
    else if 2 ^ log2 < sub32 tail h.1.data + es.length + 1 then h.2.holdRing i es true
    else
      let all := entryOf h.2.firing es.length 0 0 0 0 0 :: es
      let p := h.2.writeEntries w base log2 all tail
      if p.1 then ((p.2.countEnds i es).ringRepaired i).setReg (Reg.QUE_SRV_RTAIL i) (BitVec.ofNat 32 (tail + all.length))
      else p.2.ringFault i es

/-! ### The serving tick (R247) -/

/-- A new configuration takes effect, and an ABORT written since the last tick posts the open step as failed
(R255, R268). -/
def Die.srvOpen (d : Die) (g : Nat) : Die :=
  let x := d.grp g
  let d1 := if x.abort && x.inStep then d.stepFailed g else d
  d1.setGrp g { x with
    cfg := d.reg (Reg.QUE_SRV_GCFG0 g)
    posted := if x.abort && x.inStep then some true else x.posted
    abort := false }

/-- The actions of R247 for one group. -/
def Die.srvGroup (closing : Nat) (d : Die) (g : Nat) : Die :=
  let d4 := ((((d.srvOpen g).srvDeliver g closing).srvDeadlines g closing).srvSubmit g).srvCancel g
  let d5 := if (d4.grp g).inStep then d4 else (d4.srvAdmit g).srvPreempt g
  ((d5.srvRefuse g).srvComplete g).srvLatch g

/-- SERVING_TICK: step 6 of R207 for the groups in turn, in the tick that closes firing `sched.closed`; then the
CANCELs that found no request, the batch records, and last the signals of the steps latched (R247, R252, R258). -/
def Die.servingTick (d : Die) : Die :=
  let d1 := (List.range 16).foldl (Die.srvGroup d.sched.closed) d
  let d2 := d1.readyCancels.foldl (fun acc e => acc.completeParked e.slot stAlreadyDone) d1
  let d3 := (List.range 65).foldl (fun acc i => acc.resultRing i) d2
  let d4 : Die := { d3 with serving := { d3.serving with now := [] } }
  ((List.range 16).filter fun g => d4.reg (Reg.QUE_SRV_GSTEP g) != d.reg (Reg.QUE_SRV_GSTEP g)).foldl
    (fun acc g => acc.srvSignal g) d4

/-- The serving work of one tick, in the firing it opened (R247). -/
def serveTick (x : Nat × Nat) (d : Die) : Die :=
  let t := ({ d with
    firing := x.1
    sched := { d.sched with closed := x.2 }
    serving := { d.serving with late := d.serving.late.drop 1 } } : Die).servingTick
  { t with firing := d.firing, sched := { t.sched with closed := d.sched.closed } }

/-- The serving work of ticks, each before the next begins (R247). DESIGN CHOICE: work that lacks lines goes on when they are
there (log entry 50). -/
def Die.serveAll (d : Die) : List (Nat × Nat) → Die
  | [] => d
  | x :: xs =>
    let d1 := d.attempt tickSlot (serveTick x)
    if d1.serving.late = xs then d1.serveAll xs else d1

/-- SERVING_ABORT: a write to QUE_SRV_GCTL.ABORT marks the open step posted and failed at the next tick (R255). -/
def Die.servingAbort (d : Die) (group : BitVec 4) (abort : Bool) : Die :=
  if abort then d.setGrp group.toNat { d.grp group.toNat with abort := true } else d

end Sys2Proof.Machine
end

