-- ==== Sys2Proof/Machine/Early.lean ====
section
/-! DEFINITION. Readiness with what each unit asks besides the events, the early end of a descriptor, and the flush
of a queue (R94, R173, R214, R236, R512, Table 7.7, Table 16.6). -/

namespace Sys2Proof.Machine

/-! ### Readiness (R173) -/

/-- What a descriptor's unit asks before it is ready, its conflict over KV contexts apart (R76, R187, R190, R353,
R356). -/
def Die.unitAllows (d : Die) (e : Entry) : Bool :=
  match opcodeOf e.desc with
  | 0x10 => d.kiln.shadowState == .empty
  | 0x60 => !e.waitOver
  | 0x63 => d.tickCome e
  | 0x90 => d.camReady e.desc
  | 0x91 => d.camReady e.desc
  | _ => true

/-- DESCRIPTOR_READY: a descriptor whose last condition is satisfied becomes ready. One held only by a KV context
that an older descriptor names adds to WHL_CTX_WAIT (R163). -/
def Die.descriptorReady (d : Die) (slot : BitVec 12) : Die :=
  match d.entry slot.toNat with
  | none => d
  | some e =>
    if opcodeOf e.desc = 0x63 then d.tickwaitReady e
    else if d.ctxHeld e then
      let would := d.becomeReady e (d.unitAllows e)
      if would = d then d else if e.fail ≠ 0 then would else d.count Reg.WHL_CTX_WAIT 1
    else d.becomeReady e (d.unitAllows e)

/-! ### Early end (R94, R214, R236) -/

/-- Take an entry out of whatever waits for it outside the scoreboard. -/
def Die.detach (d : Die) (e : Entry) : Die :=
  { d with
    serving := { d.serving with
      submits := d.serving.submits.filter fun s => s.slot != e.slot
      groups := d.serving.groups.map fun kv => (kv.1, { kv.2 with rows := kv.2.rows.map fun p =>
        (p.1, { p.2 with cancels := p.2.cancels.filter (· != e.slot) }) }) }
    tier := { d.tier with
      moves := d.tier.moves.map fun m => { m with waiters := m.waiters.filter (· != e.slot) } }
    sched := { d.sched with
      arrivals := d.sched.arrivals.filter fun a => !(a.src == d.dieId && opcodeOf e.desc == 0x62 && e.aux == [a.id, a.k])
      releases := d.sched.releases.filter fun a => !(opcodeOf e.desc == 0x62 && e.aux == [a.id, a.k]) } }

/-- EARLY_END: a started descriptor is ended by its unit with a status. A charge of the Kiln stops issuing and
settles; an F.* sends ABORT; every other unit stops where it is, and what it has written stays. A status the Wheel has met
before stands (R165). -/
def Die.endStarted (d : Die) (e : Entry) (st : Nat) : Die :=
  if opcodeOf e.desc = 0x11 then d.chargeEarlyEnd e.slot st
  else
    ((d.abortSend e.slot).detach e).modEntry e.slot fun o =>
      { o with phase := .executed, status := if o.status = stOk then st else o.status, flags := o.flags ||| flEarlyEnd }

/-- End a descriptor that has not completed: early when its unit has started it, else it executes nothing. One whose unit is
done with it, and whose writes are still on their way, takes the status too, unless it was ended early before. DESIGN
CHOICE: a hand charge that never started owes no row (R89; log entry 95). -/
def Die.endEarly (d : Die) (e : Entry) (st : Nat) : Die :=
  if e.phase = .executed then
    if e.began && !d.writesVisible e then
      d.modEntry e.slot fun o =>
        if o.flags / 16 % 2 = 1 then o else { o with
          status := if firstCase o.desc && o.status != stOk then o.status else st
          flags := o.flags ||| flEarlyEnd }
    else d
  else if e.began then d.endStarted e st
  else d.finish e.slot st 0 0 0 0

/-! ### Flush (R236) -/

/-- Flush a queue: its descriptors end CANCELLED and the mark is set at its SQ_TAIL. -/
def Die.flushQueue (d : Die) (q : Nat) : Die :=
  let c := d.ctxOf q
  let d1 := { d with queues := { d.queues with
    flushMarks := (d.queues.flushMarks.filter fun (m : Nat × Nat) => m.1 != q) ++ [(q, c.sqTail)] } }
  (d1.sb.filter fun e => e.queue == q).foldl (fun acc e => acc.endEarly e stCancelled) d1

/-- DB_FLUSH and QUE_MGMT_FLUSH on a record (R233, R234, R236). -/
def Die.dbFlush (d : Die) (i lq : Nat) : Die :=
  if d.qcount i ≤ lq then d.dbDrop i ((d.qbase i + lq) % 2 ^ 20) Bit.QUE_ERR_DB_RANGE
  else
    let q := d.qbase i + lq
    let d1 := d.fetchCtx q
    let c := d1.ctxOf q
    if c.state = 0 ∨ c.state = 3 then d1.dbDrop i q Bit.QUE_ERR_DB_RANGE else d1.flushQueue q

end Sys2Proof.Machine
end

