-- ==== Sys2Proof/Machine/Shelves.lean ====
section
/-! DEFINITION. The Shelves' own commands: bank configuration, slot declarations, clears, gates, scrubbing, rewrites
and spare rows (chapter 03, R55, R58, R59, R62, R64 to R69). -/

namespace Sys2Proof.Machine

/-! ### Bank configuration (R55, R58, R65) -/

/-- Banks of the Shelves. -/
abbrev bankCount : Nat := 88

/-- Legal owner codes (Table 3.2). -/
def ownerLegal (o : Nat) : Bool := decide (o ≤ 6)

/-- Legal tenant codes (R55). -/
def tenantLegal (t : Nat) : Bool := decide (t < 64) || t == 0x40 || t == 0x7F

/-- Whether a started, incomplete descriptor names a bank in its handoff. -/
def Die.handoffHolds (d : Die) (b : Nat) : Bool :=
  d.sb.any fun e => e.running && hasHandoff e.desc &&
    (let h := handoffOf e.desc
     decide (h.1 ≤ b) && decide (b < h.1 + h.2.1))

/-- Ask for a bank's clear (R65). -/
def Die.requestClear (d : Die) (b : Nat) : Die :=
  let d1 := d.setRf (Reg.SHF_BANK_CFG b) 17 17 1
  { d1 with shelf := { d1.shelf with clearing := setInsert b d1.shelf.clearing } }

/-- SHF_BANK_CFG_WRITE: owner, tenant and class are set, or the write is refused by the first rule that applies. A
change of CLASS starts a clear. -/
def Die.shfBankCfgWrite (d : Die) (bank : BitVec 7) (w : Word) : Die :=
  let b := bank.toNat
  let a := Reg.SHF_BANK_CFG b
  if bankCount ≤ b then d
  else if d.bankBusy b || !ownerLegal (w.f 3 0) || !tenantLegal (w.f 14 8) then d.err Reg.SHF_ERR Bit.SHF_ERR_CONFIG
  else if d.handoffHolds b && (w.f 3 0 != d.bankOwner b || w.f 14 8 != d.bankTenant b) then
    d.err Reg.SHF_ERR Bit.SHF_ERR_CFG_LOST
  else
    let d1 := d.setReg a ((((d.reg a).setF 3 0 (w.f 3 0)).setF 4 4 (w.f 4 4)).setF 14 8 (w.f 14 8))
    if w.b 4 != d.bankWeight b then d1.requestClear b else d1

/-- Whether a move of the tier manager reads or writes a bank. -/
def Die.moveReaches (d : Die) (b : Nat) : Bool :=
  d.tier.moves.any fun m => (m.srcTier == 1 && m.srcFrame / 8 == b) || (m.dstTier == 1 && m.dstFrame / 8 == b)

/-- Whether a started descriptor reaches a bank, in the Shelves or as a SHELF page, or a move of the tier manager does. -/
def Die.bankInUse (d : Die) (b : Nat) : Bool :=
  (d.sb.any fun e => e.running && (d.reachBanks e.desc).contains b) || d.moveReaches b

/-- BANK_CLEAR: once the descriptors started on it have completed, a bank is zeroed and BUSY clears. -/
def Die.bankClear (d : Die) (bank : BitVec 7) : Die :=
  let b := bank.toNat
  if d.shelf.clearing.contains b ∧ d.bankInUse b = false then
    let d1 := (d.zeroBank b).setRf (Reg.SHF_BANK_CFG b) 17 17 0
    { d1 with shelf := { d1.shelf with clearing := setErase b d1.shelf.clearing } }
  else d

/-! ### Slots (R59, R62) -/

/-- SHF_SLOT_RANGE_WRITE: an undeclared slot's range is stored; a declared one's is ignored. -/
def Die.shfSlotRangeWrite (d : Die) (n : BitVec 10) (w : Word) : Die :=
  if d.slotDeclared n.toNat then d.err Reg.SHF_ERR Bit.SHF_ERR_SLOT_CFG
  else d.setReg (Reg.SHF_SLOT_RANGE n.toNat) (w &&& 0x0FFFFFFF#32)

/-- Whether two row ranges meet. -/
def rangesMeet (a b : Nat × Nat) : Bool := decide (a.1 < b.1 + b.2) && decide (b.1 < a.1 + a.2)

/-- Whether a declaration of slot `n` with `readers` is legal (R59). -/
def Die.declareLegal (d : Die) (n readers : Nat) : Bool :=
  let r := d.slotRange n
  decide (1 ≤ r.2) && decide (r.2 ≤ 1024) && decide (r.1 ≤ 90111) && bankOf r.1 == bankOf (r.1 + r.2 - 1) && readers != 0 &&
    !(d.declaredSlots.any fun m => m != n && rangesMeet r (d.slotRange m))

/-- SLOT_DECLARE: setting DECLARED checks the range and declares the slot with GEN, POISON and READS_LEFT at 0. -/
def Die.slotDeclare (d : Die) (n : BitVec 10) (w : Word) : Die :=
  if !w.b 0 || d.slotDeclared n.toNat then d
  else if d.declareLegal n.toNat (w.f 11 8) then
    (d.setReg (Reg.SHF_SLOT_CTRL n.toNat) (BitVec.ofNat 32 (w.f 11 8 * 256 + 1))).noReaders n.toNat
  else d.err Reg.SHF_ERR Bit.SHF_ERR_SLOT_CFG

/-- SLOT_RELEASE: clearing DECLARED releases the slot; descriptors that waited on it then see unguarded rows. -/
def Die.slotRelease (d : Die) (n : BitVec 10) (w : Word) : Die :=
  if w.b 0 || !d.slotDeclared n.toNat then d
  else d.setReg (Reg.SHF_SLOT_CTRL n.toNat) (((d.reg (Reg.SHF_SLOT_CTRL n.toNat)).setF 0 0 0).setF 11 8 (w.f 11 8))

/-! ### Rewrites, scrubbing and spares (R64, R66, R69) -/

/-- SHELF_ROW_REWRITE: a corrected row is rewritten; a port write has already dropped the rewrite. -/
def Die.shelfRowRewrite (d : Die) (row : BitVec 17) : Die :=
  { d with shelf := { d.shelf with rewrites := d.shelf.rewrites.filter (· != row.toNat) } }

/-- The scrub pass at this instant: the one under way, or a new one once PASS_MS have gone by since it began (R17, R66). -/
def Die.scrubPass (d : Die) : Die :=
  if d.refclk < d.shelf.passStart + msCycles (d.rf Reg.SHF_SCRUB_CFG 15 0) then d
  else { d with shelf := { d.shelf with scrubbed := [], passStart := d.refclk } }

/-- SHELF_SCRUB: one row of a powered bank is read. `fault` is what the read finds there: none, an error the code
corrects (0), or the failing parts. An uncorrectable row takes the poison mark. A pass reads each row once. -/
def Die.shelfScrub (d : Die) (row : BitVec 17) (fault : Option (BitVec 32)) : Die :=
  let r := row.toNat
  let b := bankOf r
  let d0 := d.scrubPass
  if shelfRows ≤ r || !d.bankPowered b || d.rf Reg.SHF_SCRUB_CFG 15 0 == 0 || d0.shelf.scrubbed.contains r then d
  else
    let d1 : Die := { d0 with shelf := { d0.shelf with scrubbed := setInsert r d0.shelf.scrubbed } }
    let d2 := match fault with
      | some m => d1.upset ⟨false, BitVec.ofNat 32 r, BitVec.ofNat 576 m.toNat, false⟩
      | none => d1
    if SMap.get (fun _ => 0) d2.shelf.damage r = 0 then d2
    else
      (({ d2 with shelf := { d2.shelf with marks := SMap.put (fun _ => 0) d2.shelf.marks r 0xFF } }).shelfFault
        Bit.SHF_ERR_UNCORRECTABLE b 7 none).countError 3 r

/-- SHELF_SPARE_ROW: a lasting row fault is mapped to a spare row of its bank, its corrected contents copied. DESIGN CHOICE:
the parts of an uncorrectable row that have no corrected contents stay failing in the spare until they are written (log entry
20). -/
def Die.shelfSpareRow (d : Die) : Die :=
  match d.firstWanted 3 with
  | none => d
  | some r =>
    let a := Reg.SHF_BANK_STAT (bankOf r)
    let n := d.rf a 3 0
    if n = 0 then d.noSpare 3 r
    else
      let d1 := (d.setRf a 3 0 (n - 1)).spareInService 3 r
      { d1 with shelf := { d1.shelf with
        spared := setInsert r d1.shelf.spared
        rewrites := d1.shelf.rewrites.filter (· != r) } }

/-! ### Power gates (R67) -/

/-- Whether a started descriptor still has accesses to make to a bank: units it was left before, in the Shelves or in a SHELF
page. (A descriptor reads its streams when its unit runs it, and a drain meets a closed gate at the row it writes; log entry
17.) -/
def Die.stillReaches (d : Die) (e : Entry) (b : Nat) : Bool :=
  e.phase == .started && e.left.any fun u =>
    if u.1 = 1 then bankOf u.2.toNat == b
    else
      let p := d.pte (u.2.toNat / 1024)
      pteTier p == 1 && pteFrame p / 8 == b

/-- The port of a descriptor's stream that reaches a bank, in the Shelves or as a SHELF page. -/
def Die.reachPort (d : Die) (x : DescBits) (b : Nat) : Nat :=
  match (shelfBanks x).find? fun q => q.1 == b with
  | some q => q.2.port
  | none =>
    (((memStreams x).find? fun p => (pagesOf (reachOf x p.1).1 (reachOf x p.1).2).any fun g =>
      pteTier (d.pte g) == 1 && pteFrame (d.pte g) / 8 == b).map fun p => p.2.port).getD 4

/-- BANK_GATE_CLOSE: a bank's gate closes once its writes have drained. Its contents are lost, and a descriptor that
loses an access to it ends with BANK_OFF. DESIGN CHOICE: a clear that still waits is over with the contents, and BUSY with it
(log entry 20). -/
def Die.bankGateClose (d : Die) (bank : BitVec 7) : Die :=
  let b := bank.toNat
  if !d.shelf.closing.contains b then d
  else
    let d1 := (d.zeroBank b).setRf (Reg.SHF_BANK_CFG b) 16 16 0
    let d2 := { d1 with shelf := { d1.shelf with
      closing := setErase b d1.shelf.closing
      clearing := setErase b d1.shelf.clearing } }
    let d3 := d2.setRf (Reg.SHF_BANK_CFG b) 17 17 0
    (d3.sb.filter fun e => d3.stillReaches e b).foldl (fun acc e =>
      (acc.shelfFault Bit.SHF_ERR_BANK_OFF b (acc.reachPort e.desc b) (some (e.tenant, e.queue))).endEarly e stBankOff) d3

/-- Power a bank up at a tick: it is cleared as by a change of class (R65). -/
def Die.powerBankUp (d : Die) (b : Nat) : Die :=
  if d.bankPowered b then { d with shelf := { d.shelf with closing := setErase b d.shelf.closing } }
  else (d.setRf (Reg.SHF_BANK_CFG b) 16 16 1).requestClear b

/-- Power a bank down at a tick: its gate closes once its writes have drained. -/
def Die.powerBankDown (d : Die) (b : Nat) : Die :=
  if d.bankPowered b then { d with shelf := { d.shelf with closing := setInsert b d.shelf.closing } } else d

end Sys2Proof.Machine
end

