-- ==== Sys2Proof/Machine/Mgmt.lean ====
section
/-! DEFINITION. The management plane's rings: command packets taken, checked and handed to their processors, changes
that wait for a tick, and replies (R21, R445, R452 to R457). -/

namespace Sys2Proof.Machine

/-! ### State of the firmware and of the die (Tables 17.7 and 19.10) -/

/-- FWP_STAT.STATE values (Table 19.10). -/
abbrev fwBoot : Nat := 0
abbrev fwHostWait : Nat := 1
abbrev fwWaitDriver : Nat := 2
abbrev fwRunning : Nat := 3
abbrev fwRefused : Nat := 4
abbrev fwDegraded : Nat := 5
abbrev fwFailed : Nat := 6

/-- FWP_STAT.STATE. -/
def Die.fwState (d : Die) : Nat := d.rf Reg.FWP_STAT 3 0

/-- Set FWP_STAT.STATE. -/
def Die.setFwState (d : Die) (s : Nat) : Die := d.setRf Reg.FWP_STAT 3 0 s

/-- DOWN bit of a processor. -/
def Die.procDown (d : Die) (p : Nat) : Bool := (d.reg Reg.FWP_STAT).b (4 + p)

/-- A processor begins to run, and its watchdog with it. -/
def Die.procStarts (d : Die) (p : Nat) : Die := { d with fw := { d.fw with since := SMap.put (fun _ => 0) d.fw.since p d.refclk } }

/-- Set the DOWN bit of a processor; one that comes back begins to run, and settings transfers fail as the Media core goes
(R462). -/
def Die.setDown (d : Die) (p : Nat) (v : Bool) : Die :=
  (if !v then d.procStarts p else if p = 3 then d.failSettings else d).setRf Reg.FWP_STAT (4 + p) (4 + p) (if v then 1 else 0)

/-- FWP_STAT.UPDATE (Table 19.8). -/
def Die.update (d : Die) : Nat := d.rf Reg.FWP_STAT 11 8

/-- Set FWP_STAT.UPDATE. -/
def Die.setUpdate (d : Die) (u : Nat) : Die := d.setRf Reg.FWP_STAT 11 8 u

/-- DMP_STAT.PSTATE (Table 17.7). -/
def Die.pstate (d : Die) : Nat := d.rf Reg.DMP_STAT 2 0

/-- In DOZE or SLEEP (R413). -/
def Die.asleep (d : Die) : Bool := decide (2 ≤ d.pstate)

/-- An entry to DOZE or SLEEP is under way (R415). -/
def Die.entering (d : Die) : Bool := (d.reg Reg.DMP_STAT).b 3

/-- The limiter runs in rail mode (R409). -/
def Die.railMode (d : Die) : Bool := (d.reg Reg.DMP_STAT).b 9

/-- Set DMP_STAT.RAIL_MODE. -/
def Die.setRailMode (d : Die) (v : Bool) : Die := d.setRf Reg.DMP_STAT 9 9 (if v then 1 else 0)

/-! ### Commands (Tables 13.3, 14.4, 15.12, 16.7, 17.5, 18.4, 19.6, 19.7, 20.6) -/

/-- Processor that serves an opcode (Table 19.1). -/
def procOf (op : Nat) : Nat := if op / 256 = 1 then 1 else if op / 256 = 2 then 2 else if op / 256 = 5 then 3 else 0

/-- Payload bytes of each command the tables define; none for an opcode no table defines (R456, R457). -/
def cmdLength (op : Nat) : Option Nat :=
  match op with
  | 0x0101 => some 2 | 0x0102 => some 16 | 0x0103 => some 1 | 0x0104 => some 5 | 0x0105 => some 10 | 0x0106 => some 12
  | 0x0107 => some 0 | 0x0108 => some 1
  | 0x0201 => some 8 | 0x0202 => some 40 | 0x0203 => some 40 | 0x0204 => some 16 | 0x0205 => some 16 | 0x0206 => some 40
  | 0x0207 => some 16 | 0x0208 => some 0 | 0x0209 => some 0
  | 0x0301 => some 0 | 0x0302 => some 2 | 0x0303 => some 0 | 0x0304 => some 0 | 0x0305 => some 8 | 0x0306 => some 20
  | 0x0307 => some 12 | 0x0308 => some 1 | 0x0309 => some 4 | 0x030A => some 12 | 0x030B => some 0 | 0x030C => some 0
  | 0x0401 => some 0 | 0x0402 => some 3 | 0x0403 => some 2 | 0x0410 => some 2 | 0x0411 => some 0
  | 0x0420 => some 20 | 0x0421 => some 2 | 0x0422 => some 1 | 0x0423 => some 4
  | 0x0501 => some 6 | 0x0502 => some 48 | 0x0503 => some 1 | 0x0504 => some 1
  | 0x0601 => some 0 | 0x0602 => some 1 | 0x0603 => some 6 | 0x0604 => some 3
  | 0x0701 => some 0 | 0x0702 => some 8 | 0x0703 => some 1
  | _ => none

/-- Payload bytes `o` to `o + k − 1` of a command. -/
def Cmd.arg (c : Cmd) (o k : Nat) : Nat := bytesAt c.payload o k

/-- Commands served in REFUSED (R459). -/
def servedRefused (op : Nat) : Bool :=
  op == 0x0301 || op == 0x0302 || op == 0x030A || op == 0x030B || op == 0x030C || op == 0x0201

/-- Commands of ranges 0x04xx to 0x06xx that change state (R460). -/
def changesState (op : Nat) : Bool :=
  [0x0402, 0x0403, 0x0410, 0x0420, 0x0421, 0x0423, 0x0501, 0x0502, 0x0503, 0x0602, 0x0603, 0x0604].contains op

/-! ### Replies (R452 to R455) -/

/-- RESULT: each field, a width in bytes and a value, little-endian and aligned to its own size (R454). -/
def resultBytes (fields : List (Nat × Nat)) : List Nat :=
  fields.foldl (fun acc f => acc ++ List.replicate ((f.1 - acc.length % f.1) % f.1) 0 ++ toBytes f.1 f.2) []

/-- The 64 bytes of a reply packet (Table 19.5). -/
def replyPacket (c : Cmd) (st detail phase firing : Nat) (res : List Nat) : List Nat :=
  toBytes 2 c.op ++ toBytes 2 res.length ++ toBytes 4 c.seq ++ [st, detail, phase, 0] ++ toBytes 4 firing ++ res ++
    List.replicate (48 - res.length) 0

/-- Host address of packet `n` of a ring whose base lies in a _LO register (R452). -/
def Die.ringSlot (d : Die) (lo n : Nat) : Nat :=
  d.rf (lo + 4) 15 0 * 2 ^ 32 + d.rf lo 31 12 * 4096 + 64 * (n % 2 ^ d.rf Reg.FWP_RING_CFG 3 0)

/-- A ring access failed: no packet is taken until the ring is configured again (R452). -/
def Die.ringFailed (d : Die) : Die :=
  ({ d with fw := { d.fw with ringBad := true } }).err Reg.FWP_ERR Bit.FWP_ERR_RING

/-- A reply goes to the reply ring and raises the management interrupt (R452, R453, Table 20.5). -/
def Die.postReply (d : Die) (c : Cmd) (st detail firing : Nat) (res : List Nat) : Die :=
  let tail := (d.reg Reg.FWP_RPL_TAIL).toNat
  let phase := if tail / 2 ^ d.rf Reg.FWP_RING_CFG 3 0 % 2 = 0 then 1 else 0
  let p := d.postHost (d.ringSlot Reg.FWP_RPL_BASE_LO tail) (replyPacket c st detail phase (firing % 2 ^ 32) res)
  if p.1 then (p.2.setReg Reg.FWP_RPL_TAIL (BitVec.ofNat 32 (tail + 1))).event 16 else p.2.ringFailed

/-- Answer a command; the replies of a tick cycle follow it. -/
def Die.reply (d : Die) (c : Cmd) (st detail firing : Nat) (fields : List (Nat × Nat)) : Die :=
  let d1 : Die := { d with fw := { d.fw with cmds := d.fw.cmds.filter fun o => o ≠ c } }
  match d1.cycle with
  | some l => { d1 with cycle := some (l ++ [.reply c st detail firing (resultBytes fields)]) }
  | none => d1.postReply c st detail firing (resultBytes fields)

/-! ### Records and replies owed (R194, R207) -/

/-- Write what is owed. -/
def Die.payOut (x : Owed) (d : Die) : Die :=
  match x with
  | .record e n => (d.leaveRecord n e).freePlace e.queue
  | .reply c st detail n res => d.postReply c st detail n res

/-- Write one owed record or reply, unless an older one of its queue still waits. -/
def Die.pay (d : Die) (x : Owed) : Die :=
  if (d.owed.find? fun y => y.queue == x.queue) = some x then
    d.attempt owedSlot fun d0 => Die.payOut x { d0 with owed := d0.owed.erase x }
  else d

/-- Write what is owed, as far as its rings take it. -/
def Die.payAll (d : Die) : Die := d.owed.foldl Die.pay d

/-- A tick cycle's records and replies are written after it. -/
def Die.closeCycle (d : Die) : Die := ({ d with owed := d.owed ++ d.cycle.getD [], cycle := none } : Die).payAll

/-- The tenant a record is owed to. -/
def Owed.tenant : Owed → Option Nat
  | .record e _ => some e.tenant
  | .reply .. => none

/-- A tenant's records are written as its queues go; those its rings cannot take are lost with them (R222). -/
def Die.payTenant (d : Die) (t : Nat) : Die :=
  let mine := fun (x : Owed) => x.tenant == some t
  let d1 : Die := { d with owed := d.owed.filter fun x => !mine x, cycle := d.cycle.map fun l => l.filter fun x => !mine x }
  ((d.owed ++ d.cycle.getD []).filter mine).foldl (fun acc x => acc.attempt owedSlot (Die.payOut x)) d1

/-! ### Packets (R452, R455, R456) -/

/-- Whether firmware takes packets now: the ring is enabled and sound, no takeover has paused it, and the die is in a
state in which the Supervisor serves it (R450, R452, R463, R466). -/
def Die.ringServed (d : Die) : Bool :=
  (d.reg Reg.FWP_RING_CFG).b 31 && !d.fw.ringBad && !d.fw.paused && !d.fw.halted && !d.procDown 0 && !d.asleep &&
    (d.fwState == fwWaitDriver || d.fwState == fwRunning || d.fwState == fwRefused)

/-- Whether a write owed to a ring is a reply. -/
def Owed.isReply : Owed → Bool
  | .record .. => false
  | .reply .. => true

/-- Replies owed: to commands not answered yet, and those not written yet (R455). -/
def Die.repliesOwed (d : Die) : Nat := d.fw.cmds.length + ((d.owed ++ d.cycle.getD []).filter Owed.isReply).length

/-- Whether the next packet may be taken (R455). -/
def Die.mayTake (d : Die) : Bool :=
  d.ringServed && d.reg Reg.FWP_CMD_HEAD != d.reg Reg.FWP_CMD_TAIL && decide (d.fw.cmds.length < 64) &&
    decide (d.repliesOwed + sub32 (d.reg Reg.FWP_RPL_TAIL).toNat (d.reg Reg.FWP_RPL_HEAD).toNat < 2 ^ d.rf Reg.FWP_RING_CFG 3 0)

/-- Check a taken packet in the order of R456: SEQ, OPCODE, LENGTH. -/
def Die.checkPacket (d : Die) (n : Nat) : Die :=
  let op := bytesAt n 0 2
  let seq := bytesAt n 4 4
  let c : Cmd := ⟨op, seq, bytesAt n 8 56, .queued, []⟩
  let inSeq := match d.fw.lastSeq with
    | none => true
    | some s => seq == (s + 1) % 2 ^ 32
  let accepted : Die := { d with fw := { d.fw with lastSeq := some seq } }
  if !inSeq then d.reply c stIllegal 0xFD 0 []
  else match cmdLength op with
    | none => accepted.reply c stIllegal 0xFF 0 []
    | some k =>
      if bytesAt n 2 2 ≠ k then d.reply c stIllegal 0xFD 0 []
      else if d.fw.stuck.contains (procOf op) then accepted.reply c stUnitReset 0 0 []
      else { accepted with fw := { accepted.fw with cmds := accepted.fw.cmds ++ [c] } }

/-- Take packets in ring order, at most `n`. -/
def Die.takePackets : Nat → Die → Die
  | 0, d => d
  | n + 1, d =>
    if !d.mayTake then d
    else
      let head := d.reg Reg.FWP_CMD_HEAD
      let p := d.readHost 0 (d.ringSlot Reg.FWP_CMD_BASE_LO head.toNat / 64) Who.die
      if p.1.bad then p.2.ringFailed
      else Die.takePackets n ((p.2.setReg Reg.FWP_CMD_HEAD (head + 1#32)).checkPacket p.1.data)

/-- FWP_CMD_TAIL_WRITE: the driver's new packet count; firmware takes what it may (R452, R455). -/
def Die.fwpCmdTailWrite (d : Die) (v : Word) : Die :=
  (d.setReg Reg.FWP_CMD_TAIL v).attempt mgmtSlot (Die.takePackets 4096)

/-- FWP_RING_CFG_WRITE: ring service starts or restarts, or the write is ignored whole (R452, R456). -/
def Die.fwpRingCfgWrite (d : Die) (w : Word) : Die :=
  if w.b 31 && (decide (w.f 3 0 < 4) || decide (12 < w.f 3 0)) then d.err Reg.FWP_ERR Bit.FWP_ERR_CONFIG
  else
    let d1 := d.setReg Reg.FWP_RING_CFG (w &&& 0x8000000F#32)
    { d1 with fw := { d1.fw with lastSeq := none, ringBad := false } }

/-! ### Handling (R445, R455, R456 check 4, R459, R460) -/

/-- The first command its processor has not come to. -/
def Die.headCmd (d : Die) (p : Nat) : Option Cmd := d.fw.cmds.find? fun c => c.stage == .queued && procOf c.op == p

/-- Replace a command's stage and progress. -/
def Die.setCmd (d : Die) (c : Cmd) (st : Stage) (aux : List Nat) : Die :=
  { d with fw := { d.fw with cmds := d.fw.cmds.map fun o => if o = c then { c with stage := st, aux := aux } else o } }

/-- Accept a change that applies at the next tick (R21). -/
def Die.toTick (d : Die) (c : Cmd) (aux : List Nat) : Die := d.setCmd c .atTick aux

/-- Check 4 of R456: status and detail when the command is not allowed in the die's state. -/
def Die.refusal (d : Die) (op : Nat) : Option (Nat × Nat) :=
  if d.fwState = fwRefused ∧ servedRefused op = false then some (stPermission, 0xFE)
  else if changesState op ∧ d.fwState ≠ fwWaitDriver ∧ d.fwState ≠ fwRunning then some (stIllegal, 0xFE)
  else none

/-- The processor of a command comes to it: packets are taken first, then the first one the processor has not come to
is handled when it is this command. -/
def Die.mgmt (d : Die) (op : Nat) (f : Cmd → Die → Die) : Die :=
  d.attempt mgmtSlot fun d0 =>
    let d1 := Die.takePackets 4096 d0
    match d1.headCmd (procOf op) with
    | none => d1
    | some c =>
      if c.op ≠ op ∨ d1.procDown (procOf op) ∨ d1.asleep ∨ d1.fw.halted then d1
      else match d1.refusal op with
        | some r => d1.reply c r.1 r.2 0 []
        | none => f c d1

/-- A command of an opcode that has begun and not been answered. -/
def Die.runningCmd (d : Die) (op : Nat) : Option Cmd := d.fw.cmds.find? fun c => c.stage == .running && c.op == op

/-- Whether a change of an opcode that a test admits waits for the tick. -/
def Die.awaitsTick (d : Die) (op : Nat) (p : Cmd → Bool) : Bool := d.fw.cmds.any fun c => c.stage == .atTick && c.op == op && p c

end Sys2Proof.Machine
end

