-- ==== Sys2Proof/Machine/Damper.lean ====
section
/-! DEFINITION. The Damper: estimates and limiting, heat, droop, the tick's power policy, power states and the power
commands (chapter 17, R398 to R421). -/

namespace Sys2Proof.Machine

/-! ### Registers of the Damper -/

/-- Cap in force in mW. -/
def Die.capInForce (d : Die) : Nat := d.rf Reg.DMP_CAP 15 0

/-- UCIe modules in service: the host module and the enabled peer ports (R399). -/
def Die.modulesOn (d : Die) : Nat := 1 + ([1, 2].filter fun p => (d.port p).enabled).length

/-- Hardware minimum floors of the limited domains in mW (Table 17.1). -/
def Die.floors (d : Die) : List Nat := [600, 900, 150 * d.modulesOn]

/-- Grant of a limited domain in mW. -/
def Die.grant (d : Die) (dom : Nat) : Nat := d.rf (Reg.DMP_DOM_EST dom) 31 16

/-- THROTTLE in 1/16 °C. -/
def Die.throttle16 (d : Die) : Int := (16 * d.rf Reg.DMP_THERM_CFG 6 0 : Nat)

/-! ### Estimates and limiting (R398, R402, R409) -/

/-- The ratio of a domain over its limit, in 1/64 and at least 1/64 (R402). -/
def lowered (ratio limit est : Nat) : Nat := max 1 (ratio * limit / est)

/-- New issue ratios in service mode (R402). -/
def Die.capRatios (d : Die) (e : Estimate) : List Nat :=
  let above := decide (19 * d.capInForce < 20 * e.die.toNat)
  d.damper.ratio.zipIdx.map fun p =>
    let est := (e.domains.getD p.2 0#16).toNat
    if above then (if d.grant p.2 < est then lowered p.1 (d.grant p.2) est else p.1) else min 64 (p.1 + 1)

/-- Limited domains each rail feeds (Tables 17.1 and 17.2; DEDUCED, log entry 70). -/
def railFeeds (rail : Nat) : List Nat :=
  match rail with
  | 0 => [0]
  | 1 => [0, 1]
  | 2 => [1]
  | 3 => [2]
  | _ => []

/-- Rails whose estimate reaches their limit. -/
def Die.railsHit (d : Die) (e : Estimate) : List Nat :=
  (List.range 4).filter fun r => decide ((d.damper.rails.getD r (0, 0)).1 ≤ (e.rails.getD r 0#16).toNat)

/-- New issue ratios in rail mode: the domains of a rail at its limit are lowered, the others rise (R409). -/
def Die.railRatios (d : Die) (e : Estimate) : List Nat :=
  let hit := d.railsHit e
  d.damper.ratio.zipIdx.map fun p =>
    match hit.filter fun r => (railFeeds r).contains p.2 with
    | [] => min 64 (p.1 + 1)
    | rs => rs.foldl (fun q r => lowered q (d.damper.rails.getD r (0, 0)).1 (e.rails.getD r 0#16).toNat) p.1

/-- POWER_ESTIMATE_PERIOD: 2 µs after the last time, the Damper estimates power and lowers or raises the issue ratios; a
rail's estimate is its mean current over the rail's own window, and a domain at ratio 1 is not held. LIMITING says whether a
domain was limited in the period that ends (R398, R402, R409, Table 17.7; log entry 105). -/
def Die.powerEstimatePeriod (d : Die) (e : Estimate) : Die :=
  if d.pstate = 3 ∨ d.elapsed d.damper.estimated 2 = false then d
  else
    let ratios := if d.railMode then d.railRatios e else d.capRatios e
    let d1 := (List.range 4).foldl (fun acc k => acc.setRf (Reg.DMP_DOM_EST k) 15 0 (e.domains.getD k 0#16).toNat)
      (d.setRf Reg.DMP_EST 15 0 e.die.toNat)
    let d2 := ((List.range 3).filter d1.limited).foldl (fun acc k => acc.domainHeld k (e.held.getD k 0#12).toNat) d1
    let x := d2.damper
    let d3 : Die := { d2 with damper := { x with
      ratio := ratios
      dieMax := max x.dieMax e.die.toNat
      baseMax := max x.baseMax (e.domains.getD 3 0#16).toNat
      sum := x.sum + e.die.toNat
      periods := x.periods + 1
      estimated := d2.refclk } }
    let d4 := d3.setRf Reg.DMP_STAT 10 10 (if (List.range 3).any d.limited then 1 else 0)
    d4.errIf (d.railMode && !(d.railsHit e).isEmpty) Reg.DMP_ERR Bit.DMP_ERR_RAIL_LIMIT

/-! ### Heat and droop (R410, R411) -/

/-- The hottest reading and its sensor, the lower sensor on a tie. -/
def hottest : List (BitVec 16 × Nat) → Option (Int × Nat)
  | [] => none
  | t :: ts =>
    match hottest ts with
    | none => some (t.1.toInt, t.2)
    | some h => if t.1.toInt < h.1 then some h else some (t.1.toInt, t.2)

/-- The readings of the 24 sensors go to their registers, and the hottest to DMP_TEMP_MAX (R411). -/
def Die.takeTemps (d : Die) (temps : List (BitVec 16)) : Die :=
  let d0 := temps.zipIdx.foldl (fun acc t => acc.setRf (Reg.DMP_TEMP t.2) 15 0 t.1.toNat) d
  let d1 : Die := { d0 with damper := { d0.damper with sampled := d.refclk } }
  match hottest temps.zipIdx with
  | none => d1
  | some h =>
    let d2 := d1.setReg Reg.DMP_TEMP_MAX (BitVec.ofNat 32 (ofSigned 16 h.1 + h.2 * 2 ^ 16))
    { d2 with damper := { d2.damper with peak := some (match d2.damper.peak with
      | none => h.1
      | some q => max q h.1) } }

/-- THERMAL_SAMPLE: 10 µs after the last time, the 24 sensors are read (R411). -/
def Die.thermalSample (d : Die) (temps : List (BitVec 16)) : Die :=
  if d.pstate ≠ 3 ∧ d.elapsed d.damper.sampled 10 = true then d.takeTemps temps else d

/-- DROOP_DETECT: a detector sees its supply fall by `drop` mV, and the clock is stretched by `steps` steps (R410). -/
def Die.droopDetect (d : Die) (drop : BitVec 8) (steps : BitVec 3) : Die :=
  if drop.toNat ≤ d.rf Reg.DMP_DROOP_CFG 7 0 ∨ steps.toNat = 0 ∨ 4 < steps.toNat then d
  else
    let d1 := d.count Reg.DMP_DROOP_EVENTS 1
    let d2 : Die := { d1 with damper := { d1.damper with stretch := max d1.damper.stretch steps.toNat } }
    d2.errIf (steps.toNat == 4) Reg.DMP_ERR Bit.DMP_ERR_DROOP_MAX

/-- DROOP_RELAX: after `cycles` stretched cycles, HOLD or more with every detector recovered, the stretch relaxes by
one step (R410). -/
def Die.droopRelax (d : Die) (cycles : Word) : Die :=
  if d.damper.stretch = 0 ∨ cycles.toNat < d.rf Reg.DMP_DROOP_CFG 15 8 then d
  else ({ d with damper := { d.damper with stretch := d.damper.stretch - 1 } }).count Reg.DMP_DROOP_CYC cycles.toNat

/-! ### The tick's power policy (R401, R403 to R408, R411) -/

/-- THERMAL_CAP_UPDATE: the thermal cap falls or rises by the closing firing's sensors (R411). -/
def Die.thermalCapUpdate (d : Die) : Die :=
  match d.damper.peak with
  | none => d
  | some p =>
    let old := d.rf Reg.DMP_THERM_CAP 15 0
    let mean := if d.damper.periods = 0 then d.rf Reg.DMP_EST 15 0 else d.damper.sum / d.damper.periods
    let hot := decide (16 * 105 ≤ p)
    let d1 :=
      if d.throttle16 ≤ p then
        let cap := min 38000 (max 2000 (mean - 1000))
        ((d.setRf Reg.DMP_THERM_CAP 15 0 cap).setRf Reg.DMP_STAT 7 7 1).errIf (decide (cap < old)) Reg.DMP_ERR Bit.DMP_ERR_THROTTLE
      else if p < d.throttle16 - 32 then
        let cap := min 38000 (old + 500)
        let d0 := d.setRf Reg.DMP_THERM_CAP 15 0 cap
        if cap = 38000 then d0.setRf Reg.DMP_STAT 7 7 0 else d0
      else d
    (d1.setRf Reg.DMP_STAT 8 8 (if hot then 1 else 0)).errIf hot Reg.DMP_ERR Bit.DMP_ERR_HOT

/-- Sum of absolute differences of two signatures. -/
def sigDist (a b : List Nat) : Nat := (a.zip b).foldl (fun n p => n + (p.1 - p.2) + (p.2 - p.1)) 0

/-- The least of a list by a measure, the first on a tie. -/
def leastBy {α : Type} (f : α → Nat) : List α → Option α
  | [] => none
  | x :: xs =>
    match leastBy f xs with
    | none => some x
    | some y => if f y < f x then some y else some x

/-- The firmware phase table (R404): the one POWER_SPLIT loaded, else the one in the firmware flash. -/
def Die.phaseTable (d : Die) : List (List Nat × List Nat) :=
  match d.damper.table, d.nv.phases with
  | some t, _ => t
  | none, some t => t
  | none, none => (List.range 16).map fun i =>
    ((List.range 8).map fun j => Config.phaseTable i j % 2 ^ 16, (List.range 3).map fun j => Config.phaseTable i (8 + j) % 2 ^ 9)

/-- The stored phase of a signature: the nearest one, when near enough (R403). -/
def Die.phaseOf (d : Die) (sig : List Nat) : Option Nat :=
  match leastBy (fun p => sigDist p.1.signature sig) d.damper.phases.zipIdx with
  | none => none
  | some p => if 8 * sigDist p.1.signature sig ≤ sig.foldl (· + ·) 0 then some p.2 else none

/-- Place of a new phase: the next free one, or that of the phase least recently seen (R403). -/
def Die.newPhase (d : Die) : Nat :=
  if d.damper.phases.length < 16 then d.damper.phases.length
  else match leastBy (fun p => p.1.seen) d.damper.phases.zipIdx with
    | none => 0
    | some p => p.2

/-- One learning step of a split: 4/256 from the domain held least to the one held most (R404). -/
def learnSplit (split held : List Nat) (cycles : Nat) : List Nat :=
  match leastBy (fun p => p.1) held.zipIdx, leastBy (fun p => 2 ^ 40 - p.1) held.zipIdx with
  | some lo, some hi =>
    if cycles ≤ 20 * (hi.1 - lo.1) ∧ lo.2 ≠ hi.2 then
      let m := min 4 (split.getD lo.2 0)
      split.zipIdx.map fun s => if s.2 = lo.2 then s.1 - m else if s.2 = hi.2 then s.1 + m else s.1
    else split
  | _, _ => split

/-- A split as DMP_SPLIT shows it. -/
def splitWord (split : List Nat) : Word :=
  BitVec.ofNat 32 (split.getD 0 0 % 2 ^ 9 + split.getD 1 0 % 2 ^ 9 * 2 ^ 9 + split.getD 2 0 % 2 ^ 9 * 2 ^ 18)

/-- Firmware starts the split from its phase table, entry 0 being that of the phase DMP_STAT first names (Table 17.6;
DEDUCED, log entry 56). -/
def Die.resetSplit (d : Die) : Die := d.setReg Reg.DMP_SPLIT (splitWord ((d.phaseTable.headD ([], [])).2))

/-- Core cycles of a number of reference cycles at the open firing's clock (R17). -/
def Die.coreCycles (d : Die) (ref : Nat) : Nat := if (d.reg Reg.DMP_STAT).b 4 then ref * 3125 / 96 else ref * 625 / 24

/-- PHASE_CLASSIFY: the closing firing joins a stored phase or opens a new one, and its split learns (R403, R404). -/
def Die.phaseClassify (d : Die) (sig : List Nat) (cycles closing : Nat) : Die :=
  let x := d.damper
  let place := (d.phaseOf sig).getD d.newPhase
  let base := match d.phaseOf sig with
    | some i => (x.phases.getD i ⟨[], [], 0⟩)
    | none => ⟨sig, ((leastBy (fun (t : List Nat × List Nat) => sigDist t.1 sig) d.phaseTable).getD ([], [])).2, 0⟩
  let split := if x.locked then base.split else learnSplit base.split x.held cycles
  let phase : PowerPhase := { base with split := split, seen := closing }
  let phases := if place < x.phases.length then x.phases.zipIdx.map fun p => if p.2 = place then phase else p.1
    else x.phases ++ [phase]
  (({ d with damper := { x with phases := phases } }).setRf Reg.DMP_STAT 19 16 place).setReg Reg.DMP_SPLIT (splitWord split)

/-- The largest k from 1 to 7 that meets R406. -/
def dutyFor (run idle cap : Nat) : Option Nat :=
  (List.range 7).foldl (fun acc j => if 5 * ((j + 1) * run + (7 - j) * idle) ≤ 38 * cap then some (j + 1) else acc) none

/-- DUTY_CYCLE_SET: the floors, k, and the cap in force (R400, R406, R408, R411). -/
def Die.dutyCycleSet (d : Die) (base idle : Nat) : Die :=
  let run := base + d.floors.foldl (· + ·) 0
  let cap := min (d.rf Reg.DMP_CAP 31 16) (d.rf Reg.DMP_THERM_CAP 15 0)
  let hot := (d.reg Reg.DMP_STAT).b 8
  let duty := hot || (!d.railMode && decide (19 * cap < 20 * run))
  let fit := if hot then (if 5 * (run + 7 * idle) ≤ 38 * cap then some 1 else none) else dutyFor run idle cap
  let k := if duty then fit.getD 1 else 8
  let raised := duty && fit.isNone
  let inForce := if raised then ceilDiv (5 * (run + 7 * idle)) 38 else cap
  let d1 := ((d.setReg Reg.DMP_FLOORS (BitVec.ofNat 32 (min run 0xFFFF + min idle 0xFFFF * 2 ^ 16))).setRf Reg.DMP_DUTY 3 0 k).setRf
    Reg.DMP_CAP 15 0 (min inForce 0xFFFF)
  ((d1.setRf Reg.DMP_STAT 5 5 (if duty then 1 else 0)).setRf Reg.DMP_STAT 6 6 (if raised then 1 else 0)).errIf raised
    Reg.DMP_ERR Bit.DMP_ERR_CAP_FLOOR

/-- GRANT_COMPUTE: each limited domain's grant for the next firing (R401, R407). -/
def Die.grantCompute (d : Die) (base : Nat) : Die :=
  if d.railMode then d
  else
    let floors := d.floors
    let spare := 19 * d.capInForce - 20 * (base + floors.foldl (· + ·) 0)
    let split := [d.rf Reg.DMP_SPLIT 8 0, d.rf Reg.DMP_SPLIT 17 9, d.rf Reg.DMP_SPLIT 26 18]
    (List.range 3).foldl (fun acc k =>
      let extra := if (d.reg Reg.DMP_STAT).b 5 then 0 else split.getD k 0 * spare / 5120
      acc.setRf (Reg.DMP_DOM_EST k) 31 16 (min 0xFFFF (floors.getD k 0 + extra))) d

/-- Whether the open firing admits tenants under its k (R406). -/
def dutyAdmits (n k : Nat) : Bool := decide (n % 8 * k / 8 < (n % 8 + 1) * k / 8)

/-- BOOST_SWITCH: the clock of the next firing, once the tick's changes have applied (R25, R405, R462). -/
def Die.boostSwitch (d : Die) : Die :=
  let cool := match d.damper.peak with
    | none => true
    | some p => decide (p ≤ d.throttle16 - 80)
  let fast := d.damper.boost && !(d.reg Reg.DMP_STAT).b 5 && !(d.reg Reg.DMP_STAT).b 7 && cool && !d.railMode && !d.procDown 1 &&
    decide (20 * Config.boostFactor * d.damper.dieMax ≤ 19 * 256 * d.capInForce)
  d.setRf Reg.DMP_STAT 4 4 (if fast then 1 else 0)

/-- The Damper's work in the tick cycle, the management changes already applied. `span` is the closing firing's length
in reference cycles. With its controller down, the grants, the cap and k stay (R462). -/
def Die.damperTick (d : Die) (s : Sense) (span : Nat) : Die :=
  let base := if d.damper.periods = 0 then d.rf (Reg.DMP_DOM_EST 3) 15 0 else d.damper.baseMax
  let d1 := if d.procDown 1 then d
    else (((d.phaseClassify (s.counts.map (·.toNat)) (d.coreCycles span) d.sched.closed).dutyCycleSet base s.idle.toNat).grantCompute base)
  { d1 with sched := { d1.sched with withheld := !dutyAdmits d1.firing (d1.rf Reg.DMP_DUTY 3 0) } }

/-- What the Damper measures over a firing starts again. -/
def Die.newFiring (d : Die) : Die :=
  { d with damper := { d.damper with dieMax := 0, baseMax := 0, sum := 0, periods := 0, held := [0, 0, 0], peak := none } }

/-! ### Power states (R413 to R419) -/

/-- IDLE_ENTER: the scoreboard has been empty, with no doorbell pending, for US microseconds (R414). A doorbell pends while
its count is recorded and not yet taken; slots of a withheld tenant do not keep the die out of IDLE (R407; DEDUCED, log
entry 105). -/
def Die.idleEnter (d : Die) : Die :=
  if d.pstate = 0 ∧ d.sb = [] ∧ d.queues.recorded = [] ∧ d.elapsed d.sched.idleSince (d.rf Reg.DMP_IDLE_CFG 15 0) = true then
    d.setRf Reg.DMP_STAT 2 0 1
  else d

/-- A wake event of R416 by its place in the mask; the last always wakes. The first one since the entry began counts
(R416, R417). -/
def Die.wakeEvent (d : Die) (kind : Nat) : Die :=
  match d.damper.entry with
  | none => d
  | some e =>
    if d.damper.wake = none ∧ (e.mask.testBit kind ∨ kind = 5) ∧ (d.entering ∨ d.asleep) then
      { d with damper := { d.damper with wake := some kind } }
    else d

/-- Whether SHF_RETAIN lists a bank (R68). -/
def Die.retained (d : Die) (b : Nat) : Bool := (d.reg (Reg.SHF_RETAIN0 + 4 * (b / 32))).b (b % 32)

/-- Number of banks listed. -/
def Die.retainCount (d : Die) : Nat := ((List.range 88).filter d.retained).length

/-- Whether a segment is retained in SLEEP (R325). -/
def Die.segKept (d : Die) (s : Nat) : Bool :=
  if s = 7 then d.rf Reg.DMC_PASR_KEEP 6 0 != 0 else (d.reg Reg.DMC_PASR_KEEP).b s

/-- The DMC enters self-refresh: its pending rewrites and row actions are done first, and every row closes (R324). -/
def Die.dramRest (d : Die) : Die :=
  let d1 := d.dmc.rewrites.foldl Die.rewriteLine d
  let d2 := (List.range d1.dmc.rhDue.length).foldl (fun acc _ => acc.rowHammerAction) d1
  { d2 with dmc := { d2.dmc with openRows := [] } }

/-- What a power entry waits for: IN_FLIGHT 0, and nothing left of the completions before it or of accesses the DMC has
accepted (R324, Table 17.4). -/
def Die.drained (d : Die) : Bool := d.sb.isEmpty && d.owed.isEmpty && d.serving.late.isEmpty && d.dmc.waiting.isEmpty

/-- POWER_ENTRY_DRAINED: with IN_FLIGHT 0, ticks stop, banks gate, the DRAM self-refreshes, engines power off and the
state is reached (Table 17.4). DESIGN CHOICE: the banks retained are those SHF_RETAIN lists now (R68; log entry 93). -/
def Die.powerEntryDrained (d : Die) : Die :=
  match d.damper.entry with
  | none => d
  | some e =>
    if !d.entering || !d.drained then d
    else
      let d1 := (List.range 4).foldl (fun acc c => if acc.camOn c then acc.closeFrame c else acc) d
      let d2 := ((List.range 88).filter fun b => !d.retained b).foldl
        (fun acc b => (acc.powerBankDown b).bankGateClose (BitVec.ofNat 7 b)) d1
      let d3 := match d2.runningCmd 0x0105 with
        | some c => d2.dramRest.reply c stOk 0 (c.aux.headD 0) []
        | none => d2.dramRest
      let d4 : Die := { d3 with
        sched := { d3.sched with camTick := none }
        kiln := Kiln.powerUp
        wheel := ⟨none, false⟩
        damper := { d3.damper with timer := if e.timer = 0 then none else some (d.refclk + msCycles e.timer) } }
      let d5 : Die := if e.target = 3 then
          { d4 with
            track := []
            tier := { d4.tier with ptCache := [] }
            queues := { d4.queues with
              table := d4.queues.cache.foldl (fun t c => SMap.put (fun _ => QCtx.free) t c.1 c.2) d4.queues.table
              cache := [] } }
        else d4
      (d5.setRf Reg.DMP_STAT 3 3 0).setRf Reg.DMP_STAT 2 0 e.target

/-- POWER_ENTRY_TIMEOUT: an entry not drained within ENTRY_MS is abandoned; admission resumes at the next tick (R415). -/
def Die.powerEntryTimeout (d : Die) : Die :=
  match d.damper.entry with
  | none => d
  | some e =>
    if d.entering ∧ d.drained = false ∧ e.since + msCycles e.limit ≤ d.refclk then
      let d1 : Die := { d with damper := { d.damper with entry := none, wake := none } }
      let d2 := (d1.setRf Reg.DMP_STAT 3 3 0).err Reg.DMP_ERR Bit.DMP_ERR_ENTRY_TIMEOUT
      match d2.runningCmd 0x0105 with
      | some c => d2.reply c stTimeout 0 (c.aux.headD 0) []
      | none => d2
    else d

/-- WAKE_TIMER: the wake timer runs out (R416). -/
def Die.wakeTimer (d : Die) : Die :=
  match d.damper.timer with
  | none => d
  | some t => if t ≤ d.refclk then ({ d with damper := { d.damper with timer := none } }).wakeEvent 2 else d

/-- DMP_WAKE: a write to DMP_WAKE (R416). -/
def Die.dmpWake (d : Die) (w : Word) : Die := if w.b 0 then d.wakeEvent 5 else d

/-- Slots declared in a bank come back undeclared (R68), with SHF_SLOT_CTRL as after reset. DESIGN CHOICE for what the
register then holds besides DECLARED (log entry 20). -/
def Die.undeclareBank (d : Die) (b : Nat) : Die :=
  (d.declaredSlots.filter fun n => bankOf (d.slotRange n).1 == b).foldl (fun acc n => acc.setReg (Reg.SHF_SLOT_CTRL n) (resetOf (Reg.SHF_SLOT_CTRL n))) d

/-- A bank that was not retained comes back powered and cleared, with OWNER 0 (R68). -/
def Die.bankBack (d : Die) (b : Nat) : Die :=
  (((d.undeclareBank b).zeroBank b).setRf (Reg.SHF_BANK_CFG b) 16 16 1).setRf (Reg.SHF_BANK_CFG b) 3 0 0

/-- The bits of a register word that a read clears. -/
def counterBits (a : Nat) : Word :=
  match regRow a with
  | some r => r.rc
  | none => 0#32

/-- Counters read 0 after SLEEP; DMP_TRIP lies in the always-on domain (R491, Table 21.4). -/
def Die.clearCounters (d : Die) : Die :=
  d.regs.foldl (fun acc kv => if kv.1 = Reg.DMP_TRIP then acc else acc.setReg kv.1 (kv.2 &&& ~~~(counterBits kv.1))) d

/-- After a SLEEP that lost segment 7 the firmware area is made anew: the running image is verified from flash again, where
it passed before, and what a crash dump held is gone (R451; DESIGN CHOICE for the dumps, log entry 37). -/
def Die.areaLost (d : Die) : Die :=
  if d.segKept 7 then d
  else
    let f := d.fresh
    { f.2 with fw := { f.2.fw with dumps := f.2.fw.dumps.map fun p => (p.1, f.1 + 1) } }

/-- WAKE: a wake event brings the die up to its first tick, which is then due (R418). -/
def Die.wakeUp (d : Die) : Die :=
  match d.damper.wake with
  | none => d
  | some k =>
    if !d.asleep then d
    else
      let sleep := d.pstate = 3
      let d1 := ((List.range 88).filter fun b => !d.retained b).foldl (fun acc b => acc.bankBack b) d
      let d2 := if sleep then
          ((List.range 8).filter fun s => !d.segKept s).foldl (fun acc s => acc.setRf Reg.DMC_STAT (24 + s) (24 + s) 1) d1.clearCounters.areaLost
        else d1
      let d3 : Die := { d2 with
        dmc := { d2.dmc with trainSoon := List.range 16 }
        sched := { d2.sched with idleSince := d2.refclk }
        damper := { d2.damper with entry := none, wake := none, timer := none, firstTick := true } }
      ((d3.setRf Reg.DMP_STAT 2 0 0).setRf Reg.DMP_STAT 23 20 k).setRailMode (d3.fwState != fwRunning)

/-! ### Commands (Table 17.5) -/

/-- Fields of a POWER_CAP reply. -/
def Die.capFields (d : Die) : List (Nat × Nat) := [(2, d.capInForce), (4, if (d.reg Reg.DMP_STAT).b 6 then 1 else 0)]

/-- POWER_CAP: the requested cap from the next tick (R400). -/
def Die.powerCap (d : Die) : Die :=
  d.mgmt 0x0101 fun c d1 =>
    if 2000 ≤ c.arg 0 2 ∧ c.arg 0 2 ≤ 38000 then d1.toTick c [] else d1.reply c stIllegal 0 0 d1.capFields

/-- An entry of a phase table in memory: signature and split. -/
def phaseEntry (n i : Nat) : List Nat × List Nat :=
  ((List.range 8).map fun j => bytesAt n (32 * i + 2 * j) 2, (List.range 3).map fun j => bytesAt n (32 * i + 16 + 2 * j) 2)

/-- POWER_SPLIT: learning is locked or unlocked, and a phase table may be loaded (R404). -/
def Die.powerSplit (d : Die) : Die :=
  d.mgmt 0x0102 fun c d1 =>
    if (c.arg 0 1).testBit 1 then
      let p := d1.readBytes Who.die (c.arg 8 8) 512
      let t := (List.range 16).map (phaseEntry p.1.data)
      if p.1.bad then p.2.reply c stDataFault 0 0 []
      else if t.any fun x => x.2.foldl (· + ·) 0 != 256 then p.2.reply c stIllegal 0 0 []
      else p.2.toTick c (t.flatMap fun x => x.1 ++ x.2)
    else d1.toTick c []

/-- BOOST: boost is enabled or disabled (R405). -/
def Die.boostCmd (d : Die) : Die := d.mgmt 0x0103 fun c d1 => d1.toTick c []

/-- RAIL_LIMIT: a rail's limit and window, at once (R409). -/
def Die.railLimit (d : Die) : Die :=
  d.mgmt 0x0104 fun c d1 =>
    let r := c.arg 0 1
    let ma := c.arg 2 2
    let us := c.arg 4 1
    if r ≤ 3 ∧ 100 ≤ ma ∧ ma ≤ 20000 ∧ 1 ≤ us ∧ us ≤ 10 then
      let rails := d1.damper.rails.zipIdx.map fun (p : (Nat × Nat) × Nat) => if p.2 = r then (ma, us) else p.1
      ({ d1 with damper := { d1.damper with rails := rails } }).reply c stOk 0 0 []
    else d1.reply c stIllegal 0 0 []

/-- Whether POWER_STATE is refused (R68, R415, R416, Table 17.5). -/
def Die.stateRefused (d : Die) (c : Cmd) : Bool :=
  !(c.arg 0 1 == 2 || c.arg 0 1 == 3) || decide (86400000 < c.arg 4 4) || decide (10000 < c.arg 8 2) ||
    (c.arg 0 1 == 3 && decide (32 < d.retainCount)) ||
    ((d.reg Reg.LNK_EXPORT_COUNT).toNat != 0 && d.members != 2 ^ d.dieId && d.members != 0) ||
    d.damper.entry.isSome || d.awaitsTick 0x0105 fun _ => true

/-- POWER_STATE: an entry to DOZE or SLEEP is asked for (R415). -/
def Die.powerState (d : Die) : Die :=
  d.mgmt 0x0105 fun c d1 => if d1.stateRefused c then d1.reply c stIllegal 0 0 [] else d1.toTick c []

/-- SHELF_POWER: banks power up or down at a tick (R65, R67). -/
def Die.shelfPower (d : Die) : Die := d.mgmt 0x0106 fun c d1 => d1.toTick c []

/-- POWER_INFO: estimates, grants, floors, phase, split, k and mode (R420). -/
def Die.powerInfo (d : Die) : Die :=
  d.mgmt 0x0107 fun c d1 =>
    d1.reply c stOk 0 0 ([(2, d1.rf Reg.DMP_EST 15 0)] ++ ((List.range 4).map fun k => (2, d1.rf (Reg.DMP_DOM_EST k) 15 0)) ++
      ((List.range 4).map fun k => (2, d1.grant k)) ++
      [(2, d1.rf Reg.DMP_FLOORS 15 0), (2, d1.rf Reg.DMP_FLOORS 31 16), (1, d1.rf Reg.DMP_STAT 19 16),
        (2, d1.rf Reg.DMP_SPLIT 8 0), (2, d1.rf Reg.DMP_SPLIT 17 9), (2, d1.rf Reg.DMP_SPLIT 26 18),
        (1, d1.rf Reg.DMP_DUTY 3 0), (1, d1.rf Reg.DMP_STAT 9 9)])

/-- THERMAL_CFG: the THROTTLE temperature (R411). -/
def Die.thermalCfg (d : Die) : Die :=
  d.mgmt 0x0108 fun c d1 => if 85 ≤ c.arg 0 1 ∧ c.arg 0 1 ≤ 100 then d1.toTick c [] else d1.reply c stIllegal 0 0 []

/-- A power command at its tick: what it changes (R21). POWER_STATE begins its entry and replies later. -/
def Die.applyPower (d : Die) (c : Cmd) : Die :=
  match c.op with
  | 0x0101 => d.setRf Reg.DMP_CAP 31 16 (c.arg 0 2)
  | 0x0102 =>
    let d1 : Die := { d with damper := { d.damper with locked := (c.arg 0 1).testBit 0 } }
    if c.aux = [] then d1
    else
      let t := (List.range 16).map fun i => ((List.range 8).map fun j => c.aux.getD (11 * i + j) 0,
        (List.range 3).map fun j => c.aux.getD (11 * i + 8 + j) 0)
      { d1 with damper := { d1.damper with table := some t } }
  | 0x0103 => { d with damper := { d.damper with boost := (c.arg 0 1).testBit 0 } }
  | 0x0105 =>
    let e : PowerEntry := ⟨c.arg 0 1, c.arg 1 1, c.arg 4 4, if c.arg 8 2 = 0 then 100 else c.arg 8 2, d.refclk⟩
    (({ d with damper := { d.damper with entry := some e, wake := none } }).setRf Reg.DMP_STAT 3 3 1).setCmd c .running [d.firing]
  | 0x0106 =>
    let up := (c.arg 11 1).testBit 0
    (List.range 88).foldl (fun acc b =>
      if (c.arg 0 11).testBit b then (if up then acc.powerBankUp b else acc.powerBankDown b) else acc) d
  | 0x0108 => d.setRf Reg.DMP_THERM_CFG 6 0 (c.arg 0 1)
  | _ => d

end Sys2Proof.Machine
end

