-- ==== Sys2Proof/Machine/Saggar.lean ====
section
/-! DEFINITION. The Saggar: memory keys, measurements and reports, model keys, confidential sessions, anti-rollback and
the security commands (chapter 18, R422 to R444). A memory key is the number of its drawing. -/

namespace Sys2Proof.Machine

/-! ### Memory keys (R427, R428) -/

/-- Draw a fresh entry of the key store for a KEY code; the DMC slot takes it (R427, R428). -/
def Die.drawKey (d : Die) (code : Nat) : Die :=
  { d with dmc := { d.dmc with
    keys := SMap.put (fun _ => 0) d.dmc.keys code (d.dmc.keyCtr + 1)
    keyCtr := d.dmc.keyCtr + 1 } }

/-- Erase an entry of the key store: the DMC slot empties in the same cycle (R319, R428). -/
def Die.eraseKey (d : Die) (code : Nat) : Die :=
  { d with dmc := { d.dmc with keys := SMap.put (fun _ => 0) d.dmc.keys code 0 } }

/-- A tenant record becomes VALID: a fresh key, and its generation rises (R428, Table 18.2). -/
def Die.tenantKey (d : Die) (t : Nat) : Die :=
  let d1 := d.drawKey t
  { d1 with saggar := { d1.saggar with
    generations := SMap.put (fun _ => 0) d1.saggar.generations t (SMap.get (fun _ => 0) d1.saggar.generations t + 1) } }

/-- SGR_STAT.RNG_OK. -/
def Die.rngOk (d : Die) : Bool := (d.reg Reg.SGR_STAT).b 7

/-- SGR_STAT.IDENTITY. -/
def Die.identityOk (d : Die) : Bool := (d.reg Reg.SGR_STAT).b 6

/-- SGR_STAT.TEST. -/
def Die.testMode (d : Die) : Bool := (d.reg Reg.SGR_STAT).b 8

/-- RNG_HEALTH_FAIL: a failed health test blocks fresh randomness until por_n (R426). -/
def Die.rngHealthFail (d : Die) : Die :=
  if d.rngOk then (d.setRf Reg.SGR_STAT 7 7 0).err Reg.SGR_ERR Bit.SGR_ERR_RNG else d

/-! ### Model keys (R434 to R438) -/

/-- A model-key slot. -/
def Die.modelKey (d : Die) (s : Nat) : Option ModelKey := SMap.get (fun _ => none) d.saggar.keys s

/-- Set a model-key slot. -/
def Die.setModelKey (d : Die) (s : Nat) (k : Option ModelKey) : Die :=
  { d with saggar := { d.saggar with keys := SMap.put (fun _ => none) d.saggar.keys s k } }

/-- The slot that holds a model digest under a KEY code (R436, R437). -/
def Die.keySlot (d : Die) (digest code : Nat) : Option Nat :=
  (List.range 32).find? fun s => match d.modelKey s with
    | some k => k.digest == digest && k.code == code
    | none => false

/-- The lowest free model-key slot. -/
def Die.freeKeySlot (d : Die) : Option Nat := (List.range 32).find? fun s => (d.modelKey s).isNone

/-- A KEY code of a model: a tenant or shared (Table 13.3, R436). -/
def modelCode (k : Nat) : Bool := decide (k < 64) || k == 0x7F

/-- The key sessions open: one closes 60 s after it opened (R434). -/
def Die.openSessions (d : Die) : List KeySession := d.saggar.sessions.filter fun s => !d.elapsed s.since 60000000

/-- A confidential offer awaits acceptance: it lapses after 10 s (R439). -/
def Die.offerOpen (d : Die) : Bool :=
  match d.saggar.offer with
  | none => false
  | some t => !d.elapsed t.1 10000000

/-- KEY_SESSION_LAPSE: a key session closes 60 s after it opened (R434). -/
def Die.keySessionLapse (d : Die) (num : BitVec 16) : Die :=
  let keep := d.saggar.sessions.filter fun s => !(s.num == num.toNat && d.elapsed s.since 60000000)
  { d with saggar := { d.saggar with sessions := keep } }

/-! ### Measurements (R431, R432) -/

/-- SVN of the running image. -/
def Die.runningSvn (d : Die) : Nat := match d.fw.running with
  | some i => i.svn
  | none => 0

/-- The words M_CONFIG is taken over (Table 18.2). -/
def Die.configWords (d : Die) : List Nat :=
  [(d.reg Reg.NS_ID).toNat, (d.reg Reg.GLB_STRAPS).toNat, d.dieId, d.nv.rollback, d.runningSvn] ++
    ((List.range 64).flatMap fun t => [if d.tenantValid t then 1 else 0, SMap.get (fun _ => 0) d.saggar.generations t]) ++
    [if d.confMode then 1 else 0]

/-- The model entries of a report: slot, state, KEY, MODEL_ID, model digest, publisher key hash (Table 18.3). -/
def Die.modelEntries (d : Die) : List (Nat × List Nat) :=
  (d.models.filter fun m => m.2.state == 2 || m.2.state == 3 || m.2.state == 4).map fun m =>
    (m.1, [m.2.state, m.2.key, m.2.id, m.2.digest, m.2.pubHash])

/-- Digest and publisher key of a measured slot, its state apart. -/
def measured (l : List (Nat × List Nat)) (s : Nat) : Option (List Nat) := (l.find? fun e => e.1 == s).map fun e => e.2.drop 3

/-- Count measurement changes (R431). -/
def Die.countMeasure (d : Die) (n : Nat) : Die := d.setReg Reg.SGR_MEAS_SEQ (d.reg Reg.SGR_MEAS_SEQ + BitVec.ofNat 32 n)

/-- The measurements as they stand now, kept for reports (R432). -/
def Die.snapMeasures (d : Die) : Die :=
  { d with saggar := { d.saggar with
    mFw := match d.fw.running with
      | some i => i.digest
      | none => 0
    mConfig := d.configWords
    mModels := d.modelEntries } }

/-- The measurements at a tick: every change adds 1 to SGR_MEAS_SEQ (R431). -/
def Die.measureTick (d : Die) : Die :=
  let cfg := if d.configWords = d.saggar.mConfig then 0 else 1
  let models := ((List.range 32).filter fun s => decide (measured d.modelEntries s ≠ measured d.saggar.mModels s)).length
  (d.countMeasure (cfg + models)).snapMeasures

/-- A little-endian number of fields at byte offsets. -/
def layout (l : List (Nat × Nat × Nat)) : Nat := l.foldl (fun n f => n + f.2.2 % 2 ^ (8 * f.2.1) <<< (8 * f.1)) 0

/-- A report (Table 18.3): its bytes as a number and how many there are, the signature included. `key` numbers the
encapsulation key when one follows. What it says stood so at the last tick (R432). -/
def Die.report (d : Die) (nonce free : Nat) (key : Option Nat) : Nat × Nat :=
  let models := d.saggar.mModels
  let m := d.saggar.mConfig
  let s := 192 + 80 * models.length
  let sig := Config.crypto 6 free % 1536 + 1
  let ekHash := match key with
    | some k => digest32 (toBytes 1568 (Config.crypto 4 k))
    | none => 0
  let head : List (Nat × Nat × Nat) :=
    [(0, 4, 0x41545331), (4, 2, 1), (6, 1, 2 * m.getLastD 0 + (if key.isSome then 4 else 0)), (8, 32, nonce)] ++
    ((List.range 4).map fun i => (40 + 4 * i, 4, (d.reg (Reg.SGR_DEVICE_ID i)).toNat)) ++
    [(56, 4, (d.reg Reg.NS_ID).toNat), (60, 1, m.getD 2 0), (61, 1, m.getD 3 0), (62, 1, m.getD 4 0), (64, 8, d.firing),
      (72, 32, d.saggar.mFw), (104, 32, Config.measConfig d.saggar.mConfig), (136, 32, ekHash), (168, 4, models.length)]
  let entries : List (Nat × Nat × Nat) := models.zipIdx.flatMap fun m =>
    let o := 192 + 80 * m.2
    [(o, 1, m.1.1), (o + 1, 1, m.1.2.getD 0 0), (o + 2, 1, m.1.2.getD 1 0), (o + 8, 8, m.1.2.getD 2 0), (o + 16, 32, m.1.2.getD 3 0),
      (o + 48, 32, m.1.2.getD 4 0)]
  (layout (head ++ entries ++ [(s, 2, sig), (s + 2, sig, Config.crypto 5 free)]), s + 2 + sig)

/-- Whether a buffer may be written: the tier check passes as the management context, and every page maps to LOCAL or
HOST (R433). -/
def Die.bufferOk (d : Die) (addr k : Nat) : Bool :=
  decide (addr + k ≤ 2 ^ 48) && (pagesHolding addr k).all fun p =>
    d.tierCheck mgmtCode p true false == 0 && (pteTier (d.pte p) == 2 || pteTier (d.pte p) == 3)

/-- Log the tier-check failure of a buffer. -/
def Die.bufferFault (d : Die) (addr k : Nat) : Die :=
  match (pagesHolding addr k).find? fun p => decide (d.tierCheck mgmtCode p true false ≠ 0) with
  | some p => d.tierFault mgmtCode p true (d.tierCheck mgmtCode p true false)
  | none => d

/-- Write a signed report, with an encapsulation key when `key` is given; false when a write failed (R432, R433). -/
def Die.writeReport (d : Die) (addr nonce : Nat) (key : Option Nat) : Bool × Die :=
  let f := d.fresh
  let r := f.2.report nonce f.1 key
  let p := f.2.writeBytes Who.die addr r.2 r.1
  let q := match key with
    | some k => p.2.writeBytes Who.die (addr + 4352) 1568 (Config.crypto 4 k % 2 ^ 12544)
    | none => (true, p.2)
  (p.1 && q.1, q.2.count Reg.SGR_ATTEST_COUNT 1)

/-! ### Commands (Table 18.4) -/

/-- SEC_IDENTITY: the public key and the certificate chain go to a buffer (R424). -/
def Die.secIdentity (d : Die) : Die :=
  d.mgmt 0x0201 fun c d1 =>
    let len := Config.crypto 3 0 % 8193
    let v := layout [(0, 1793, Config.crypto 1 0), (1793, 4, len), (1797, len, Config.crypto 2 0)]
    let need := max 9985 (1797 + len)
    if !d1.bufferOk (c.arg 0 8) need then (d1.bufferFault (c.arg 0 8) need).reply c stPermission 0 0 []
    else
      let p := d1.writeBytes Who.die (c.arg 0 8) (1797 + len) v
      p.2.reply c (if p.1 then stOk else stDataFault) 0 0 []

/-- Why a command that signs a report cannot: the test state, no identity key, or no randomness for a fresh key pair
(R423, R425, R426). -/
def Die.reportRefused (d : Die) (fresh : Bool) : Option Nat :=
  if d.testMode then some stPermission
  else if !d.identityOk then some stIntegrity
  else if fresh && !d.rngOk then some stIntegrity
  else none

/-- SEC_ATTEST: a signed report goes to a buffer; RESULT names its firing whole (R432, R454). -/
def Die.secAttest (d : Die) : Die :=
  d.mgmt 0x0202 fun c d1 =>
    match d1.reportRefused false with
    | some st => d1.reply c st 0 0 []
    | none =>
      if !d1.bufferOk (c.arg 0 8) 4352 then (d1.bufferFault (c.arg 0 8) 4352).reply c stPermission 0 0 []
      else
        let p := d1.writeReport (c.arg 0 8) (c.arg 8 32) none
        if p.1 then p.2.reply c stOk 0 0 [(8, d1.firing)] else p.2.reply c stDataFault 0 0 []

/-- SEC_KEY_SESSION: a key session opens under a fresh ML-KEM pair (R434). -/
def Die.secKeySession (d : Die) : Die :=
  d.mgmt 0x0203 fun c d1 =>
    match d1.reportRefused true with
    | some st => d1.reply c st 0 0 []
    | none =>
      if 8 ≤ d1.openSessions.length then d1.reply c stRefused 0 0 []
      else if !d1.bufferOk (c.arg 0 8) 5920 then (d1.bufferFault (c.arg 0 8) 5920).reply c stPermission 0 0 []
      else
        let f := d1.fresh
        let n := d1.saggar.nextSession
        let p := f.2.writeReport (c.arg 0 8) (c.arg 8 32) (some f.1)
        if !p.1 then p.2.reply c stDataFault 0 0 []
        else
          let s : KeySession := ⟨n, d1.refclk, f.1, digest32 (toBytes 1568 (Config.crypto 4 f.1)), c.arg 8 32⟩
          ({ p.2 with saggar := { p.2.saggar with
            sessions := p.2.openSessions ++ [s]
            nextSession := if n = 65535 then 1 else n + 1 } }).reply c stOk 0 0 [(2, n)]

/-- The wrap key of a key session for a ciphertext (R435). -/
def KeySession.wrapKey (s : KeySession) (ct : Nat) : List Nat :=
  toBytes 32 (digest32 (toBytes 32 (Config.decaps s.pair ct).toNat ++ toBytes 32 s.ekHash ++ toBytes 32 s.nonce))

/-- The model key in a release blob, unwrapped for a session and KEY code; none when its GCM tag does not match (R435). -/
def KeySession.unwrap (s : KeySession) (blob code : Nat) : Option Nat :=
  let key := s.wrapKey (bytesAt blob 0 1568)
  let iv := List.replicate 12 0
  let wrapped := toBytes 32 (bytesAt blob 1600 32)
  if gcmTag key iv (toBytes 32 (bytesAt blob 1568 32) ++ [code]) wrapped = toBytes 16 (bytesAt blob 1632 16) then
    some (ofBytes (gcmCrypt key iv wrapped))
  else none

/-- SEC_KEY_RELEASE: a model key is unwrapped into a slot at the next tick (R435, R436). -/
def Die.secKeyRelease (d : Die) (upsets : List Upset) (lost : Nat) : Die :=
  d.mgmt 0x0204 fun c d1 =>
    let code := c.arg 2 1
    if d1.testMode then d1.reply c stPermission 0 0 []
    else match d1.openSessions.find? fun s => s.num == c.arg 0 2 with
      | none => d1.reply c stIllegal 0 0 []
      | some s =>
        let d2 : Die := { d1 with saggar := { d1.saggar with sessions := d1.openSessions.filter fun s => s.num != c.arg 0 2 } }
        let p := (d2.struck ⟨upsets, lost⟩).readBytes Who.die (c.arg 8 8) 1648
        let digest := bytesAt p.1.data 1568 32
        let erased := p.2.awaitsTick 0x0205 fun o => o.arg 0 1 == code && o.aux.headD 0 == digest
        if !modelCode code then p.2.reply c stIllegal 0 0 []
        else if p.1.bad then p.2.reply c stDataFault 0 0 []
        else match s.unwrap p.1.data code with
          | none => (p.2.err Reg.SGR_ERR Bit.SGR_ERR_RELEASE).reply c stIntegrity 0 0 []
          | some key =>
            match p.2.keySlot digest code, erased with
            | some k, false => p.2.reply c stOk 0 0 [(4, k)]
            | none, false => if p.2.freeKeySlot.isNone then p.2.reply c stRefused 0 0 [] else p.2.toTick c [digest, key]
            | _, true => p.2.toTick c [digest, key]

/-- SEC_KEY_ERASE: a model key is erased at the next tick (R438). -/
def Die.secKeyErase (d : Die) : Die :=
  d.mgmt 0x0205 fun c d1 =>
    let p := d1.readBytes Who.die (c.arg 8 8) 32
    let digest := bytesAt p.1.data 0 32
    let coming := p.2.awaitsTick 0x0204 fun o => o.arg 2 1 == c.arg 0 1 && o.aux.headD 0 == digest
    if p.1.bad then p.2.reply c stDataFault 0 0 []
    else if (p.2.keySlot digest (c.arg 0 1)).isNone && !coming then p.2.reply c stIllegal 0 0 []
    else p.2.toTick c [digest]

/-- Whether a confidential session exists. -/
def Die.sessionOpen (d : Die) : Bool := d.saggar.opening || d.confMode

/-- SEC_CONF_OPEN: a confidential session is offered (R439). -/
def Die.secConfOpen (d : Die) : Die :=
  d.mgmt 0x0206 fun c d1 =>
    match d1.reportRefused true with
    | some st => d1.reply c st 0 0 []
    | none =>
      if d1.offerOpen || d1.sessionOpen then d1.reply c stIllegal 0 0 []
      else if !d1.bufferOk (c.arg 0 8) 5920 then (d1.bufferFault (c.arg 0 8) 5920).reply c stPermission 0 0 []
      else
        let f := d1.fresh
        let p := f.2.writeReport (c.arg 0 8) (c.arg 8 32) (some f.1)
        if !p.1 then p.2.reply c stDataFault 0 0 []
        else ({ p.2 with saggar := { p.2.saggar with offer := some (d1.refclk, f.1) } }).reply c stOk 0 0 []

/-- CONF_OFFER_LAPSE: an offer not accepted within 10 s lapses (R439). -/
def Die.confOfferLapse (d : Die) : Die :=
  match d.saggar.offer with
  | none => d
  | some t => if d.elapsed t.1 10000000 then { d with saggar := { d.saggar with offer := none } } else d

/-- The two keys of a session, WRITER 0 first: 64 bytes of SHAKE256 over the shared secret and EK_HASH (R439). -/
def sessionKeys (pair ct : Nat) : Nat × Nat :=
  let k := shake256 (toBytes 32 (Config.decaps pair ct).toNat ++ toBytes 32 (digest32 (toBytes 1568 (Config.crypto 4 pair))))
  (k % 2 ^ 256, k / 2 ^ 256 % 2 ^ 256)

/-- SEC_CONF_ACCEPT: session keys are derived, and confidential mode begins at the next tick (R439). -/
def Die.secConfAccept (d : Die) : Die :=
  d.mgmt 0x0207 fun c d1 =>
    match d1.saggar.offer with
    | none => d1.reply c stIllegal 0 0 []
    | some o =>
      if !d1.offerOpen then d1.reply c stIllegal 0 0 []
      else
        let p := d1.readBytes Who.die (c.arg 8 8) 1568
        if p.1.bad then p.2.reply c stDataFault 0 0 []
        else
          let n := if (p.2.saggar.session + 1) % 2 ^ 32 = 0 then 1 else (p.2.saggar.session + 1) % 2 ^ 32
          ({ p.2 with saggar := { p.2.saggar with
            offer := none, session := n, traffic := p.2.refclk, opening := true, confKeys := some (sessionKeys o.2 p.1.data) } }).toTick c []

/-- SEC_CONF_CLOSE: confidential mode ends at the next tick (R440). -/
def Die.secConfClose (d : Die) : Die :=
  d.mgmt 0x0208 fun c d1 =>
    if !d1.sessionOpen then d1.reply c stIllegal 0 0 []
    else ({ d1 with saggar := { d1.saggar with closing := true } }).toTick c []

/-- CONF_SESSION_IDLE: a session with no traffic for 24 h ends at the next tick (R440). -/
def Die.confSessionIdle (d : Die) : Die :=
  if d.confMode ∧ d.elapsed d.saggar.traffic 86400000000 = true then
    { d with saggar := { d.saggar with closing := true } } else d

/-- A session that has ended is closed: its keys are erased, and the mode ends (R372, R440). -/
def Die.confTick (d : Die) : Die :=
  if d.saggar.closing then
    let d1 := (d.setRf Reg.LNK_STAT 13 13 0).setReg Reg.SGR_SESSION 0#32
    ({ d1 with saggar := { d1.saggar with closing := false, opening := false, lost := false, confKeys := none } }).errIf d.saggar.lost Reg.SGR_ERR
      Bit.SGR_ERR_CONF_LOST
  else d

/-- SEC_ROLLBACK: fuse bits are blown until N reaches the running image's SVN. `good` is how many of them verify before
one fails its margin read for good (R442). -/
def Die.secRollback (d : Die) (good : BitVec 7) : Die :=
  d.mgmt 0x0209 fun c d1 =>
    let n := d1.nv.rollback
    let want := d1.runningSvn - n
    if d1.update = 1 || !d1.fw.inFlash then d1.reply c stIllegal 0 0 [(1, n)]
    else if want ≤ good.toNat then
      ({ d1 with nv := { d1.nv with rollback := n + want } }).reply c stOk 0 0 [(1, n + want)]
    else
      (({ d1 with nv := { d1.nv with rollback := n + good.toNat } }).err Reg.SGR_ERR Bit.SGR_ERR_FUSE).reply c stDataFault 0 0
        [(1, n + good.toNat)]

/-- A security command at its tick (R21, R436, R438, R439, R440). -/
def Die.applySecurity (d : Die) (c : Cmd) : Die :=
  match c.op with
  | 0x0204 =>
    let digest := c.aux.headD 0
    let key := c.aux.getD 1 0
    match d.keySlot digest (c.arg 2 1) with
    | some s => d.setCmd c .atTick [stOk, s]
    | none =>
      match d.freeKeySlot with
      | some s => (d.setModelKey s (some ⟨digest, c.arg 2 1, key⟩)).setCmd c .atTick [stOk, s]
      | none => d.setCmd c .atTick [stRefused, 0]
  | 0x0205 =>
    match d.keySlot (c.aux.headD 0) (c.arg 0 1) with
    | some s => d.setModelKey s none
    | none => d
  | 0x0207 =>
    let d1 := (d.setRf Reg.LNK_STAT 13 13 1).setReg Reg.SGR_SESSION (BitVec.ofNat 32 d.saggar.session)
    { d1 with
      saggar := { d1.saggar with opening := false }
      far := { d1.far with confCtr := 0 } }
  | _ => d

end Sys2Proof.Machine
end

