-- ==== Sys2Proof/Machine/Models.lean ====
section
/-! DEFINITION. Model images: loading, sharing, scrubbing and repair, on one die and across dies (chapter 13, R294 to
R311). -/

namespace Sys2Proof.Machine

/-! ### Slots (Table 13.5) -/

/-- The lowest EMPTY slot that no load under check keeps. -/
def Die.freeModel (d : Die) : Option Nat :=
  (List.range 32).find? fun s => (d.model s).state == mdlEmpty && !d.plans.any fun p => p.slot == s

/-- Pages of a model's span. -/
def Model.span (m : Model) : List Nat := (List.range m.pages).map (· + m.base)

/-- Pages a shard covers (R295). -/
def Shard.pages (s : Shard) : Nat := ceilDiv s.len 65536

/-- Pages of a shard in the model address space. -/
def Model.shardSpan (m : Model) (s : Shard) : List Nat := (List.range s.pages).map (· + (m.base + s.page))

/-- The slot whose span begins at a page, in a state a test admits. -/
def Die.modelAt (d : Die) (base : Nat) (p : Model → Bool) : Option Nat :=
  (List.range 32).find? fun s => (d.model s).state != mdlEmpty && (d.model s).base == base && p (d.model s)

/-! ### Images (R294 to R297) -/

/-- What a manifest says. -/
structure Manifest where
  id : Nat
  pages : Nat
  signed : Bool
  isSealed : Bool
  digest : Nat
  pubHash : Nat
  nonce : Nat
  shards : List Shard
  /-- The bytes of the manifest and its signature, as a little-endian number. -/
  bytes : Nat

/-- Table 13.1 on the 256 header bytes. -/
def headerLegal (h : Nat) : Bool :=
  let signed := h.testBit 48
  let isSealed := h.testBit 49
  let n := bytesAt h 16 4
  let keyOff := bytesAt h 36 4
  let len := bytesAt h 40 4
  let sig := bytesAt h 44 4
  bytesAt h 0 4 == 0x4D4F4431 && bytesAt h 4 2 == 1 && decide (bytesAt h 6 1 < 4) && (!isSealed || signed) &&
    bytesAt h 7 1 == 0 && decide (1 ≤ n) && decide (n ≤ 65535) && decide (1 ≤ bytesAt h 20 4) && decide (bytesAt h 20 4 ≤ 2 ^ 20) &&
    (isSealed || bytesAt h 24 8 == 0) && bytesAt h 32 4 == 256 &&
    (if signed then keyOff == 256 + 96 * n && len == keyOff + 1793 && decide (1 ≤ sig) && decide (sig ≤ 1536)
    else keyOff == 0 && len == 256 + 96 * n && sig == 0) &&
    bytesAt h 48 208 == 0

/-- Table 13.2 on the 96 bytes of an entry; `src` is the image's address. -/
def shardLegal (src pages : Nat) (isSealed : Bool) (e : Nat) : Bool :=
  let off := bytesAt e 0 8
  let len := bytesAt e 12 4
  off % 64 == 0 && decide (src + off + len ≤ 2 ^ 48) && decide (bytesAt e 8 4 < pages) && decide (1 ≤ len) &&
    decide (len ≤ 2 ^ 28) && decide (bytesAt e 16 1 ≤ 1) && bytesAt e 17 1 == 0 && decide (bytesAt e 18 2 ≤ 1023) &&
    bytesAt e 20 12 == 0 && (isSealed || bytesAt e 64 16 == 0) && bytesAt e 80 16 == 0

/-- The shard of an entry. -/
def shardOf (e : Nat) : Shard := ⟨bytesAt e 0 8, bytesAt e 8 4, bytesAt e 12 4, bytesAt e 18 2, bytesAt e 32 32, bytesAt e 64 16⟩

/-- Every page of the span belongs to exactly one shard (R295). -/
def coversOnce (pages : Nat) (l : List Shard) : Bool :=
  (l.foldl (fun n s => n + s.pages) 0 == pages) && (l.all fun s => decide (s.page + s.pages ≤ pages)) &&
    decide (l.Pairwise fun a b => a.page + a.pages ≤ b.page ∨ b.page + b.pages ≤ a.page)

/-- The manifest in the bytes of one and of its signature, when Table 13.2 and R295 hold; `src` is the image's address. -/
def manifestIn (src n : Nat) : Option Manifest :=
  let k := bytesAt n 16 4
  let pages := bytesAt n 20 4
  let es := (List.range k).map fun i => bytesAt n (256 + 96 * i) 96
  let l := es.map shardOf
  let signed := n.testBit 48
  let isSealed := n.testBit 49
  if headerLegal (n % 2 ^ 2048) && es.all (shardLegal src pages isSealed) && coversOnce pages l then
    some ⟨bytesAt n 8 8, pages, signed, isSealed, digest32 (toBytes (bytesAt n 40 4) n),
      if signed then digest32 (toBytes 1793 (n >>> (8 * (256 + 96 * k)))) else 0, bytesAt n 24 8, l, n⟩
  else none

/-- Whether the signature of a manifest holds (R296). -/
def Manifest.authentic (m : Manifest) : Bool :=
  let len := bytesAt m.bytes 40 4
  !m.signed || falconVerify (toBytes 1793 (m.bytes >>> (8 * (256 + 96 * bytesAt m.bytes 16 4))))
    (toBytes (bytesAt m.bytes 44 4) (m.bytes >>> (8 * len))) (toBytes len m.bytes)

/-- Read and check a manifest (check 2 of Table 13.4): the manifest, or the status of the failure. -/
def Die.readManifest (d : Die) (src : Nat) : (Nat ⊕ Manifest) × Die :=
  if src % 64 ≠ 0 then (.inl stIllegal, d)
  else
    let p := d.readBytes Who.die src 256
    if p.1.bad then (.inl stDataFault, p.2)
    else if !headerLegal p.1.data then (.inl stIllegal, p.2)
    else
      let q := p.2.readBytes Who.die src (bytesAt p.1.data 40 4 + bytesAt p.1.data 44 4)
      if q.1.bad then (.inl stDataFault, q.2)
      else match manifestIn src q.1.data with
        | none => (.inl stIllegal, q.2)
        | some m => (.inr m, q.2)

/-! ### Messages between Supervisors (R308; OP 0xE of Table 16.4) -/

/-- Body of a MGMT message. The manual gives it no layout; this one is the model's. -/
def mgmtBody (m : Mgmt) : List Nat :=
  match m with
  | .load o =>
    [0, o.base.toNat, o.home.toNat, o.key.toNat, o.dies.toNat, if o.keep then 1 else 0, o.image.toNat] ++ o.manifest.map (·.toNat)
  | .probe base => [8, base.toNat]
  | .probed base free => [9, base.toNat, if free then 1 else 0]
  | .commit base => [10, base.toNat]
  | .verdict base st det => [1, base.toNat, st.toNat, det.toNat]
  | .verified base => [2, base.toNat]
  | .resend base i => [3, base.toNat, i.toNat]
  | .failed base i => [4, base.toNat, i.toNat]
  | .unload base => [5, base.toNat]
  | .other => [6]

/-- Send a MGMT message. -/
def Die.tell (d : Die) (dst : Nat) (m : Mgmt) : Die := d.sendMsg 0xE dst false 0 0 (mgmtBody m) []

/-- Send a MGMT message to several dies. -/
def Die.tellAll (d : Die) (l : List Nat) (m : Mgmt) : Die := l.foldl (fun acc x => acc.tell x m) d

/-- In-service message of the source die (R310): its body is the span's first page. -/
def Die.tellService (d : Die) (dst base : Nat) : Die := d.sendMsg 0xE dst false 0 0 [7, base] []

/-- Dies of a model's mask other than this one. -/
def Die.otherDies (d : Die) (mask : Nat) : List Nat := (diesOf mask).filter (· != d.dieId)

/-- Dies this die passes a verified shard to: with two dies the source sends to the other; with more, each sends to the
next in increasing ID from the source, wrapping at 7 (R308). -/
def Die.nextDies (d : Die) (m : Model) : List Nat :=
  let l := diesOf m.dies
  if l.length ≤ 2 then (if m.source = d.dieId then d.otherDies m.dies else [])
  else
    match (List.range 7).find? fun k => m.dies.testBit ((d.dieId + k + 1) % 8) with
    | none => []
    | some k =>
      let n := (d.dieId + k + 1) % 8
      if n = m.source then [] else [n]

/-- The die that sends this die its shards. -/
def Die.sender (d : Die) (m : Model) : Nat :=
  if (diesOf m.dies).length ≤ 2 then m.source
  else ((List.range 7).find? fun k => m.dies.testBit ((d.dieId + 7 - k) % 8)).elim m.source fun k => (d.dieId + 7 - k) % 8

/-! ### Replies -/

/-- The reply of a load; a slot takes 1 byte, as in Table 18.3 (R454, Table 13.3). -/
def Die.replyLoad (d : Die) (c : Cmd) (st detail firing slot shard : Nat) : Die :=
  d.reply c st detail firing [(1, slot), (4, shard)]

/-- Answer every MODEL_LOAD that waits on a slot: the load's own and those that joined it (R299). -/
def Die.answerLoads (d : Die) (s st detail firing shard : Nat) : Die :=
  (d.fw.cmds.filter fun c => c.stage == .running && c.op == 0x0420 && c.aux == [s]).foldl
    (fun acc c => acc.replyLoad c st detail firing s shard) d

/-- No shard failed. -/
abbrev noShard : Nat := 0xFFFFFFFF

/-! ### Placing a model (checks 5 to 7 of Table 13.4, R300) -/

/-- Checks 5 to 7 on this die: status and detail of the first that fails. -/
def Die.placeRefused (d : Die) (id : Nat) (isSealed : Bool) (home key base pages : Nat) : Option (Nat × Nat) :=
  let span := (List.range pages).map (· + base)
  if isSealed && home != 2 then some (stIllegal, 4)
  else if isSealed && (d.keySlot id key).isNone then some (stPermission, 4)
  else if decide (2 ^ 32 < base + pages) ||
      !(span.all fun p => d.dirValid p && pteTier (d.pte p) == 0 && !pteMoving (d.pte p)) then some (stIllegal, 5)
  else if !(home == 2 || home == 3 || home == 5) || decide ((d.freeFrames home).length < pages) || (home == 5 && (isSealed || d.flashLocked))
    then some (stRefused, 6)
  else none

/-- Take `n` frames of a pool, in page order. -/
def Die.claimFrames (d : Die) (tier : Nat) : Nat → List Nat × Die
  | 0 => ([], d)
  | n + 1 =>
    match d.claimFrame tier with
    | none => ([], d)
    | some q =>
      let r := q.2.claimFrames tier n
      (q.1 :: r.1, r.2)

/-- Set or clear MOVING on every page of a list. -/
def Die.markMoving (d : Die) (l : List Nat) (v : Bool) : Die :=
  l.foldl (fun acc p => acc.setPte p (pteSet (acc.pte p) 15 15 (if v then 1 else 0))) d

/-- A model with the frames its load takes, its pages MOVING (R300). -/
def Die.takeSpan (d : Die) (m : Model) : Model × Die :=
  let q := d.claimFrames m.home m.pages
  ({ m with frames := q.1 }, q.2.markMoving m.span true)

/-- Give back what `takeSpan` took (R299, R302). -/
def Die.giveSpan (d : Die) (m : Model) : Die :=
  let d1 := m.frames.foldl (fun acc f => acc.returnFrame m.home f) d
  let d2 := if m.home = 5 then m.frames.foldl (fun acc f => acc.trimFrame f) d1 else d1
  d2.markMoving m.span false

/-- Put a model into a slot as LOADING: frames are taken and its pages are MOVING (R300, Table 13.5). -/
def Die.beginLoad (d : Die) (s : Nat) (m : Model) : Die :=
  let q := d.takeSpan m
  q.2.setModel s { q.1 with state := mdlLoading }

/-- End a load without a model: frames return, MOVING clears, the slot is free (R302). -/
def Die.dropLoad (d : Die) (s : Nat) : Die := (d.giveSpan (d.model s)).setModel s Model.empty

/-- A load fails on its source die: every die drops it, and its commands are answered (R302, R309). -/
def Die.failLoad (d : Die) (s st detail shard : Nat) : Die :=
  let m := d.model s
  let d1 := (d.tellAll (d.otherDies m.dies) (.failed (BitVec.ofNat 32 m.base) (BitVec.ofNat 32 shard))).errIf (detail = 7)
    Reg.TIR_MDL_ERR Bit.TIR_MDL_ERR_LOAD_FAIL
  (d1.dropLoad s).answerLoads s st detail 0 shard

/-- A load fails on this die: its source fails it everywhere, another die tells the source. -/
def Die.loadFails (d : Die) (s st detail shard : Nat) : Die :=
  let m := d.model s
  if m.source = d.dieId then d.failLoad s st detail shard
  else
    let d1 := if detail = 7 then d.tell m.source (.failed (BitVec.ofNat 32 m.base) (BitVec.ofNat 32 shard))
      else d.tell m.source (.verdict (BitVec.ofNat 32 m.base) (BitVec.ofNat 8 st) (BitVec.ofNat 8 detail))
    (d1.errIf (detail = 7) Reg.TIR_MDL_ERR Bit.TIR_MDL_ERR_LOAD_FAIL).dropLoad s

/-! ### MODEL_LOAD (R299, R300) -/

/-- The loaded, or loading, model of a digest and KEY (check 4). -/
def Die.loaded (d : Die) (digest key : Nat) : Option Nat :=
  (List.range 32).find? fun s =>
    let m := d.model s
    m.state != mdlEmpty && m.state != mdlUnloading && m.digest == digest && m.key == key

/-- The offer a source die makes to the other dies of a load (R308). -/
def loadOffer (m : Model) (f : Manifest) : LoadOffer :=
  ⟨BitVec.ofNat 32 m.base, BitVec.ofNat 3 m.home, BitVec.ofNat 7 m.key, BitVec.ofNat 8 m.dies, m.keep, BitVec.ofNat 48 m.src,
    (toBytes (bytesAt f.bytes 40 4 + bytesAt f.bytes 44 4) f.bytes).map (BitVec.ofNat 8)⟩

/-- The model a manifest makes of a candidate. -/
def Model.withManifest (m : Model) (f : Manifest) : Model :=
  { m with
    id := f.id, pages := f.pages, isSealed := f.isSealed, digest := f.digest, pubHash := f.pubHash, nonce := f.nonce
    shards := f.shards }

/-- The load whose checks this die runs as its source. -/
def Die.ownPlan (d : Die) : Option LoadPlan := d.plans.find? fun p => p.model.source == d.dieId

/-- Replace a load under check, or end its checks. -/
def Die.setPlan (d : Die) (slot : Nat) (p : Option LoadPlan) : Die :=
  { d with plans := (d.plans.filter fun o => o.slot != slot) ++ p.toList }

/-- The command of a load whose checks are under way. -/
def Die.planCmd (d : Die) (s : Nat) : Option Cmd :=
  d.fw.cmds.find? fun c => c.stage == .running && c.op == 0x0420 && c.aux == [s]

/-- A load fails one of checks 1 to 7: nothing of it is left, here or on a die that passed (R299). -/
def Die.refuseLoad (d : Die) (p : LoadPlan) (st detail : Nat) : Die :=
  let d1 := (d.setPlan p.slot none).answerLoads p.slot st detail 0 noShard
  if p.offered then d1.tellAll (d1.otherDies p.model.dies) (.failed (BitVec.ofNat 32 p.model.base) (BitVec.ofNat 32 noShard)) else d1

/-- A load whose checks are under way has a die that is no longer reached, or fails a check: the lowest in the order of Table
13.4 over all the dies, whose details rise with it. -/
def LoadPlan.fails (p : LoadPlan) (own : Option (Nat × Nat)) : Option (Nat × Nat) :=
  match p.worst, own with
  | some w, some o => if o.2 < w.2 then some o else some w
  | some w, none => some w
  | none, o => o

/-- Checks 2 to 4, once every die has a slot; then the other dies are offered the load (R299, R308). -/
def Die.checkImage (d : Die) (p : LoadPlan) (c : Cmd) : Die :=
  if !modelCode p.model.key then d.refuseLoad p stIllegal 2
  else
    let r := d.readManifest p.model.src
    match r.1 with
    | .inl st => r.2.refuseLoad p st 2
    | .inr f =>
      if !f.authentic then r.2.refuseLoad p stIntegrity 3
      else match r.2.loaded f.digest p.model.key with
      | some s =>
        let m := r.2.model s
        let d2 := (r.2.setPlan p.slot none).setModel s { m with refs := m.refs + 1 }
        if m.state = mdlLoading then d2.setCmd c .running [s] else d2.replyLoad c stOk 0 m.served s noShard
      | none =>
        let m := p.model.withManifest f
        let others := r.2.otherDies m.dies
        (r.2.setPlan p.slot (some { p with model := m, offered := true, asked := others })).tellAll others (.load (loadOffer m f))

/-- Checks 5 to 7 once the other dies have answered: the load begins on every die, or on none. -/
def Die.checkSpan (d : Die) (p : LoadPlan) (dest : Nat) : Die :=
  let m := p.model
  let own := if dest % 65536 ≠ 0 ∨ 2 ^ 48 ≤ dest then some (stIllegal, 5)
    else d.placeRefused m.digest m.isSealed m.home m.key m.base m.pages
  match p.fails own with
  | some x => d.refuseLoad p x.1 x.2
  | none =>
    ((d.setPlan p.slot none).beginLoad p.slot m).tellAll (d.otherDies m.dies) (.commit (BitVec.ofNat 32 m.base))

/-- The checks of a load go on as far as they can (R299). -/
def Die.planGoOn (d : Die) : Die :=
  match if d.procDown 0 || d.asleep then none else d.ownPlan with
  | none => d
  | some p =>
    match d.planCmd p.slot with
    | none => d.setPlan p.slot none
    | some c =>
      if p.asked.any fun x => !d.members.testBit x then d.refuseLoad p stIllegal 1
      else if p.asked ≠ [] then d
      else if p.offered then d.checkSpan p (c.arg 8 8)
      else match p.worst with
        | some w => d.refuseLoad p w.1 w.2
        | none => d.attempt (modelSlot p.slot) fun d0 => d0.checkImage p c

/-- MODEL_LOAD: a load begins its checks in the order of Table 13.4, over all its dies (R299). One load is checked at a time.
`hits` is what strikes memory as the image is read. -/
def Die.modelLoad (d : Die) (hits : Hits) : Die :=
  let d0 := (d.struck hits).planGoOn.planGoOn
  if d0.ownPlan.isSome then d0
  else
    (d0.mgmt 0x0420 fun c d1 =>
      let dies := c.arg 18 1
      let no := fun (st detail : Nat) => d1.replyLoad c st detail 0 0 noShard
      if !dies.testBit d1.dieId || !((diesOf dies).all fun k => d1.members.testBit k || k == d1.dieId) then no stIllegal 1
      else match d1.freeModel with
      | none => no stRefused 1
      | some s =>
        let m : Model := { Model.empty with
          base := c.arg 8 8 / 65536, refs := 1, home := c.arg 16 1, key := c.arg 17 1, dies := dies, keep := c.arg 19 1 % 2 == 1,
          src := c.arg 0 8, source := d1.dieId, left := diesOf dies }
        let others := d1.otherDies dies
        ((d1.setPlan s (some ⟨s, m, false, others, none⟩)).setCmd c .running [s]).tellAll others (.probe (BitVec.ofNat 32 m.base))).planGoOn.planGoOn

/-! ### SHARD_VERIFY (R301, R308, R309) -/

/-- Write one page of a model into its frame; false when it cannot be placed. -/
def Die.writeModelPage (d : Die) (home key frame : Nat) (v : Nat) : Bool × Die :=
  match home with
  | 2 => ((List.range 1024).foldl (fun (acc : Bool × Die) i =>
      let p := acc.2.writeFrame Who.die key frame i (BitVec.ofNat 512 (v >>> (512 * i))) false
      (acc.1 && p.1, p.2)) (true, d))
  | 3 => ((List.range 1024).foldl (fun (acc : Bool × Die) i =>
      let p := acc.2.writeHost noSlot (frame * 1024 + i) (BitVec.ofNat 512 (v >>> (512 * i))) false
      (acc.1 && p.1, p.2)) (true, d))
  | _ =>
    match d.placeUnits ((List.range 16).map (· + 16 * frame)) with
    | none => (false, d)
    | some d1 =>
      let d2 := (List.range 16).foldl (fun (acc : Die) j =>
        acc.writtenUnit (16 * frame + j) (BitVec.ofNat 32768 (v >>> (32768 * j))) false) d1
      (true, d2.count Reg.TIR_FLASH_WR 1)

/-- Write a shard's plaintext into frames, the rest of its last page zero (R295); frames of a sealed model are marked
(R383). -/
def Die.writeShard (d : Die) (m : Model) (frames : List Nat) (plain : List Nat) : Bool × Die :=
  let n := ofBytes plain
  frames.zipIdx.foldl (fun (acc : Bool × Die) f =>
    let p := acc.2.writeModelPage m.home m.key f.1 (n >>> (524288 * f.2) % 2 ^ 524288)
    let d1 := if m.isSealed && m.home == 2 then
      { p.2 with tier := { p.2.tier with sealedFrames := setInsert f.1 p.2.tier.sealedFrames } } else p.2
    (acc.1 && p.1, d1)) (true, d)

/-- The bytes of a shard: as they travel, its plaintext, and whether they can be trusted so far. -/
structure ShardBytes where
  wire : List Nat
  plain : List Nat
  ok : Bool

/-- The value of the model key of a digest under a KEY code. -/
def Die.modelSecret (d : Die) (digest code : Nat) : Option (List Nat) :=
  ((d.keySlot digest code).bind d.modelKey).map fun k => toBytes 32 k.key

/-- What the payload of shard `i` is: of a sealed model, GCM ciphertext under the model key, its tag checked first (R297). -/
def Die.openShard (d : Die) (m : Model) (i : Nat) (s : Shard) (wire : List Nat) (bad : Bool) : ShardBytes :=
  if !m.isSealed then ⟨wire, wire, !bad⟩
  else match d.modelSecret m.digest m.key with
    | none => ⟨wire, [], false⟩
    | some k =>
      let iv := toBytes 8 m.nonce ++ toBytes 4 i
      ⟨wire, gcmCrypt k iv wire, !bad && gcmTag k iv (toBytes 32 m.digest) wire == toBytes 16 s.tag⟩

/-- Come by shard `i`: the source die reads it from the image, any other has received it, or has not yet. -/
def Die.fetchShard (d : Die) (m : Model) (i : Nat) (s : Shard) : Option ShardBytes × Die :=
  if m.source = d.dieId then
    let p := d.readBytes Who.die (m.src + s.src) s.len
    (some (p.2.openShard m i s (toBytes s.len p.1.data) p.1.bad), p.2)
  else ((m.inbox.find? fun x => x.1 == i).map fun x => d.openShard m i s (x.2.1.take s.len) x.2.2, d)

/-- Whether a shard's plaintext is the one its digest covers. -/
def shardGood (s : Shard) (b : ShardBytes) : Bool := b.ok && b.plain.length == s.len && digest32 b.plain == s.digest

/-- Send a shard's payload to dies (R308). -/
def Die.sendShard (d : Die) (m : Model) (s : Shard) (mask : Nat) (wire : List Nat) : Die :=
  if mask = 0 then d
  else ({ d with link := { d.link with shards := d.link.shards ++ [⟨mask, m.base + s.page, wire⟩] } } : Die).startShard

/-- Pass a shard on to the dies that take it from this one. -/
def Die.passShard (d : Die) (m : Model) (s : Shard) (wire : List Nat) : Die :=
  d.sendShard m s ((d.nextDies m).foldl (fun n x => n + 2 ^ x) 0) wire

/-- Every die of the mask has verified: the model maps at the next tick, and the source die says so (R302, R310). -/
def Die.allVerified (d : Die) (s : Nat) : Die :=
  let m := d.model s
  if m.left = [] then
    let d1 := d.setModel s { m with due := true }
    (d1.otherDies m.dies).foldl (fun acc x => acc.tellService x m.base) d1
  else d

/-- This die has verified the last shard. -/
def Die.dieVerified (d : Die) (s : Nat) : Die :=
  let m := d.model s
  if m.source = d.dieId then (d.setModel s { m with left := m.left.filter (· != d.dieId) }).allVerified s
  else d.tell m.source (.verified (BitVec.ofNat 32 m.base))

/-- SHARD_VERIFY: the next shard of a load is read, checked and written (R301). `hits` is what strikes memory as it is read. -/
def Die.shardVerify (d : Die) (slot : BitVec 5) (hits : Hits) : Die :=
  let s := slot.toNat
  (d.struck hits).attempt (modelSlot s) fun d0 =>
    let m := d0.model s
    match m.shards[m.next]? with
    | none => d0
    | some sh =>
      if m.state ≠ mdlLoading ∨ d0.procDown 0 ∨ d0.asleep then d0
      else if m.isSealed && (d0.keySlot m.digest m.key).isNone then d0.loadFails s stPermission 4 noShard
      else
        let p := d0.fetchShard m m.next sh
        match p.1 with
        | none => d0
        | some b =>
          let inbox := m.inbox.filter fun x => x.1 != m.next
          if !shardGood sh b then
            if m.source = d0.dieId ∨ m.resent then p.2.loadFails s stIntegrity 7 m.next
            else (p.2.setModel s { m with resent := true, inbox := inbox }).tell (p.2.sender m)
              (.resend (BitVec.ofNat 32 m.base) (BitVec.ofNat 16 m.next))
          else
            let w := p.2.writeShard m ((m.frames.drop sh.page).take sh.pages) b.plain
            if !w.1 then w.2.loadFails s stDataFault 7 m.next
            else
              let kept := if (w.2.nextDies m) = [] then m.sent else m.sent ++ [(m.next, b.wire)]
              let d2 := (w.2.passShard m sh b.wire).setModel s
                { m with next := m.next + 1, resent := false, sent := kept, inbox := inbox }
              if m.next + 1 = m.shards.length then d2.dieVerified s else d2

/-! ### Messages received (R308 to R310) -/

/-- The model an offer and its manifest describe, as the receiving die holds it. -/
def Die.offered (d : Die) (o : LoadOffer) (f : Manifest) (source : Nat) : Model :=
  Model.withManifest { Model.empty with
    base := o.base.toNat, refs := 1, home := o.home.toNat, key := o.key.toNat, dies := o.dies.toNat, keep := o.keep, src := o.image.toNat,
    source := source, left := diesOf (o.dies.toNat &&& 2 ^ d.dieId) } f

/-- Checks 1, 3 and 5 to 7 on a die that is offered a load, which judges the signature for itself (R308): the model it would
be, or the status and detail of the first that fails. -/
def Die.judgeOffer (d : Die) (o : LoadOffer) (source : Nat) : (Nat × Nat) ⊕ (Nat × Model) :=
  match d.freeModel, manifestIn o.image.toNat (ofBytes (o.manifest.map (·.toNat))) with
  | none, _ => .inl (stRefused, 1)
  | _, none => .inl (stIllegal, 2)
  | some s, some f =>
    if !f.authentic then .inl (stIntegrity, 3)
    else
      match d.placeRefused f.digest f.isSealed o.home.toNat o.key.toNat o.base.toNat f.pages with
      | some x => .inl x
      | none => .inr (s, d.offered o f source)

/-- The load of another die that this one was offered. -/
def Die.offeredPlan (d : Die) (base src : Nat) : Option LoadPlan :=
  d.plans.find? fun p => p.model.base == base && p.model.source == src && p.model.source != d.dieId

/-- Note another die's answer to a load under check. -/
def Die.answered (d : Die) (base src : Nat) (fail : Option (Nat × Nat)) : Die :=
  match d.ownPlan with
  | none => d
  | some p =>
    if p.model.base ≠ base ∨ p.asked.contains src = false then d
    else (d.setPlan p.slot (some { p with asked := p.asked.filter (· != src), worst := p.fails fail })).planGoOn.planGoOn

/-- Remove one reference; the last one begins an unload (R304). A load under way stops at once. -/
def Die.unref (d : Die) (s : Nat) : Die :=
  let m := d.model s
  if m.state = mdlLoading then
    if m.source = d.dieId then d.failLoad s stCancelled 0 noShard
    else d.loadFails s stCancelled 0 noShard
  else if m.refs ≤ 1 then d.setModel s { m with refs := 0, state := mdlUnloading, pass := none }
  else d.setModel s { m with refs := m.refs - 1 }

/-- ESLIS_MGMT: a message between Supervisors arrives. -/
def Die.eslisMgmt (d : Die) (h : Hdr) (msg : Mgmt) : Die :=
  if d.procDown 0 || d.asleep then d
  else d.routed h 0xE 0 (mgmtBody msg) [] fun d0 =>
    let src := h.src.toNat
    let here := fun (base : BitVec 32) => d0.modelAt base.toNat fun m => m.state == mdlLoading
    match msg with
    | .probe base => d0.tell src (.probed base d0.freeModel.isSome)
    | .probed base free => d0.answered base.toNat src (if free then none else some (stRefused, 1))
    | .load o =>
      match d0.judgeOffer o src with
      | .inl x => d0.tell src (.verdict o.base (BitVec.ofNat 8 x.1) (BitVec.ofNat 8 x.2))
      | .inr x =>
        let q := d0.takeSpan x.2
        (q.2.setPlan x.1 (some ⟨x.1, q.1, true, [], none⟩)).tell src (.verdict o.base 0#8 0#8)
    | .verdict base st det =>
      match here base with
      | none => d0.answered base.toNat src (if st = 0#8 then none else some (st.toNat, det.toNat))
      | some s => if (d0.model s).source ≠ d0.dieId then d0 else d0.failLoad s st.toNat det.toNat noShard
    | .commit base =>
      match d0.offeredPlan base.toNat src with
      | none => d0
      | some p => (d0.setPlan p.slot none).setModel p.slot { p.model with state := mdlLoading }
    | .verified base =>
      match here base with
      | none => d0
      | some s => (d0.setModel s { d0.model s with left := (d0.model s).left.filter (· != src) }).allVerified s
    | .resend base i =>
      match d0.modelAt base.toNat fun m => m.state != mdlUnloading with
      | none => d0
      | some s =>
        let m := d0.model s
        match m.shards[i.toNat]?, m.sent.find? fun x => x.1 == i.toNat with
        | some h, some x => if m.state = mdlLoading then d0.sendShard m h (2 ^ src) x.2 else d0
        | some _, none => d0.setModel s { m with owes := m.owes ++ [(src, i.toNat)] }
        | none, _ => d0
    | .failed base i =>
      match here base with
      | none => match d0.offeredPlan base.toNat src with
        | none => d0
        | some p => (d0.setPlan p.slot none).giveSpan p.model
      | some s =>
        if (d0.model s).source = d0.dieId then d0.failLoad s stIntegrity 7 i.toNat
        else (d0.errIf (i.toNat ≠ noShard) Reg.TIR_MDL_ERR Bit.TIR_MDL_ERR_LOAD_FAIL).dropLoad s
    | .unload base =>
      match d0.modelAt base.toNat fun m => m.state != mdlUnloading with
      | none => d0
      | some s => d0.unref s
    | .other => d0

/-- MODEL_IN_SERVICE_MSG: the span maps at the next tick (R310). -/
def Die.modelInServiceMsg (d : Die) (h : Hdr) (base : BitVec 32) : Die :=
  if d.procDown 0 || d.asleep then d
  else d.routed h 0xE 0 [7, base.toNat] [] fun d0 =>
    match d0.modelAt base.toNat fun m => m.state == mdlLoading && m.next == m.shards.length && m.source == h.src.toNat with
    | none => d0
    | some s => d0.setModel s { d0.model s with due := true }

/-! ### At the tick (R302, R304, R310, R437) -/

/-- The entry of a mapped page of a model (R302). -/
def modelPte (m : Model) (frame group : Nat) : BitVec 128 :=
  BitVec.ofNat 128 (m.home + 2 ^ 4 + m.key % 128 * 2 ^ 8 + group % 1024 * 2 ^ 36 + frame % 2 ^ 32 * 2 ^ 64)

/-- Map the pages of a model. -/
def Die.mapModel (d : Die) (m : Model) : Die :=
  m.shards.foldl (fun acc s =>
    ((List.range s.pages).map (· + s.page)).foldl (fun acc2 o => acc2.setPte (m.base + o) (modelPte m (m.frames.getD o 0) s.group)) acc) d

/-- A verified model enters READY at the tick that opens firing `n`. -/
def Die.modelService (d : Die) (s n : Nat) : Die :=
  let m := d.model s
  if m.state = mdlLoading ∧ m.due = true then
    let d1 := (d.mapModel m).setModel s { m with
      state := mdlReady, served := n, due := false, since := d.refclk, sent := [], frames := [], inbox := [], left := [] }
    d1.answerLoads s stOk 0 n noShard
  else d

/-- Whether a descriptor in the scoreboard uses a page of a span: by a stream, by an address found in its data, or by
the schedule of a T.PREFETCH (R22). -/
def Die.spanInUse (d : Die) (m : Model) : Bool :=
  d.sb.any fun e =>
    ((memStreams e.desc).flatMap (fun p => pagesOf (reachOf e.desc p.1).1 (reachOf e.desc p.1).2) ++ e.pages ++
      d.prefetchWants e).any fun q => decide (m.base ≤ q) && decide (q < m.base + m.pages)

/-- Unmap a page of a model: its frames return to their pools, a FLASH frame trimmed. -/
def Die.unmapPage (d : Die) (p : Nat) : Die :=
  let e := d.pte p
  let flash := if pteCached e then (if pteHome e = 5 then some (pteHomeFrame e) else none)
    else if pteTier e = 5 then some (pteFrame e) else none
  let d1 := (d.releasePage true p).setPte p 0#128
  match flash with
  | some f => d1.trimFrame f
  | none => d1

/-- A tick on the way of an unload: from the first one on, new work that reads the span is not admitted; the unload
completes at the first one after the last descriptor that reads the span, once none of its pages is moving (R22, R303,
R304). -/
def Die.modelUnloaded (d : Die) (s n : Nat) : Die :=
  let m := d.model s
  if m.state ≠ mdlUnloading then d
  else if d.spanInUse m = false ∧ !(m.span.any fun p => pteMoving (d.pte p)) then
    let d1 := (m.span.foldl Die.unmapPage d).setModel s Model.empty
    (d1.fw.cmds.filter fun c => c.stage == .running && c.op == 0x0421 && c.aux == [s]).foldl
      (fun acc c => acc.reply c stOk 0 n []) d1
  else d.setModel s { m with shut := true }

/-- A sealed load whose key an erase has taken ends (R437). -/
def Die.modelKeyLost (d : Die) (s : Nat) : Die :=
  let m := d.model s
  if m.state = mdlLoading ∧ m.isSealed = true ∧ m.next < m.shards.length ∧ (d.keySlot m.digest m.key).isNone = true then
    d.loadFails s stPermission 4 noShard
  else d

/-- Every model's part of the tick that opens firing `n`. -/
def Die.modelTick (d : Die) (n : Nat) : Die :=
  (List.range 32).foldl (fun acc s => ((acc.modelKeyLost s).modelService s n).modelUnloaded s n) d

/-- A tenant's teardown has completed at this tick: its models unload whatever their references (R304). -/
def Die.modelTeardown (d : Die) (t : Nat) : Die :=
  (List.range 32).foldl (fun acc s =>
    let m := acc.model s
    if m.state = mdlEmpty ∨ m.key ≠ t then acc
    else if m.state = mdlLoading then acc.unref s
    else (acc.setModel s { m with refs := 0, state := mdlUnloading, pass := none, shut := true }).modelUnloaded s acc.firing) d

/-! ### Other commands (Table 13.3) -/

/-- MODEL_UNLOAD: one reference is removed; without one left the model is unloaded (R304). -/
def Die.modelUnload (d : Die) : Die :=
  d.mgmt 0x0421 fun c d1 =>
    let s := c.arg 0 1
    let m := d1.model s
    if 32 ≤ s ∨ m.state = mdlEmpty ∨ m.state = mdlUnloading then d1.reply c stIllegal 0 0 []
    else
      let d2 := d1.tellAll (d1.otherDies (c.arg 1 1)) (.unload (BitVec.ofNat 32 m.base))
      if !(c.arg 1 1).testBit d1.dieId then d2.reply c stOk 0 0 []
      else
        let d3 := d2.unref s
        if (d3.model s).state = mdlUnloading then d3.setCmd c .running [s] else d3.reply c stOk 0 0 []

/-- MODEL_QUERY. -/
def Die.modelQuery (d : Die) : Die :=
  d.mgmt 0x0422 fun c d1 =>
    let m := d1.model (c.arg 0 1)
    if 32 ≤ c.arg 0 1 then d1.reply c stIllegal 0 0 []
    else d1.reply c stOk 0 0 [(1, m.state), (2, m.refs), (1, min 255 m.damaged.length)]

/-- MODEL_SCRUB: interval and rate of scrubbing (R306). -/
def Die.modelScrub (d : Die) : Die :=
  d.mgmt 0x0423 fun c d1 =>
    if 10080 < c.arg 0 2 ∨ c.arg 2 2 < 16 ∨ 2048 < c.arg 2 2 then d1.reply c stIllegal 0 0 []
    else ({ d1 with scrubEvery := c.arg 0 2, scrubRate := c.arg 2 2 }).reply c stOk 0 0 []

/-! ### Scrubbing and repair (R306, R307) -/

/-- Where a page's home lies: tier and frame. -/
def pageHome (e : BitVec 128) : Nat × Nat := if pteCached e then (pteHome e, pteHomeFrame e) else (pteTier e, pteFrame e)

/-- Read a page from a tier and frame: its bytes as a number, and whether a line was bad. -/
def Die.readWhole (d : Die) (p tier frame : Nat) : UnitRd × Die :=
  let d0 := if tier = 5 then d.frameReads frame else d
  let q := d0.moveSrcs { d.newMove p .move tier none false [] with srcTier := tier, srcFrame := frame } (List.range 1024)
  (⟨concatUnits 64 q.1, q.1.any (·.bad), false⟩, q.2)

/-- Read the pages of a shard: home copies, or for a page that has one its cached copy. -/
def Die.readSpan (d : Die) (copies : Bool) : List Nat → UnitRd × Die
  | [] => (⟨0, false, false⟩, d)
  | p :: ps =>
    let e := d.pte p
    let at_ := if copies then (pteTier e, pteFrame e) else pageHome e
    let q := d.readWhole p at_.1 at_.2
    let r := q.2.readSpan copies ps
    (⟨q.1.data + r.1.data <<< 524288, q.1.bad || r.1.bad, false⟩, r.2)

/-- Whether a shard as read has its digest. -/
def spanGood (s : Shard) (u : UnitRd) : Bool := !u.bad && digest32 (toBytes s.len u.data) == s.digest

/-- Poison every line of a page's home (R307). -/
def Die.poisonPage (d : Die) (p : Nat) : Die :=
  let e := d.pte p
  let d1 := if pteCached e then d.evictPage p else d
  match (pageHome e).1 with
  | 2 => (List.range 1024).foldl (fun (acc : Die) i =>
      acc.setLine ((pageHome e).2 * 1024 + i) LineCell.poisoned) d1
  | 3 => (List.range 1024).foldl (fun (acc : Die) i => (acc.writeHost noSlot ((pageHome e).2 * 1024 + i) 0#512 true).2) d1
  | 5 => (List.range 16).foldl (fun (acc : Die) j =>
      acc.writtenUnit (16 * (pageHome e).2 + j) 0#32768 true) d1
  | _ => d1

/-- A home copy has failed its digest (R307). -/
def Die.scrubMismatch (d : Die) (s i : Nat) (sh : Shard) : Die :=
  let m := d.model s
  let d1 := (m.shardSpan sh).foldl Die.poisonPage d
  (d1.setModel s { m with
    state := mdlDamaged
    mend := m.keep
    damaged := setInsert i m.damaged
    pass := none, late := false }).err Reg.TIR_MDL_ERR Bit.TIR_MDL_ERR_SCRUB_MISMATCH

/-- One shard of a pass has been checked: on to the next one, or the pass is complete. -/
def Die.passNext (d : Die) (s i : Nat) : Die :=
  let m := d.model s
  if i + 1 < m.shards.length then d.setModel s { m with pass := some (i + 1) }
  else (d.setModel s { m with pass := none, late := false }).count (Reg.TIR_MDL_SCRUBS s) 1

/-- Whether a model's next pass is due. -/
def Die.passDue (d : Die) (m : Model) : Bool := decide (d.scrubEvery ≠ 0) && d.elapsed m.since (d.scrubEvery * 60000000)

/-- Check one shard of a pass: its home, and its cached copies (R306, R307). -/
def Die.scrubShard (d : Die) (s i : Nat) : Die :=
  let m := d.model s
  match m.shards[i]? with
  | none => d
  | some sh =>
    let span := m.shardSpan sh
    let p := d.readSpan false span
    if !spanGood sh p.1 then p.2.scrubMismatch s i sh
    else
      let q := p.2.readSpan true span
      let d1 := if spanGood sh q.1 then q.2
        else span.foldl (fun acc x => if pteCached (acc.pte x) then acc.evictPage x else acc) q.2
      d1.passNext s i

/-- MODEL_SCRUB_PASS: the next shard of a model's pass, which begins when its interval has passed (R306). A page under
a move that began before is read at its home. -/
def Die.modelScrubPass (d : Die) (slot : BitVec 5) : Die :=
  let s := slot.toNat
  let m := d.model s
  if m.state ≠ mdlReady ∨ d.procDown 0 ∨ d.asleep then d
  else match m.pass with
  | none =>
    if d.passDue m then
      let d1 := d.setModel s { m with pass := some 0, since := m.since + d.scrubEvery * 60000 * 38400 }
      d1.attempt (modelSlot s) fun d0 => d0.scrubShard s 0
    else d
  | some i =>
    -- an interval of 0 stops it; else the next pass may fall due while this one runs (R306)
    if d.scrubEvery = 0 then d.setModel s { m with pass := none, late := false }
    else let d1 := if d.passDue m && !m.late then
      (d.setModel s { m with late := true }).err Reg.TIR_MDL_ERR Bit.TIR_MDL_ERR_SCRUB_LATE else d
    d1.attempt (modelSlot s) fun d0 => d0.scrubShard s i

/-- Switch a page to a repaired frame; the old frame returns (R277, R307). -/
def Die.switchRepaired (d : Die) (p frame : Nat) : Die :=
  let e := d.pte p
  let d1 := if pteCached e then d.dropCopy p else d
  let e1 := d1.pte p
  (d1.setPte p (pteSet e1 95 64 frame)).returnFrame (pteTier e1) (pteFrame e1)

/-- A repair has ended: READY without damage left; while more is damaged it goes on; a failed one leaves DAMAGED, and nothing is
retried (R307). -/
def Die.repairEnd (d : Die) (s i : Nat) (ok : Bool) : Die :=
  let m := d.model s
  let left := if ok then setErase i m.damaged else m.damaged
  d.setModel s { m with
    damaged := left
    state := if !ok then mdlDamaged else if left = [] then mdlReady else mdlRepairing
    mend := ok && left != []
    resent := false
    inbox := m.inbox.filter fun x => x.1 != i
    since := if ok && left == [] then d.refclk else m.since }

/-- Whether a DAMAGED model's repair is to start (R307). -/
def Die.mends (d : Die) (m : Model) : Bool := m.state == mdlDamaged && m.mend && !d.procDown 0 && !d.asleep

/-- A repair starts: REPAIRING (Table 13.5). -/
def Die.startRepair (d : Die) (s : Nat) : Die := if d.mends (d.model s) then d.setModel s { d.model s with state := mdlRepairing } else d

/-- The body of a repair of shard `i` with its bytes: checked, written to new frames and switched (R307). -/
def Die.repairShard (d : Die) (s i : Nat) (sh : Shard) (b : ShardBytes) : Die :=
  let m := d.model s
  if !shardGood sh b || decide ((d.freeFrames m.home).length < sh.pages) || (m.home == 5 && d.flashLocked) then d.repairEnd s i false
  else
    let q := d.claimFrames m.home sh.pages
    let w := q.2.writeShard m q.1 b.plain
    if !w.1 then (q.1.foldl (fun acc f => acc.returnFrame m.home f) w.2).repairEnd s i false
    else (((m.shardSpan sh).zip q.1).foldl (fun acc x => acc.switchRepaired x.1 x.2) w.2).repairEnd s i true

/-- MODEL_REPAIR: the lowest damaged shard is read again from the image, checked, written to new frames and switched
(R307, R437). A die that is not the source asks the source for it. `hits` is what strikes memory as it is read. -/
def Die.modelRepair (d : Die) (slot : BitVec 5) (hits : Hits) : Die :=
  let s := slot.toNat
  ((d.struck hits).startRepair s).attempt (modelSlot s) fun d0 =>
    let m := d0.model s
    match m.damaged with
    | [] => d0
    | i :: _ =>
      match m.shards[i]? with
      | none => d0
      | some sh =>
        if m.state ≠ mdlRepairing ∨ d0.procDown 0 ∨ d0.asleep then d0
        else if (m.shardSpan sh).any fun p => pteMoving (d0.pte p) then d0
        else if m.isSealed && (d0.keySlot m.digest m.key).isNone then d0.repairEnd s i false
        else
          let p := d0.fetchShard m i sh
          match p.1 with
          | some b => p.2.repairShard s i sh b
          | none =>
            if m.resent then d0
            else (d0.setModel s { m with resent := true }).tell m.source (.resend (BitVec.ofNat 32 m.base) (BitVec.ofNat 16 i))

/-- The source die reads a shard of its image again for another die's repair (R307). -/
def Die.payShard (d : Die) (s : Nat) : Die :=
  let m := d.model s
  match m.owes with
  | [] => d
  | x :: rest =>
    d.attempt (resendSlot s) fun d0 =>
      let d1 := d0.setModel s { m with owes := rest }
      match m.shards[x.2]? with
      | none => d1
      | some sh =>
        if m.source ≠ d1.dieId ∨ m.state = mdlUnloading then d1
        else
          let p := d1.readBytes Who.die (m.src + sh.src) sh.len
          p.2.sendShard m sh (2 ^ x.1) (toBytes sh.len p.1.data)

/-- Firmware's work on models goes on: the checks of a load, and shards owed and sent. -/
def Die.modelsGoOn (d : Die) : Die :=
  if d.procDown 0 || d.asleep then d
  else (((List.range 32).foldl Die.payShard d.planGoOn.planGoOn)).shardsGoOn

end Sys2Proof.Machine
end

