-- ==== Sys2Proof/Machine/Firmware.lean ====
section
/-! DEFINITION. Firmware: images and boot, lifecycle commands, tenants, watchdogs and restarts, and updates (chapter 19;
R202, R220, R222, R272, R445 to R468, R475). -/

namespace Sys2Proof.Machine

/-! ### Images and boot (R447 to R450) -/

/-- What verifying a firmware image finds (R447, R448): whether its signing key hashes to the value in the boot ROM, whether
its signature holds, and M_FW. -/
structure ImageProof where
  keyOk : Bool
  sigOk : Bool
  digest : BitVec 256

/-- The first of the six checks of R448 that fails, in their order, 0 when all pass. `size` is how many bytes the image
was handed over with, where that is known. -/
def Die.imageError (d : Die) (h : Nat) (size : Option Nat) (p : ImageProof) : Nat :=
  let len := bytesAt h 4 4
  let sig := bytesAt h 48 2
  let fits := fun (n : Nat) => match size with
    | none => true
    | some k => decide (n ≤ k)
  if bytesAt h 0 4 ≠ 0x46574831 then 1
  else if len < 4096 ∨ 3145728 < len ∨ fits len = false then 2
  else if sig < 1 ∨ 1536 < sig ∨ fits (len + sig) = false then 3
  else if !p.keyOk then 4
  else if !p.sigOk then 5
  else if bytesAt h 12 1 < d.nv.rollback ∨ 64 < bytesAt h 12 1 then 6 -- DESIGN CHOICE for an SVN above 64 (log entry 36)
  else 0

/-- The image a header describes (Table 19.3). -/
def imageOf (h : Nat) (digest : BitVec 256) : Image :=
  ⟨bytesAt h 8 4, bytesAt h 12 1, bytesAt h 13 1, bytesAt h 14 1, digest.toNat⟩

/-- What verifying the bytes of an image gives: the key hash against the boot ROM's value, the signature, and M_FW (R447). -/
def imageProof (n : Nat) : ImageProof :=
  let len := bytesAt n 4 4
  let key := toBytes 1793 (n >>> 512)
  ⟨digest32 key == Config.firmwareKey, falconVerify key (toBytes (bytesAt n 48 2) (n >>> (8 * len))) (toBytes len n),
    BitVec.ofNat 256 (digest32 (toBytes len n))⟩

/-- The ROM has an image that passed: its processors start, and the boot steps of R450 begin. -/
def Die.startImage (d : Die) (i : Image) (inFlash : Bool) : Die :=
  let d1 := (List.range 4).foldl (fun acc p => acc.procStarts p) d
  { d1.setFwState fwBoot with fw := { d1.fw with running := some i, inFlash := inFlash, slot := 0 } }

/-- The firmware flash is brought up for reading: reset, SFDP table, the sampling delay trained over its 41 steps, then quad
I/O DTR at 100 MHz. Which of the delays that read right is taken is left open; with none the flash stays at SDR
(R448, R505; log entry 26). -/
def Die.spiUp (d : Die) (f : SpiFlash) : Die :=
  let d1 := (List.range 41).foldl (fun acc i => acc.emit (.spiTrain i)) ((d.emit .spiReset).emit .spiSfdp)
  match (List.range 41).filter fun i => f.window.getLsbD i with
  | [] => { d1 with spi := Spi.fresh }
  | ok =>
    let k := d1.fresh
    { k.2 with spi := ⟨true, 100, f.command.toNat, f.dummy.toNat, some (ok.getD (Config.pick k.1 % ok.length) 0)⟩ }

/-- The flash is erased and programmed at SDR and 50 MHz (R505). -/
def Die.spiProgram (d : Die) : Die := { d with spi := { d.spi with quad := false, clock := 50 } }

/-- The flash is read again: quad I/O DTR where its port has been trained. -/
def Die.spiRead (d : Die) : Die :=
  { d with spi := { d.spi with quad := d.spi.delay.isSome, clock := if d.spi.delay.isSome then 100 else 25 } }

/-- A boot check failed: its number, and FAILED or HOST_WAIT by Table 19.4. -/
def Die.bootFailed (d : Die) (error : Nat) (wait : Bool) : Die :=
  ((d.setRf Reg.FWP_BOOT_STAT 7 4 error).errIf (error != 0) Reg.FWP_ERR Bit.FWP_ERR_BOOT).setFwState
    (if wait then fwHostWait else fwFailed)

/-- The host port has trained: ACTIVE at the highest rate both ends train at, under its cap (R366). -/
def Die.hostTrained (d : Die) (rate : BitVec 3) : Die :=
  (d.setPortState 0 3).setRf (Reg.LNK_PORT_STAT 0) 6 4 (min (d.port 0).cap (max 1 rate.toNat))

/-- Read consecutive HOST lines as one number. -/
def Die.readHostLines (d : Die) (line : Nat) : Nat → UnitRd × Die
  | 0 => (⟨0, false, false⟩, d)
  | n + 1 =>
    let p := d.readHost 0 line Who.die
    let q := p.2.readHostLines (line + 1) n
    (⟨p.1.data + q.1.data <<< 512, p.1.bad || q.1.bad, false⟩, q.2)

/-- HOST_IMAGE_LOAD: a write of FWP_RECOVERY_LEN; in HOST_WAIT the ROM reads and checks the host's image (R449). An image
that cannot be read fails as its MAGIC does. `hits` is what strikes memory as it is read. -/
def Die.hostImageLoad (d0 : Die) (len : Word) (hits : Hits) : Die :=
  let d := d0.struck hits
  if d.fwState ≠ fwHostWait then d
  else (d.setReg Reg.FWP_RECOVERY_LEN (len &&& 0x003FFFFF#32)).attempt imageSlot fun d2 =>
    let size := len.toNat % 2 ^ 22
    let p := d2.readHostLines ((d2.rf Reg.FWP_RECOVERY_HI 15 0 * 2 ^ 32 + d2.rf Reg.FWP_RECOVERY_LO 31 12 * 4096) / 64) (ceilDiv size 64)
    let n := p.1.data % 2 ^ (8 * size)
    let f := imageProof n
    let e := if p.1.bad then 1 else p.2.imageError n (some size) f
    if e ≠ 0 then p.2.bootFailed e true
    else ((p.2.startImage (imageOf n f.digest) false).setRf Reg.FWP_BOOT_STAT 2 2 1).setRf Reg.FWP_BOOT_STAT 7 4 0

/-! ### Self-test (R475) -/

/-- One run of the self-test: every failing location counts an error. -/
def Die.testRun (d : Die) (src : Nat) (locs : List Nat) : Die :=
  if locs = [] then d else locs.foldl (fun acc l => acc.countError src l) (d.err Reg.RAS_ERR Bit.RAS_ERR_SELFTEST)

/-- A self-test of a unit: a run that fails is repeated twice. -/
def Die.unitTest (d : Die) (src : Nat) (runs : List (List Nat)) : Die :=
  match runs with
  | [] => d
  | [] :: _ => d
  | r :: rs => (rs.take 2).foldl (fun acc l => acc.testRun src l) (d.testRun src r)

/-- The self-test on the Kiln and on the Wheel, by their failing locations run by run. The limiter runs in rail mode while
it lasts, which is within one command (R25, R409). -/
def Die.selfTest (d : Die) (kiln : Option (List (List (BitVec 12)))) (wheel : Option (List (List (BitVec 5)))) : Die :=
  let d0 := d.setRailMode true
  let d1 : Die := match kiln with
    | none => d0
    | some l => d0.unitTest 1 (l.map fun r => r.map (·.toNat))
  let d2 : Die := match wheel with
    | none => d1
    | some l => d1.unitTest 2 (l.map fun r => r.map (·.toNat))
  d2.setRailMode d.railMode

/-- Locations that fail in some run. -/
def failing (runs : List (List Nat)) : Nat :=
  match runs with
  | [] => 0
  | [] :: _ => 0
  | r :: rs => (r ++ (rs.take 2).flatMap id).eraseDups.length

/-! ### The end of the boot (R450) -/

/-- Training, the spare rows the devices report and the repairs of the log (R312, R321, R328, Table 14.5). -/
def Die.bootDram (d : Die) (b : BootFind) : Die :=
  let d1 := (d.setRf Reg.DMC_STAT 15 0 b.trained.toNat).setReg Reg.DMC_CAP (BitVec.ofNat 32 (114688 * 2 ^ b.density.toNat))
  let d2 : Die := { d1 with dmc := { d1.dmc with
    rate := b.rate.toNat
    directed := b.directed
    raaLimit := b.raaLimit.toNat
    bankSpares := b.spareRows.zipIdx.foldl (fun m p => SMap.put (fun _ => 0) m p.2 p.1.toNat) [] } }
  let d3 := (List.range 256).foldl (fun acc k => acc.takeSpareRows k (acc.repairLog.filter fun r => r.1 / 2 ^ 20 == k).length) d2
  (List.range 16).foldl (fun acc c => if b.trained.getLsbD c then acc else acc.setRf (Reg.DMC_CH_STAT c) 8 8 1) d3

/-- The map with the journal's records applied, oldest first (R332). -/
def Nand.replayed (x : Nand) : SMap Nat := x.journal.foldl (fun m r => SMap.put (fun _ => 0) m r.1 r.2) x.map

/-- The NAND controller comes up and replays its journal (R332, Table 14.8). -/
def Die.bootNand (d : Die) (b : BootFind) : Die :=
  let formatted := decide (d.nand.logical ≠ 0)
  let d1 : Die := { d with nand := { d.nand with
    total := b.blocks.toNat, perBlock := b.perBlock.toNat, orderly := true
    place := d.nand.replayed, map := d.nand.replayed, journal := [], mapCache := [] } }
  let d2 := d1.setReg Reg.NFC_STAT (BitVec.ofNat 32 ((if formatted then 8 else 0) +
    (if formatted && d.nand.spare.isEmpty then 4 else 0) + b.nand.toNat))
  let d3 := ((d2.setReg Reg.TIR_FLASH_CAP (BitVec.ofNat 32 d.nand.logical)).setReg Reg.NFC_BAD_GROWN (BitVec.ofNat 32 d.nand.grown)).setReg
    Reg.NFC_SPARES (BitVec.ofNat 32 d.nand.spare.length)
  let d4 := d3.setReg Reg.NFC_ERASE_MAX (BitVec.ofNat 32 (d.nand.blocks.foldl (fun m k => max m k.2.erases) 0))
  (d4.errIf (formatted && !d.nand.orderly) Reg.NFC_ERR Bit.NFC_ERR_RECOVERED).errIf (b.nandFail != 0#2) Reg.NFC_ERR Bit.NFC_ERR_TRAIN

/-- Peer ports whose training failed stay in TRAINING (R450, Table 16.11). -/
def Die.bootPorts (d : Die) (b : BootFind) : Die :=
  let bad := [1, 2].filter fun p => b.linkFail.getLsbD (p - 1) && d.portState p == 0
  bad.foldl (fun (acc : Die) p => acc.setPortState p 1) { d with fw := { d.fw with untrained := bad } }

/-- BOOT_COMPLETE: the boot steps end and the management rings are served. Each location that failed the self-test is
spared first (R450, R475). -/
def Die.bootComplete (d : Die) (b : BootFind) : Die :=
  if d.fwState ≠ fwBoot ∨ d.fw.running = none then d
  else
    let d1 := ((d.bootDram b).bootNand b).hostTrained b.hostRate
    let d2 := (d1.setRf Reg.LNK_STAT 23 16 (2 ^ d1.dieId)).selfTest (some b.kiln) (some b.wheel)
    let d3 := (List.range (b.kiln.headD []).length).foldl (fun acc _ => acc.kilnSpareSwap .cell) d2
    let d4 := (List.range (b.wheel.headD []).length).foldl (fun acc _ => acc.wheelSpareSwap) d3
    let d5 := (d4.setRf Reg.FWP_BOOT_STAT 23 8 (min 65535 (d4.refclk / 38400))).setFwState fwWaitDriver
    let d6 : Die := { d5 with ras := { d5.ras with kilnTested := d5.refclk, wheelTested := d5.refclk } }
    ((d6.bootPorts b).resetSplit).snapMeasures

/-! ### Version check, start and stop of the data plane (R458 to R460) -/

/-- A field of the running image. -/
def Die.imageField (d : Die) (f : Image → Nat) : Nat := match d.fw.running with
  | some i => f i
  | none => 0

/-- FW_INFO. -/
def Die.fwInfo (d : Die) : Die :=
  d.mgmt 0x0301 fun c d1 =>
    d1.reply c stOk 0 0 [(4, d1.imageField (·.version)), (1, d1.imageField (·.svn)), (1, d1.imageField (·.ifMajor)),
      (1, d1.imageField (·.ifMinor)), (1, d1.fwState), (1, d1.rf Reg.FWP_BOOT_STAT 1 0), (2, d1.rf Reg.FWP_BOOT_STAT 23 8),
      (1, d1.update)]

/-- DRV_HELLO: the driver's interface version is accepted, or the die enters REFUSED, leaving the data plane (R459). -/
def Die.drvHello (d : Die) : Die :=
  d.mgmt 0x0302 fun c d1 =>
    let fields := [(1, d1.imageField (·.ifMajor)), (1, d1.imageField (·.ifMinor))]
    if c.arg 0 1 = d1.imageField (·.ifMajor) then
      let d2 := if d1.fwState = fwRefused then d1.setFwState fwWaitDriver else d1
      ({ d2 with fw := { d2.fw with hello := true } }).reply c stOk 0 0 fields
    else
      let d2 : Die := { d1 with fw := { d1.fw with hello := false, leaving := d1.fw.leaving || d1.fwState == fwRunning } }
      (d2.setFwState fwRefused).reply c stPermission 0 0 fields

/-- Every LPDDR5X channel has trained, and no peer port whose training failed at boot is still in training (R321, R450;
DEDUCED, log entry 26). -/
def Die.allTrained (d : Die) : Bool :=
  d.rf Reg.DMC_STAT 15 0 == 0xFFFF && !(d.fw.untrained.any fun p => d.portState p == 1)

/-- DATA_START: the die enters RUNNING at a tick (R460). -/
def Die.dataStart (d : Die) : Die :=
  d.mgmt 0x0303 fun c d1 =>
    if d1.fwState ≠ fwWaitDriver ∨ d1.fw.hello = false ∨ d1.allTrained = false then d1.reply c stIllegal 0xFE 0 []
    else d1.toTick c []

/-- Once admission has stopped and the scoreboard is empty, the data plane has been left: rail mode, and for DATA_STOP
WAIT_DRIVER and its reply (R459, R460). -/
def Die.settleStop (d : Die) : Die :=
  if d.fw.leaving ∧ d.sched.admitOpen = false ∧ d.sb = [] then
    let d1 : Die := ({ d with fw := { d.fw with
      leaving := false
      before := if d.fw.before = fwRunning then fwWaitDriver else d.fw.before } }).setRailMode true
    let d2 := if d1.fwState = fwRunning then d1.setFwState fwWaitDriver else d1
    match d2.runningCmd 0x0304 with
    | some c => d2.reply c stOk 0 0 [(8, c.aux.headD 0)]
    | none => d2
  else d

/-- DATA_STOP: admission stops at a tick, and the reply follows once nothing is in flight (R460). -/
def Die.dataStop (d : Die) : Die :=
  (d.mgmt 0x0304 fun c d1 =>
    if d1.fwState ≠ fwRunning ∨ d1.fw.cmds.any fun o => o.op == 0x0304 && o.stage != .queued then d1.reply c stIllegal 0xFE 0 []
    else d1.toTick c []).settleStop

/-! ### Ticks and tenants (R202, R220, R222, R272) -/

/-- TICK_CONFIG: source, sensor and period from a tick on (R201, R202). -/
def Die.tickConfig (d : Die) : Die :=
  d.mgmt 0x0305 fun c d1 =>
    let p := c.arg 4 4
    if 3 < c.arg 0 1 ∨ 3 < c.arg 1 1 ∨ p < 384 ∨ 38400000 < p ∨ (c.arg 0 1 = 3 ∧ d1.dieId = 0) then d1.reply c stIllegal 0 0 []
    else d1.toTick c []

/-- Fields of a TENANT_CONFIG: tenant, WEIGHT, SLOT_QUOTA, QBASE, QCOUNT, EVT_BASE, EVT_COUNT. -/
structure TenantRec where
  t : Nat
  weight : Nat
  quota : Nat
  qbase : Nat
  qcount : Nat
  ebase : Nat
  ecount : Nat

/-- The record a TENANT_CONFIG carries. -/
def tenantRec (c : Cmd) : TenantRec := ⟨c.arg 0 1, c.arg 1 1, c.arg 2 2, c.arg 4 4, c.arg 8 4, c.arg 12 2, c.arg 16 4⟩

/-- Whether the values lie in Table 10.1. -/
def TenantRec.legal (r : TenantRec) : Bool :=
  decide (r.t < 64) && decide (1 ≤ r.weight) && decide (1 ≤ r.quota) && decide (r.quota ≤ 4096) && decide (r.qbase < 2 ^ 20) &&
    decide (1 ≤ r.qcount) && decide (r.qbase + r.qcount ≤ 2 ^ 20) && decide (r.ebase + r.ecount ≤ 65536)

/-- First event counter of a record's range. -/
def Die.ebase (d : Die) (i : Nat) : Nat := d.rf (Reg.QUE_TEN_EVT_BASE i) 15 0
/-- Counters in a record's range. -/
def Die.ecount (d : Die) (i : Nat) : Nat := d.rf (Reg.QUE_TEN_EVT_COUNT i) 16 0

/-- R220: the status with which a record is refused, or none. `leaving` says that a teardown of it has been accepted and
has not taken effect. -/
def Die.tenantRefused (d : Die) (r : TenantRec) (leaving : Bool) : Option Nat :=
  let meets := fun (a n b m : Nat) => decide (a < b + m) && decide (b < a + n) && decide (0 < n) && decide (0 < m)
  let clash := (List.range 65).any fun i => i != r.t && d.tenantValid i &&
    (meets r.qbase r.qcount (d.qbase i) (d.qcount i) || (i != 64 && meets r.ebase r.ecount (d.ebase i) (d.ecount i)))
  let moved := d.tenantValid r.t &&
    !(r.qbase == d.qbase r.t && r.qcount == d.qcount r.t && r.ebase == d.ebase r.t && r.ecount == d.ecount r.t)
  if !r.legal || clash || moved || d.tenantDraining r.t || leaving then some stIllegal
  else if !d.tenantValid r.t && !d.rngOk then some stIntegrity
  else none

/-- TENANT_CONFIG: a tenant record applies at a tick (R219, R220, R426). -/
def Die.tenantConfig (d : Die) : Die :=
  d.mgmt 0x0306 fun c d1 =>
    match d1.tenantRefused (tenantRec c) (d1.awaitsTick 0x0308 fun o => o.arg 0 1 == c.arg 0 1) with
    | some st => d1.reply c st 0 0 []
    | none => d1.toTick c []

/-- Whether TENANT_WINDOW is legal for a tenant (R272). -/
def Die.windowLegal (d : Die) (t : Nat) (comes leaves : Bool) : Bool :=
  (d.tenantValid t && !d.tenantDraining t && !leaves) || (!d.tenantValid t && comes)

/-- TENANT_WINDOW: a memory window applies at a tick (R272). -/
def Die.tenantWindow (d : Die) : Die :=
  d.mgmt 0x0307 fun c d1 =>
    let t := c.arg 0 1
    if t < 64 ∧ c.arg 1 1 < 8 ∧
        d1.windowLegal t (d1.awaitsTick 0x0306 fun o => o.arg 0 1 == t) (d1.awaitsTick 0x0308 fun o => o.arg 0 1 == t) = true then
      d1.toTick c []
    else d1.reply c stIllegal 0 0 []

/-- TENANT_TEARDOWN: a tenant's drain starts at a tick (R222). -/
def Die.tenantTeardown (d : Die) : Die :=
  d.mgmt 0x0308 fun c d1 =>
    let t := c.arg 0 1
    if 64 ≤ t ∨ d1.tenantValid t = false ∨ d1.tenantDraining t = true ∨ (d1.awaitsTick 0x0308 fun o => o.arg 0 1 == t) = true then
      d1.reply c stIllegal 0 0 []
    else d1.toTick c []

/-- A tenant record takes effect; one that becomes VALID gets a fresh key (R219, R428). -/
def Die.setTenant (d : Die) (r : TenantRec) : Die :=
  let d1 := if d.tenantValid r.t then d else d.tenantKey r.t
  ((((d1.setReg (Reg.QUE_TEN_CFG r.t) (BitVec.ofNat 32 (2 ^ 31 + r.quota * 2 ^ 8 + r.weight))).setReg (Reg.QUE_TEN_QBASE r.t)
    (BitVec.ofNat 32 r.qbase)).setReg (Reg.QUE_TEN_QCOUNT r.t) (BitVec.ofNat 32 r.qcount)).setReg (Reg.QUE_TEN_EVT_BASE r.t)
    (BitVec.ofNat 32 r.ebase)).setReg (Reg.QUE_TEN_EVT_COUNT r.t) (BitVec.ofNat 32 r.ecount)

/-- Every queue of a range becomes FREE (R222). -/
def Die.freeQueues (d : Die) (base count : Nat) : Die :=
  let out := fun (q : Nat) => decide (q < base) || decide (base + count ≤ q)
  let x := d.queues
  { d.forgetIf (fun n => decide (admitSlot base ≤ n) && decide (n < admitSlot (base + count))) with queues := { x with
    table := x.table.filter fun kv => out kv.1
    cache := x.cache.filter fun c => out c.1
    recorded := x.recorded.filter fun r => out r.1
    flushMarks := x.flushMarks.filter fun m => out m.1
    lastWb := x.lastWb.filter fun kv => out kv.1 } }

/-- Model keys released for a tenant are erased with it (R438). -/
def Die.eraseModelKeys (d : Die) (t : Nat) : Die :=
  (List.range 32).foldl (fun acc s => match acc.modelKey s with
    | some k => if k.code = t then acc.setModelKey s none else acc
    | none => acc) d

/-- A tenant's teardown completes (R222, R288, R304, R428). -/
def Die.tenantGone (d : Die) (t : Nat) : Die :=
  let d1 := (d.payTenant t).freeQueues (d.qbase t) (d.qcount t)
  let d2 := (List.range (d.ecount t)).foldl (fun acc j => (acc.setEvt (d.ebase t + j) 0).unpoisonEvt (d.ebase t + j)) d1
  let d3 := ((List.range 88).filter fun b => d.bankTenant b == t).foldl (fun acc b =>
    (((acc.setRf (Reg.SHF_BANK_CFG b) 3 0 0).setRf (Reg.SHF_BANK_CFG b) 14 8 0x40).requestClear b)) d2
  let d4 := ((d3.modelTeardown t).expireTenant t).eraseKey t
  let d5 := (List.range 8).foldl (fun acc w => acc.setRf (Reg.TIR_WIN_SIZE t w) 29 0 0) (d4.eraseModelKeys t)
  (d5.setRf (Reg.QUE_TEN_CFG t) 31 30 0)

/-- Teardowns at the tick that opens firing `n`: each one whose tenant holds no scoreboard slot completes and replies
(R222). -/
def Die.teardownTick (d : Die) (n : Nat) : Die :=
  ((List.range 64).filter fun t => d.tenantDraining t && d.tenantInFlight t == 0).foldl (fun acc t =>
    let d1 := acc.tenantGone t
    (d1.fw.cmds.filter fun c => c.stage == .running && c.op == 0x0308 && c.arg 0 1 == t).foldl
      (fun a c => a.reply c stOk 0 n []) d1) d

/-! ### Watchdogs and restarts (R461 to R464, R471) -/

/-- WATCHDOG: a processor's timeout, at once (R461). -/
def Die.watchdog (d : Die) : Die :=
  d.mgmt 0x0309 fun c d1 =>
    let ms := c.arg 2 2
    if 3 < c.arg 0 1 ∨ ms < 1 ∨ 1000 < ms then d1.reply c stIllegal 0 0 []
    else (d1.setRf (Reg.FWP_WDT (c.arg 0 1)) 9 0 ms).reply c stOk 0 0 []

/-- A processor's outstanding commands reply UNIT_RESET (R462). -/
def Die.resetCmds (d : Die) (p : Nat) : Die :=
  (d.fw.cmds.filter fun c => procOf c.op == p).foldl (fun acc c => acc.reply c stUnitReset 0 0 []) d

/-- The frozen processor's state is copied into its dump, or LOST is set (R461). -/
def Die.dump (d : Die) (p : Nat) : Die :=
  if (d.reg (Reg.FWP_DUMP_STAT p)).b 0 then d.setRf (Reg.FWP_DUMP_STAT p) 1 1 1
  else
    let f := d.fresh
    ({ f.2 with fw := { f.2.fw with dumps := SMap.put (fun _ => 0) f.2.fw.dumps p (f.1 + 1) } }).setRf (Reg.FWP_DUMP_STAT p) 0 0 1

/-- DEGRADED begins: admission stops from the next tick; FAILED stays (R463, R464). -/
def Die.degrade (d : Die) : Die :=
  if d.fwState = fwDegraded ∨ d.fwState = fwFailed then d
  else ({ d with fw := { d.fw with before := d.fwState, degrading := true } }).setFwState fwDegraded

/-- A rollback: the old image runs again from its slot and its record, and every processor restarts (R467). -/
def Die.rollBack (d : Die) : Die :=
  let d1 : Die := { d with fw := { d.fw with
    running := d.fw.other, other := d.fw.running, slot := 1 - d.fw.slot, inFlash := d.fw.oldInFlash } }
  let d2 := ((List.range 4).foldl (fun acc p => acc.setDown p true) d1).degrade
  ((d2.setUpdate 4).countMeasure 1).err Reg.FWP_ERR Bit.FWP_ERR_ROLLBACK

/-- A processor freezes for good after its third expiry within 10 s (R464). -/
def Die.freeze (d : Die) (p : Nat) : Die :=
  let d1 : Die := { d with fw := { d.fw with stuck := setInsert p d.fw.stuck } }
  let d2 := d1.resetCmds p
  if p = 0 then ({ d2 with sched := { d2.sched with admitOpen := false } }).setFwState fwFailed else d2

/-- A processor is frozen, dumped and counted (R461 to R464, R467). -/
def Die.expire (d : Die) (p : Nat) : Die :=
  let recent := (d.refclk :: SMap.get (fun _ => []) d.fw.expiries p).filter fun t => !d.elapsed t 10000001
  let d1 : Die := { d with fw := { d.fw with expiries := SMap.put (fun _ => []) d.fw.expiries p recent } }
  let d2 := (((d1.setRf (Reg.FWP_WDT p) 31 16 (min 65535 (d1.rf (Reg.FWP_WDT p) 31 16 + 1))).setDown p true).dump p).err Reg.FWP_ERR p
  let d3 := if d2.update = 2 then d2.rollBack else if p = 0 then d2.degrade else d2
  if 3 ≤ recent.length then d3.freeze p else d3

/-- Whether a processor runs. -/
def Die.procUp (d : Die) (p : Nat) : Bool := decide (fwWaitDriver ≤ d.fwState) && !d.procDown p && !d.asleep

/-- Whether a processor has run for its timeout, so that its watchdog may have gone unrestarted for so long (R17, R461). -/
def Die.watchdogDue (d : Die) (p : Nat) : Bool :=
  d.elapsed (SMap.get (fun _ => 0) d.fw.since p) (1000 * d.rf (Reg.FWP_WDT p) 9 0)

/-- WATCHDOG_EXPIRY: a processor's watchdog expires (R461). -/
def Die.watchdogExpiry (d : Die) (p : BitVec 2) : Die :=
  if d.procUp p.toNat && d.watchdogDue p.toNat then d.expire p.toNat else d

/-- FIRMWARE_SRAM_UNCORRECTABLE: an uncorrectable word of the firmware SRAM freezes its processor likewise (R471,
Table 20.2). -/
def Die.firmwareSramUncorrectable (d : Die) (p : BitVec 2) (word : BitVec 20) : Die :=
  let d1 := (d.countError 6 (4 * 2 ^ 24 + word.toNat)).err Reg.RAS_ERR Bit.RAS_ERR_CTRL_UE
  if d1.procUp p.toNat then d1.expire p.toNat else d1

/-- PROCESSOR_RESTART: a frozen processor restarts from the verified image and replies UNIT_RESET to the commands it owed;
the Supervisor still has its state to restore (R462, R463). -/
def Die.processorRestart (d : Die) (p : BitVec 2) : Die :=
  let q := p.toNat
  if !d.procDown q || d.fw.stuck.contains q then d
  else if q = 0 then { d with fw := { d.fw with restarting := true } }
  else (d.setDown q false).resetCmds q

/-- SUPERVISOR_RESTORED: the Supervisor has its state again and replies UNIT_RESET to the commands it owed; DEGRADED ends at
the next tick (R463). -/
def Die.supervisorRestored (d : Die) : Die :=
  if d.fw.restarting then
    let d1 : Die := { d.setDown 0 false with fw := { d.fw with restarting := false, restored := true, paused := false } }
    d1.resetCmds 0
  else d

/-! ### Updates (R465 to R468) -/

/-- FW_STAGE: an image is copied into the other slot of the firmware area and checked (R465). `hits` is what strikes
memory as it is read. In ROLLED_BACK it goes on to STAGED (DEDUCED, log entry 36). -/
def Die.fwStage (d : Die) (hits : Hits) : Die :=
  (d.struck hits).mgmt 0x030A fun c d1 =>
    if d1.update = 2 ∨ d1.update = 3 then d1.reply c stIllegal 0xFE 0 []
    else
      let size := c.arg 8 4
      let p := d1.readBytes Who.die (c.arg 0 8) (max 64 (min size (2 ^ 22)))
      let f := imageProof p.1.data
      if p.1.bad then p.2.reply c stDataFault 0 0 []
      else if p.2.imageError p.1.data (some size) f ≠ 0 then p.2.reply c stIntegrity 0 0 []
      else (({ p.2 with fw := { p.2.fw with other := some (imageOf p.1.data f.digest) } }).setUpdate 1).reply c stOk 0 0 []

/-- All four processors restart, and settings transfers fail while the Media core is down (R462, R466). -/
def Die.restartAll (d : Die) : Die := (List.range 4).foldl (fun acc p => acc.procStarts p) d.failSettings

/-- The new image takes over (R466 steps 3 to 6). -/
def Die.takeOver (d : Die) (c : Cmd) (i : Image) : Die :=
  let d0 := d.restartAll
  let d1 : Die := { d0 with fw := { d0.fw with
    running := some i, other := d.fw.running, slot := 1 - d.fw.slot, inFlash := false,
    oldInFlash := d.fw.inFlash, paused := false, probation := d.refclk } }
  ((d1.setUpdate 2).countMeasure 1).reply c stOk 0 0 [(4, i.version)]

/-- FW_ACTIVATE: from the next tick the old image stops taking packets; once its other commands are answered the new image
takes over, unless it does not accept the handoff record (R466). -/
def Die.fwActivate (d : Die) (accepts : Bool) : Die :=
  match d.runningCmd 0x030B with
  | some c =>
    if d.fw.cmds.length ≠ 1 ∨ d.procDown 0 then d
    else
      match d.fw.other with
      | none => d
      | some i =>
        d.attempt mgmtSlot fun d1 =>
          if accepts then d1.takeOver c i
          else
            let d2 := d1.restartAll
            ({ d2 with fw := { d2.fw with paused := false } }).reply c stIllegal 1 0 []
  | none =>
    d.mgmt 0x030B fun c d1 => if d1.update ≠ 1 then d1.reply c stIllegal 0xFE 0 [] else d1.toTick c []

/-- ACTIVATE_DRAIN_TIMEOUT: commands still run 1,000 ms after the old image stopped taking packets, and it resumes (R466). -/
def Die.activateDrainTimeout (d : Die) : Die :=
  match d.runningCmd 0x030B with
  | none => d
  | some c =>
    if 1 < d.fw.cmds.length ∧ d.elapsed (c.aux.headD 0) 1000000 = true then
      ({ d with fw := { d.fw with paused := false } }).attempt mgmtSlot fun d1 => d1.reply c stTimeout 0 0 []
    else d

/-- FW_STATUS: the update state and the versions of the two image slots; a read leaves ROLLED_BACK (R465, Table 19.8). -/
def Die.fwStatus (d : Die) : Die :=
  d.mgmt 0x030C fun c d1 =>
    let run := d1.imageField (·.version)
    let other := match d1.fw.other with
      | some i => i.version
      | none => 0
    let slots := if d1.fw.slot = 0 then [(4, run), (4, other)] else [(4, other), (4, run)]
    (if d1.update = 4 then d1.setUpdate 0 else d1).reply c stOk 0 0 ((1, d1.update) :: slots)

/-- PROBATION_PASS: ten healthy seconds start COMMITTING, and the flash slot is being rewritten (R465, R468). -/
def Die.probationPass (d : Die) : Die :=
  if d.update = 2 ∧ d.elapsed d.fw.probation 10000000 = true then
    { d.spiProgram.setUpdate 3 with nv := { d.nv with slot := .broken } }
  else d

/-- COMMIT_DONE: the new image has been written and read back in flash (R468). -/
def Die.commitDone (d : Die) : Die :=
  match d.fw.running with
  | none => d
  | some i =>
    if d.update = 3 then { d.spiRead.setUpdate 0 with nv := { d.nv with slot := .holds i }, fw := { d.fw with inFlash := true } } else d

/-! ### At the tick (R21) -/

/-- A lifecycle command at its tick; `closing` is the number of the firing that closes. A command refused at its tick notes
its status. -/
def Die.applyFirmware (d : Die) (c : Cmd) (closing : Nat) : Die :=
  match c.op with
  | 0x0303 =>
    if d.fwState = fwWaitDriver ∧ d.fw.hello = true then
      (({ d with fw := { d.fw with leaving := false } }).setFwState fwRunning).setRailMode false
    else d.setCmd c .atTick [if d.fwState = fwRefused then stPermission else stIllegal]
  | 0x0304 => ({ d with fw := { d.fw with leaving := true } }).setCmd c .running [closing]
  | 0x0305 =>
    ((d.setReg Reg.SCH_TICK_CFG (BitVec.ofNat 32 (c.arg 0 1 + c.arg 1 1 * 4))).setReg Reg.SCH_TICK_PERIOD
      (BitVec.ofNat 32 (c.arg 4 4))).setRf Reg.SCH_TICK_STAT 2 2 0
  | 0x0306 =>
    match d.tenantRefused (tenantRec c) false with
    | some st => d.setCmd c .atTick [st]
    | none => d.setTenant (tenantRec c)
  | 0x0307 =>
    if d.windowLegal (c.arg 0 1) false false then
      (d.setReg (Reg.TIR_WIN_BASE (c.arg 0 1) (c.arg 1 1)) (BitVec.ofNat 32 (c.arg 4 4))).setReg
        (Reg.TIR_WIN_SIZE (c.arg 0 1) (c.arg 1 1)) (BitVec.ofNat 32 (c.arg 8 4))
    else d.setCmd c .atTick [stIllegal]
  | 0x0308 => (d.setRf (Reg.QUE_TEN_CFG (c.arg 0 1)) 30 30 1).setCmd c .running []
  | 0x030B => ({ d with fw := { d.fw with paused := true } }).setCmd c .running [d.refclk]
  | _ => d

/-- The firmware's state at a tick: DEGRADED takes effect, or ends (R463). -/
def Die.firmwareTick (d : Die) : Die :=
  let d1 := if d.fw.degrading then ({ d with fw := { d.fw with degrading := false } }).setRailMode true else d
  if d1.fw.restored then
    let d2 := if d1.fwState = fwDegraded then d1.setFwState d1.fw.before else d1
    ({ d2 with fw := { d2.fw with restored := false } }).setRailMode (d2.fwState != fwRunning)
  else d1

end Sys2Proof.Machine
end

