-- ==== Sys2Proof/Machine/Service.lean ====
section
/-! DEFINITION. The memory, camera, fabric and reliability commands, and the reliability events and the host port's loss
that stand beside them (R322, R328, R334, R335, R338, R362, R363, R376, R382, R393 to R396, R472 to R475, R481). -/

namespace Sys2Proof.Machine

/-! ### Memory and NAND commands (Table 14.4) -/

/-- Transfers a second of a data rate, in MT/s (Table 14.1). -/
def rateOf (i : Nat) : Nat := [9600, 8533, 7500, 6400].getD i 0

/-- MEM_INFO: capacity in GiB, usable frames, data rate, TRAINED, spare rows, and the frames retired outside the pool, as
many numbers as the reply holds (R335). -/
def Die.memInfo (d : Die) : Die :=
  d.mgmt 0x0401 fun c d1 =>
    let cap := (d1.reg Reg.DMC_CAP).toNat
    d1.reply c stOk 0 0 ([(4, cap / 14336), (4, cap), (4, rateOf d1.dmc.rate), (2, d1.rf Reg.DMC_STAT 15 0)] ++
      ((List.range 16).map fun i => (1, d1.rf (Reg.DMC_CH_STAT i) 7 0)) ++ [(4, d1.dmc.outside.length)] ++
      ((d1.dmc.outside.take 3).map fun f => (4, f)))

/-- MEM_RETRAIN: the retraining period and pause from a tick on (R322). -/
def Die.memRetrain (d : Die) : Die :=
  d.mgmt 0x0402 fun c d1 =>
    if 10 ≤ c.arg 0 2 ∧ c.arg 0 2 ≤ 10000 ∧ 1 ≤ c.arg 2 1 ∧ c.arg 2 1 ≤ 4 then d1.toTick c [] else d1.reply c stIllegal 0 0 []

/-- Whether a tenant is valid or a model is loaded. -/
def Die.inUse (d : Die) : Bool := ((List.range 64).any d.tenantValid) || d.models.any fun m => m.2.state != mdlEmpty

/-- MEM_PPR_HARD: the logged repairs of the named channels become permanent (R328, R335). -/
def Die.memPprHard (d : Die) : Die :=
  d.mgmt 0x0403 fun c d1 =>
    if d1.inUse then d1.reply c stIllegal 0 0 []
    else
      let mine := fun (r : Nat × Bool) => !r.2 && (c.arg 0 2).testBit (r.1 / 2 ^ 24)
      let log := d1.repairLog.map fun r => if mine r then (r.1, true) else r
      ({ d1 with repairLog := log }).reply c stOk 0 0 [(4, (d1.repairLog.filter mine).length)]

/-- The physical blocks of the attached devices: half of them on each channel, bit 24 the channel (Table 20.1; DESIGN CHOICE, log
entry 102). -/
def Nand.physical (x : Nand) : List Nat :=
  List.range ((x.total + 1) / 2) ++ (List.range (x.total / 2)).map (2 ^ 24 + ·)

/-- Blocks that have failed and not been replaced yet. -/
def Nand.failing (x : Nand) : List Nat := (x.blocks.filter fun kv => kv.2.failed).map (·.1)

/-- A block's wear after a format. -/
def NandBlock.formatted (k : NandBlock) : NandBlock := { k with reads := 0, filled := 0, lastLevel := [] }

/-- The translation layer after a format: the blocks that are not bad, the spares and the blocks for map and journal set
aside, and the logical 64 KiB units the rest offers (R334). A block that has failed is not used again. -/
def Nand.format (x : Nand) (marks : List Nat) (spares op : Nat) : Nand :=
  let failing := x.failing.filter fun b => !x.bad.contains b
  let bad := setInsertAll (marks ++ failing) x.bad
  let good := x.physical.filter fun b => !bad.contains b
  let spare := good.length * spares / 100
  let rest := good.length - spare - Config.mapBlocks x.total x.perBlock
  { x with
    units := []
    place := []
    map := []
    journal := []
    mapCache := []
    blocks := x.blocks.map fun kv => (kv.1, kv.2.formatted)
    free := good.take rest
    used := []
    spare := good.drop (good.length - spare)
    bad := bad
    grown := x.grown + failing.length
    current := none
    logical := rest * x.perBlock * (100 - op) / 1600 }

/-- FLASH_FORMAT: the NAND is formatted; `marks` are the factory bad-block marks it reads (R334). -/
def Die.flashFormat (d : Die) (marks : List (BitVec 25)) : Die :=
  d.mgmt 0x0410 fun c d1 =>
    let spares := c.arg 0 1
    let op := c.arg 1 1
    if d1.rf (Reg.TIR_POOL_COUNT 2) 25 0 ≠ 0 ∨ spares < 1 ∨ 20 < spares ∨ op < 4 ∨ 28 < op then d1.reply c stIllegal 0 0 []
    else
      let n := d1.nand.format (marks.map (·.toNat)) spares op
      let d2 : Die := { d1 with nand := n }
      let d3 := ((d2.setRf Reg.NFC_STAT 3 2 2).setReg Reg.TIR_FLASH_CAP (BitVec.ofNat 32 n.logical)).setRf Reg.NFC_SPARES 15 0
        n.spare.length
      let d4 := d3.setRf Reg.NFC_BAD_GROWN 15 0 n.grown
      d4.reply c stOk 0 0 [(4, n.logical)]

/-- FLASH_INFO: erase counts, spares, grown bad blocks and logical units (R335). -/
def Die.flashInfo (d : Die) : Die :=
  d.mgmt 0x0411 fun c d1 =>
    let es := (d1.nand.used ++ d1.nand.free).map fun b => (d1.nblk b).erases
    let s := d1.eraseSpread
    d1.reply c stOk 0 0 [(2, s.2), (2, s.1), (2, es.foldl (· + ·) 0 / max 1 es.length), (2, d1.rf Reg.NFC_SPARES 15 0),
      (2, d1.rf Reg.NFC_BAD_GROWN 15 0), (4, (d1.reg Reg.TIR_FLASH_CAP).toNat)]

/-! ### Camera commands (Table 15.12) -/

/-- Whether an enabled context uses a camera port. -/
def Die.camPortBusy (d : Die) (p : Nat) : Bool := (List.range 4).any fun c => d.camOn c && d.rf (Reg.IFE_CTX_CFG c) 29 29 == p

/-- Whether a PHY, a lane or trio count and a rate are among the options of Table 15.1. -/
def phyLegal (phy lanes rate : Nat) : Bool :=
  (phy == 0 && (lanes == 1 || lanes == 2 || lanes == 4) && decide (80 ≤ rate) && decide (rate ≤ 4500)) ||
    (phy == 1 && decide (1 ≤ lanes) && decide (lanes ≤ 3) && decide (1 ≤ rate) && decide (rate ≤ 6000))

/-- CAM_PORT_CONFIG: a camera port's PHY, lanes and rate from a tick on (R338). -/
def Die.camPortConfig (d : Die) : Die :=
  d.mgmt 0x0501 fun c d1 =>
    if 1 < c.arg 0 1 ∨ phyLegal (c.arg 1 1) (c.arg 2 1) (c.arg 4 2) = false ∨ d1.camPortBusy (c.arg 0 1) = true then
      d1.reply c stIllegal 0 0 []
    else d1.toTick c []

/-- CAM_XFER: an I3C or I2C transfer on a camera control port; it waits while a settings transfer is under way there (R363). -/
def Die.camXfer (d : Die) (r : BusReply) : Die :=
  d.mgmt 0x0502 fun c d1 =>
    let w := c.arg 3 1
    if 1 < c.arg 0 1 ∨ 40 < w ∨ 40 < c.arg 4 1 then d1.reply c stIllegal 0 0 []
    else if d1.settingsOn (c.arg 0 1) then d1
    else
      let d2 := d1.emit (.camera (c.arg 0 1) (c.arg 1 1 :: c.arg 2 1 :: toBytes w (c.arg 8 40)))
      if r.ok then d2.reply c stOk 0 0 ((List.range (c.arg 4 1)).map fun i => (1, (r.bytes.getD i 0#8).toNat))
      else d2.reply c stTimeout 0 0 []

/-- CAM_DAA: dynamic addresses are assigned on a control port; `targets` are the ones it hands out (R362, R363). -/
def Die.camDaa (d : Die) (targets : List (BitVec 7)) : Die :=
  d.mgmt 0x0503 fun c d1 =>
    if 1 < c.arg 0 1 then d1.reply c stIllegal 0 0 []
    else if d1.settingsOn (c.arg 0 1) then d1
    else
      let l := targets.map (·.toNat)
      let d2 : Die := { d1 with ife := { d1.ife with addrs := SMap.put (fun _ => []) d1.ife.addrs (c.arg 0 1) l } }
      d2.reply c stOk 0 0 ((4, l.length) :: (l.take 44).map fun a => (1, a))

/-- CAM_STATUS: the state of a control port's bus and its last in-band interrupt (R363). -/
def Die.camStatus (d : Die) (bus : Word) : Die :=
  d.mgmt 0x0504 fun c d1 =>
    if 1 < c.arg 0 1 then d1.reply c stIllegal 0 0 []
    else
      let ibi := SMap.get (fun _ => (0, [])) d1.ife.ibis (c.arg 0 1)
      d1.reply c stOk 0 0 ([(4, bus.toNat), (1, ibi.1)] ++ (List.range 8).map fun i => (1, ibi.2.getD i 0))

/-! ### Fabric commands (Table 16.7) -/

/-- FAB_STATUS: the die ID and its source, members, topology, ports and routing tables (R396). -/
def Die.fabStatus (d : Die) : Die :=
  d.mgmt 0x0601 fun c d1 =>
    d1.reply c stOk 0 0 ([(1, d1.dieId), (1, d1.rf Reg.LNK_STAT 3 3), (1, d1.members), (1, d1.topology)] ++
      ((List.range 3).flatMap fun p => [(1, d1.portState p), (1, d1.rf (Reg.LNK_PORT_STAT p) 6 4), (1, (d1.peerOn p).getD 0xFF)]) ++
      ((List.range 3).map fun p => (2, (d1.reg (Reg.LNK_ROUTE p)).toNat)))

/-- Both peer ports are DOWN. -/
def Die.alone (d : Die) : Bool := d.portState 1 == 0 && d.portState 2 == 0

/-- FAB_SET_ID: the die ID is to be overridden while both peer ports are DOWN, from a tick on (R21, R376). -/
def Die.fabSetId (d : Die) : Die :=
  d.mgmt 0x0602 fun c d1 => if 7 < c.arg 0 1 ∨ d1.alone = false then d1.reply c stIllegal 0 0 [] else d1.toTick c []

/-- The die ID of a FAB_SET_ID at its tick; a peer port that has come up since refuses it (R376). -/
def Die.setId (d : Die) (c : Cmd) : Die :=
  if d.alone then ((d.setRf Reg.LNK_STAT 2 0 (c.arg 0 1)).setRf Reg.LNK_STAT 3 3 1).setMembers (2 ^ c.arg 0 1)
  else d.setCmd c .atTick [stIllegal]

/-- Entry of a routing table as FAB_ROUTE carries it. -/
def routeEntry (c : Cmd) (table x : Nat) : Nat := c.arg (2 * table) 2 / 4 ^ x % 4

/-- Whether new tables keep every member reachable and turn no message back on the link it came by (R396). -/
def Die.routesLegal (d : Die) (c : Cmd) : Bool :=
  (diesOf d.members).all fun x =>
    if x = d.dieId then routeEntry c 1 x == 0 && routeEntry c 2 x == 0
    else
      let r := routeEntry c 0 x
      (r == 1 || r == 2) && (d.reachedBy r).contains x && routeEntry c 1 x != 0 && routeEntry c 1 x != 1 && routeEntry c 2 x != 0 &&
        routeEntry c 2 x != 2

/-- FAB_ROUTE: new routing tables from a tick on (R382). -/
def Die.fabRoute (d : Die) : Die :=
  d.mgmt 0x0603 fun c d1 => if d1.routesLegal c then d1.toTick c [] else d1.reply c stIllegal 0 0 []

/-- Responses due from a die: those of transactions by index, and the DONE of an F.* by 4,096 plus its slot. -/
def Die.txnsTo (d : Die) (x : Nat) : List Nat :=
  ((d.far.txns.filter fun t => (t.line - 2 ^ 48) / 1024 / 2 ^ 29 == x).map (·.idx)) ++
    ((d.link.sends.filter fun s => s.left.contains x).map fun s => 4096 + s.slot)

/-- New tables take effect; messages towards a die whose entry changed wait for the responses due on the old route
(R382). -/
def Die.setRoutes (d : Die) (c : Cmd) : Die :=
  let changed := (List.range 8).filter fun x => d.route 0 x != routeEntry c 0 x && !(d.txnsTo x).isEmpty
  let d1 := (List.range 3).foldl (fun acc p => acc.setReg (Reg.LNK_ROUTE p) (BitVec.ofNat 32 (c.arg (2 * p) 2))) d
  let fresh := changed.map fun x => (x, d.txnsTo x)
  let old := d.link.holds.filter fun h => !changed.contains h.1
  { d1 with link := { d1.link with holds := old ++ fresh } }

/-- Whether LINK_PORT asks for something no row of Table 16.7 gives: a port, an action or a rate cap out of range, or port
0 disabled. -/
def portIllegal (c : Cmd) : Bool :=
  decide (2 < c.arg 0 1) || decide (2 < c.arg 1 1) || (c.arg 1 1 == 0 && c.arg 0 1 == 0) ||
    (c.arg 1 1 != 0 && (c.arg 2 1 == 0 || decide (4 < c.arg 2 1)))

/-- LINK_PORT_DISABLE: a peer port is to be disabled from a tick on; what LINK_PORT does not allow is answered here
(R21, R396). -/
def Die.linkPortDisable (d : Die) : Die :=
  d.mgmt 0x0604 fun c d1 =>
    if portIllegal c then d1.reply c stIllegal 0 0 []
    else if c.arg 1 1 ≠ 0 then d1
    else d1.toTick c []

/-- LINK_PORT commands that wait for their port to fall out of use are looked at again at the tick (R22). -/
def Die.portRemovals (d : Die) : Die :=
  { d with fw := { d.fw with cmds := d.fw.cmds.map fun o => if o.op = 0x0604 ∧ o.stage = .running then { o with stage := .atTick } else o } }

/-- A peer port is disabled and its PHY powered off. -/
def Die.portOff (d : Die) (p : Nat) : Die :=
  let d1 := if d.portState p = 0 then d else d.portDown p
  d1.setPort p { d1.port p with enabled := false, shut := false }

/-- The tick of a port's removal: no new work that uses it is admitted from the first on, and it goes once the last admitted
descriptor that uses it has completed (R22). -/
def Die.portLeaves (d : Die) (c : Cmd) : Die :=
  let p := c.arg 0 1
  if d.sb.any fun e => d.portUses e.desc p then (d.setPort p { d.port p with shut := true }).setCmd c .running []
  else d.portOff p

/-- LINK_PORT_ENABLE: a port is enabled with a rate cap and trains (R396). -/
def Die.linkPortEnable (d : Die) : Die :=
  d.mgmt 0x0604 fun c d1 =>
    let p := c.arg 0 1
    if portIllegal c || c.arg 1 1 != 1 then d1
    else
      let d2 := d1.setPort p { d1.port p with enabled := true, cap := c.arg 2 1 }
      let d3 := if d1.portState p = 0 ∨ (p ≠ 0 ∧ d1.portState p = 5) then d2.setPortState p 1 else d2
      d3.reply c stOk 0 0 []

/-- LINK_PORT_RETRAIN: a port retrains under a rate cap, after T0 + 1,750 ns when a RELEASE has been sent (R393). -/
def Die.linkPortRetrain (d : Die) : Die :=
  d.mgmt 0x0604 fun c d1 =>
    let p := c.arg 0 1
    if portIllegal c || c.arg 1 1 != 2 || (d1.portState p == 3 && decide (d1.ftime < d1.link.quietUntil)) then d1
    else ((d1.setPort p { d1.port p with cap := c.arg 2 1 }).startRetrain p).reply c stOk 0 0 []

/-! ### The host port (R394, R440) -/

/-- HOST_PORT_DOWN: the host port goes DOWN; every HOST read outstanding is delivered as an error, and a confidential
session ends with it. -/
def Die.hostPortDown (d : Die) : Die :=
  if d.portState 0 = 0 then d
  else
    let d1 := ((d.setPortState 0 0).setRf (Reg.LNK_PORT_STAT 0) 6 4 0).err Reg.LNK_ERR Bit.LNK_ERR_HOST_DOWN
    let d2 := d1.failHost.dropFlushes
    if d2.sessionOpen then { d2 with saggar := { d2.saggar with closing := true, lost := true } } else d2

/-! ### Reliability (R472 to R475, R481) -/

/-- TRACKER_ENTRY_EXPIRE: entries whose latest error is more than WINDOW old free themselves; one whose spare is still to
come stays (R473, R474). -/
def Die.trackerEntryExpire (d : Die) : Die :=
  { d with track := d.trackUsed }

/-- The Wheel is at the idle point of R167. -/
def Die.wheelIdle (d : Die) : Bool := (d.inClass 101).isEmpty && !d.prefetching

/-- A unit's periodic self-test is due: MINUTES have passed since its last one, and it is idle (R475). -/
def Die.testDue (d : Die) (last : Nat) (idle : Bool) : Bool :=
  let m := d.rf Reg.RAS_SELFTEST_CFG 10 0
  m != 0 && d.elapsed last (m * 60000000) && idle

/-- SELFTEST_PERIODIC: every MINUTES minutes, in its first idle cycle, the Kiln or the Wheel runs the self-test (R475). -/
def Die.selftestPeriodic (d : Die) (kiln : List (List (BitVec 12))) (wheel : List (List (BitVec 5))) : Die :=
  let k := d.testDue d.ras.kilnTested d.kilnIdle
  let w := d.testDue d.ras.wheelTested d.wheelIdle
  if k || w then
    let d1 : Die := { d with ras := { d.ras with
      kilnTested := if k then d.refclk else d.ras.kilnTested
      wheelTested := if w then d.refclk else d.ras.wheelTested } }
    d1.selfTest (if k then some kiln else none) (if w then some wheel else none)
  else d

/-- The lowest SPARES_LEFT of any bank, and the first bank that has it. -/
def Die.lowSpares (d : Die) : Nat × Nat :=
  (List.range 88).foldl (fun (m : Nat × Nat) b => let n := d.rf (Reg.SHF_BANK_STAT b) 3 0; if n < m.1 then (n, b) else m)
    (d.rf (Reg.SHF_BANK_STAT 0) 3 0, 0)

/-- RAS_INFO: tracker entries, lasting faults since boot, and the spares left (R481). -/
def Die.rasInfo (d : Die) : Die :=
  d.mgmt 0x0701 fun c d1 =>
    d1.reply c stOk 0 0 [(2, d1.trackUsed.length), (4, d1.ras.lasting), (1, d1.rf Reg.KLN_SPARE_STAT 2 0),
      (1, d1.rf Reg.KLN_SPARE_STAT 15 8), (1, d1.rf Reg.WHL_SPARE_STAT 4 0), (1, d1.lowSpares.1), (1, d1.lowSpares.2)]

/-- The 16 bytes of a tracker entry in RAS_LOG. -/
def Die.logEntry (d : Die) (t : TrackEntry) : List Nat :=
  toBytes 4 (t.source * 2 ^ 28 + t.location % 2 ^ 28) ++
    toBytes 2 (t.times.filter fun x => decide (d.refclk ≤ x + hourCycles (d.rf Reg.RAS_LASTING_CFG 15 8))).length ++ toBytes 2 (if t.lasting then 1 else 0) ++
    toBytes 8 t.latest

/-- RAS_LOG: the tracker's entries go to a buffer (R481). -/
def Die.rasLog (d : Die) : Die :=
  d.mgmt 0x0702 fun c d1 =>
    if !d1.bufferOk (c.arg 0 8) 4096 then (d1.bufferFault (c.arg 0 8) 4096).reply c stPermission 0 0 []
    else
      let bs := d1.trackUsed.flatMap d1.logEntry
      let p := if bs = [] then (true, d1) else d1.writeBytes Who.die (c.arg 0 8) bs.length (ofBytes bs)
      if p.1 then p.2.reply c stOk 0 0 [(4, d1.trackUsed.length)] else p.2.reply c stDataFault 0 0 []

/-- Run the tests a RAS_SELFTEST names, or TIMEOUT once 100 ms have passed without an idle cycle (R475, R481). -/
def Die.tryTest (d : Die) (c : Cmd) (kiln : List (List (BitVec 12))) (wheel : List (List (BitVec 5))) : Die :=
  let onKiln := (c.arg 0 1).testBit 0
  let onWheel := (c.arg 0 1).testBit 1
  if (!onKiln || d.kilnIdle) && (!onWheel || d.wheelIdle) then
    let n := (if onKiln then failing (kiln.map fun r => r.map (·.toNat)) else 0) +
      (if onWheel then failing (wheel.map fun r => r.map (·.toNat)) else 0)
    (d.selfTest (if onKiln then some kiln else none) (if onWheel then some wheel else none)).reply c stOk 0 0 [(4, n)]
  else if d.elapsed (c.aux.headD 0) 100000 then d.reply c stTimeout 0 0 []
  else d

/-- RAS_SELFTEST: the self-test runs on the Kiln or the Wheel in an idle cycle (R475). -/
def Die.rasSelftest (d : Die) (kiln : List (List (BitVec 12))) (wheel : List (List (BitVec 5))) : Die :=
  match d.runningCmd 0x0703 with
  | some c => if d.procDown 0 || d.asleep then d else d.attempt mgmtSlot fun d1 => d1.tryTest c kiln wheel
  | none =>
    d.mgmt 0x0703 fun c d1 =>
      let c' : Cmd := { c with stage := .running, aux := [d1.refclk] }
      (d1.setCmd c .running [d1.refclk]).tryTest c' kiln wheel

/-! ### At the tick (R21) -/

/-- A memory, camera or fabric command at its tick. -/
def Die.applyService (d : Die) (c : Cmd) : Die :=
  match c.op with
  | 0x0402 => (d.setRf Reg.DMC_TRAIN_CFG 15 0 (c.arg 0 2)).setRf Reg.DMC_TRAIN_CFG 19 16 (c.arg 2 1)
  | 0x0501 =>
    let p := c.arg 0 1
    if d.camPortBusy p then d.setCmd c .atTick [stIllegal]
    else
      let f := d.fresh
      let d1 : Die := { f.2 with ife := { f.2.ife with rates := SMap.put (fun _ => 0) f.2.ife.rates p (c.arg 4 2) } }
      d1.setReg (Reg.IFE_PORT_STAT p) (BitVec.ofNat 32 (c.arg 2 1 % 16 + c.arg 1 1 * 16 + Config.pick f.1 % 2 * 32))
  | 0x0602 => d.setId c
  | 0x0603 => d.setRoutes c
  | 0x0604 => d.portLeaves c
  | _ => d

end Sys2Proof.Machine
end

