-- ==== Sys2Proof/Machine/Registers.lean ====
section
/-! DEFINITION. Host accesses: which words exist, what they read as, how writes act on them, doorbells, and what of it
answers while the die sleeps (chapter 21; R6, R371, R416, R419, R483 to R490, and the range rules of each block). -/

namespace Sys2Proof.Machine

/-! ### Addresses (R483 to R485) -/

/-- Index of a word in an array of words. -/
def wordIdx (base stride count a : Nat) : Option Nat :=
  if base ≤ a ∧ (a - base) % stride = 0 ∧ (a - base) / stride < count then some ((a - base) / stride) else none

/-- Whether a word of a dump window holds dump data (Table 19.9, R461). -/
def dumpNamed (o : Nat) : Bool := decide (o < 0x100) || (decide (0x1000 ≤ o) && decide (o < 0x2000)) || decide (0x10000 ≤ o)

/-- Whether a table names the word at an address (R485). -/
def namedWord (a : Nat) : Bool :=
  (regRow a).isSome && !(decide (0x1080000 ≤ a) && decide (a < 0x1100000) && !dumpNamed ((a - 0x1080000) % 0x20000))

/-- The address of a word of a BAR; none outside the BAR or where no table names a word. -/
def wordAddr (bar2 : Bool) (off : Nat) : Option Nat :=
  if bar2 then (if off < 0x400000 ∧ namedWord (0x4000000 + off) then some (0x4000000 + off) else none)
  else if off < 0x4000000 ∧ namedWord off then some off else none

/-- An access is refused: it is flagged, recorded and counted (R484, R485, R490). -/
def Die.refuse (d : Die) (bar2 write : Bool) (off bit : Nat) : Die :=
  ((d.setReg Reg.GLB_ERR_ADDR (BitVec.ofNat 32 ((if write then 2 ^ 31 else 0) + (if bar2 then 2 ^ 30 else 0) + off % 2 ^ 26))).count
    Reg.GLB_ERR_COUNT 1).err Reg.GLB_ERR bit

/-! ### The state as registers show it -/

/-- A word from its 32 bits. -/
def bitsWord (p : Nat → Bool) : Word :=
  BitVec.ofNat 32 ((List.range 32).foldl (fun n j => n + if p j then 2 ^ j else 0) 0)

/-- KLN_STAT (Table 4.11). -/
def Die.klnStat (d : Die) : Word :=
  let k := d.kiln
  let shadow := match k.shadowState with
    | .empty => 0
    | .filling => 1
    | .full => 2
    | .releasing => 3
  let poison := fun (p : Option Plane) => match p with
    | some x => x.poison.toNat
    | none => 0
  BitVec.ofNat 32 (k.swapsOwed % 2 ^ 13 * 2 ^ 12 + k.gated.toNat * 2 ^ 11 + (!k.finishing.isEmpty).toNat * 2 ^ 10 +
    k.issuing.isSome.toNat * 2 ^ 9 + k.priming.isSome.toNat * 2 ^ 8 + poison k.active * 2 ^ 6 + k.active.isSome.toNat * 2 ^ 4 +
    poison k.shadow * 2 ^ 3 + shadow)

/-- Opcode of the descriptor of a class that executes, 0 for none. -/
def Die.opIn (d : Die) (c : Nat) : Nat :=
  match d.inClass c with
  | [] => 0
  | e :: _ => opcodeOf e.desc

/-- WHL_STAT (Table 7.9). -/
def Die.whlStat (d : Die) : Word :=
  BitVec.ofNat 32 ((if (d.reg Reg.WHL_SPARE_STAT).b 5 then 15 else 16) * 2 ^ 17 + d.prefetching.toNat * 2 ^ 16 + d.opIn 100 * 2 ^ 8 +
    d.opIn 101)

/-- GLZ_STAT (Table 6.9). -/
def Die.glzStat (d : Die) : Word := BitVec.ofNat 32 ((!(d.inClass 106).isEmpty).toNat * 2 ^ 8 + d.opIn 106)

/-- SCH_SB_STAT (Table 9.7). -/
def Die.sbStat (d : Die) : Word := BitVec.ofNat 32 (d.tenantInFlight 64 * 2 ^ 16 + d.sb.length)

/-- QUE_SRV_GSTAT (Table 11.11). -/
def Die.gstat (d : Die) (g : Nat) : Word :=
  let x := d.grp g
  BitVec.ofNat 32 (x.inStep.toNat * 2 ^ 31 + x.rows.length % 128 * 2 ^ 24 + x.wait.length % 256 * 2 ^ 16 +
    (x.inStep && x.rows.any fun r => r.2.overdue).toNat)

/-- TIR_MDL_STAT (Table 13.8). -/
def Die.mdlStat (d : Die) (m : Nat) : Word :=
  let x := d.model m
  BitVec.ofNat 32 (x.state % 8 * 2 ^ 29 + x.isSealed.toNat * 2 ^ 28 + x.keep.toNat * 2 ^ 27 + (x.home - 2) % 8 * 2 ^ 24 +
    x.dies % 256 * 2 ^ 16 + x.key % 256 * 2 ^ 8 + min 255 x.damaged.length)

/-- SGR_STAT (Table 18.6). -/
def Die.sgrStat (d : Die) : Word :=
  ((d.reg Reg.SGR_STAT).setF 5 0 (d.confMode.toNat * 32 + d.offerOpen.toNat * 16 + min 8 d.openSessions.length))

/-- The read-only words of a model slot (Table 13.7), by their place in it. -/
def Die.mdlWord (d : Die) (m k : Nat) : Option Word :=
  let x := d.model m
  match k with
  | 0 => some (d.mdlStat m)
  | 1 => some (BitVec.ofNat 32 (x.id % 2 ^ 32))
  | 2 => some (BitVec.ofNat 32 (x.id / 2 ^ 32))
  | 3 => some (BitVec.ofNat 32 x.base)
  | 4 => some (BitVec.ofNat 32 x.pages)
  | 5 => some (BitVec.ofNat 32 (x.refs % 65536))
  | 7 => some (BitVec.ofNat 32 (x.damaged.foldl min 0xFFFFFFFF))
  | _ => none

/-- A word of a doorbell page that shows state: DB_ALLOW and DB_INFLIGHT (Table 10.5). -/
def Die.pageWord (d : Die) (t o : Nat) : Option Word :=
  if d.pageLive t = false then some 0#32
  else if o = 0x10 then some (d.reg (Reg.SCH_TEN_ALLOW t))
  else if o = 0x14 then some (BitVec.ofNat 32 (d.tenantInFlight t))
  else none

/-- A word of a crash dump, zero while the window holds none (R461). -/
def Die.dumpView (d : Die) (a : Nat) : Word :=
  let p := (a - 0x1080000) / 0x20000
  if (d.reg (Reg.FWP_DUMP_STAT p)).b 0 then Config.dumpWord (SMap.get (fun _ => 0) d.fw.dumps p) ((a - 0x1080000) % 0x20000)
  else 0#32

/-- The words of the SCHED and QUEUE blocks that show state. -/
def Die.viewSched (d : Die) (a : Nat) : Option Word :=
  if a = Reg.SCH_FIRING_LO then some (BitVec.ofNat 32 d.firing)
  else if a = Reg.SCH_FIRING_HI then some (SMap.get (fun _ => 0#32) d.latch a)
  else if a = Reg.SCH_SB_STAT then some d.sbStat
  else if a = Reg.SCH_SB_HIGH then some (BitVec.ofNat 32 (max (d.rf a 12 0) d.sb.length % 2 ^ 13))
  else if a = Reg.SCH_DM_STAT then some (bitsWord fun c => (d.inClass 107).any fun e => e.lane == c)
  else match wordIdx (Reg.QUE_TEN_INFLIGHT 0) 64 65 a with
    | some t => some (BitVec.ofNat 32 (d.tenantInFlight t))
    | none => (wordIdx (Reg.QUE_SRV_GSTAT 0) 32 16 a).map d.gstat

/-- The words of the compute blocks that show state. -/
def Die.viewUnits (d : Die) (a : Nat) : Option Word :=
  if a = Reg.KLN_STAT then some d.klnStat
  else if a = Reg.WHL_STAT then some d.whlStat
  else if a = Reg.GLZ_STAT then some d.glzStat
  else if a = Reg.PUG_STAT then some (BitVec.ofNat 32 ((!(d.inClass 103).isEmpty).toNat * 2 + (!(d.inClass 102).isEmpty).toNat))
  else (wordIdx (Reg.KLN_OWED 0) 4 64 a).map fun i => bitsWord fun j => d.kiln.owed.contains (32 * i + j)

/-- The words of the TIER, IFE, LINK and GLOBAL blocks that show state. -/
def Die.viewTier (d : Die) (a : Nat) : Option Word :=
  if a = Reg.GLB_REFCLK_LO then some (BitVec.ofNat 32 d.refclk)
  else if a = Reg.LNK_FTIME_LO then some (BitVec.ofNat 32 d.ftime)
  else if a = Reg.GLB_REFCLK_HI ∨ a = Reg.LNK_FTIME_HI then some (SMap.get (fun _ => 0#32) d.latch a)
  else if a = Reg.TIR_PARK_USED then some (BitVec.ofNat 32 d.tier.parks.length)
  else if Reg.TIR_MDL_STAT 0 ≤ a ∧ a < Reg.TIR_MDL_STAT 32 then
    d.mdlWord ((a - Reg.TIR_MDL_STAT 0) / 32) ((a - Reg.TIR_MDL_STAT 0) % 32 / 4)
  else match wordIdx (Reg.TIR_RES_RESIDENT 0) 32 1024 a with
    | some g => some (BitVec.ofNat 32 (d.resident g))
    | none => (wordIdx (Reg.IFE_CTX_STAT 0) 128 4 a).map d.ifeStat

/-- The words of the SAGGAR, FWP and RAS blocks that show state. -/
def Die.viewFirmware (d : Die) (a : Nat) : Option Word :=
  if a = Reg.SGR_STAT then some d.sgrStat
  else if a = Reg.SGR_ROLLBACK then some (BitVec.ofNat 32 (d.runningSvn * 256 + d.nv.rollback))
  else if a = Reg.SGR_KEYS_LO then some (bitsWord fun t => d.keyGen t != 0)
  else if a = Reg.SGR_KEYS_HI then some (bitsWord fun t => d.keyGen (32 + t) != 0)
  else if a = Reg.SGR_KEYS_SYS then some (BitVec.ofNat 32 ((d.keyGen 0x40 != 0).toNat + (d.keyGen 0x7F != 0).toNat * 2))
  else if a = Reg.SGR_MODEL_KEYS then some (bitsWord fun s => (d.modelKey s).isSome)
  else if a = Reg.RAS_STAT then some (BitVec.ofNat 32 d.trackUsed.length)
  else if a = Reg.RAS_IRQ_STAT then some (bitsWord fun s => decide (s < 18) && d.pendingSrc s)
  else if 0x1080000 ≤ a ∧ a < 0x1100000 then some (d.dumpView a)
  else none

/-- The value a word shows (R6, R485, R486). DESIGN CHOICE: the _LO half of an RW pair shows the value in force, not one
that is held for its _HI write (log entry 45). -/
def Die.viewReg (d : Die) (a : Nat) : Word :=
  let special := if 0x4000000 ≤ a then d.pageWord ((a - 0x4000000) / 65536) (a % 65536)
    else match a / 0x100000 with
    | 0 => d.viewTier a
    | 1 => d.viewSched a
    | 2 => d.viewSched a
    | 4 => d.viewUnits a
    | 5 => d.viewUnits a
    | 7 => d.viewUnits a
    | 8 => d.viewUnits a
    | 9 => d.viewTier a
    | 12 => d.viewTier a
    | 13 => d.viewTier a
    | 15 => d.viewFirmware a
    | 16 => d.viewFirmware a
    | 17 => d.viewFirmware a
    | _ => none
  special.getD (d.reg a)

/-! ### Reads (R6, R484 to R487) -/

/-- The _HI words that a read latches, and the high halves they take (R487). -/
def Die.latchOf (d : Die) (a : Nat) : Option (Nat × Nat) :=
  if a = Reg.SCH_FIRING_LO then some (Reg.SCH_FIRING_HI, d.firing)
  else if a = Reg.GLB_REFCLK_LO then some (Reg.GLB_REFCLK_HI, d.refclk)
  else if a = Reg.LNK_FTIME_LO then some (Reg.LNK_FTIME_HI, d.ftime)
  else none

/-- What reading a word does beside showing it: RC fields clear, SCH_SB_HIGH starts again from the occupancy of now, and a
latching _LO latches its _HI. A dead doorbell page shows zeros and clears nothing. -/
def Die.afterRead (d : Die) (a : Nat) : Die :=
  let d1 := match d.latchOf a with
    | some p => { d with latch := SMap.put (fun _ => 0#32) d.latch p.1 (BitVec.ofNat 32 (p.2 / 2 ^ 32)) }
    | none => d
  if 0x4000000 ≤ a ∧ d.pageLive ((a - 0x4000000) / 65536) = false then d1
  else if a = Reg.SCH_SB_HIGH then d1.setReg a (BitVec.ofNat 32 (d.sb.length % 2 ^ 13))
  else match regRow a with
    | some r => if r.rc = 0#32 then d1 else d1.setReg a (d1.reg a &&& ~~~r.rc)
    | none => d1

/-- Whether a word answers while the die sleeps (R419). -/
def awakeBlock (a : Nat) : Bool := decide (a < 0x100000) || a / 0x100000 == 14 || a / 0x100000 == 16

/-- A 4-byte read. -/
def Die.readOne (d : Die) (bar2 : Bool) (off : Nat) : Word × Die :=
  let a := if bar2 then 0x4000000 + off else off
  if d.asleep && !awakeBlock a then (0#32, d.err Reg.DMP_ERR Bit.DMP_ERR_ASLEEP)
  else match wordAddr bar2 off with
    | none => (0#32, d.refuse bar2 false off Bit.GLB_ERR_UNMAPPED)
    | some w => (d.viewReg w, d.afterRead w)

/-- Whether an access has a legal width and alignment (R484). -/
def accessLegal (off size : Nat) : Bool := (size == 4 || size == 8) && off % 4 == 0

/-- A host read, its data left on the bus. An 8-byte read is two 4-byte reads, the lower address first. -/
def Die.hostRead (d : Die) (bar2 : Bool) (off size : Nat) : Die :=
  if accessLegal off size then
    let p := d.readOne bar2 off
    let q := if size = 8 then p.2.readOne bar2 (off + 4) else (0#32, p.2)
    { q.2 with bus := BitVec.ofNat 64 (p.1.toNat + q.1.toNat * 2 ^ 32) }
  else { d.refuse bar2 false off Bit.GLB_ERR_WIDTH with bus := 0#64 }

/-- The _LO word of a latching pair. -/
def pairLo : LatchPair → Nat
  | .refclk => Reg.GLB_REFCLK_LO
  | .firing => Reg.SCH_FIRING_LO
  | .ftime => Reg.LNK_FTIME_LO

/-- LATCHED_PAIR_READ: a read of a latching _LO, or of the pair at once. -/
def Die.latchedRead (d : Die) (pair : LatchPair) (wide : Bool) : Die := d.hostRead false (pairLo pair) (if wide then 8 else 4)

/-! ### Doorbells (R232 to R236, R416, R419) -/

/-- Tenant record of a doorbell page: 64 for the management context (R235). -/
def dbIndex : DbPage → Nat
  | .page t => t.toNat
  | .mgmt => 64

/-- Whether a doorbell write reaches its record: the page is live; the management doorbells beside QUE_MGMT_ADD do not
answer in DOZE and SLEEP. -/
def Die.doorbell (d : Die) (i : Nat) (always : Bool) (f : Die → Die) : Die :=
  if i < 64 then (if d.pageLive i then f (d.wakeEvent 0) else d.wakeEvent 0)
  else if always then f (d.wakeEvent 0)
  else if d.asleep then d.err Reg.DMP_ERR Bit.DMP_ERR_ASLEEP
  else f d

/-- DB_ADD: slots are added to a queue, or the write is dropped. -/
def Die.doorbellAdd (d : Die) (i : Nat) (v : Word) : Die := d.doorbell i true fun d1 => d1.dbAdd i (v.f 19 0) (v.f 31 20)

/-- DB_RELEASE: records are released, or the write is dropped. -/
def Die.doorbellRelease (d : Die) (i : Nat) (v : Word) : Die := d.doorbell i false fun d1 => d1.dbRelease i (v.f 19 0) (v.f 31 20)

/-- DB_FLUSH: a queue is flushed, or the write is dropped. -/
def Die.doorbellFlush (d : Die) (i : Nat) (v : Word) : Die := d.doorbell i false fun d1 => d1.dbFlush i (v.f 19 0)

/-! ### Writes (R6, R486, R487) -/

/-- A host write that answers only while the die is awake (R419). -/
def Die.awake (d : Die) (f : Die → Die) : Die := if d.asleep then d.err Reg.DMP_ERR Bit.DMP_ERR_ASLEEP else f d

/-- Something from outside that the die does not hear in DOZE and SLEEP, whose image front end is off (R415). -/
def Die.whileAwake (d : Die) (f : Die → Die) : Die := if d.asleep then d else f d

/-- A register word after a write: RW bits take it, and W1C bits clear where it has a 1 (R6). -/
def writtenWord (r : RegRow) (old v : Word) : Word := ((old &&& ~~~r.rw) ||| (v &&& r.rw)) &&& ~~~(v &&& r.w1c)

/-- A write with no effect beyond the word. -/
def Die.plain (d : Die) (a : Nat) (v : Word) : Die :=
  match regRow a with
  | some r => d.setReg a (writtenWord r (d.reg a) v)
  | none => d

/-- A write that is ignored, with a flag, unless a condition holds. -/
def Die.plainIf (d : Die) (ok : Bool) (a : Nat) (v : Word) (flag bit : Nat) : Die := if ok then d.plain a v else d.err flag bit

/-- A write to the _LO half of an RW pair is held (R487). -/
def Die.holdLo (d : Die) (a : Nat) (v : Word) : Die :=
  match regRow a with
  | some r => { d with heldLo := SMap.put d.reg d.heldLo a (v &&& r.rw) }
  | none => d

/-- A write to the _HI half at `a` takes the held _LO half with it (R487). -/
def Die.takePair (d : Die) (a : Nat) (v : Word) : Die :=
  let lo := SMap.get d.reg d.heldLo (a - 4)
  (({ d with heldLo := d.heldLo.filter fun kv => kv.1 != a - 4 }).setReg (a - 4) lo).plain a v

/-- A word of an RW pair that starts at `lo`, under a condition; a refused write is ignored, with a flag when there is
one. -/
def Die.writePair (d : Die) (lo a : Nat) (v : Word) (ok : Bool) (flag : Option (Nat × Nat)) : Die :=
  if !ok then
    match flag with
    | some f => d.err f.1 f.2
    | none => d
  else if a = lo then d.holdLo a v
  else d.takePair a v

/-- Whether an address is a word of the pair at `lo`. -/
def inPair (lo a : Nat) : Bool := a == lo || a == lo + 4

/-! ### The tick as registers know it (R201 to R204, R218) -/

/-- Whether ticks run: firmware has brought the die up, and the die is not asleep (R413, R450). A die that ran before it
FAILED goes on ticking (R19, R464). -/
def Die.ticksRun (d : Die) : Bool :=
  !d.asleep && !(d.fwState == fwBoot || d.fwState == fwHostWait || (d.fwState == fwFailed && d.firing == 0))

/-- SOURCE in force. -/
def Die.tickSource (d : Die) : Nat := d.rf Reg.SCH_TICK_CFG 1 0

/-- PERIOD in force. -/
def Die.tickPeriod (d : Die) : Nat := d.rf Reg.SCH_TICK_PERIOD 25 0

/-- Reference cycles since the last tick. -/
def Die.sinceTick (d : Die) : Nat := d.refclk - d.sched.lastTick

/-- Whether a source event merges into the tick before it: less than 10 µs have passed (R203). -/
def Die.tooSoon (d : Die) : Bool := decide (d.sinceTick < 384)

/-- A tick falls. -/
def Die.askTick (d : Die) (n source : Nat) (fallback : Bool) (sense : Sense) (instant : Nat) : Die :=
  { d with sched := { d.sched with
    late := some ⟨n, source, fallback, sense, instant⟩
    camTick := if source = 1 then none else d.sched.camTick } }

/-- A host write of 1 to TICK makes a tick under SOURCE 2 (R201, R203). -/
def Die.hostTick (d : Die) (sense : Sense) : Die :=
  if d.tickSource ≠ 2 ∨ d.ticksRun = false then d
  else if d.tooSoon then d.count Reg.SCH_TICK_MERGED 1
  else d.askTick (d.firing + 1) 2 false sense d.refclk

/-- Physical quantities no command brings: free values (log entry 13). -/
def Die.freeSense (d : Die) : Sense × Die :=
  let k := d.fresh
  let w := fun (i : Nat) => BitVec.ofNat 16 (Config.pick k.1 >>> (16 * i))
  (⟨w 0, (List.range 8).map fun i => w (i + 1)⟩, k.2)

/-! ### SCHED and QUEUE -/

/-- A write in SCHED (R174, R175, R199, R209, R218). A tick it makes measures free values; the row HOST_TICK_WRITE gives
them. -/
def Die.writeSched (d : Die) (a : Nat) (v : Word) : Die :=
  if Reg.SCH_EVENT 0 ≤ a then d.schEventWrite (BitVec.ofNat 16 ((a - Reg.SCH_EVENT 0) / 4)) v
  else if Reg.SCH_EVT_POISON 0 ≤ a then d.schEvtPoisonClear (BitVec.ofNat 11 ((a - Reg.SCH_EVT_POISON 0) / 4)) v
  else if a = Reg.SCH_EVENT_INC then d.schEventInc v
  else if a = Reg.SCH_TICK_NOW then (if v.b 0 then d.freeSense.2.hostTick d.freeSense.1 else d)
  else if a = Reg.SCH_DM_CTRL then (if v.b 16 then d.dmReset else d)
  else if a = Reg.SCH_ADMIT_CFG then d.plain a (v.setF 26 16 (min 1024 (v.f 26 16)))
  else d.plain a v

/-- Whether a group has a live request: in a row, in its wait list, or with its END entry still to be written (R241, R268). -/
def Die.groupLive (d : Die) (g : Nat) : Bool :=
  !(d.grp g).rows.isEmpty || !(d.grp g).wait.isEmpty ||
    (List.range 65).any fun i => (d.endsOwed i).any fun e => bytesAt e 12 1 == g

/-- A serving write is ignored: the fault names a group and a tenant code (Table 11.9, R268). -/
def Die.srvIgnored (d : Die) (g code : Nat) : Die :=
  (d.setReg Reg.QUE_SRV_ERR_INFO (BitVec.ofNat 32 (g + code % 128 * 16))).err Reg.QUE_SRV_ERR Bit.QUE_SRV_ERR_CFG

/-- A serving write that is ignored unless a condition holds. DESIGN CHOICE: a group's fault names the management context as
its tenant, and a ring's fault group 0 (log entry 48). -/
def Die.srvPlain (d : Die) (ok : Bool) (a : Nat) (v : Word) (g code : Nat) : Die := if ok then d.plain a v else d.srvIgnored g code

/-- Whether a word may be written to QUE_SRV_GCFG0 (Table 11.10, R268). -/
def Die.gcfg0Ok (d : Die) (g : Nat) (v : Word) : Bool :=
  decide (1 ≤ v.f 27 20) && decide (v.f 27 20 ≤ 253) && decide (1 ≤ v.f 6 0) && decide (v.f 6 0 ≤ 64) &&
    (!v.b 30 || ((v.f 29 28 == 1 || v.f 29 28 == 2) && decide (1 ≤ d.rf (Reg.QUE_SRV_GCFG3 g) 26 0))) &&
    !((d.reg (Reg.QUE_SRV_GCFG0 g)).b 31 && !v.b 31 && d.groupLive g)

/-- Whether a word may be written to QUE_SRV_GCFG1 to QUE_SRV_GCFG3 (Table 11.9, R268), by the register's number. -/
def Die.gcfgOk (d : Die) (g k : Nat) (v : Word) : Bool :=
  !(d.reg (Reg.QUE_SRV_GCFG0 g)).b 31 &&
    (if k = 1 then decide (v.f 16 0 < shelfRows)
     else if k = 3 then decide (v.f 26 0 ≤ 86400000) && (!(d.reg (Reg.QUE_SRV_GCFG0 g)).b 30 || v.f 26 0 != 0)
     else true)

/-- Whether a word may be written to QUE_SRV_RCFG (Table 11.9). -/
def Die.rcfgOk (d : Die) (t : Nat) (v : Word) : Bool :=
  (!(d.reg (Reg.QUE_SRV_RCFG t)).b 31 || !v.b 31) && decide (6 ≤ v.f 4 0) && decide (v.f 4 0 ≤ 20)

/-- A write to a serving group's words. -/
def Die.writeGroup (d : Die) (g k a : Nat) (v : Word) : Die :=
  match k with
  | 0 => d.srvPlain (d.gcfg0Ok g v) a v g mgmtCode
  | 1 => d.srvPlain (d.gcfgOk g 1 v) a v g mgmtCode
  | 2 => d.srvPlain (d.gcfgOk g 2 v) a v g mgmtCode
  | 3 => d.srvPlain (d.gcfgOk g 3 v) a v g mgmtCode
  | 4 => d.servingAbort (BitVec.ofNat 4 g) (v.b 0)
  | _ => d.plain a v

/-- A write to a result ring's words: RBASE, RCFG and RHEAD. -/
def Die.writeRing (d : Die) (t k a : Nat) (v : Word) : Die :=
  match k with
  | 0 => d.holdLo a v
  | 1 => d.takePair a v
  | 2 => d.srvPlain (d.rcfgOk t v) a v 0 (tenantCode t)
  | 3 => d.holdLo a v
  | 4 => d.takePair a v
  | _ => d.plain a v

/-- A QUE_CMD write (Table 10.4). -/
def Die.queCmd (d : Die) (v : Word) : Die :=
  let q := BitVec.ofNat 20 (v.f 19 0)
  match v.f 31 28 with
  | 1 => d.queCreate q
  | 2 => d.queModify q
  | 3 => d.queRead q
  | 4 => d.queDestroy q
  | _ => d.queTake fun d1 => d1.queResult 2

/-- A write in QUEUE (R230, R235, R240, R268). -/
def Die.writeQueue (d : Die) (a : Nat) (v : Word) : Die :=
  if a = Reg.QUE_CMD then d.queCmd v
  else if a = Reg.QUE_MGMT_ADD then d.doorbellAdd 64 v
  else if a = Reg.QUE_MGMT_RELEASE then d.doorbellRelease 64 v
  else if a = Reg.QUE_MGMT_FLUSH then d.doorbellFlush 64 v
  else if inPair Reg.QUE_SRV_AREA_LO a then
    if (List.range 16).any fun g => (d.reg (Reg.QUE_SRV_GCFG0 g)).b 31 then d.srvIgnored 0 mgmtCode
    else d.writePair Reg.QUE_SRV_AREA_LO a v true none
  else if Reg.QUE_SRV_GCFG0 0 ≤ a ∧ a < Reg.QUE_SRV_GCFG0 16 then
    d.writeGroup ((a - Reg.QUE_SRV_GCFG0 0) / 32) ((a - Reg.QUE_SRV_GCFG0 0) % 32 / 4) a v
  else if Reg.QUE_SRV_RBASE_LO 0 ≤ a ∧ a < Reg.QUE_SRV_RBASE_LO 65 then
    d.writeRing ((a - Reg.QUE_SRV_RBASE_LO 0) / 32) ((a - Reg.QUE_SRV_RBASE_LO 0) % 32 / 4) a v
  else d.plain a v

/-- A write to a doorbell page (R233). -/
def Die.writePage (d : Die) (a : Nat) (v : Word) : Die :=
  let t := (a - 0x4000000) / 65536
  match a % 65536 with
  | 0 => d.doorbellAdd t v
  | 4 => d.doorbellRelease t v
  | 8 => d.doorbellFlush t v
  | _ => d

/-! ### Compute units and Shelves -/

/-- A write in KILN (Table 4.9). A GATE_IDLE below 16 is ignored, with the flag; RESET acts. -/
def Die.writeKiln (d : Die) (a : Nat) (v : Word) : Die :=
  if a = Reg.KLN_CTRL then
    let d1 := d.plainIf (decide (16 ≤ v.f 11 0)) a v Reg.KLN_ERR Bit.KLN_ERR_CONFIG
    if v.b 16 then d1.kilnReset else d1
  else if a = Reg.KLN_OWED_RELEASE then d.klnOwedRelease v
  else d.plain a v

/-- A write in PUG (Table 5.7). -/
def Die.writePug (d : Die) (a : Nat) (v : Word) : Die :=
  if a = Reg.PUG_CTRL then
    let d1 := d.plainIf (decide (1 ≤ v.f 6 0) && decide (v.f 6 0 ≤ 64)) a v Reg.PUG_ERR Bit.PUG_ERR_CONFIG
    if v.b 16 then d1.pugReset else d1
  else d.plain a v

/-- A write to SHF_SLOT_CTRL: DECLARED set or cleared, else READERS (R59, R62). DESIGN CHOICE: a refused declaration drops
the READERS written with it, and a write without a declaration stores READERS 0 as it stands (log entry 20). -/
def Die.writeSlotCtrl (d : Die) (n : Nat) (v : Word) : Die :=
  if v.b 0 ∧ d.slotDeclared n = false then d.slotDeclare (BitVec.ofNat 10 n) v
  else if v.b 0 = false ∧ d.slotDeclared n then d.slotRelease (BitVec.ofNat 10 n) v
  else d.setRf (Reg.SHF_SLOT_CTRL n) 11 8 (v.f 11 8)

/-- A write in SHELF (Table 3.6). -/
def Die.writeShelf (d : Die) (a : Nat) (v : Word) : Die :=
  match wordIdx (Reg.SHF_BANK_CFG 0) 4 88 a with
  | some b => d.shfBankCfgWrite (BitVec.ofNat 7 b) v
  | none =>
    if a = Reg.SHF_SCRUB_CFG then (if v.f 15 0 ≤ 60000 then d.plain a v else d)
    else match wordIdx (Reg.SHF_SLOT_RANGE 0) 8 1024 a with
      | some n => d.shfSlotRangeWrite (BitVec.ofNat 10 n) v
      | none =>
        match wordIdx (Reg.SHF_SLOT_CTRL 0) 8 1024 a with
        | some n => d.writeSlotCtrl n v
        | none => d.plain a v

/-! ### Memory -/

/-- TIR_CTRL.EN. -/
def Die.tierOn (d : Die) : Bool := (d.reg Reg.TIR_CTRL).b 0

/-- A TIR_CMD write (Table 12.4). -/
def Die.tirCmd (d : Die) (v : Word) : Die :=
  match v.f 31 28 with
  | 1 => d.tirSetdir
  | 2 => d.tirMap
  | 3 => d.tirUnmap
  | 4 => d.tirRead
  | _ => d.tirTake fun d1 => d1.tirResult 2

/-- Largest TIR_POOL_COUNT of a pool (Table 12.7). -/
def poolMax (p : Nat) : Nat := [2 ^ 20, 2 ^ 24, 2 ^ 25].getD p 0

/-- A write in TIER (Table 12.7). -/
def Die.writeTier (d : Die) (a : Nat) (v : Word) : Die :=
  if a = Reg.TIR_CTRL then
    let d1 := d.plain a v
    if v.b 16 then d1.tierReset else d1
  else if a = Reg.TIR_CMD then d.tirCmd v
  else if inPair Reg.TIR_PT_BASE_LO a then (d.writePair Reg.TIR_PT_BASE_LO a v (!d.tierOn) none).useTables d.ptBase
  else if inPair Reg.TIR_AREA_LO a then d.writePair Reg.TIR_AREA_LO a v (!d.tierOn) none
  else match wordIdx (Reg.TIR_POOL_FIRST 0) 4 6 a with
    | some i => if d.tierOn || (i % 2 == 1 && decide (poolMax (i / 2) < v.f 25 0)) then d else d.plain a v
    | none => d.plain a v

/-- A write in DMC (Table 14.5). -/
def Die.writeDmc (d : Die) (a : Nat) (v : Word) : Die :=
  let ok := if a = Reg.DMC_RH_CFG then decide (256 ≤ v.f 15 0)
    else if a = Reg.DMC_RH_WINDOW then decide (10 ≤ v.f 9 0) && decide (v.f 9 0 ≤ 640)
    else if a = Reg.DMC_SCRUB_CFG then decide (v.f 7 0 ≤ 168)
    else true
  d.plainIf ok a v Reg.DMC_ERR Bit.DMC_ERR_CONFIG

/-- A write in NFC (Table 14.8). -/
def Die.writeNfc (d : Die) (a : Nat) (v : Word) : Die :=
  if inPair Reg.NFC_MAP_BASE_LO a then
    d.writePair Reg.NFC_MAP_BASE_LO a v (!d.tierOn) (some (Reg.NFC_ERR, Bit.NFC_ERR_CONFIG))
  else
    let ok := if a = Reg.NFC_MAP_SIZE then !d.tierOn && decide (16 ≤ v.f 11 0)
      else if a = Reg.NFC_RD_LIMIT then decide (1000 ≤ v.f 23 0) && decide (v.f 23 0 ≤ 10000000)
      else if a = Reg.NFC_WL_SPREAD then decide (16 ≤ v.f 15 0)
      else true
    d.plainIf ok a v Reg.NFC_ERR Bit.NFC_ERR_CONFIG

/-! ### Image front end and link -/

/-- A write to the words of a sensor context (R339, R340, Table 15.13), by the word's place. -/
def Die.writeCtx (d : Die) (c k a : Nat) (v : Word) : Die :=
  let on := d.camOn c
  match k with
  | 0 =>
    if v.b 31 ∧ on = false then d.ifeCtxEnable (BitVec.ofNat 2 c) v
    else if v.b 31 = false ∧ on then d.ifeCtxDisable (BitVec.ofNat 2 c) v
    else d.plainIf (!on && decide (1 ≤ v.f 15 13) && decide (v.f 15 13 ≤ 4)) a v Reg.IFE_ERR Bit.IFE_ERR_CONFIG
  | 4 => d.writePair (Reg.IFE_CTX_SET_LO c) a v (!on) (some (Reg.IFE_ERR, Bit.IFE_ERR_CONFIG))
  | 5 => d.writePair (Reg.IFE_CTX_SET_LO c) a v (!on) (some (Reg.IFE_ERR, Bit.IFE_ERR_CONFIG))
  | 6 => d.plainIf (!on && decide (100 ≤ v.f 13 0)) a v Reg.IFE_ERR Bit.IFE_ERR_CONFIG
  | _ => d.plainIf (!on) a v Reg.IFE_ERR Bit.IFE_ERR_CONFIG

/-- Whether a word may be written to IFE_DN_CFG (Table 15.15). -/
def dnCfgOk (v : Word) : Bool :=
  decide (v.f 28 25 ≤ 8) && decide (2 ≤ v.f 24 19) && decide (v.f 24 19 ≤ 32) && decide (1 ≤ v.f 18 13) && decide (v.f 18 13 ≤ 32) &&
    decide (1 ≤ v.f 9 0) && decide (v.f 9 0 ≤ 1000)

/-- A write in IFE (Table 15.13). -/
def Die.writeIfe (d : Die) (a : Nat) (v : Word) : Die :=
  if a = Reg.IFE_CTRL then (if v.b 16 then d.ifeReset else d)
  else if inPair Reg.IFE_ISP_BASE_LO a then d.writePair Reg.IFE_ISP_BASE_LO a v true none
  else if a = Reg.IFE_DN_CFG then d.plainIf (dnCfgOk v) a v Reg.IFE_ERR Bit.IFE_ERR_CONFIG
  else if a = Reg.IFE_DN_SLOTS then
    d.plainIf (decide (2 ≤ v.f 23 20) && decide (v.f 23 20 ≤ 8)) a v Reg.IFE_ERR Bit.IFE_ERR_CONFIG
  else if Reg.IFE_CTX_CFG 0 ≤ a ∧ a < Reg.IFE_CTX_CFG 4 then
    d.writeCtx ((a - Reg.IFE_CTX_CFG 0) / 128) ((a - Reg.IFE_CTX_CFG 0) % 128 / 4) a v
  else d.plain a v

/-- A write to MSIX_CTRL: unmasking an entry whose pending bit is set sends its message and clears the bit (PRESUMED, from
PCI Express; R371 names the mask and the pending bits). -/
def Die.writeMsixCtrl (d : Die) (n : Nat) (v : Word) : Die :=
  let d1 := d.plain (Reg.MSIX_CTRL n) v
  let a := Reg.MSIX_PBA (n / 32)
  if v.b 0 = false ∧ (d1.reg a).b (n % 32) then (d1.setReg a (d1.reg a &&& ~~~(Word.oneBit (n % 32)))).sendMsix n else d1

/-- A write in LINK (R370, R371, R397, Table 16.8). -/
def Die.writeLink (d : Die) (a : Nat) (v : Word) : Die :=
  if a = Reg.LNK_CTRL then (if v.b 16 then d.linkReset else d)
  else if inPair Reg.LNK_CONF_BASE_LO a then
    d.writePair Reg.LNK_CONF_BASE_LO a v (!d.confMode) (some (Reg.LNK_ERR, Bit.LNK_ERR_CONFIG))
  else if inPair Reg.LNK_CONF_TAG_LO a then
    d.writePair Reg.LNK_CONF_TAG_LO a v (!d.confMode) (some (Reg.LNK_ERR, Bit.LNK_ERR_CONFIG))
  else match wordIdx (Reg.MSIX_CTRL 0) 16 2112 a with
    | some n => d.writeMsixCtrl n v
    | none =>
      let ok := if a = Reg.LNK_FAB_CFG then decide (100 ≤ v.f 15 0) && decide (200 ≤ v.f 31 16)
        else if a = Reg.LNK_HOST_CFG then decide (1 ≤ v.f 15 0)
        else if a = Reg.LNK_CONF_UNITS then !d.confMode
        else true
      d.plainIf ok a v Reg.LNK_ERR Bit.LNK_ERR_CONFIG

/-! ### Damper, firmware and RAS -/

/-- A write in DAMPER (Table 17.6). -/
def Die.writeDamper (d : Die) (a : Nat) (v : Word) : Die :=
  if a = Reg.DMP_WAKE then d.dmpWake v
  else
    let ok := if a = Reg.DMP_DROOP_CFG then decide (20 ≤ v.f 7 0) && decide (v.f 7 0 ≤ 150) && decide (8 ≤ v.f 15 8)
      else if a = Reg.DMP_IDLE_CFG then decide (1 ≤ v.f 15 0)
      else true
    d.plainIf ok a v Reg.DMP_ERR Bit.DMP_ERR_CONFIG

/-- A write in FWP (Table 19.9). What strikes memory while an image is read comes with the row HOST_IMAGE_LOAD. -/
def Die.writeFwp (d : Die) (a : Nat) (v : Word) : Die :=
  if a = Reg.FWP_RING_CFG then d.fwpRingCfgWrite v
  else if a = Reg.FWP_CMD_TAIL then d.fwpCmdTailWrite v
  else if a = Reg.FWP_RECOVERY_LEN then d.hostImageLoad v ⟨[], 0⟩
  else if inPair Reg.FWP_CMD_BASE_LO a then d.writePair Reg.FWP_CMD_BASE_LO a v true none
  else if inPair Reg.FWP_RPL_BASE_LO a then d.writePair Reg.FWP_RPL_BASE_LO a v true none
  else if inPair Reg.FWP_RECOVERY_LO a then d.writePair Reg.FWP_RECOVERY_LO a v true none
  else d.plain a v

/-- A write in RAS (R480, R482, Table 20.7). Enabling a source whose flag is set makes it pending. -/
def Die.writeRas (d : Die) (a : Nat) (v : Word) : Die :=
  if a = Reg.RAS_IRQ_EN then d.irqAfter (d.plain a v)
  else
    let ok := if a = Reg.RAS_LASTING_CFG then
        decide (1 ≤ v.f 15 8) && decide (v.f 15 8 ≤ 168) && decide (2 ≤ v.f 3 0)
      else if a = Reg.RAS_SELFTEST_CFG then decide (v.f 10 0 ≤ 1440)
      else true
    d.plainIf ok a v Reg.RAS_ERR Bit.RAS_ERR_CONFIG

/-! ### The router -/

/-- A write to a named word. -/
def Die.writeWord (d : Die) (a : Nat) (v : Word) : Die :=
  if 0x4000000 ≤ a then d.writePage a v
  else match a / 0x100000 with
  | 1 => d.writeSched a v
  | 2 => d.writeQueue a v
  | 4 => d.writeKiln a v
  | 5 => if a = Reg.WHL_CTRL then (if v.b 16 then d.wheelReset else d) else d.plain a v
  | 6 => d.writeShelf a v
  | 7 => d.writePug a v
  | 8 => if a = Reg.GLZ_CTRL then (if v.b 16 then d.glazeReset else d) else d.plain a v
  | 9 => d.writeTier a v
  | 10 => d.writeDmc a v
  | 11 => d.writeNfc a v
  | 12 => d.writeIfe a v
  | 13 => d.writeLink a v
  | 14 => d.writeDamper a v
  | 16 => d.writeFwp a v
  | 17 => d.writeRas a v
  | _ => d.plain a v

/-- Whether a doorbell word acts in DOZE and SLEEP (R416, R419). -/
def isDoorbell (a : Nat) : Bool :=
  a == Reg.QUE_MGMT_ADD || (decide (0x4000000 ≤ a) && decide (a < 0x4400000) && decide (a % 65536 < 12))

/-- A 4-byte write. -/
def Die.writeOne (d : Die) (bar2 : Bool) (off : Nat) (v : Word) : Die :=
  let a := if bar2 then 0x4000000 + off else off
  if d.asleep && !awakeBlock a && !isDoorbell a then d.err Reg.DMP_ERR Bit.DMP_ERR_ASLEEP
  else match wordAddr bar2 off with
    | none => d.refuse bar2 true off Bit.GLB_ERR_UNMAPPED
    | some w => d.writeWord w v

/-- REGISTER_WRITE: a host write of 4 or 8 bytes; 8 bytes are two 4-byte writes, the lower address first (R484). -/
def Die.hostWrite (d : Die) (bar2 : Bool) (off size : Nat) (data : BitVec 64) : Die :=
  if accessLegal off size then
    let d1 := d.writeOne bar2 off (data.setWidth 32)
    if size = 8 then d1.writeOne bar2 (off + 4) ((data >>> 32).setWidth 32) else d1
  else d.refuse bar2 true off Bit.GLB_ERR_WIDTH

/-! ### Wake events from outside (R416) -/

/-- A fabric message addressed to the die wakes it: DST names it, or 7 with several dies. -/
def Die.heard (d : Die) (h : Hdr) : Die := if h.dst.toNat = d.dieId ∨ h.dst = 7#3 then d.wakeEvent 1 else d

/-- Whether a camera port is the port of the tick context (R416). -/
def Die.tickPort (d : Die) (port : Bool) : Bool :=
  d.rf Reg.SCH_TICK_CFG 1 0 == 1 && (d.reg (Reg.IFE_CTX_CFG (d.rf Reg.SCH_TICK_CFG 3 2))).b 29 == port

/-- CSI_FRAME_START: a Frame Start on the port of the tick context wakes the die; asleep, the frame is not taken in. -/
def Die.frameStart (d : Die) (port : Bool) (vc : BitVec 4) : Die :=
  let d1 := if d.tickPort port then d.wakeEvent 3 else d
  if d.asleep then d1 else d1.csiFrameStart port vc

/-! ### Fences (R477) -/

/-- Fence of a unit, and the opcodes it executes. -/
def resetFence : ResetUnit → Nat × (Nat → Bool)
  | .kiln => (Reg.KLN_FENCE, isKiln)
  | .wheel => (Reg.WHL_FENCE, isWheel)
  | .pug => (Reg.PUG_FENCE, isPug)
  | .glaze => (Reg.GLZ_FENCE, isGlaze)
  | .mover => (Reg.SCH_DM_FENCE, isMover)
  | .tier => (Reg.TIR_FENCE, isTier)
  | .ife => (Reg.IFE_FENCE, fun op => op == 0x90 || op == 0x91)
  | .link => (Reg.LNK_FENCE, fun op => op == 0xA0 || op == 0xA1)

/-- EPOCH_ADVANCE: a unit's EPOCH advances once the last descriptor its reset ended has completed. -/
def Die.unitEpochAdvance (d : Die) (u : ResetUnit) : Die := d.epochAdvance (resetFence u).1 (resetFence u).2

end Sys2Proof.Machine
end

