-- ==== Sys2Proof/Machine/Tick.lean ====
section
/-! DEFINITION. The tick: when one falls, and the steps of the tick cycle in their order (R18, R21, R200 to R207, R211,
R213 to R215, R343, R390, R407, R418). -/

namespace Sys2Proof.Machine

/-! ### When a tick falls (R201 to R206) -/

/-- Ticks come from the fallback timer (R204). -/
def Die.inFallback (d : Die) : Bool := (d.reg Reg.SCH_TICK_STAT).b 2

/-- A tick of the timer under SOURCE 0, of the camera under SOURCE 1, or the first after a wake is due. -/
def Die.tickDue (d : Die) : Bool :=
  d.damper.firstTick || (d.tickSource == 0 && decide (d.tickPeriod ≤ d.sinceTick)) ||
    (d.tickSource == 1 && match d.sched.camTick with
      | some t => decide (t ≤ d.refclk)
      | none => false)

/-- Reference cycles after the last tick at which the fallback timer ticks: 1.5 × PERIOD, then every PERIOD (R204). -/
def Die.fallbackAfter (d : Die) : Nat := if d.inFallback then d.tickPeriod else ceilDiv (3 * d.tickPeriod) 2

/-- A fallback tick is due (R204). -/
def Die.fallbackDue (d : Die) : Bool := d.tickSource != 0 && d.sched.camTick.isNone && decide (d.fallbackAfter ≤ d.sinceTick)

/-- The instant of a timer tick `after` reference cycles after the last tick. The first firing, and the first after a wake,
begin with the tick's command (R201, R202, R204, R418; DESIGN CHOICE, log entry 50). -/
def Die.timerInstant (d : Die) (after : Nat) : Nat :=
  if d.firing = 0 ∨ d.damper.firstTick = true then d.refclk else d.sched.lastTick + after

/-- The instant of a TICK. -/
def Die.tickInstant (d : Die) : Nat :=
  match d.sched.camTick with
  | some t => if d.tickSource = 1 ∧ d.damper.firstTick = false then t else d.timerInstant d.tickPeriod
  | none => d.timerInstant d.tickPeriod

/-! ### Steps of the tick cycle (R207) -/

/-- Commands that apply at this tick, in ring order (R21, R455). -/
def Die.tickCmds (d : Die) : List Cmd := d.fw.cmds.filter fun c => c.stage == .atTick

/-- MGMT_CHANGE_APPLY for one command, by its range (Table 19.6). -/
def Die.applyCmd (closing : Nat) (d : Die) (c : Cmd) : Die :=
  match c.op / 256 with
  | 1 => d.applyPower c
  | 2 => d.applySecurity c
  | 3 => d.applyFirmware c closing
  | _ => d.applyService c

/-- The reply to a command that has applied at the tick that opens firing `n`; one refused at its tick names no firing (R21,
Tables 17.5, 18.4, 19.7). -/
def Die.tickReply (n : Nat) (d : Die) (c : Cmd) : Die :=
  let st := c.aux.headD stOk
  let own := fun (fields : List (Nat × Nat)) => d.reply c st (if c.op = 0x0303 ∧ st ≠ stOk then 0xFE else 0) (if st = stOk then n else 0) fields
  match c.op with
  | 0x0101 => d.reply c stOk 0 n d.capFields
  | 0x0204 => own [(4, c.aux.getD 1 0)]
  | 0x0207 => d.reply c stOk 0 n [(4, d.saggar.session)]
  | 0x0208 => d.reply c stOk 0 n [(8, n - 1)]
  | 0x0303 => own []
  | 0x0306 => own []
  | 0x0307 => own []
  | 0x0501 => own []
  | 0x0602 => own []
  | _ => d.reply c stOk 0 n []

/-- Whether R213 exempts a descriptor: an S.WAIT, S.BARRIER or S.TICKWAIT that has not become ready. -/
def exemptWait (e : Entry) : Bool :=
  (opcodeOf e.desc == 0x60 || opcodeOf e.desc == 0x62 || opcodeOf e.desc == 0x63) && e.phase == .waiting

/-- Descriptors that step 4 retires: those of hard queues admitted before the tick and not complete (R214). -/
def Die.hardLate (d : Die) : List Entry :=
  d.sb.filter fun e => (d.ctxOf e.queue).hard && decide (e.firing < d.firing) && !exemptWait e

/-- A descriptor that is done, and whose writes are visible, completes in the tick cycle. -/
def Die.completeAt (d : Die) (slot : Nat) : Die :=
  match d.entry slot with
  | none => d
  | some e => if e.phase = .executed then (if d.writesVisible e then d.complete e else d.issueFlush e) else d

/-- An S.WAIT or S.TICKWAIT that is ready completes in the cycle. -/
def Die.waitNow (d : Die) (slot : Nat) : Die :=
  match d.entry slot with
  | none => d
  | some e0 =>
    let e := d.atStart e0
    if (opcodeOf e.desc = 0x60 ∨ opcodeOf e.desc = 0x63) ∧ d.mayStart e = true ∧ d.slotTurn e = true then
      let p := d.startOp (opcodeOf e.desc) Run.clean (fun _ _ => stOk) e
      (if p.1 then p.2.finish slot stOk 0 e.result0 0 0 else p.2).completeAt slot
    else d.completeAt slot

/-- The slots of S.WAITs and S.TICKWAITs that wait, in admission order. -/
def Die.waiters (d : Die) : List Nat :=
  (d.sb.filter fun e => (opcodeOf e.desc == 0x60 || opcodeOf e.desc == 0x63) && e.phase == .waiting).map (·.slot)

/-- Those among them that may become ready in the cycle that begins: what the cycle itself signals counts from the next one
(R173). -/
def Die.metWaiters (d : Die) : List Nat :=
  d.waiters.filter fun s => (d.entry s).any fun e => if d.waitsVoid e then d.olderDone e else d.waitsMet e.desc

/-- Step 1: what is done completes, and an S.WAIT or S.TICKWAIT whose condition the closing firing met becomes ready and
completes (R207). -/
def Die.closeFiring (d : Die) (met : List Nat) : Die :=
  let d1 := d.sb.foldl (fun (acc : Die) e => acc.completeAt e.slot) d
  (d1.waiters.filter fun s => met.contains s).foldl (fun acc s => match acc.entry s with
    | none => acc
    | some e => (if opcodeOf e.desc = 0x63 then acc.tickwaitReady e else acc.becomeReady e (acc.unitAllows e)).waitNow s) d1

/-- Step 5 for one S.WAIT or S.TICKWAIT: it becomes ready and completes, or an S.WAIT that has seen its last tick completes
with TIMEOUT (R187, R190, R207). -/
def Die.waitTick (met : List Nat) (d : Die) (slot : Nat) : Die :=
  match d.entry slot with
  | none => d
  | some e =>
    let d1 := if met.contains slot then
        (if opcodeOf e.desc = 0x63 then d.tickwaitReady e else d.becomeReady e true).waitNow slot
      else d
    match d1.entry slot with
    | none => d1
    | some o =>
      if o.phase = .waiting ∧ o.fail = 0 ∧ o.waitOver = true then (d1.finish slot stTimeout 0 0 0 0).completeAt slot else d1

/-- Step 5 (R207). -/
def Die.waitTicks (d : Die) (met : List Nat) : Die :=
  let d1 := { d with sb := d.sb.map (seeTick met) }
  d1.waiters.foldl (Die.waitTick met) d1

/-- HARD_QUEUE_RETIRE: one that has not started completes in the tick cycle; one that has is ended early (R214). -/
def Die.retireOne (d : Die) (e : Entry) : Die :=
  let d1 := d.endEarly e stOverrun
  if e.began then d1 else d1.completeAt e.slot

/-- Descriptors of a tenant record that carry over; SUBMITs and CANCELs of serving work that goes on do not (R213, R215,
R246). -/
def Die.carried (d : Die) (i : Nat) : Nat :=
  (d.sb.filter fun e => tenantIdx e.tenant == i && decide (e.firing < d.firing) && !exemptWait e &&
    !(e.phase == .parked && !d.serving.late.isEmpty)).length

/-- ACCOUNTS_CLOSE for a record, with its retirements (R215). -/
def Die.closeAccount (retired : List Entry) (d : Die) (i : Nat) : Die :=
  let late := (retired.filter fun e => tenantIdx e.tenant == i).length
  let carry := d.carried i
  let d1 := (d.count (Reg.SCH_TEN_CARRY i) carry).count (Reg.SCH_TEN_RETIRED i) late
  if carry + late = 0 then d1 else d1.count (Reg.SCH_TEN_OVERRUN i) 1

/-- Whether a tenant has queued work: slots beyond SQ_HEAD in an ENABLED queue, or a recorded doorbell (R211, R232). -/
def Die.hasWork (d : Die) (t : Nat) : Bool :=
  let mine := fun (q : Nat) => decide (d.qbase t ≤ q) && decide (q < d.qbase t + d.qcount t)
  let busy := fun (x : Nat × QCtx) => mine x.1 && x.2.state == 1 && x.2.sqTail != x.2.sqHead
  d.queues.cache.any busy || (d.queues.table.any fun x => (d.cachedCtx x.1).isNone && busy x) ||
    d.queues.recorded.any fun r => mine r.1 && !r.2.1

/-- Tenants with queued work at the tick (R211). -/
def Die.activeTenants (d : Die) : List Nat := (List.range 64).filter fun t => d.tenantValid t && !d.tenantDraining t && d.hasWork t

/-- Weight of a tenant. -/
def Die.weight (d : Die) (t : Nat) : Nat := d.rf (Reg.QUE_TEN_CFG t) 7 0

/-- The allowance of a tenant for the firing that opens (R211). -/
def Die.newAllowance (d : Die) (active : List Nat) (t : Nat) : Nat :=
  let w := (active.map d.weight).foldl (· + ·) 0
  if active.contains t && !d.sched.withheld then d.sched.budget * d.weight t / w - d.carried t else 0

/-- ALLOWANCE_SET (R211). -/
def Die.setAllowances (d : Die) : Die :=
  let active := d.activeTenants
  (List.range 64).foldl (fun acc t => acc.setReg (Reg.SCH_TEN_ALLOW t) (BitVec.ofNat 32 (d.newAllowance active t % 65536))) d

/-- Settings the tick latches: BUDGET and the export window (R211, Table 16.8). -/
def Die.latchSettingsAtTick (d : Die) : Die :=
  { d with
    sched := { d.sched with budget := d.rf Reg.SCH_ADMIT_CFG 15 0 }
    link := { d.link with expFirst := d.rf Reg.LNK_EXPORT_FIRST 28 0, expCount := d.rf Reg.LNK_EXPORT_COUNT 28 0 } }

/-- Step 3: the changes accepted since the last tick, and what else changes only at a tick. -/
def Die.tickChanges (d : Die) (closing : Nat) (sense : Sense) (span : Nat) : Die :=
  let d0 := d.thermalCapUpdate.portRemovals
  let d1 := d0.tickCmds.foldl (Die.applyCmd closing) d0
  let d2 := (((d1.latchSettingsAtTick.recomputeMembers).modelTick d1.firing).teardownTick d1.firing)
  let d3 := d2.tier.retireDue.foldl (fun acc f => acc.frameRetire f) d2
  ((d3.confTick.firmwareTick).damperTick sense span).measureTick

/-- Whether admission runs in the firing that opens (R19, R407, R415, R460, R463). -/
def Die.admissionRuns (d : Die) : Bool := d.fwState == fwRunning && !d.fw.leaving && !d.entering

/-- Step 6: the serving work of this tick, after that of the ones before it (R247). -/
def Die.serveNow (d : Die) : Die :=
  let d1 : Die := { d with serving := { d.serving with late := d.serving.late ++ [(d.firing, d.sched.closed)] } }
  d1.serveAll d1.serving.late

/-- Steps 4 to 8. -/
def Die.tickWork (d : Die) (met : List Nat) : Die :=
  let late := d.hardLate
  let d1 := ((late.foldl Die.retireOne d).waitTicks met).serveNow
  (((List.range 65).foldl (Die.closeAccount late) d1).setAllowances).headWritebacks

/-- The tick opens its firing (steps 1 and 2), and die 0 tells the others (R206, R207). -/
def Die.openFiring (d : Die) (met : List Nat) (t : LateTick) : Die :=
  let d1 := d.fixFirings.closeFiring met
  let d2 := ({ d1 with
    firing := t.number
    sched := { d1.sched with lastTick := t.instant, closed := d.firing, late := none }
    damper := { d1.damper with firstTick := false }
    ife := { d1.ife with sensors := if t.fallback
      then (List.range 4).foldl (fun m c => SMap.put (fun _ => Sensor.fresh) m c { d1.sensor c with fallback := true }) d1.ife.sensors
      else d1.ife.sensors } }).setRf Reg.SCH_TICK_STAT 2 0 ((if t.fallback then 4 else 0) + t.source)
  if d2.dieId = 0 then d2.sendAll none 8 0 t.number d2.members else d2

/-- The tick cycle of R207. Park records expire after its steps (R288), the clock of the new firing is settled last (R18,
R25), and the records and replies of the cycle follow (R194). -/
def Die.tickCycle (t : LateTick) (d : Die) : Die :=
  let met := d.metWaiters
  let d1 := ({ d with cycle := some [] }.openFiring met t).tickChanges d.firing t.sense (t.instant - d.sched.lastTick)
  let d2 : Die := { d1 with sched := { d1.sched with admitOpen := d1.admissionRuns } }
  let d3 := d2.tickWork met
  let d4 := (if (d3.reg Reg.SCH_TICK_IRQ).b 0 then d3.event 6 else d3).parkExpiries
  (((d4.tickCmds.foldl (Die.tickReply t.number) d4).settleStop).boostSwitch.newFiring).closeCycle

/-- A tick that has fallen takes effect. -/
def Die.lateTick (d : Die) : Die :=
  match d.sched.late with
  | none => d
  | some t => d.tickCycle t

/-- What earlier ticks left undone goes on: serving work, then records and replies (R207, R247). -/
def Die.tickGoesOn (d : Die) : Die :=
  if d.serving.late.isEmpty then d.payAll else ({ d with cycle := some [] }.serveAll d.serving.late).closeCycle

/-! ### The rows -/

/-- TICK: the timer or the camera makes a tick, or the first tick after a wake falls. -/
def Die.tick (d : Die) (sense : Sense) : Die :=
  (if d.ticksRun && d.tickDue then
    d.askTick (d.firing + 1) (if d.tickSource = 1 then 1 else 0) false sense d.tickInstant else d).lateTick

/-- TICK_FALLBACK: with no source event the internal timer makes a tick (R204). -/
def Die.tickFallback (d : Die) (sense : Sense) : Die :=
  (if d.ticksRun && d.fallbackDue then
    (d.count Reg.SCH_TICK_FALLBACKS 1).askTick (d.firing + 1) 0 true sense (d.timerInstant d.fallbackAfter) else d).lateTick

/-- HOST_TICK_WRITE: a write to SCH_TICK_NOW; 1 to TICK makes a host tick under SOURCE 2 (R201, R203). -/
def Die.hostTickWrite (d : Die) (value : Word) (sense : Sense) : Die :=
  d.awake fun d1 => if value.b 0 then (d1.hostTick sense).lateTick else d1

/-- The tick a message from die 0 makes under SOURCE 3: its number when that exceeds the current one, else the next one
with DESYNC (R203, R206). -/
def Die.fabricTick (d : Die) (firing : Nat) (sense : Sense) : Die :=
  if d.tickSource ≠ 3 ∨ d.ticksRun = false then d
  else if d.tooSoon then d.count Reg.SCH_TICK_MERGED 1
  else if d.firing < firing then (d.askTick firing 3 false sense d.refclk).lateTick
  else ((d.err Reg.SCH_TICK_STAT Bit.SCH_TICK_STAT_DESYNC).askTick (d.firing + 1) 3 false sense d.refclk).lateTick

/-- ESLIS_TICK: a TICK message is forwarded first, then opens a firing here (R206, R390). -/
def Die.eslisTick (d : Die) (h : Hdr) (firing : BitVec 64) (mask : BitVec 8) (sense : Sense) : Die :=
  if !d.portOpen (portOf h) then d
  else
    let d1 := (d.received (portOf h) 3 (laneOf h) 0).sendAll (some h) 8 h.src.toNat firing.toNat mask.toNat
    if mask.toNat.testBit d1.dieId then d1.fabricTick firing.toNat sense else d1

/-- REGISTER_WRITE: the write, and the tick one to SCH_TICK_NOW has made (R201, R484). -/
def Die.registerWrite (d : Die) (bar2 : Bool) (off size : Nat) (data : BitVec 64) : Die :=
  (d.hostWrite bar2 off size data).lateTick

/-- What a reference cycle brings with no command: it counts, a context or page-table command of the cycle before has its
RESULT, and what earlier ticks left undone goes on (DESIGN CHOICE, log entries 2 and 50). -/
def Die.idleCycle (d : Die) : Die := ({ d with refclk := d.refclk + 1 }).queDone.tirDone.camGoOn.modelsGoOn.tickGoesOn

end Sys2Proof.Machine
end

