-- ==== Sys2Proof/Machine/PowerOn.lean ====
section
/-! DEFINITION. Power, reset, the Cone and the test access port: what acts on the whole block (R412, R423, R448, R491, R497 to
R502, R507, R508). -/

namespace Sys2Proof.Machine

/-- The die runs: por_n is high, the rails are in range and the Cone has not tripped (R412, R497). -/
def State.live (s : State) : Bool := s.porN && s.rails && !s.tripped

/-- A command to the die: it acts while the die runs, and nothing hears it otherwise. -/
def onDie (f : Die → Die) (s : State) : Host.Outcome State Fault Refusal :=
  .next (if s.live then { s with die := f s.die } else s)

/-- A command to the die whose operands must be ones the hardware can carry. -/
def onDieIf (ok : Bool) (f : Die → Die) (s : State) : Host.Outcome State Fault Refusal :=
  if ok then onDie f s else .fault .illFormed

/-! ### Reset (R423, R429, R491, R497 to R500) -/

/-- The die in reset: every register at its reset value and every key lost. The NAND, the repair log, the fuses and the
firmware flash stay. Lines of LOCAL stay too, under keys that are gone (R428). -/
def Die.resetAll (d : Die) : Die :=
  let d1 := Die.initial d.nand d.repairLog d.nv
  { d1 with dmc := { d1.dmc with lines := d.dmc.lines, keyCtr := d.dmc.keyCtr }, freeCtr := d.freeCtr, out := d.out }

/-- POR_ASSERT: por_n falls; the die is reset, and DMP_TRIP keeps its value (R412, R423, R491, R498, R501). -/
def State.porAssert (s : State) : State :=
  if s.porN && s.rails then
    { s with porN := false, tripped := false, die := s.die.resetAll.setReg Reg.DMP_TRIP (s.die.reg Reg.DMP_TRIP) }
  else s

/-- POWER_LOSS: the rails leave their range and the die is in OFF. With por_n high it is an unorderly power-off (R332, R499). -/
def State.powerLoss (s : State) : State :=
  if s.rails then
    let d := s.die.resetAll
    { s with
      rails := false
      porN := false
      tripped := false
      die := { d with
        nand := { d.nand with orderly := d.nand.orderly && !s.porN, place := [], mapCache := [] }
        dmc := { d.dmc with lines := [] } } }
  else s

/-- POWER_UP: the rails come into range with por_n low. The die holds itself in reset, and VDDIO resets the test access port
(R497, R507). -/
def State.powerUp (s : State) : State := if s.rails then s else { s with rails := true, porN := false, tripped := false, jtagIr := 0x01#8 }

/-! ### The boot (R376, R423 to R428, R448, R500) -/

/-- The straps as sampled: GLB_STRAPS, the die ID and the boot source (R376, R500, Table 19.4). -/
def Die.sampleStraps (d : Die) (p : Straps) : Die :=
  ((d.setReg Reg.GLB_STRAPS (BitVec.ofNat 32 (p.boot.toNat + 4 * p.die.toNat + if p.test then 32 else 0))).setRf Reg.LNK_STAT 2 0
    p.die.toNat).setRf Reg.FWP_BOOT_STAT 1 0 p.boot.toNat

/-- The identity public key derived from ID_SEED, 1,793 bytes, hashes to ID_HASH (R423, Table 18.1). -/
def identityMatches : Bool := digest32 (toBytes 1793 (Config.crypto 1 0)) == Config.idHash.toNat

/-- The Saggar at boot: the identity check, or test mode, and fresh keys for the management context and shared pages (R423, R425,
R426, R428). -/
def Die.bootSaggar (d : Die) (test : Bool) : Die :=
  let d1 := d.setRf Reg.SGR_STAT 7 7 1
  let d2 :=
    if test then d1.setRf Reg.SGR_STAT 8 8 1
    else if identityMatches then d1.setRf Reg.SGR_STAT 6 6 1
    else d1.err Reg.SGR_ERR Bit.SGR_ERR_IDENTITY
  (d2.drawKey 0x40).drawKey 0x7F

/-- What the ROM finds in the image slot: the first check of R448 that fails, 0 for none, and the image. A slot left half
written fails some check, which one being free (R468); a flash whose sampling delay cannot be trained shows no MAGIC. -/
def Die.flashBoot (d : Die) (image : FlashImage) : Nat × Image × Die :=
  let d1 := d.spiUp image.flash
  if d1.spi.quad = false then (1, ⟨0, 0, 0, 0, 0⟩, d1)
  else
    match d1.nv.slot with
    | .shipped =>
      let n := ofBytes (image.bytes.map (·.toNat))
      let proof := imageProof n
      (d1.imageError n none proof, imageOf n proof.digest, d1)
    | .broken =>
      let k := d1.fresh
      (1 + Config.pick k.1 % 6, ⟨0, 0, 0, 0, 0⟩, k.2)
    | .holds i => (if i.svn < d1.nv.rollback then 6 else 0, i, d1)

/-- The ROM acts on the boot-source straps; waiting for a host image, it has the host link trained (R448, R449, Table 19.4). -/
def Die.bootFrom (d : Die) (source : Nat) (image : FlashImage) : Die :=
  match source with
  | 0 => match d.flashBoot image with
    | (0, i, d1) => d1.startImage i true
    | (n + 1, _, d1) => d1.bootFailed (n + 1) false
  | 1 => match d.flashBoot image with
    | (0, i, d1) => d1.startImage i true
    | (n + 1, _, d1) => (d1.bootFailed (n + 1) true).hostTrained image.hostRate
  | 2 => (d.bootFailed 0 true).hostTrained image.hostRate
  | _ => d.bootFailed 0 false

/-- The DEBUG instruction is in force: it needs test_mode high (R508). -/
def debugging (ir : BitVec 8) (d : Die) : Bool := ir == 0x10#8 && d.testMode

/-- Halt or release the firmware processors. -/
def Die.setHalted (d : Die) (b : Bool) : Die := { d with fw := { d.fw with halted := b } }

/-- POR_RELEASE: por_n rises; the straps are sampled, and the boot ROM checks the image (R448, R500). -/
def State.porRelease (s : State) (p : Straps) (image : FlashImage) : State :=
  if s.rails && !s.porN then
    let d := ((s.die.sampleStraps p).bootSaggar p.test).bootFrom p.boot.toNat image
    { s with porN := true, tripped := false, die := d.setHalted (debugging s.jtagIr d) }
  else s

/-! ### The Cone (R412, R501) -/

/-- CONE_TRIP: a site reaches 118 °C. With por_n high every clock is gated, LOCAL contents and the key store are lost, and
DMP_TRIP records the site; with por_n low therm_trip_n alone shows it (R412, R429, R501). -/
def State.coneTrip (s : State) (site : BitVec 5) : State :=
  if !s.rails || s.tripped then s
  else if !s.porN then { s with tripped := true }
  else
    let d := s.die.setReg Reg.DMP_TRIP (BitVec.ofNat 32 (1 + 2 * site.toNat))
    { s with tripped := true, die := { d with dmc := { d.dmc with lines := [], keys := [] } } }

/-! ### The test access port (R507, R508) -/

/-- The instruction the port obeys: codes outside Table 22.8, and those not allowed now, act as BYPASS (R508). -/
def State.jtagActs (s : State) : BitVec 8 :=
  let c := s.jtagIr
  if c = 0x01#8 ∨ c = 0x02#8 then c
  else if c = 0x00#8 ∨ c = 0x03#8 ∨ c = 0x04#8 then (if !s.porN || s.die.testMode then c else 0xFF#8)
  else if c = 0x10#8 then (if s.die.testMode then c else 0xFF#8)
  else 0xFF#8

/-- The identification register IDCODE selects (Table 22.8). -/
def idcode : Word := BitVec.ofNat 32 (Config.revision.toNat / 256 % 16 * 2 ^ 28 + 0x48A1 * 2 ^ 12 + Config.jedecId.toNat * 2 + 1)

/-- An instruction register value takes effect; DEBUG halts the firmware processors while it is in force (R508). -/
def State.setIr (s : State) (code : BitVec 8) : State :=
  if s.rails then { s with jtagIr := code, die := if s.live then s.die.setHalted (debugging code s.die) else s.die } else s

/-- JTAG_TAP_RESET: trst_n resets the port, which selects IDCODE (R507; PRESUMED IEEE 1149.1, log entry 71). -/
def State.jtagTapReset (s : State) : State := s.setIr 0x01#8

/-- JTAG_INSTRUCTION: an instruction shifted in takes effect (R508). -/
def State.jtagInstruction (s : State) (code : BitVec 8) : State := s.setIr code

/-! ### Pins -/

/-- Level of therm_trip_n (R412, R501). -/
def State.thermTripN (s : State) : Bool := !s.tripped

/-- Level of irq_n: released while por_n is low (R480, R502). -/
def State.irqN (s : State) : Bool := !s.porN || s.die.irqN

/-- ddr_reset_n is driven low while por_n is low (R497). -/
def State.ddrResetN (s : State) : Bool := s.porN

/-- nand_wp_n is driven low while por_n is low (R497). -/
def State.nandWpN (s : State) : Bool := s.porN

/-- nand_ce_n_c are driven high while por_n is low (R497). -/
def State.nandReleased (s : State) : Bool := !s.porN

/-- spi_cs_n is driven high and spi_dq is high-impedance while por_n is low (R497). -/
def State.spiReleased (s : State) : Bool := !s.porN

/-- The HOST, PEER and CAM groups are in their standards' power-off state while por_n is low (R497). -/
def State.linksOff (s : State) : Bool := !s.porN

end Sys2Proof.Machine
end

