-- ==== Sys2Proof/WellFormed.lean ====
section
/-! DEFINITION. Which commands the hardware can carry: the operand types of Syntax.lean admit every other value. -/

namespace Sys2Proof

/-- A bank that exists, 0 to 87 (R46). -/
def bankLegal (bank : BitVec 7) : Bool := decide (bank.toNat < 88)

/-- A Shelves row that exists (R46). -/
def rowLegal (row : BitVec 17) : Bool := decide (row.toNat < 90112)

/-- One of the 24 Cone sites (R412). -/
def siteLegal (site : BitVec 5) : Bool := decide (site.toNat < 24)

/-- One reading for each of the 24 sensors (R411). -/
def tempsLegal (temps : List (BitVec 16)) : Bool := temps.length == 24

/-- The eight counts of a phase signature (R403). -/
def senseLegal (sense : Sense) : Bool := sense.counts.length == 8

/-- Four domains, four rails, three limited domains (R399, R402, R409). -/
def estimateLegal (estimate : Estimate) : Bool :=
  estimate.domains.length == 4 && estimate.rails.length == 4 && estimate.held.length == 3

/-- The command can be carried by the hardware. -/
def wellFormed (i : Instr) : Bool :=
  match i with
  | .porAssert => true
  | .porRelease _ _ => true
  | .bootComplete _ => true
  | .hostImageLoad _ _ => true
  | .powerLoss => true
  | .coneTrip site => siteLegal site
  | .droopDetect _ _ => true
  | .droopRelax _ => true
  | .tick sense => senseLegal sense
  | .tickFallback sense => senseLegal sense
  | .hostTickWrite _ sense => senseLegal sense
  | .sWaitTimeout _ => true
  | .sTickwaitReady _ => true
  | .servingDeadline _ _ _ => true
  | .parkExpiry _ => true
  | .descriptorAdmit _ => true
  | .queueContextFetch _ _ => true
  | .descriptorReady _ => true
  | .descriptorComplete _ => true
  | .hostWriteFlushDone _ => true
  | .nop => true
  | .kLoadIn _ _ => true
  | .kCharge _ _ => true
  | .kilnFirstIssueSwap => true
  | .kilnVectorIssue _ _ _ => true
  | .accUpdateLand _ => true
  | .kilnDrainRow => true
  | .kilnShadowReleased => true
  | .kilnOwedSwap => true
  | .kilnHoldTimeout => true
  | .kilnClockGate => true
  | .kilnSpareSwap _ => true
  | .klnOwedRelease _ => true
  | .kilnReset => true
  | .wGemv _ _ _ => true
  | .wAttn _ _ _ => true
  | .wKvappend _ _ => true
  | .wKvevict _ _ => true
  | .wheelPrefetchStart => true
  | .wheelSpareSwap => true
  | .wheelReset => true
  | .gElem _ _ => true
  | .gNorm _ _ => true
  | .gSoftmax _ _ => true
  | .gRope _ _ => true
  | .gRequant _ _ => true
  | .gTopk _ _ => true
  | .glazeReset => true
  | .mCopy _ _ => true
  | .mGather _ _ => true
  | .mScatter _ _ => true
  | .mFill _ _ => true
  | .dmReset => true
  | .pCompress _ _ => true
  | .pExpand _ _ => true
  | .pugReset => true
  | .sWait _ => true
  | .sSignalAdd _ => true
  | .sSignalSet _ => true
  | .sSignalClear _ => true
  | .sBarrier _ => true
  | .barrierReleaseInstant => true
  | .sTickwait _ => true
  | .vSample _ _ => true
  | .vMaskstep _ _ => true
  | .vEmitStep _ _ => true
  | .vEmitSubmit _ _ => true
  | .vEmitCancel _ => true
  | .tPrefetch _ _ => true
  | .tMigrate _ _ => true
  | .tPark _ _ => true
  | .tRestore _ _ => true
  | .tierReset => true
  | .cBind _ => true
  | .cStats _ _ => true
  | .fSend _ _ => true
  | .fBcast _ _ => true
  | .epochAdvance _ => true
  | .shfBankCfgWrite bank _ => bankLegal bank
  | .shfSlotRangeWrite _ _ => true
  | .slotDeclare _ _ => true
  | .slotRelease _ _ => true
  | .shelfRowRewrite row => rowLegal row
  | .shelfScrub row _ => rowLegal row
  | .bankClear bank => bankLegal bank
  | .bankGateClose bank => bankLegal bank
  | .shelfSpareRow => true
  | .schEventWrite _ _ => true
  | .schEventInc _ => true
  | .schEvtPoisonClear _ _ => true
  | .registerWrite _ _ _ _ => true
  | .counterReadClear _ _ _ => true
  | .latchedPairRead _ _ => true
  | .dbAdd _ _ => true
  | .dbRelease _ _ => true
  | .dbFlush _ _ => true
  | .queCmdCreate _ => true
  | .queCmdModify _ => true
  | .queCmdRead _ => true
  | .queCmdDestroy _ => true
  | .servingAbort _ _ => true
  | .tirCmdSetdir => true
  | .tirCmdMap => true
  | .tirCmdUnmap => true
  | .tirCmdRead => true
  | .pageMigrationSwitch _ => true
  | .demandFill _ => true
  | .fillNoFrame _ => true
  | .modelLoad _ => true
  | .shardVerify _ _ => true
  | .modelUnload => true
  | .modelQuery => true
  | .modelScrub => true
  | .modelScrubPass _ => true
  | .modelRepair _ _ => true
  | .dramLineRead _ _ _ _ _ _ _ => true
  | .dramLineWrite _ _ _ _ _ _ _ => true
  | .dramPartialWrite _ _ _ _ _ _ _ => true
  | .dramCeRewrite _ => true
  | .dramPatrolScrub _ => true
  | .dramRetrain _ _ => true
  | .rowHammerAction => true
  | .rowHammerWindowEnd => true
  | .dramPpr => true
  | .dramSegmentClear _ => true
  | .nandUnitRead _ _ _ => true
  | .nandUnitWrite _ _ _ => true
  | .nandReadDisturbReloc _ => true
  | .nandWearLevel => true
  | .nandGarbageCollect _ => true
  | .nandGrownBad _ => true
  | .csiFrameStart _ _ => true
  | .csiLine _ _ _ _ _ _ _ => true
  | .csiEmbedded _ _ _ _ _ => true
  | .csiFrameEnd _ _ => true
  | .frameCloseTimeout _ => true
  | .ifeCtxEnable _ _ => true
  | .ifeCtxDisable _ _ => true
  | .dnTileFill => true
  | .dnTileOutput => true
  | .dnTileDeadline => true
  | .statsReady _ => true
  | .settingsTransferDone _ _ => true
  | .settingsWindowExpiry _ => true
  | .i3cIbi _ _ _ => true
  | .ifeReset => true
  | .hostReadResponse _ _ _ => true
  | .hostReadTimeout _ => true
  | .hostSnoop _ => true
  | .peerPortTrained _ _ _ => true
  | .eslisHello _ _ => true
  | .eslisTopo _ _ _ _ => true
  | .flitReceive _ => true
  | .flitAckTimeout _ => true
  | .linkRetrain _ _ _ _ => true
  | .peerPortDown _ => true
  | .hostPortDown => true
  | .eslisRd _ _ _ _ _ => true
  | .eslisWr _ _ _ _ _ _ => true
  | .eslisWrm _ _ _ _ _ _ _ => true
  | .eslisRdata _ _ _ => true
  | .eslisWack _ _ => true
  | .peerRequestTimeout _ => true
  | .eslisOpen _ _ _ _ _ _ _ _ _ => true
  | .eslisBulk _ => true
  | .eslisDone _ _ => true
  | .fabricDoneTimeout _ => true
  | .eslisTick _ _ _ sense => senseLegal sense
  | .eslisTimeSend => true
  | .eslisTime _ _ _ => true
  | .eslisArrive _ _ _ _ => true
  | .eslisRelease _ _ _ _ => true
  | .eslisMgmt _ _ => true
  | .modelInServiceMsg _ _ => true
  | .linkReset => true
  | .powerEstimatePeriod estimate => estimateLegal estimate
  | .thermalSample temps => tempsLegal temps
  | .idleEnter => true
  | .powerEntryDrained => true
  | .powerEntryTimeout => true
  | .wakeTimer => true
  | .dmpWake _ => true
  | .wake => true
  | .watchdogExpiry _ => true
  | .processorRestart _ => true
  | .supervisorRestored => true
  | .fwpRingCfgWrite _ => true
  | .fwpCmdTailWrite _ => true
  | .activateDrainTimeout => true
  | .probationPass => true
  | .commitDone => true
  | .keySessionLapse _ => true
  | .confOfferLapse => true
  | .confSessionIdle => true
  | .rngHealthFail => true
  | .trackerEntryExpire => true
  | .selftestPeriodic _ _ => true
  | .powerCap => true
  | .powerSplit => true
  | .boost => true
  | .railLimit => true
  | .powerState => true
  | .shelfPower => true
  | .powerInfo => true
  | .thermalCfg => true
  | .secIdentity => true
  | .secAttest => true
  | .secKeySession => true
  | .secKeyRelease _ _ => true
  | .secKeyErase => true
  | .secConfOpen => true
  | .secConfAccept => true
  | .secConfClose => true
  | .secRollback _ => true
  | .fwInfo => true
  | .drvHello => true
  | .dataStart => true
  | .dataStop => true
  | .tickConfig => true
  | .tenantConfig => true
  | .tenantWindow => true
  | .tenantTeardown => true
  | .watchdog => true
  | .fwStage _ => true
  | .fwActivate _ => true
  | .fwStatus => true
  | .memInfo => true
  | .memRetrain => true
  | .memPprHard => true
  | .flashFormat _ => true
  | .flashInfo => true
  | .camPortConfig => true
  | .camXfer _ => true
  | .camDaa _ => true
  | .camStatus _ => true
  | .fabStatus => true
  | .fabSetId => true
  | .fabRoute => true
  | .linkPortDisable => true
  | .linkPortEnable => true
  | .linkPortRetrain => true
  | .rasInfo => true
  | .rasLog => true
  | .rasSelftest _ _ => true
  | .powerUp => true
  | .firmwareSramUncorrectable _ _ => true
  | .csiHeaderUncorrectable _ => true
  | .jtagTapReset => true
  | .jtagInstruction _ => true

end Sys2Proof
end

