-- ==== Sys2Proof/Machine/ExecDescriptor.lean ====
section
/-! DEFINITION. The meanings of the commands of descriptors, the scoreboard and synchronisation (chapter 08): each is one operation of the die. -/

namespace Sys2Proof.Machine

/-- S_WAIT_TIMEOUT (R187). -/
def execSWaitTimeout (slot : BitVec 12) (s : State) : Host.Outcome State Fault Refusal :=
  onDie (fun d => d.sWaitTimeout slot) s

/-- S_TICKWAIT_READY (R190). -/
def execSTickwaitReady (slot : BitVec 12) (s : State) : Host.Outcome State Fault Refusal :=
  onDie (fun d => d.sTickwaitReady slot) s

/-- DESCRIPTOR_READY (R173). -/
def execDescriptorReady (slot : BitVec 12) (s : State) : Host.Outcome State Fault Refusal :=
  onDie (fun d => d.descriptorReady slot) s

/-- DESCRIPTOR_COMPLETE (R57). -/
def execDescriptorComplete (slot : BitVec 12) (s : State) : Host.Outcome State Fault Refusal :=
  onDie (fun d => (d.descriptorComplete slot).settleStop) s

/-- NOP (R187). -/
def execNop (s : State) : Host.Outcome State Fault Refusal :=
  onDie Die.nop s

/-- M_COPY (R183). -/
def execMCopy (slot : BitVec 12) (run : Run) (s : State) : Host.Outcome State Fault Refusal :=
  onDie (fun d => d.mCopy slot run) s

/-- M_GATHER (R184). -/
def execMGather (slot : BitVec 12) (run : Run) (s : State) : Host.Outcome State Fault Refusal :=
  onDie (fun d => d.mGather slot run) s

/-- M_SCATTER (R184). -/
def execMScatter (slot : BitVec 12) (run : Run) (s : State) : Host.Outcome State Fault Refusal :=
  onDie (fun d => d.mScatter slot run) s

/-- M_FILL (R185). -/
def execMFill (slot : BitVec 12) (run : Run) (s : State) : Host.Outcome State Fault Refusal :=
  onDie (fun d => d.mFill slot run) s

/-- DM_RESET (R199). -/
def execDmReset (s : State) : Host.Outcome State Fault Refusal :=
  onDie (fun d => d.awake fun d => d.dmReset) s

/-- S_WAIT (R187). -/
def execSWait (slot : BitVec 12) (s : State) : Host.Outcome State Fault Refusal :=
  onDie (fun d => d.sWait slot) s

/-- S_SIGNAL_ADD (R188). -/
def execSSignalAdd (slot : BitVec 12) (s : State) : Host.Outcome State Fault Refusal :=
  onDie (fun d => d.sSignalAdd slot) s

/-- S_SIGNAL_SET (R188). -/
def execSSignalSet (slot : BitVec 12) (s : State) : Host.Outcome State Fault Refusal :=
  onDie (fun d => d.sSignalSet slot) s

/-- S_SIGNAL_CLEAR (R188). -/
def execSSignalClear (slot : BitVec 12) (s : State) : Host.Outcome State Fault Refusal :=
  onDie (fun d => d.sSignalClear slot) s

/-- S_BARRIER (R189). -/
def execSBarrier (slot : BitVec 12) (s : State) : Host.Outcome State Fault Refusal :=
  onDie (fun d => d.sBarrier slot) s

/-- S_TICKWAIT (R190). -/
def execSTickwait (slot : BitVec 12) (s : State) : Host.Outcome State Fault Refusal :=
  onDie (fun d => d.sTickwait slot) s

/-- SCH_EVENT_WRITE (R174). -/
def execSchEventWrite (counter : BitVec 16) (value : Word) (s : State) : Host.Outcome State Fault Refusal :=
  onDie (fun d => d.awake fun d => d.schEventWrite counter value) s

/-- SCH_EVENT_INC (R174). -/
def execSchEventInc (value : Word) (s : State) : Host.Outcome State Fault Refusal :=
  onDie (fun d => d.awake fun d => d.schEventInc value) s

/-- SCH_EVT_POISON_CLEAR (R175). -/
def execSchEvtPoisonClear (word : BitVec 11) (value : Word) (s : State) : Host.Outcome State Fault Refusal :=
  onDie (fun d => d.awake fun d => d.schEvtPoisonClear word value) s

end Sys2Proof.Machine
end

