-- ==== Sys2Proof/Machine/ExecDram.lean ====
section
/-! DEFINITION. The meanings of the commands of the LPDDR5X and NAND controllers (chapter 14): each is one operation of the die. -/

namespace Sys2Proof.Machine

/-- DRAM_LINE_READ (R315). -/
def execDramLineRead (key : BitVec 7) (line : BitVec 30) (tenant : BitVec 7) (queue : BitVec 20) (act : Bool) (linkCe : Bool) (fault : Strike)
    (s : State) : Host.Outcome State Fault Refusal :=
  onDie (fun d => d.dramLineRead key line tenant queue act linkCe fault) s

/-- DRAM_LINE_WRITE (R314). -/
def execDramLineWrite (key : BitVec 7) (line : BitVec 30) (data : Line) (poison : Bool) (tenant : BitVec 7) (queue : BitVec 20) (act : Bool)
    (s : State) : Host.Outcome State Fault Refusal :=
  onDie (fun d => d.dramLineWrite key line data poison tenant queue act) s

/-- DRAM_PARTIAL_WRITE (R317). -/
def execDramPartialWrite (key : BitVec 7) (line : BitVec 30) (mask : BitVec 64) (data : Line) (tenant : BitVec 7) (queue : BitVec 20) (act : Bool)
    (s : State) : Host.Outcome State Fault Refusal :=
  onDie (fun d => d.dramPartialWrite key line mask data tenant queue act) s

/-- DRAM_CE_REWRITE (R315). -/
def execDramCeRewrite (line : BitVec 30) (s : State) : Host.Outcome State Fault Refusal :=
  onDie (fun d => d.dramCeRewrite line) s

/-- DRAM_PATROL_SCRUB (R320). -/
def execDramPatrolScrub (fault : Strike) (s : State) : Host.Outcome State Fault Refusal :=
  onDie (fun d => d.dramPatrolScrub fault) s

/-- DRAM_RETRAIN (R322). -/
def execDramRetrain (warm : Bool) (ok : Bool) (s : State) : Host.Outcome State Fault Refusal :=
  onDie (fun d => d.dramRetrain warm ok) s

/-- ROW_HAMMER_ACTION (R327). -/
def execRowHammerAction (s : State) : Host.Outcome State Fault Refusal :=
  onDie Die.rowHammerAction s

/-- ROW_HAMMER_WINDOW_END (R326). -/
def execRowHammerWindowEnd (s : State) : Host.Outcome State Fault Refusal :=
  onDie Die.rowHammerWindowEnd s

/-- DRAM_PPR (R328). -/
def execDramPpr (s : State) : Host.Outcome State Fault Refusal :=
  onDie Die.dramPpr s

/-- DRAM_SEGMENT_CLEAR (R325). -/
def execDramSegmentClear (seg : BitVec 3) (s : State) : Host.Outcome State Fault Refusal :=
  onDie (fun d => d.dramSegmentClear seg) s

/-- NAND_UNIT_READ (R331). -/
def execNandUnitRead (page : BitVec 32) (unit : BitVec 4) (how : NandHow) (s : State) : Host.Outcome State Fault Refusal :=
  onDie (fun d => d.nandUnitRead page unit how) s

/-- NAND_UNIT_WRITE (R332). -/
def execNandUnitWrite (page : BitVec 32) (unit : BitVec 4) (fails : Bool) (s : State) : Host.Outcome State Fault Refusal :=
  onDie (fun d => d.nandUnitWrite page unit fails) s

/-- NAND_READ_DISTURB_RELOC (R333). -/
def execNandReadDisturbReloc (block : BitVec 25) (s : State) : Host.Outcome State Fault Refusal :=
  onDie (fun d => d.nandReadDisturbReloc block) s

/-- NAND_WEAR_LEVEL (R333). -/
def execNandWearLevel (s : State) : Host.Outcome State Fault Refusal :=
  onDie Die.nandWearLevel s

/-- NAND_GARBAGE_COLLECT (R333). -/
def execNandGarbageCollect (block : BitVec 25) (s : State) : Host.Outcome State Fault Refusal :=
  onDie (fun d => d.nandGarbageCollect block) s

/-- NAND_GROWN_BAD (R334). -/
def execNandGrownBad (block : BitVec 25) (s : State) : Host.Outcome State Fault Refusal :=
  onDie (fun d => d.nandGrownBad block) s

/-- MEM_INFO (R335). -/
def execMemInfo (s : State) : Host.Outcome State Fault Refusal :=
  onDie Die.memInfo s

/-- MEM_RETRAIN (R322). -/
def execMemRetrain (s : State) : Host.Outcome State Fault Refusal :=
  onDie Die.memRetrain s

/-- MEM_PPR_HARD (R328). -/
def execMemPprHard (s : State) : Host.Outcome State Fault Refusal :=
  onDie Die.memPprHard s

/-- FLASH_FORMAT (R334). -/
def execFlashFormat (marks : List (BitVec 25)) (s : State) : Host.Outcome State Fault Refusal :=
  onDie (fun d => d.flashFormat marks) s

/-- FLASH_INFO (R335). -/
def execFlashInfo (s : State) : Host.Outcome State Fault Refusal :=
  onDie Die.flashInfo s

end Sys2Proof.Machine
end

