-- ==== Sys2Proof/Machine/ExecFirmware.lean ====
section
/-! DEFINITION. The meanings of the commands of firmware and the management plane (chapter 19): each is one operation of the die. -/

namespace Sys2Proof.Machine

/-- BOOT_COMPLETE (R450). -/
def execBootComplete (found : BootFind) (s : State) : Host.Outcome State Fault Refusal :=
  onDie (fun d => d.bootComplete found) s

/-- HOST_IMAGE_LOAD (R449). -/
def execHostImageLoad (len : Word) (hits : Hits) (s : State) : Host.Outcome State Fault Refusal :=
  onDie (fun d => d.hostImageLoad len hits) s

/-- WATCHDOG_EXPIRY (R461). -/
def execWatchdogExpiry (proc : BitVec 2) (s : State) : Host.Outcome State Fault Refusal :=
  onDie (fun d => d.watchdogExpiry proc) s

/-- PROCESSOR_RESTART (R462). -/
def execProcessorRestart (proc : BitVec 2) (s : State) : Host.Outcome State Fault Refusal :=
  onDie (fun d => d.processorRestart proc) s

/-- SUPERVISOR_RESTORED (R463). -/
def execSupervisorRestored (s : State) : Host.Outcome State Fault Refusal :=
  onDie Die.supervisorRestored s

/-- FWP_RING_CFG_WRITE (R452). -/
def execFwpRingCfgWrite (value : Word) (s : State) : Host.Outcome State Fault Refusal :=
  onDie (fun d => d.fwpRingCfgWrite value) s

/-- FWP_CMD_TAIL_WRITE (R452). -/
def execFwpCmdTailWrite (tail : Word) (s : State) : Host.Outcome State Fault Refusal :=
  onDie (fun d => d.fwpCmdTailWrite tail) s

/-- ACTIVATE_DRAIN_TIMEOUT (R466). -/
def execActivateDrainTimeout (s : State) : Host.Outcome State Fault Refusal :=
  onDie Die.activateDrainTimeout s

/-- PROBATION_PASS (R465). -/
def execProbationPass (s : State) : Host.Outcome State Fault Refusal :=
  onDie Die.probationPass s

/-- COMMIT_DONE (R468). -/
def execCommitDone (s : State) : Host.Outcome State Fault Refusal :=
  onDie Die.commitDone s

/-- FW_INFO (R458). -/
def execFwInfo (s : State) : Host.Outcome State Fault Refusal :=
  onDie Die.fwInfo s

/-- DRV_HELLO (R459). -/
def execDrvHello (s : State) : Host.Outcome State Fault Refusal :=
  onDie Die.drvHello s

/-- DATA_START (R460). -/
def execDataStart (s : State) : Host.Outcome State Fault Refusal :=
  onDie Die.dataStart s

/-- DATA_STOP (R460). -/
def execDataStop (s : State) : Host.Outcome State Fault Refusal :=
  onDie Die.dataStop s

/-- WATCHDOG (R461). -/
def execWatchdog (s : State) : Host.Outcome State Fault Refusal :=
  onDie Die.watchdog s

/-- FW_STAGE (R465). -/
def execFwStage (hits : Hits) (s : State) : Host.Outcome State Fault Refusal :=
  onDie (fun d => d.fwStage hits) s

/-- FW_ACTIVATE (R466). -/
def execFwActivate (accepts : Bool) (s : State) : Host.Outcome State Fault Refusal :=
  onDie (fun d => d.fwActivate accepts) s

/-- FW_STATUS (R465). -/
def execFwStatus (s : State) : Host.Outcome State Fault Refusal :=
  onDie Die.fwStatus s

end Sys2Proof.Machine
end

