-- ==== Sys2Proof/Machine/ExecGlaze.lean ====
section
/-! DEFINITION. The meanings of the commands of the Glaze unit (chapter 06): each is one operation of the die. -/

namespace Sys2Proof.Machine

/-- G_ELEM (R126). -/
def execGElem (slot : BitVec 12) (run : Run) (s : State) : Host.Outcome State Fault Refusal :=
  onDie (fun d => d.gElem slot run) s

/-- G_NORM (R128). -/
def execGNorm (slot : BitVec 12) (run : Run) (s : State) : Host.Outcome State Fault Refusal :=
  onDie (fun d => d.gNorm slot run) s

/-- G_SOFTMAX (R129). -/
def execGSoftmax (slot : BitVec 12) (run : Run) (s : State) : Host.Outcome State Fault Refusal :=
  onDie (fun d => d.gSoftmax slot run) s

/-- G_ROPE (R130). -/
def execGRope (slot : BitVec 12) (run : Run) (s : State) : Host.Outcome State Fault Refusal :=
  onDie (fun d => d.gRope slot run) s

/-- G_REQUANT (R43). -/
def execGRequant (slot : BitVec 12) (run : Run) (s : State) : Host.Outcome State Fault Refusal :=
  onDie (fun d => d.gRequant slot run) s

/-- G_TOPK (R132). -/
def execGTopk (slot : BitVec 12) (run : Run) (s : State) : Host.Outcome State Fault Refusal :=
  onDie (fun d => d.gTopk slot run) s

/-- GLAZE_RESET (R135). -/
def execGlazeReset (s : State) : Host.Outcome State Fault Refusal :=
  onDie (fun d => d.awake fun d => d.glazeReset) s

end Sys2Proof.Machine
end

