-- ==== Sys2Proof/Machine/ExecIfe.lean ====
section
/-! DEFINITION. The meanings of the commands of the image front end (chapter 15): each is one operation of the die. -/

namespace Sys2Proof.Machine

/-- C_BIND (R353). -/
def execCBind (slot : BitVec 12) (s : State) : Host.Outcome State Fault Refusal :=
  onDie (fun d => d.cBind slot) s

/-- C_STATS (R356). -/
def execCStats (slot : BitVec 12) (bufferError : Bool) (s : State) : Host.Outcome State Fault Refusal :=
  onDie (fun d => d.cStats slot bufferError) s

/-- CSI_FRAME_START (R341). -/
def execCsiFrameStart (port : Bool) (vc : BitVec 4) (s : State) : Host.Outcome State Fault Refusal :=
  onDie (fun d => d.frameStart port vc) s

/-- CSI_LINE (R342). -/
def execCsiLine (port : Bool) (vc : BitVec 4) (dt : BitVec 6) (bytes : List (BitVec 8)) (eccCorr : Bool) (crcBad : Bool)
    (buffered : Buffered) (s : State) : Host.Outcome State Fault Refusal :=
  onDie (fun d => d.whileAwake fun d => d.csiLine port vc dt bytes eccCorr crcBad buffered) s

/-- CSI_EMBEDDED (R342). -/
def execCsiEmbedded (port : Bool) (vc : BitVec 4) (bytes : List (BitVec 8)) (eccCorr : Bool) (crcBad : Bool)
    (s : State) : Host.Outcome State Fault Refusal :=
  onDie (fun d => d.whileAwake fun d => d.csiEmbedded port vc bytes eccCorr crcBad) s

/-- CSI_FRAME_END (R341). -/
def execCsiFrameEnd (port : Bool) (vc : BitVec 4) (s : State) : Host.Outcome State Fault Refusal :=
  onDie (fun d => d.whileAwake fun d => d.csiFrameEnd port vc) s

/-- FRAME_CLOSE_TIMEOUT (R341). -/
def execFrameCloseTimeout (ctx : BitVec 2) (s : State) : Host.Outcome State Fault Refusal :=
  onDie (fun d => d.frameCloseTimeout ctx) s

/-- IFE_CTX_ENABLE (R340). -/
def execIfeCtxEnable (ctx : BitVec 2) (value : Word) (s : State) : Host.Outcome State Fault Refusal :=
  onDie (fun d => d.awake fun d => d.ifeCtxEnable ctx value) s

/-- IFE_CTX_DISABLE (R340). -/
def execIfeCtxDisable (ctx : BitVec 2) (value : Word) (s : State) : Host.Outcome State Fault Refusal :=
  onDie (fun d => d.awake fun d => d.ifeCtxDisable ctx value) s

/-- DN_TILE_FILL (R349). -/
def execDnTileFill (s : State) : Host.Outcome State Fault Refusal :=
  onDie Die.dnTileFill s

/-- DN_TILE_OUTPUT (R349). -/
def execDnTileOutput (s : State) : Host.Outcome State Fault Refusal :=
  onDie Die.dnTileOutput s

/-- DN_TILE_DEADLINE (R350). -/
def execDnTileDeadline (s : State) : Host.Outcome State Fault Refusal :=
  onDie Die.dnTileDeadline s

/-- STATS_READY (R355). -/
def execStatsReady (ctx : BitVec 2) (s : State) : Host.Outcome State Fault Refusal :=
  onDie (fun d => d.statsReady ctx) s

/-- SETTINGS_TRANSFER_DONE (R359). -/
def execSettingsTransferDone (ctx : BitVec 2) (acked : Bool) (s : State) : Host.Outcome State Fault Refusal :=
  onDie (fun d => d.settingsTransferDone ctx acked) s

/-- SETTINGS_WINDOW_EXPIRY (R361). -/
def execSettingsWindowExpiry (ctx : BitVec 2) (s : State) : Host.Outcome State Fault Refusal :=
  onDie (fun d => d.settingsWindowExpiry ctx) s

/-- I3C_IBI (R362). -/
def execI3cIbi (port : Bool) (addr : BitVec 7) (payload : List (BitVec 8)) (s : State) : Host.Outcome State Fault Refusal :=
  onDie (fun d => (d.wakeEvent 4).i3cIbi port addr payload) s

/-- IFE_RESET (R364). -/
def execIfeReset (s : State) : Host.Outcome State Fault Refusal :=
  onDie (fun d => d.awake fun d => d.ifeReset) s

/-- CAM_PORT_CONFIG (R338). -/
def execCamPortConfig (s : State) : Host.Outcome State Fault Refusal :=
  onDie Die.camPortConfig s

/-- CAM_XFER (R363). -/
def execCamXfer (reply : BusReply) (s : State) : Host.Outcome State Fault Refusal :=
  onDie (fun d => d.camXfer reply) s

/-- CAM_DAA (R362). -/
def execCamDaa (targets : List (BitVec 7)) (s : State) : Host.Outcome State Fault Refusal :=
  onDie (fun d => d.camDaa targets) s

/-- CAM_STATUS (R363). -/
def execCamStatus (bus : Word) (s : State) : Host.Outcome State Fault Refusal :=
  onDie (fun d => d.camStatus bus) s

/-- CSI_HEADER_UNCORRECTABLE (R342). -/
def execCsiHeaderUncorrectable (ctx : BitVec 2) (s : State) : Host.Outcome State Fault Refusal :=
  onDie (fun d => d.whileAwake fun d => d.csiHeaderUncorrectable ctx) s

end Sys2Proof.Machine
end

