-- ==== Sys2Proof/Machine/ExecKiln.lean ====
section
/-! DEFINITION. The meanings of the commands of the Kiln (chapter 04): each is one operation of the die. -/

namespace Sys2Proof.Machine

/-- K_LOAD_IN (R76). -/
def execKLoadIn (slot : BitVec 12) (run : Run) (s : State) : Host.Outcome State Fault Refusal :=
  onDie (fun d => d.kLoadIn slot run) s

/-- K_CHARGE (R79). -/
def execKCharge (slot : BitVec 12) (run : Run) (s : State) : Host.Outcome State Fault Refusal :=
  onDie (fun d => d.kCharge slot run) s

/-- KILN_FIRST_ISSUE_SWAP (R82). -/
def execKilnFirstIssueSwap (s : State) : Host.Outcome State Fault Refusal :=
  onDie Die.kilnFirstIssueSwap s

/-- KILN_VECTOR_ISSUE (R84). -/
def execKilnVectorIssue (feeder : Feeder) (damper : Bool) (residue : Option (BitVec 12)) (s : State) : Host.Outcome State Fault Refusal :=
  onDie (fun d => d.kilnVectorIssue feeder damper residue) s

/-- ACC_UPDATE_LAND (R88). -/
def execAccUpdateLand (upset : Option AccUpset) (s : State) : Host.Outcome State Fault Refusal :=
  onDie (fun d => d.accUpdateLand upset) s

/-- KILN_DRAIN_ROW (R91). -/
def execKilnDrainRow (s : State) : Host.Outcome State Fault Refusal :=
  onDie Die.kilnDrainRow s

/-- KILN_SHADOW_RELEASED (R75). -/
def execKilnShadowReleased (s : State) : Host.Outcome State Fault Refusal :=
  onDie Die.kilnShadowReleased s

/-- KILN_OWED_SWAP (R511). -/
def execKilnOwedSwap (s : State) : Host.Outcome State Fault Refusal :=
  onDie Die.kilnOwedSwap s

/-- KILN_HOLD_TIMEOUT (R90). -/
def execKilnHoldTimeout (s : State) : Host.Outcome State Fault Refusal :=
  onDie Die.kilnHoldTimeout s

/-- KILN_CLOCK_GATE (R93). -/
def execKilnClockGate (s : State) : Host.Outcome State Fault Refusal :=
  onDie Die.kilnClockGate s

/-- KILN_SPARE_SWAP (R98). -/
def execKilnSpareSwap (found : PatternResult) (s : State) : Host.Outcome State Fault Refusal :=
  onDie (fun d => d.kilnSpareSwap found) s

/-- KLN_OWED_RELEASE (R89). -/
def execKlnOwedRelease (value : Word) (s : State) : Host.Outcome State Fault Refusal :=
  onDie (fun d => d.awake fun d => d.klnOwedRelease value) s

/-- KILN_RESET (R95). -/
def execKilnReset (s : State) : Host.Outcome State Fault Refusal :=
  onDie (fun d => d.awake fun d => d.kilnReset) s

end Sys2Proof.Machine
end

