-- ==== Sys2Proof/Machine/ExecLink.lean ====
section
/-! DEFINITION. The meanings of the commands of the host link and the Eslis fabric (chapter 16): each is one operation of the die. -/

namespace Sys2Proof.Machine

/-- HOST_WRITE_FLUSH_DONE (R368). -/
def execHostWriteFlushDone (slot : FlushOf) (s : State) : Host.Outcome State Fault Refusal :=
  onDie (fun d => d.hostWriteFlushDone slot) s

/-- BARRIER_RELEASE_INSTANT (R391). -/
def execBarrierReleaseInstant (s : State) : Host.Outcome State Fault Refusal :=
  onDie Die.barrierReleaseInstant s

/-- F_SEND (R387). -/
def execFSend (slot : BitVec 12) (run : Run) (s : State) : Host.Outcome State Fault Refusal :=
  onDie (fun d => d.fSend slot run) s

/-- F_BCAST (R387). -/
def execFBcast (slot : BitVec 12) (run : Run) (s : State) : Host.Outcome State Fault Refusal :=
  onDie (fun d => d.fBcast slot run) s

/-- HOST_READ_RESPONSE (R369). -/
def execHostReadResponse (line : BitVec 42) (data : Line) (how : HostReply) (s : State) : Host.Outcome State Fault Refusal :=
  onDie (fun d => d.hostReadResponse line data how) s

/-- HOST_READ_TIMEOUT (R369). -/
def execHostReadTimeout (line : BitVec 42) (s : State) : Host.Outcome State Fault Refusal :=
  onDie (fun d => d.hostReadTimeout line) s

/-- HOST_SNOOP (R367). -/
def execHostSnoop (line : BitVec 42) (s : State) : Host.Outcome State Fault Refusal :=
  onDie (fun d => d.hostSnoop line) s

/-- PEER_PORT_TRAINED (R377). -/
def execPeerPortTrained (port : Bool) (rate : BitVec 3) (repaired : BitVec 4) (s : State) : Host.Outcome State Fault Refusal :=
  onDie (fun d => d.peerPortTrained port rate repaired) s

/-- ESLIS_HELLO (R377). -/
def execEslisHello (hdr : Hdr) (nsId : Word) (s : State) : Host.Outcome State Fault Refusal :=
  onDie (fun d => (d.heard hdr).eslisHello hdr nsId) s

/-- ESLIS_TOPO (R377). -/
def execEslisTopo (hdr : Hdr) (die1 : BitVec 8) (die2 : BitVec 8) (latency : BitVec 32) (s : State) : Host.Outcome State Fault Refusal :=
  onDie (fun d => (d.heard hdr).eslisTopo hdr die1 die2 latency) s

/-- FLIT_RECEIVE (R379). -/
def execFlitReceive (flit : FlitWords) (s : State) : Host.Outcome State Fault Refusal :=
  onDie (fun d => d.flitReceive flit) s

/-- FLIT_ACK_TIMEOUT (R379). -/
def execFlitAckTimeout (port : Bool) (s : State) : Host.Outcome State Fault Refusal :=
  onDie (fun d => d.flitAckTimeout port) s

/-- LINK_RETRAIN (R393). -/
def execLinkRetrain (port : BitVec 2) (ok : Bool) (repairOut : Bool) (trained : Trained) (s : State) : Host.Outcome State Fault Refusal :=
  onDie (fun d => d.linkRetrain port ok repairOut trained) s

/-- PEER_PORT_DOWN (R394). -/
def execPeerPortDown (port : Bool) (s : State) : Host.Outcome State Fault Refusal :=
  onDie (fun d => d.peerPortDown port) s

/-- HOST_PORT_DOWN (R394). -/
def execHostPortDown (s : State) : Host.Outcome State Fault Refusal :=
  onDie Die.hostPortDown s

/-- ESLIS_RD (R383). -/
def execEslisRd (hdr : Hdr) (addr : BitVec 36) (key : BitVec 7) (tenant : BitVec 7) (queue : BitVec 20)
    (s : State) : Host.Outcome State Fault Refusal :=
  onDie (fun d => (d.heard hdr).eslisRd hdr addr key tenant queue) s

/-- ESLIS_WR (R383). -/
def execEslisWr (hdr : Hdr) (addr : BitVec 36) (key : BitVec 7) (tenant : BitVec 7) (queue : BitVec 20) (data : Line)
    (s : State) : Host.Outcome State Fault Refusal :=
  onDie (fun d => (d.heard hdr).eslisWr hdr addr key tenant queue data) s

/-- ESLIS_WRM (R383). -/
def execEslisWrm (hdr : Hdr) (addr : BitVec 36) (key : BitVec 7) (tenant : BitVec 7) (queue : BitVec 20) (mask : BitVec 64) (data : Line)
    (s : State) : Host.Outcome State Fault Refusal :=
  onDie (fun d => (d.heard hdr).eslisWrm hdr addr key tenant queue mask data) s

/-- ESLIS_RDATA (R384). -/
def execEslisRdata (hdr : Hdr) (status : BitVec 8) (data : Line) (s : State) : Host.Outcome State Fault Refusal :=
  onDie (fun d => (d.heard hdr).eslisRdata hdr status data) s

/-- ESLIS_WACK (R384). -/
def execEslisWack (hdr : Hdr) (status : BitVec 8) (s : State) : Host.Outcome State Fault Refusal :=
  onDie (fun d => (d.heard hdr).eslisWack hdr status) s

/-- PEER_REQUEST_TIMEOUT (R384). -/
def execPeerRequestTimeout (idx : BitVec 12) (s : State) : Host.Outcome State Fault Refusal :=
  onDie (fun d => d.peerRequestTimeout idx) s

/-- ESLIS_OPEN (R387). -/
def execEslisOpen (hdr : Hdr) (dst : BitVec 48) (len : Word) (mask : BitVec 8) (sig : Bool) (counter : BitVec 16) (inc : BitVec 16) (tenant : BitVec 7) (queue : BitVec 20)
    (s : State) : Host.Outcome State Fault Refusal :=
  onDie (fun d => (d.heard hdr).eslisOpen hdr dst len mask sig counter inc tenant queue) s

/-- ESLIS_BULK (R387). -/
def execEslisBulk (flit : BulkFlit) (s : State) : Host.Outcome State Fault Refusal :=
  onDie (fun d => d.eslisBulk flit) s

/-- ESLIS_DONE (R388). -/
def execEslisDone (hdr : Hdr) (status : BitVec 8) (s : State) : Host.Outcome State Fault Refusal :=
  onDie (fun d => (d.heard hdr).eslisDone hdr status) s

/-- FABRIC_DONE_TIMEOUT (R388). -/
def execFabricDoneTimeout (slot : BitVec 12) (s : State) : Host.Outcome State Fault Refusal :=
  onDie (fun d => d.fabricDoneTimeout slot) s

/-- ESLIS_TIME_SEND (R389). -/
def execEslisTimeSend (s : State) : Host.Outcome State Fault Refusal :=
  onDie Die.eslisTimeSend s

/-- ESLIS_TIME (R389). -/
def execEslisTime (hdr : Hdr) (value : BitVec 64) (mask : BitVec 8) (s : State) : Host.Outcome State Fault Refusal :=
  onDie (fun d => (d.heard hdr).eslisTime hdr value mask) s

/-- ESLIS_ARRIVE (R391). -/
def execEslisArrive (hdr : Hdr) (id : BitVec 8) (k : BitVec 24) (mask : BitVec 8) (s : State) : Host.Outcome State Fault Refusal :=
  onDie (fun d => (d.heard hdr).eslisArrive hdr id k mask) s

/-- ESLIS_RELEASE (R391). -/
def execEslisRelease (hdr : Hdr) (id : BitVec 8) (k : BitVec 24) (t0 : BitVec 64) (s : State) : Host.Outcome State Fault Refusal :=
  onDie (fun d => (d.heard hdr).eslisRelease hdr id k t0) s

/-- ESLIS_MGMT (R445). -/
def execEslisMgmt (hdr : Hdr) (msg : Mgmt) (s : State) : Host.Outcome State Fault Refusal :=
  onDie (fun d => (d.heard hdr).eslisMgmt hdr msg) s

/-- LINK_RESET (R395). -/
def execLinkReset (s : State) : Host.Outcome State Fault Refusal :=
  onDie (fun d => d.awake fun d => d.linkReset) s

/-- FAB_STATUS (R396). -/
def execFabStatus (s : State) : Host.Outcome State Fault Refusal :=
  onDie Die.fabStatus s

/-- FAB_SET_ID (R376). -/
def execFabSetId (s : State) : Host.Outcome State Fault Refusal :=
  onDie Die.fabSetId s

/-- FAB_ROUTE (R382). -/
def execFabRoute (s : State) : Host.Outcome State Fault Refusal :=
  onDie Die.fabRoute s

/-- LINK_PORT_DISABLE (R396). -/
def execLinkPortDisable (s : State) : Host.Outcome State Fault Refusal :=
  onDie Die.linkPortDisable s

/-- LINK_PORT_ENABLE (R396). -/
def execLinkPortEnable (s : State) : Host.Outcome State Fault Refusal :=
  onDie Die.linkPortEnable s

/-- LINK_PORT_RETRAIN (R393). -/
def execLinkPortRetrain (s : State) : Host.Outcome State Fault Refusal :=
  onDie Die.linkPortRetrain s

end Sys2Proof.Machine
end

