-- ==== Sys2Proof/Machine/ExecModel.lean ====
section
/-! DEFINITION. The meanings of the commands of model weights (chapter 13): each is one operation of the die. -/

namespace Sys2Proof.Machine

/-- MODEL_LOAD (R299). -/
def execModelLoad (hits : Hits) (s : State) : Host.Outcome State Fault Refusal :=
  onDie (fun d => d.modelLoad hits) s

/-- SHARD_VERIFY (R301). -/
def execShardVerify (slot : BitVec 5) (hits : Hits) (s : State) : Host.Outcome State Fault Refusal :=
  onDie (fun d => d.shardVerify slot hits) s

/-- MODEL_UNLOAD (R304). -/
def execModelUnload (s : State) : Host.Outcome State Fault Refusal :=
  onDie Die.modelUnload s

/-- MODEL_QUERY (R298). -/
def execModelQuery (s : State) : Host.Outcome State Fault Refusal :=
  onDie Die.modelQuery s

/-- MODEL_SCRUB (R306). -/
def execModelScrub (s : State) : Host.Outcome State Fault Refusal :=
  onDie Die.modelScrub s

/-- MODEL_SCRUB_PASS (R306). -/
def execModelScrubPass (slot : BitVec 5) (s : State) : Host.Outcome State Fault Refusal :=
  onDie (fun d => d.modelScrubPass slot) s

/-- MODEL_REPAIR (R307). -/
def execModelRepair (slot : BitVec 5) (hits : Hits) (s : State) : Host.Outcome State Fault Refusal :=
  onDie (fun d => d.modelRepair slot hits) s

/-- MODEL_IN_SERVICE_MSG (R310). -/
def execModelInServiceMsg (hdr : Hdr) (base : BitVec 32) (s : State) : Host.Outcome State Fault Refusal :=
  onDie (fun d => (d.heard hdr).modelInServiceMsg hdr base) s

end Sys2Proof.Machine
end

