-- ==== Sys2Proof/Machine/ExecPower.lean ====
section
/-! DEFINITION. The meanings of the commands of power and heat (chapter 17): each is one operation of the die. -/

namespace Sys2Proof.Machine

/-- DROOP_DETECT (R410). -/
def execDroopDetect (drop : BitVec 8) (steps : BitVec 3) (s : State) : Host.Outcome State Fault Refusal :=
  onDie (fun d => d.droopDetect drop steps) s

/-- DROOP_RELAX (R410). -/
def execDroopRelax (cycles : Word) (s : State) : Host.Outcome State Fault Refusal :=
  onDie (fun d => d.droopRelax cycles) s

/-- POWER_ESTIMATE_PERIOD (R402). -/
def execPowerEstimatePeriod (estimate : Estimate) (s : State) : Host.Outcome State Fault Refusal :=
  onDieIf (estimateLegal estimate) (fun d => d.powerEstimatePeriod estimate) s

/-- THERMAL_SAMPLE (R411). -/
def execThermalSample (temps : List (BitVec 16)) (s : State) : Host.Outcome State Fault Refusal :=
  onDieIf (tempsLegal temps) (fun d => d.thermalSample temps) s

/-- IDLE_ENTER (R414). -/
def execIdleEnter (s : State) : Host.Outcome State Fault Refusal :=
  onDie Die.idleEnter s

/-- POWER_ENTRY_DRAINED (R415). -/
def execPowerEntryDrained (s : State) : Host.Outcome State Fault Refusal :=
  onDie Die.powerEntryDrained s

/-- POWER_ENTRY_TIMEOUT (R415). -/
def execPowerEntryTimeout (s : State) : Host.Outcome State Fault Refusal :=
  onDie Die.powerEntryTimeout s

/-- WAKE_TIMER (R416). -/
def execWakeTimer (s : State) : Host.Outcome State Fault Refusal :=
  onDie Die.wakeTimer s

/-- DMP_WAKE (R416). -/
def execDmpWake (value : Word) (s : State) : Host.Outcome State Fault Refusal :=
  onDie (fun d => d.dmpWake value) s

/-- WAKE (R418). -/
def execWake (s : State) : Host.Outcome State Fault Refusal :=
  onDie Die.wakeUp s

/-- POWER_CAP (R400). -/
def execPowerCap (s : State) : Host.Outcome State Fault Refusal :=
  onDie Die.powerCap s

/-- POWER_SPLIT (R404). -/
def execPowerSplit (s : State) : Host.Outcome State Fault Refusal :=
  onDie Die.powerSplit s

/-- BOOST (R405). -/
def execBoost (s : State) : Host.Outcome State Fault Refusal :=
  onDie Die.boostCmd s

/-- RAIL_LIMIT (R409). -/
def execRailLimit (s : State) : Host.Outcome State Fault Refusal :=
  onDie Die.railLimit s

/-- POWER_STATE (R415). -/
def execPowerState (s : State) : Host.Outcome State Fault Refusal :=
  onDie Die.powerState s

/-- POWER_INFO (R420). -/
def execPowerInfo (s : State) : Host.Outcome State Fault Refusal :=
  onDie Die.powerInfo s

/-- THERMAL_CFG (R411). -/
def execThermalCfg (s : State) : Host.Outcome State Fault Refusal :=
  onDie Die.thermalCfg s

end Sys2Proof.Machine
end

