-- ==== Sys2Proof/Machine/ExecPug.lean ====
section
/-! DEFINITION. The meanings of the commands of the Pug codec (chapter 05): each is one operation of the die. -/

namespace Sys2Proof.Machine

/-- P_COMPRESS (R106). -/
def execPCompress (slot : BitVec 12) (run : Run) (s : State) : Host.Outcome State Fault Refusal :=
  onDie (fun d => d.pCompress slot run) s

/-- P_EXPAND (R109). -/
def execPExpand (slot : BitVec 12) (run : Run) (s : State) : Host.Outcome State Fault Refusal :=
  onDie (fun d => d.pExpand slot run) s

/-- PUG_RESET (R117). -/
def execPugReset (s : State) : Host.Outcome State Fault Refusal :=
  onDie (fun d => d.awake fun d => d.pugReset) s

end Sys2Proof.Machine
end

