-- ==== Sys2Proof/Machine/ExecQueue.lean ====
section
/-! DEFINITION. The meanings of the commands of queues and doorbells (chapter 10): each is one operation of the die. -/

namespace Sys2Proof.Machine

/-- QUEUE_CONTEXT_FETCH (R232). -/
def execQueueContextFetch (queue : BitVec 20) (upset : Option CacheUpset) (s : State) : Host.Outcome State Fault Refusal :=
  onDie (fun d => d.queueContextFetch queue upset) s

/-- DB_ADD (R233). -/
def execDbAdd (page : DbPage) (value : Word) (s : State) : Host.Outcome State Fault Refusal :=
  onDie (fun d => d.doorbellAdd (dbIndex page) value) s

/-- DB_RELEASE (R233). -/
def execDbRelease (page : DbPage) (value : Word) (s : State) : Host.Outcome State Fault Refusal :=
  onDie (fun d => d.doorbellRelease (dbIndex page) value) s

/-- DB_FLUSH (R236). -/
def execDbFlush (page : DbPage) (value : Word) (s : State) : Host.Outcome State Fault Refusal :=
  onDie (fun d => d.doorbellFlush (dbIndex page) value) s

/-- QUE_CMD_CREATE (R230). -/
def execQueCmdCreate (queue : BitVec 20) (s : State) : Host.Outcome State Fault Refusal :=
  onDie (fun d => d.awake fun d => d.queCreate queue) s

/-- QUE_CMD_MODIFY (R230). -/
def execQueCmdModify (queue : BitVec 20) (s : State) : Host.Outcome State Fault Refusal :=
  onDie (fun d => d.awake fun d => d.queModify queue) s

/-- QUE_CMD_READ (R230). -/
def execQueCmdRead (queue : BitVec 20) (s : State) : Host.Outcome State Fault Refusal :=
  onDie (fun d => d.awake fun d => d.queRead queue) s

/-- QUE_CMD_DESTROY (R230). -/
def execQueCmdDestroy (queue : BitVec 20) (s : State) : Host.Outcome State Fault Refusal :=
  onDie (fun d => d.awake fun d => d.queDestroy queue) s

/-- TENANT_CONFIG (R220). -/
def execTenantConfig (s : State) : Host.Outcome State Fault Refusal :=
  onDie Die.tenantConfig s

/-- TENANT_TEARDOWN (R222). -/
def execTenantTeardown (s : State) : Host.Outcome State Fault Refusal :=
  onDie Die.tenantTeardown s

end Sys2Proof.Machine
end

