-- ==== Sys2Proof/Machine/ExecRas.lean ====
section
/-! DEFINITION. The meanings of the commands of reliability (chapter 20): each is one operation of the die. -/

namespace Sys2Proof.Machine

/-- EPOCH_ADVANCE (R477). -/
def execEpochAdvance (unit : ResetUnit) (s : State) : Host.Outcome State Fault Refusal :=
  onDie (fun d => d.unitEpochAdvance unit) s

/-- TRACKER_ENTRY_EXPIRE (R473). -/
def execTrackerEntryExpire (s : State) : Host.Outcome State Fault Refusal :=
  onDie Die.trackerEntryExpire s

/-- SELFTEST_PERIODIC (R475). -/
def execSelftestPeriodic (kiln : List (List (BitVec 12))) (wheel : List (List (BitVec 5))) (s : State) : Host.Outcome State Fault Refusal :=
  onDie (fun d => d.selftestPeriodic kiln wheel) s

/-- RAS_INFO (R481). -/
def execRasInfo (s : State) : Host.Outcome State Fault Refusal :=
  onDie Die.rasInfo s

/-- RAS_LOG (R481). -/
def execRasLog (s : State) : Host.Outcome State Fault Refusal :=
  onDie Die.rasLog s

/-- RAS_SELFTEST (R475). -/
def execRasSelftest (kiln : List (List (BitVec 12))) (wheel : List (List (BitVec 5))) (s : State) : Host.Outcome State Fault Refusal :=
  onDie (fun d => d.rasSelftest kiln wheel) s

/-- FIRMWARE_SRAM_UNCORRECTABLE (R471). -/
def execFirmwareSramUncorrectable (proc : BitVec 2) (word : BitVec 20) (s : State) : Host.Outcome State Fault Refusal :=
  onDie (fun d => d.firmwareSramUncorrectable proc word) s

end Sys2Proof.Machine
end

