-- ==== Sys2Proof/Machine/ExecSaggar.lean ====
section
/-! DEFINITION. The meanings of the commands of the Saggar (chapter 18): each is one operation of the die. -/

namespace Sys2Proof.Machine

/-- KEY_SESSION_LAPSE (R434). -/
def execKeySessionLapse (num : BitVec 16) (s : State) : Host.Outcome State Fault Refusal :=
  onDie (fun d => d.keySessionLapse num) s

/-- CONF_OFFER_LAPSE (R439). -/
def execConfOfferLapse (s : State) : Host.Outcome State Fault Refusal :=
  onDie Die.confOfferLapse s

/-- CONF_SESSION_IDLE (R440). -/
def execConfSessionIdle (s : State) : Host.Outcome State Fault Refusal :=
  onDie Die.confSessionIdle s

/-- RNG_HEALTH_FAIL (R426). -/
def execRngHealthFail (s : State) : Host.Outcome State Fault Refusal :=
  onDie Die.rngHealthFail s

/-- SEC_IDENTITY (R424). -/
def execSecIdentity (s : State) : Host.Outcome State Fault Refusal :=
  onDie Die.secIdentity s

/-- SEC_ATTEST (R432). -/
def execSecAttest (s : State) : Host.Outcome State Fault Refusal :=
  onDie Die.secAttest s

/-- SEC_KEY_SESSION (R434). -/
def execSecKeySession (s : State) : Host.Outcome State Fault Refusal :=
  onDie Die.secKeySession s

/-- SEC_KEY_RELEASE (R435). -/
def execSecKeyRelease (upsets : List Upset) (lost : Nat) (s : State) : Host.Outcome State Fault Refusal :=
  onDie (fun d => d.secKeyRelease upsets lost) s

/-- SEC_KEY_ERASE (R438). -/
def execSecKeyErase (s : State) : Host.Outcome State Fault Refusal :=
  onDie Die.secKeyErase s

/-- SEC_CONF_OPEN (R439). -/
def execSecConfOpen (s : State) : Host.Outcome State Fault Refusal :=
  onDie Die.secConfOpen s

/-- SEC_CONF_ACCEPT (R439). -/
def execSecConfAccept (s : State) : Host.Outcome State Fault Refusal :=
  onDie Die.secConfAccept s

/-- SEC_CONF_CLOSE (R440). -/
def execSecConfClose (s : State) : Host.Outcome State Fault Refusal :=
  onDie Die.secConfClose s

/-- SEC_ROLLBACK (R442). -/
def execSecRollback (good : BitVec 7) (s : State) : Host.Outcome State Fault Refusal :=
  onDie (fun d => d.secRollback good) s

end Sys2Proof.Machine
end

