-- ==== Sys2Proof/Machine/ExecServing.lean ====
section
/-! DEFINITION. The meanings of the commands of serving and sampling (chapter 11): each is one operation of the die. -/

namespace Sys2Proof.Machine

/-- SERVING_DEADLINE (R251). -/
def execServingDeadline (group : BitVec 4) (tenant : BitVec 7) (id : Word) (s : State) : Host.Outcome State Fault Refusal :=
  onDie (fun d => d.servingDeadline group tenant id) s

/-- V_SAMPLE (R260). -/
def execVSample (slot : BitVec 12) (run : Run) (s : State) : Host.Outcome State Fault Refusal :=
  onDie (fun d => d.vSample slot run) s

/-- V_MASKSTEP (R265). -/
def execVMaskstep (slot : BitVec 12) (run : Run) (s : State) : Host.Outcome State Fault Refusal :=
  onDie (fun d => d.vMaskstep slot run) s

/-- V_EMIT_STEP (R255). -/
def execVEmitStep (slot : BitVec 12) (hits : Hits) (s : State) : Host.Outcome State Fault Refusal :=
  onDie (fun d => d.vEmitStep slot hits) s

/-- V_EMIT_SUBMIT (R246). -/
def execVEmitSubmit (slot : BitVec 12) (hits : Hits) (s : State) : Host.Outcome State Fault Refusal :=
  onDie (fun d => d.vEmitSubmit slot hits) s

/-- V_EMIT_CANCEL (R252). -/
def execVEmitCancel (slot : BitVec 12) (s : State) : Host.Outcome State Fault Refusal :=
  onDie (fun d => d.vEmitCancel slot) s

/-- SERVING_ABORT (R255). -/
def execServingAbort (group : BitVec 4) (abort : Bool) (s : State) : Host.Outcome State Fault Refusal :=
  onDie (fun d => d.awake fun d => d.servingAbort group abort) s

end Sys2Proof.Machine
end

