-- ==== Sys2Proof/Machine/ExecShelves.lean ====
section
/-! DEFINITION. The meanings of the commands of the Shelves and the event counters (chapters 03 and 08): each is one operation of the die. -/

namespace Sys2Proof.Machine

/-- SHF_BANK_CFG_WRITE (R58). -/
def execShfBankCfgWrite (bank : BitVec 7) (value : Word) (s : State) : Host.Outcome State Fault Refusal :=
  onDieIf (bankLegal bank) (fun d => d.awake fun d => d.shfBankCfgWrite bank value) s

/-- SHF_SLOT_RANGE_WRITE (R59). -/
def execShfSlotRangeWrite (slot : BitVec 10) (value : Word) (s : State) : Host.Outcome State Fault Refusal :=
  onDie (fun d => d.awake fun d => d.shfSlotRangeWrite slot value) s

/-- SLOT_DECLARE (R59). -/
def execSlotDeclare (slot : BitVec 10) (value : Word) (s : State) : Host.Outcome State Fault Refusal :=
  onDie (fun d => d.awake fun d => d.slotDeclare slot value) s

/-- SLOT_RELEASE (R62). -/
def execSlotRelease (slot : BitVec 10) (value : Word) (s : State) : Host.Outcome State Fault Refusal :=
  onDie (fun d => d.awake fun d => d.slotRelease slot value) s

/-- SHELF_ROW_REWRITE (R64). -/
def execShelfRowRewrite (row : BitVec 17) (s : State) : Host.Outcome State Fault Refusal :=
  onDieIf (rowLegal row) (fun d => d.shelfRowRewrite row) s

/-- SHELF_SCRUB (R66). -/
def execShelfScrub (row : BitVec 17) (fault : Option (BitVec 32)) (s : State) : Host.Outcome State Fault Refusal :=
  onDieIf (rowLegal row) (fun d => d.shelfScrub row fault) s

/-- BANK_CLEAR (R65). -/
def execBankClear (bank : BitVec 7) (s : State) : Host.Outcome State Fault Refusal :=
  onDieIf (bankLegal bank) (fun d => d.bankClear bank) s

/-- BANK_GATE_CLOSE (R67). -/
def execBankGateClose (bank : BitVec 7) (s : State) : Host.Outcome State Fault Refusal :=
  onDieIf (bankLegal bank) (fun d => d.bankGateClose bank) s

/-- SHELF_SPARE_ROW (R69). -/
def execShelfSpareRow (s : State) : Host.Outcome State Fault Refusal :=
  onDie Die.shelfSpareRow s

/-- SHELF_POWER (R67). -/
def execShelfPower (s : State) : Host.Outcome State Fault Refusal :=
  onDie Die.shelfPower s

end Sys2Proof.Machine
end

