-- ==== Sys2Proof/Machine/ExecSystem.lean ====
section
/-! DEFINITION. The meanings of the commands of registers, reset, straps and test access (chapters 00, 21 and 22): each is one operation of the die. -/

namespace Sys2Proof.Machine

/-- POR_ASSERT (R498). -/
def execPorAssert (s : State) : Host.Outcome State Fault Refusal :=
  .next s.porAssert

/-- POR_RELEASE (R448). -/
def execPorRelease (straps : Straps) (image : FlashImage) (s : State) : Host.Outcome State Fault Refusal :=
  .next (s.porRelease straps image)

/-- POWER_LOSS (R499). -/
def execPowerLoss (s : State) : Host.Outcome State Fault Refusal :=
  .next s.powerLoss

/-- CONE_TRIP (R412). -/
def execConeTrip (site : BitVec 5) (s : State) : Host.Outcome State Fault Refusal :=
  if siteLegal site then .next (s.coneTrip site) else .fault .illFormed

/-- REGISTER_WRITE (R486). -/
def execRegisterWrite (bar2 : Bool) (off : BitVec 26) (size : BitVec 4) (data : BitVec 64) (s : State) : Host.Outcome State Fault Refusal :=
  onDie (fun d => d.registerWrite bar2 off.toNat size.toNat data) s

/-- COUNTER_READ_CLEAR (R6). -/
def execCounterReadClear (bar2 : Bool) (off : BitVec 26) (size : BitVec 4) (s : State) : Host.Outcome State Fault Refusal :=
  onDie (fun d => d.hostRead bar2 off.toNat size.toNat) s

/-- LATCHED_PAIR_READ (R487). -/
def execLatchedPairRead (pair : LatchPair) (wide : Bool) (s : State) : Host.Outcome State Fault Refusal :=
  onDie (fun d => d.latchedRead pair wide) s

/-- POWER_UP (R497). -/
def execPowerUp (s : State) : Host.Outcome State Fault Refusal :=
  .next s.powerUp

/-- JTAG_TAP_RESET (R507). -/
def execJtagTapReset (s : State) : Host.Outcome State Fault Refusal :=
  .next s.jtagTapReset

/-- JTAG_INSTRUCTION (R508). -/
def execJtagInstruction (code : BitVec 8) (s : State) : Host.Outcome State Fault Refusal :=
  .next (s.jtagInstruction code)

end Sys2Proof.Machine
end

