-- ==== Sys2Proof/Machine/ExecTick.lean ====
section
/-! DEFINITION. The meanings of the commands of ticks (chapter 09): each is one operation of the die. -/

namespace Sys2Proof.Machine

/-- TICK (R207). -/
def execTick (sense : Sense) (s : State) : Host.Outcome State Fault Refusal :=
  onDieIf (senseLegal sense) (fun d => d.tick sense) s

/-- TICK_FALLBACK (R204). -/
def execTickFallback (sense : Sense) (s : State) : Host.Outcome State Fault Refusal :=
  onDieIf (senseLegal sense) (fun d => d.tickFallback sense) s

/-- HOST_TICK_WRITE (R201). -/
def execHostTickWrite (value : Word) (sense : Sense) (s : State) : Host.Outcome State Fault Refusal :=
  onDieIf (senseLegal sense) (fun d => d.hostTickWrite value sense) s

/-- DESCRIPTOR_ADMIT (R208). -/
def execDescriptorAdmit (upset : Option CacheUpset) (s : State) : Host.Outcome State Fault Refusal :=
  onDie (fun d => d.descriptorAdmit upset) s

/-- ESLIS_TICK (R206). -/
def execEslisTick (hdr : Hdr) (firing : BitVec 64) (mask : BitVec 8) (sense : Sense) (s : State) : Host.Outcome State Fault Refusal :=
  onDieIf (senseLegal sense) (fun d => (d.heard hdr).eslisTick hdr firing mask sense) s

/-- TICK_CONFIG (R202). -/
def execTickConfig (s : State) : Host.Outcome State Fault Refusal :=
  onDie Die.tickConfig s

end Sys2Proof.Machine
end

