-- ==== Sys2Proof/Machine/ExecTier.lean ====
section
/-! DEFINITION. The meanings of the commands of the memory tiers (chapter 12): each is one operation of the die. -/

namespace Sys2Proof.Machine

/-- PARK_EXPIRY (R288). -/
def execParkExpiry (id : BitVec 16) (s : State) : Host.Outcome State Fault Refusal :=
  onDie (fun d => d.parkExpiry id) s

/-- T_PREFETCH (R283). -/
def execTPrefetch (slot : BitVec 12) (hits : Hits) (s : State) : Host.Outcome State Fault Refusal :=
  onDie (fun d => d.tPrefetch slot hits) s

/-- T_MIGRATE (R285). -/
def execTMigrate (slot : BitVec 12) (hits : Hits) (s : State) : Host.Outcome State Fault Refusal :=
  onDie (fun d => d.tMigrate slot hits) s

/-- T_PARK (R287). -/
def execTPark (slot : BitVec 12) (hits : Hits) (s : State) : Host.Outcome State Fault Refusal :=
  onDie (fun d => d.tPark slot hits) s

/-- T_RESTORE (R289). -/
def execTRestore (slot : BitVec 12) (hits : Hits) (s : State) : Host.Outcome State Fault Refusal :=
  onDie (fun d => d.tRestore slot hits) s

/-- TIER_RESET (R292). -/
def execTierReset (s : State) : Host.Outcome State Fault Refusal :=
  onDie (fun d => d.awake fun d => d.tierReset) s

/-- TIR_CMD_SETDIR (R274). -/
def execTirCmdSetdir (s : State) : Host.Outcome State Fault Refusal :=
  onDie (fun d => d.awake fun d => d.tirSetdir) s

/-- TIR_CMD_MAP (R274). -/
def execTirCmdMap (s : State) : Host.Outcome State Fault Refusal :=
  onDie (fun d => d.awake fun d => d.tirMap) s

/-- TIR_CMD_UNMAP (R274). -/
def execTirCmdUnmap (s : State) : Host.Outcome State Fault Refusal :=
  onDie (fun d => d.awake fun d => d.tirUnmap) s

/-- TIR_CMD_READ (R274). -/
def execTirCmdRead (s : State) : Host.Outcome State Fault Refusal :=
  onDie (fun d => d.awake fun d => d.tirRead) s

/-- PAGE_MIGRATION_SWITCH (R277). -/
def execPageMigrationSwitch (copy : PageCopy) (s : State) : Host.Outcome State Fault Refusal :=
  onDie (fun d => d.pageMigrationSwitch copy) s

/-- DEMAND_FILL (R279). -/
def execDemandFill (page : BitVec 32) (s : State) : Host.Outcome State Fault Refusal :=
  onDie (fun d => d.demandFill page) s

/-- FILL_NO_FRAME (R279). -/
def execFillNoFrame (page : BitVec 32) (s : State) : Host.Outcome State Fault Refusal :=
  onDie (fun d => d.fillNoFrame page) s

/-- TENANT_WINDOW (R272). -/
def execTenantWindow (s : State) : Host.Outcome State Fault Refusal :=
  onDie Die.tenantWindow s

end Sys2Proof.Machine
end

