-- ==== Sys2Proof/Machine/ExecWheel.lean ====
section
/-! DEFINITION. The meanings of the commands of the Wheel and its KV contexts (chapter 07): each is one operation of the die. -/

namespace Sys2Proof.Machine

/-- W_GEMV (R141). -/
def execWGemv (slot : BitVec 12) (run : Run) (faults : List WheelUpset) (s : State) : Host.Outcome State Fault Refusal :=
  onDie (fun d => d.wGemv slot run faults) s

/-- W_ATTN (R158). -/
def execWAttn (slot : BitVec 12) (run : Run) (faults : List WheelUpset) (s : State) : Host.Outcome State Fault Refusal :=
  onDie (fun d => d.wAttn slot run faults) s

/-- W_KVAPPEND (R153). -/
def execWKvappend (slot : BitVec 12) (run : Run) (s : State) : Host.Outcome State Fault Refusal :=
  onDie (fun d => d.wKvappend slot run) s

/-- W_KVEVICT (R157). -/
def execWKvevict (slot : BitVec 12) (run : Run) (s : State) : Host.Outcome State Fault Refusal :=
  onDie (fun d => d.wKvevict slot run) s

/-- WHEEL_PREFETCH_START (R146). -/
def execWheelPrefetchStart (s : State) : Host.Outcome State Fault Refusal :=
  onDie Die.wheelPrefetchStart s

/-- WHEEL_SPARE_SWAP (R167). -/
def execWheelSpareSwap (s : State) : Host.Outcome State Fault Refusal :=
  onDie Die.wheelSpareSwap s

/-- WHEEL_RESET (R168). -/
def execWheelReset (s : State) : Host.Outcome State Fault Refusal :=
  onDie (fun d => d.awake fun d => d.wheelReset) s

end Sys2Proof.Machine
end

