-- ==== Sys2Proof/Machine/Dispatch.lean ====
section
/-! DEFINITION. The meaning of each command: one arm for each row of the opcode table. -/

namespace Sys2Proof.Machine

def exec (i : Instr) (s : State) : Host.Outcome State Fault Refusal :=
  match i with
  | .porAssert => Sys2Proof.Machine.execPorAssert s
  | .porRelease straps image => Sys2Proof.Machine.execPorRelease straps image s
  | .bootComplete found => Sys2Proof.Machine.execBootComplete found s
  | .hostImageLoad len hits => Sys2Proof.Machine.execHostImageLoad len hits s
  | .powerLoss => Sys2Proof.Machine.execPowerLoss s
  | .coneTrip site => Sys2Proof.Machine.execConeTrip site s
  | .droopDetect drop steps => Sys2Proof.Machine.execDroopDetect drop steps s
  | .droopRelax cycles => Sys2Proof.Machine.execDroopRelax cycles s
  | .tick sense => Sys2Proof.Machine.execTick sense s
  | .tickFallback sense => Sys2Proof.Machine.execTickFallback sense s
  | .hostTickWrite value sense => Sys2Proof.Machine.execHostTickWrite value sense s
  | .sWaitTimeout slot => Sys2Proof.Machine.execSWaitTimeout slot s
  | .sTickwaitReady slot => Sys2Proof.Machine.execSTickwaitReady slot s
  | .servingDeadline group tenant id => Sys2Proof.Machine.execServingDeadline group tenant id s
  | .parkExpiry id => Sys2Proof.Machine.execParkExpiry id s
  | .descriptorAdmit upset => Sys2Proof.Machine.execDescriptorAdmit upset s
  | .queueContextFetch queue upset => Sys2Proof.Machine.execQueueContextFetch queue upset s
  | .descriptorReady slot => Sys2Proof.Machine.execDescriptorReady slot s
  | .descriptorComplete slot => Sys2Proof.Machine.execDescriptorComplete slot s
  | .hostWriteFlushDone slot => Sys2Proof.Machine.execHostWriteFlushDone slot s
  | .nop => Sys2Proof.Machine.execNop s
  | .kLoadIn slot run => Sys2Proof.Machine.execKLoadIn slot run s
  | .kCharge slot run => Sys2Proof.Machine.execKCharge slot run s
  | .kilnFirstIssueSwap => Sys2Proof.Machine.execKilnFirstIssueSwap s
  | .kilnVectorIssue feeder damper residue => Sys2Proof.Machine.execKilnVectorIssue feeder damper residue s
  | .accUpdateLand upset => Sys2Proof.Machine.execAccUpdateLand upset s
  | .kilnDrainRow => Sys2Proof.Machine.execKilnDrainRow s
  | .kilnShadowReleased => Sys2Proof.Machine.execKilnShadowReleased s
  | .kilnOwedSwap => Sys2Proof.Machine.execKilnOwedSwap s
  | .kilnHoldTimeout => Sys2Proof.Machine.execKilnHoldTimeout s
  | .kilnClockGate => Sys2Proof.Machine.execKilnClockGate s
  | .kilnSpareSwap found => Sys2Proof.Machine.execKilnSpareSwap found s
  | .klnOwedRelease value => Sys2Proof.Machine.execKlnOwedRelease value s
  | .kilnReset => Sys2Proof.Machine.execKilnReset s
  | .wGemv slot run faults => Sys2Proof.Machine.execWGemv slot run faults s
  | .wAttn slot run faults => Sys2Proof.Machine.execWAttn slot run faults s
  | .wKvappend slot run => Sys2Proof.Machine.execWKvappend slot run s
  | .wKvevict slot run => Sys2Proof.Machine.execWKvevict slot run s
  | .wheelPrefetchStart => Sys2Proof.Machine.execWheelPrefetchStart s
  | .wheelSpareSwap => Sys2Proof.Machine.execWheelSpareSwap s
  | .wheelReset => Sys2Proof.Machine.execWheelReset s
  | .gElem slot run => Sys2Proof.Machine.execGElem slot run s
  | .gNorm slot run => Sys2Proof.Machine.execGNorm slot run s
  | .gSoftmax slot run => Sys2Proof.Machine.execGSoftmax slot run s
  | .gRope slot run => Sys2Proof.Machine.execGRope slot run s
  | .gRequant slot run => Sys2Proof.Machine.execGRequant slot run s
  | .gTopk slot run => Sys2Proof.Machine.execGTopk slot run s
  | .glazeReset => Sys2Proof.Machine.execGlazeReset s
  | .mCopy slot run => Sys2Proof.Machine.execMCopy slot run s
  | .mGather slot run => Sys2Proof.Machine.execMGather slot run s
  | .mScatter slot run => Sys2Proof.Machine.execMScatter slot run s
  | .mFill slot run => Sys2Proof.Machine.execMFill slot run s
  | .dmReset => Sys2Proof.Machine.execDmReset s
  | .pCompress slot run => Sys2Proof.Machine.execPCompress slot run s
  | .pExpand slot run => Sys2Proof.Machine.execPExpand slot run s
  | .pugReset => Sys2Proof.Machine.execPugReset s
  | .sWait slot => Sys2Proof.Machine.execSWait slot s
  | .sSignalAdd slot => Sys2Proof.Machine.execSSignalAdd slot s
  | .sSignalSet slot => Sys2Proof.Machine.execSSignalSet slot s
  | .sSignalClear slot => Sys2Proof.Machine.execSSignalClear slot s
  | .sBarrier slot => Sys2Proof.Machine.execSBarrier slot s
  | .barrierReleaseInstant => Sys2Proof.Machine.execBarrierReleaseInstant s
  | .sTickwait slot => Sys2Proof.Machine.execSTickwait slot s
  | .vSample slot run => Sys2Proof.Machine.execVSample slot run s
  | .vMaskstep slot run => Sys2Proof.Machine.execVMaskstep slot run s
  | .vEmitStep slot hits => Sys2Proof.Machine.execVEmitStep slot hits s
  | .vEmitSubmit slot hits => Sys2Proof.Machine.execVEmitSubmit slot hits s
  | .vEmitCancel slot => Sys2Proof.Machine.execVEmitCancel slot s
  | .tPrefetch slot hits => Sys2Proof.Machine.execTPrefetch slot hits s
  | .tMigrate slot hits => Sys2Proof.Machine.execTMigrate slot hits s
  | .tPark slot hits => Sys2Proof.Machine.execTPark slot hits s
  | .tRestore slot hits => Sys2Proof.Machine.execTRestore slot hits s
  | .tierReset => Sys2Proof.Machine.execTierReset s
  | .cBind slot => Sys2Proof.Machine.execCBind slot s
  | .cStats slot bufferError => Sys2Proof.Machine.execCStats slot bufferError s
  | .fSend slot run => Sys2Proof.Machine.execFSend slot run s
  | .fBcast slot run => Sys2Proof.Machine.execFBcast slot run s
  | .epochAdvance unit => Sys2Proof.Machine.execEpochAdvance unit s
  | .shfBankCfgWrite bank value => Sys2Proof.Machine.execShfBankCfgWrite bank value s
  | .shfSlotRangeWrite slot value => Sys2Proof.Machine.execShfSlotRangeWrite slot value s
  | .slotDeclare slot value => Sys2Proof.Machine.execSlotDeclare slot value s
  | .slotRelease slot value => Sys2Proof.Machine.execSlotRelease slot value s
  | .shelfRowRewrite row => Sys2Proof.Machine.execShelfRowRewrite row s
  | .shelfScrub row fault => Sys2Proof.Machine.execShelfScrub row fault s
  | .bankClear bank => Sys2Proof.Machine.execBankClear bank s
  | .bankGateClose bank => Sys2Proof.Machine.execBankGateClose bank s
  | .shelfSpareRow => Sys2Proof.Machine.execShelfSpareRow s
  | .schEventWrite counter value => Sys2Proof.Machine.execSchEventWrite counter value s
  | .schEventInc value => Sys2Proof.Machine.execSchEventInc value s
  | .schEvtPoisonClear word value => Sys2Proof.Machine.execSchEvtPoisonClear word value s
  | .registerWrite bar2 off size data => Sys2Proof.Machine.execRegisterWrite bar2 off size data s
  | .counterReadClear bar2 off size => Sys2Proof.Machine.execCounterReadClear bar2 off size s
  | .latchedPairRead pair wide => Sys2Proof.Machine.execLatchedPairRead pair wide s
  | .dbAdd page value => Sys2Proof.Machine.execDbAdd page value s
  | .dbRelease page value => Sys2Proof.Machine.execDbRelease page value s
  | .dbFlush page value => Sys2Proof.Machine.execDbFlush page value s
  | .queCmdCreate queue => Sys2Proof.Machine.execQueCmdCreate queue s
  | .queCmdModify queue => Sys2Proof.Machine.execQueCmdModify queue s
  | .queCmdRead queue => Sys2Proof.Machine.execQueCmdRead queue s
  | .queCmdDestroy queue => Sys2Proof.Machine.execQueCmdDestroy queue s
  | .servingAbort group abort => Sys2Proof.Machine.execServingAbort group abort s
  | .tirCmdSetdir => Sys2Proof.Machine.execTirCmdSetdir s
  | .tirCmdMap => Sys2Proof.Machine.execTirCmdMap s
  | .tirCmdUnmap => Sys2Proof.Machine.execTirCmdUnmap s
  | .tirCmdRead => Sys2Proof.Machine.execTirCmdRead s
  | .pageMigrationSwitch copy => Sys2Proof.Machine.execPageMigrationSwitch copy s
  | .demandFill page => Sys2Proof.Machine.execDemandFill page s
  | .fillNoFrame page => Sys2Proof.Machine.execFillNoFrame page s
  | .modelLoad hits => Sys2Proof.Machine.execModelLoad hits s
  | .shardVerify slot hits => Sys2Proof.Machine.execShardVerify slot hits s
  | .modelUnload => Sys2Proof.Machine.execModelUnload s
  | .modelQuery => Sys2Proof.Machine.execModelQuery s
  | .modelScrub => Sys2Proof.Machine.execModelScrub s
  | .modelScrubPass slot => Sys2Proof.Machine.execModelScrubPass slot s
  | .modelRepair slot hits => Sys2Proof.Machine.execModelRepair slot hits s
  | .dramLineRead key line tenant queue act linkCe fault => Sys2Proof.Machine.execDramLineRead key line tenant queue act linkCe fault s
  | .dramLineWrite key line data poison tenant queue act => Sys2Proof.Machine.execDramLineWrite key line data poison tenant queue act s
  | .dramPartialWrite key line mask data tenant queue act => Sys2Proof.Machine.execDramPartialWrite key line mask data tenant queue act s
  | .dramCeRewrite line => Sys2Proof.Machine.execDramCeRewrite line s
  | .dramPatrolScrub fault => Sys2Proof.Machine.execDramPatrolScrub fault s
  | .dramRetrain warm ok => Sys2Proof.Machine.execDramRetrain warm ok s
  | .rowHammerAction => Sys2Proof.Machine.execRowHammerAction s
  | .rowHammerWindowEnd => Sys2Proof.Machine.execRowHammerWindowEnd s
  | .dramPpr => Sys2Proof.Machine.execDramPpr s
  | .dramSegmentClear seg => Sys2Proof.Machine.execDramSegmentClear seg s
  | .nandUnitRead page unit how => Sys2Proof.Machine.execNandUnitRead page unit how s
  | .nandUnitWrite page unit fails => Sys2Proof.Machine.execNandUnitWrite page unit fails s
  | .nandReadDisturbReloc block => Sys2Proof.Machine.execNandReadDisturbReloc block s
  | .nandWearLevel => Sys2Proof.Machine.execNandWearLevel s
  | .nandGarbageCollect block => Sys2Proof.Machine.execNandGarbageCollect block s
  | .nandGrownBad block => Sys2Proof.Machine.execNandGrownBad block s
  | .csiFrameStart port vc => Sys2Proof.Machine.execCsiFrameStart port vc s
  | .csiLine port vc dt bytes eccCorr crcBad buffered => Sys2Proof.Machine.execCsiLine port vc dt bytes eccCorr crcBad buffered s
  | .csiEmbedded port vc bytes eccCorr crcBad => Sys2Proof.Machine.execCsiEmbedded port vc bytes eccCorr crcBad s
  | .csiFrameEnd port vc => Sys2Proof.Machine.execCsiFrameEnd port vc s
  | .frameCloseTimeout ctx => Sys2Proof.Machine.execFrameCloseTimeout ctx s
  | .ifeCtxEnable ctx value => Sys2Proof.Machine.execIfeCtxEnable ctx value s
  | .ifeCtxDisable ctx value => Sys2Proof.Machine.execIfeCtxDisable ctx value s
  | .dnTileFill => Sys2Proof.Machine.execDnTileFill s
  | .dnTileOutput => Sys2Proof.Machine.execDnTileOutput s
  | .dnTileDeadline => Sys2Proof.Machine.execDnTileDeadline s
  | .statsReady ctx => Sys2Proof.Machine.execStatsReady ctx s
  | .settingsTransferDone ctx acked => Sys2Proof.Machine.execSettingsTransferDone ctx acked s
  | .settingsWindowExpiry ctx => Sys2Proof.Machine.execSettingsWindowExpiry ctx s
  | .i3cIbi port addr payload => Sys2Proof.Machine.execI3cIbi port addr payload s
  | .ifeReset => Sys2Proof.Machine.execIfeReset s
  | .hostReadResponse line data how => Sys2Proof.Machine.execHostReadResponse line data how s
  | .hostReadTimeout line => Sys2Proof.Machine.execHostReadTimeout line s
  | .hostSnoop line => Sys2Proof.Machine.execHostSnoop line s
  | .peerPortTrained port rate repaired => Sys2Proof.Machine.execPeerPortTrained port rate repaired s
  | .eslisHello hdr nsId => Sys2Proof.Machine.execEslisHello hdr nsId s
  | .eslisTopo hdr die1 die2 latency => Sys2Proof.Machine.execEslisTopo hdr die1 die2 latency s
  | .flitReceive flit => Sys2Proof.Machine.execFlitReceive flit s
  | .flitAckTimeout port => Sys2Proof.Machine.execFlitAckTimeout port s
  | .linkRetrain port ok repairOut trained => Sys2Proof.Machine.execLinkRetrain port ok repairOut trained s
  | .peerPortDown port => Sys2Proof.Machine.execPeerPortDown port s
  | .hostPortDown => Sys2Proof.Machine.execHostPortDown s
  | .eslisRd hdr addr key tenant queue => Sys2Proof.Machine.execEslisRd hdr addr key tenant queue s
  | .eslisWr hdr addr key tenant queue data => Sys2Proof.Machine.execEslisWr hdr addr key tenant queue data s
  | .eslisWrm hdr addr key tenant queue mask data => Sys2Proof.Machine.execEslisWrm hdr addr key tenant queue mask data s
  | .eslisRdata hdr status data => Sys2Proof.Machine.execEslisRdata hdr status data s
  | .eslisWack hdr status => Sys2Proof.Machine.execEslisWack hdr status s
  | .peerRequestTimeout idx => Sys2Proof.Machine.execPeerRequestTimeout idx s
  | .eslisOpen hdr dst len mask sig counter inc tenant queue => Sys2Proof.Machine.execEslisOpen hdr dst len mask sig counter inc tenant queue s
  | .eslisBulk flit => Sys2Proof.Machine.execEslisBulk flit s
  | .eslisDone hdr status => Sys2Proof.Machine.execEslisDone hdr status s
  | .fabricDoneTimeout slot => Sys2Proof.Machine.execFabricDoneTimeout slot s
  | .eslisTick hdr firing mask sense => Sys2Proof.Machine.execEslisTick hdr firing mask sense s
  | .eslisTimeSend => Sys2Proof.Machine.execEslisTimeSend s
  | .eslisTime hdr value mask => Sys2Proof.Machine.execEslisTime hdr value mask s
  | .eslisArrive hdr id k mask => Sys2Proof.Machine.execEslisArrive hdr id k mask s
  | .eslisRelease hdr id k t0 => Sys2Proof.Machine.execEslisRelease hdr id k t0 s
  | .eslisMgmt hdr msg => Sys2Proof.Machine.execEslisMgmt hdr msg s
  | .modelInServiceMsg hdr base => Sys2Proof.Machine.execModelInServiceMsg hdr base s
  | .linkReset => Sys2Proof.Machine.execLinkReset s
  | .powerEstimatePeriod estimate => Sys2Proof.Machine.execPowerEstimatePeriod estimate s
  | .thermalSample temps => Sys2Proof.Machine.execThermalSample temps s
  | .idleEnter => Sys2Proof.Machine.execIdleEnter s
  | .powerEntryDrained => Sys2Proof.Machine.execPowerEntryDrained s
  | .powerEntryTimeout => Sys2Proof.Machine.execPowerEntryTimeout s
  | .wakeTimer => Sys2Proof.Machine.execWakeTimer s
  | .dmpWake value => Sys2Proof.Machine.execDmpWake value s
  | .wake => Sys2Proof.Machine.execWake s
  | .watchdogExpiry proc => Sys2Proof.Machine.execWatchdogExpiry proc s
  | .processorRestart proc => Sys2Proof.Machine.execProcessorRestart proc s
  | .supervisorRestored => Sys2Proof.Machine.execSupervisorRestored s
  | .fwpRingCfgWrite value => Sys2Proof.Machine.execFwpRingCfgWrite value s
  | .fwpCmdTailWrite tail => Sys2Proof.Machine.execFwpCmdTailWrite tail s
  | .activateDrainTimeout => Sys2Proof.Machine.execActivateDrainTimeout s
  | .probationPass => Sys2Proof.Machine.execProbationPass s
  | .commitDone => Sys2Proof.Machine.execCommitDone s
  | .keySessionLapse num => Sys2Proof.Machine.execKeySessionLapse num s
  | .confOfferLapse => Sys2Proof.Machine.execConfOfferLapse s
  | .confSessionIdle => Sys2Proof.Machine.execConfSessionIdle s
  | .rngHealthFail => Sys2Proof.Machine.execRngHealthFail s
  | .trackerEntryExpire => Sys2Proof.Machine.execTrackerEntryExpire s
  | .selftestPeriodic kiln wheel => Sys2Proof.Machine.execSelftestPeriodic kiln wheel s
  | .powerCap => Sys2Proof.Machine.execPowerCap s
  | .powerSplit => Sys2Proof.Machine.execPowerSplit s
  | .boost => Sys2Proof.Machine.execBoost s
  | .railLimit => Sys2Proof.Machine.execRailLimit s
  | .powerState => Sys2Proof.Machine.execPowerState s
  | .shelfPower => Sys2Proof.Machine.execShelfPower s
  | .powerInfo => Sys2Proof.Machine.execPowerInfo s
  | .thermalCfg => Sys2Proof.Machine.execThermalCfg s
  | .secIdentity => Sys2Proof.Machine.execSecIdentity s
  | .secAttest => Sys2Proof.Machine.execSecAttest s
  | .secKeySession => Sys2Proof.Machine.execSecKeySession s
  | .secKeyRelease upsets lost => Sys2Proof.Machine.execSecKeyRelease upsets lost s
  | .secKeyErase => Sys2Proof.Machine.execSecKeyErase s
  | .secConfOpen => Sys2Proof.Machine.execSecConfOpen s
  | .secConfAccept => Sys2Proof.Machine.execSecConfAccept s
  | .secConfClose => Sys2Proof.Machine.execSecConfClose s
  | .secRollback good => Sys2Proof.Machine.execSecRollback good s
  | .fwInfo => Sys2Proof.Machine.execFwInfo s
  | .drvHello => Sys2Proof.Machine.execDrvHello s
  | .dataStart => Sys2Proof.Machine.execDataStart s
  | .dataStop => Sys2Proof.Machine.execDataStop s
  | .tickConfig => Sys2Proof.Machine.execTickConfig s
  | .tenantConfig => Sys2Proof.Machine.execTenantConfig s
  | .tenantWindow => Sys2Proof.Machine.execTenantWindow s
  | .tenantTeardown => Sys2Proof.Machine.execTenantTeardown s
  | .watchdog => Sys2Proof.Machine.execWatchdog s
  | .fwStage hits => Sys2Proof.Machine.execFwStage hits s
  | .fwActivate accepts => Sys2Proof.Machine.execFwActivate accepts s
  | .fwStatus => Sys2Proof.Machine.execFwStatus s
  | .memInfo => Sys2Proof.Machine.execMemInfo s
  | .memRetrain => Sys2Proof.Machine.execMemRetrain s
  | .memPprHard => Sys2Proof.Machine.execMemPprHard s
  | .flashFormat marks => Sys2Proof.Machine.execFlashFormat marks s
  | .flashInfo => Sys2Proof.Machine.execFlashInfo s
  | .camPortConfig => Sys2Proof.Machine.execCamPortConfig s
  | .camXfer reply => Sys2Proof.Machine.execCamXfer reply s
  | .camDaa targets => Sys2Proof.Machine.execCamDaa targets s
  | .camStatus bus => Sys2Proof.Machine.execCamStatus bus s
  | .fabStatus => Sys2Proof.Machine.execFabStatus s
  | .fabSetId => Sys2Proof.Machine.execFabSetId s
  | .fabRoute => Sys2Proof.Machine.execFabRoute s
  | .linkPortDisable => Sys2Proof.Machine.execLinkPortDisable s
  | .linkPortEnable => Sys2Proof.Machine.execLinkPortEnable s
  | .linkPortRetrain => Sys2Proof.Machine.execLinkPortRetrain s
  | .rasInfo => Sys2Proof.Machine.execRasInfo s
  | .rasLog => Sys2Proof.Machine.execRasLog s
  | .rasSelftest kiln wheel => Sys2Proof.Machine.execRasSelftest kiln wheel s
  | .powerUp => Sys2Proof.Machine.execPowerUp s
  | .firmwareSramUncorrectable proc word => Sys2Proof.Machine.execFirmwareSramUncorrectable proc word s
  | .csiHeaderUncorrectable ctx => Sys2Proof.Machine.execCsiHeaderUncorrectable ctx s
  | .jtagTapReset => Sys2Proof.Machine.execJtagTapReset s
  | .jtagInstruction code => Sys2Proof.Machine.execJtagInstruction code s

end Sys2Proof.Machine
end

