-- ==== Sys2Proof/Machine/Step.lean ====
section
/-! DEFINITION. The step: the command at the front of the queue takes effect; with none waiting, a reference-clock cycle
passes. -/

namespace Sys2Proof.Machine

/-- A reference-clock cycle passes while the die runs (R17; DESIGN CHOICE, log entry 2). -/
def State.pass (s : State) : State :=
  if s.live then { s with die := s.die.idleCycle } else s

/-- One step of the block. -/
def step (s : State) : Host.Outcome State Fault Refusal :=
  match s.pending with
  | [] => .next s.pass
  | c :: rest => exec c { s with pending := rest }

/-- A command at the front of the queue. -/
def State.give (s : State) (c : Instr) : State := { s with pending := c :: s.pending }

/-- The state with the command a word spells at the front of its queue; no word spells one. -/
def State.withFetchWord (s : State) (nbits w : Nat) : State :=
  match decodeTableWord nbits w with
  | some c => s.give c
  | none => s

end Sys2Proof.Machine
end

