-- ==== Sys2Proof/Safety.lean ====
section
/-! DEFINITION. What a safe step and a safe run are: no fault and no refusal. The queue of a block is legal when every command
in it is one the hardware can carry. -/

namespace Sys2Proof.Machine

/-- Every waiting command is one the hardware can carry. -/
def State.queueLegal (s : State) : Bool := s.pending.all wellFormed

/-- A step from the state answers a next state. -/
def State.stepSafe (s : State) : Prop := ∃ t, step s = .next t

/-- `k` steps from the state all answer next states. -/
def State.runSafe (k : Nat) (s : State) : Prop := ∃ t, Host.Core.run Sys2Proof.core k s = .next t

/-- Every addressed storage of the die in its canonical form: registers, Shelves rows, accumulator rows and NAND units (keys
rising, no entry that equals what an unlisted one reads as), and LOCAL lines with rising addresses: what an unlisted line
reads as follows the clears in force. -/
def Memory.wf (d : Die) : Bool :=
  SMap.wf resetOf d.regs && SMap.wf (fun _ => (0#4096 : Row)) d.shelf.rows && SMap.wf (fun _ => AccRow.powerUp) d.kiln.acc &&
    SMap.wf (fun _ => FlashUnit.zero) d.nand.units && SMap.rising d.dmc.lines

/-! ### The terms the invariants are stated in -/

/-- What holds of the pins and of a die in reset: por_n is high only with the rails up, a trip needs the rails, and while
por_n is low every part of the die is at its reset value but what outlives reset (R412, R488, R491, R497). -/
def State.HeldInReset (s : State) : Prop :=
  (s.porN = true → s.rails = true) ∧ (s.tripped = true → s.rails = true) ∧
    (s.porN = false →
      s.die = { (Die.initial s.die.nand s.die.repairLog s.die.nv).setReg Reg.DMP_TRIP (s.die.reg Reg.DMP_TRIP) with
        dmc := { Dmc.fresh with lines := s.die.dmc.lines, keyCtr := s.die.dmc.keyCtr }
        freeCtr := s.die.freeCtr
        out := s.die.out })

/-- The commands that act on the pins and the test access port. -/
def actsOnPins (c : Instr) : Bool :=
  match c with
  | .porAssert => true
  | .porRelease _ _ => true
  | .powerLoss => true
  | .powerUp => true
  | .coneTrip _ => true
  | .jtagTapReset => true
  | .jtagInstruction _ => true
  | _ => false

/-- Writes that a die in DOZE or SLEEP does not take (R419). -/
def refusedAsleep (c : Instr) : Bool :=
  match c with
  | .schEventWrite _ _ => true
  | .schEventInc _ => true
  | .schEvtPoisonClear _ _ => true
  | .shfSlotRangeWrite _ _ => true
  | .slotDeclare _ _ => true
  | .slotRelease _ _ => true
  | .klnOwedRelease _ => true
  | .kilnReset => true
  | .wheelReset => true
  | .pugReset => true
  | .glazeReset => true
  | .dmReset => true
  | .tierReset => true
  | .ifeReset => true
  | .linkReset => true
  | .queCmdCreate _ => true
  | .queCmdModify _ => true
  | .queCmdRead _ => true
  | .queCmdDestroy _ => true
  | .tirCmdSetdir => true
  | .tirCmdMap => true
  | .tirCmdUnmap => true
  | .tirCmdRead => true
  | .servingAbort _ _ => true
  | .ifeCtxEnable _ _ => true
  | .ifeCtxDisable _ _ => true
  | _ => false

/-- Commands that move counters, flags, records and pins and store nothing. -/
def leavesStorage (c : Instr) : Bool :=
  match c with
  | .sWaitTimeout _ => true
  | .sTickwaitReady _ => true
  | .descriptorReady _ => true
  | .hostWriteFlushDone _ => true
  | .kilnClockGate => true
  | .kilnShadowReleased => true
  | .klnOwedRelease _ => true
  | .epochAdvance _ => true
  | .shfSlotRangeWrite _ _ => true
  | .slotDeclare _ _ => true
  | .slotRelease _ _ => true
  | .shelfRowRewrite _ => true
  | .schEventWrite _ _ => true
  | .schEventInc _ => true
  | .schEvtPoisonClear _ _ => true
  | .counterReadClear _ _ _ => true
  | .latchedPairRead _ _ => true
  | .servingAbort _ _ => true
  | .rowHammerAction => true
  | .rowHammerWindowEnd => true
  | .i3cIbi _ _ _ => true
  | .hostReadTimeout _ => true
  | .hostSnoop _ => true
  | .droopDetect _ _ => true
  | .droopRelax _ => true
  | .idleEnter => true
  | .dmpWake _ => true
  | .keySessionLapse _ => true
  | .confOfferLapse => true
  | .rngHealthFail => true
  | .trackerEntryExpire => true
  | .wheelSpareSwap => true
  | _ => false

/-! ### The terms completion is stated in -/

/-- While the block is live with die `d`, the command answers the next state, in which the die alone has changed: it is `d'`. -/
def Does (c : Instr) (d d' : Die) : Prop := ∀ s : State, s.live = true → s.die = d → exec c s = .next { s with die := d' }

/-- With every line it reads at hand, the command takes the die `d` to `t`, the lines it used spent. -/
def Settles (c : Instr) (d t : Die) : Prop := AtHand t → Does c d t.spend

/-- The die as a descriptor starts on it: what comes with the run has struck and the entry is marked started. -/
def Die.launched (d : Die) (e : Entry) (run : Run) : Die := (d.strike (opcodeOf e.desc) run).markStarted e

/-- The start checks of Table 3.3 and Table 12.3 on a descriptor whose parameters are legal (R141). -/
def Die.startVerdict (d : Die) (e : Entry) (run : Run) : Option Nat × Die :=
  ((d.launched e run).modEntry e.slot fun o => { o with lawful := true }).allStartChecks e

/-- The die a started descriptor's unit works on: the start checks have run, and POISON_IN is noted (R195). -/
def Die.checked (d : Die) (e : Entry) (run : Run) : Die := ((d.startVerdict e run).2.taintEntry e).workOf e.slot

/-- `e` is the entry in a slot as it stands at its start: one of opcode `op` that its unit may start (R12, R13, R60). -/
def Startable (op slot : Nat) (may : Entry → Die → Bool) (d : Die) (e : Entry) : Prop :=
  (d.entry slot).map d.atStart = some e ∧ opcodeOf e.desc = op ∧ may e d = true ∧ e.phase ≠ .loading ∧
    d.mayStart e = true ∧ d.slotTurn e = true ∧ (e.tainted && !e.proceeds) = false

/-- A startable descriptor comes through its start, with legal parameters and with every start check passed (R54, R141,
R193, R273). -/
def Starts (op slot : Nat) (run : Run) (may legal : Entry → Die → Bool) (d : Die) (e : Entry) : Prop :=
  Startable op slot may d e ∧ legal e (d.launched e run) = true ∧ (d.startVerdict e run).1 = none

/-- After the packets it may take, `d1` is the die and `c` is the command of opcode `op` its processor comes to, up, awake
and allowed in the die's state (R445, R452, R455, R456). -/
def Handles (op : Nat) (d d1 : Die) (c : Cmd) : Prop :=
  Die.takePackets 4096 (d.workOf mgmtSlot) = d1 ∧ d1.headCmd (procOf op) = some c ∧ c.op = op ∧ d1.procDown (procOf op) = false ∧
    d1.asleep = false ∧ d1.fw.halted = false ∧ d1.refusal op = none

/-- A message for this die on an open port of `d`, its body as Table 16.4 has it, taken off the port: `d1` is the die that
handles it (R381, R382). -/
def Delivers (h : Hdr) (op bytes : Nat) (body payload : List Nat) (d d1 : Die) : Prop :=
  d.portOpen (portOf h) = true ∧ d.received (portOf h) (msgClass op) (laneOf h) bytes = d1 ∧ badMessage h op body payload = false ∧
    d1.route (portOf h) h.dst.toNat = 0

end Sys2Proof.Machine
end

