-- ==== Sys2Proof/Certificates/Slice0/Obligations.lean ====
section
/-! DEFINITION. What the provers are asked for: the block's steps, its invariants, the results and the completion of every
command. -/

open Sys2Proof Sys2Proof.Machine

/-! ### The step, the queue and reset -/

/-- A step with a command at the front of the queue is that command's effect on the block with the rest of the queue. -/
def Obligations.StepTakesFront : Prop :=
  ∀ (c : Instr) (rest : List Instr) (s : State), step { s with pending := c :: rest } = exec c { s with pending := rest }

/-- With no command waiting, a reference-clock cycle passes when the die runs, and nothing at all when it does not. In that
cycle a context or page-table command gets its RESULT, the image front end and the models go on, and what earlier ticks left
undone goes on (the model's choice, log entries 2 and 50); with nothing of that to do the cycle only counts. -/
def Obligations.IdleStepCounts : Prop :=
  ∀ s : State, s.pending = [] →
    (s.live = true → step s = .next { s with
      die := ({ s.die with refclk := s.die.refclk + 1 }).queDone.tirDone.camGoOn.modelsGoOn.tickGoesOn }) ∧
    (∀ d : Die, s.live = true → { s.die with refclk := s.die.refclk + 1 } = d → d.queues.busy = none → d.tier.busy = none →
      d.camGoOn = d → d.modelsGoOn = d → d.serving.late = [] → d.owed = [] → step s = .next { s with die := d }) ∧
    (s.live = false → step s = .next s)

/-- A command the hardware can carry is answered with a next state in every state; any other is a fault in every state
(log entry 4 names the operands no command of the hardware can have). -/
def Obligations.CarriedCommandsAnswer : Prop :=
  ∀ (c : Instr) (s : State),
    (wellFormed c = true → ∃ t, exec c s = .next t) ∧ (wellFormed c = false → exec c s = .fault .illFormed)

/-- A queue of commands the hardware can carry runs to its end, one command a step, from every state: no fault and no
refusal on the way, and after `k` steps the first `k` commands are gone. -/
def Obligations.LegalQueueRuns : Prop :=
  ∀ (k : Nat) (s : State), s.queueLegal = true →
    ∃ t, Host.Core.run Sys2Proof.core k s = .next t ∧ t.pending = s.pending.drop k ∧ t.queueLegal = true

/-- The block after reset is held in reset. -/
def Obligations.ResetIsHeld : Prop := State.reset.HeldInReset

/-- Every step of every state keeps the invariant of reset: no command reaches a die whose por_n is low. -/
def Obligations.HeldInResetKept : Prop := ∀ s t : State, s.HeldInReset → step s = .next t → t.HeldInReset

/-- A command takes nothing from the queue and puts nothing into it, and only the commands of power, por_n, the Cone and the
test access port change a pin or the port's instruction (R412, R498, R507, R508). -/
def Obligations.PinsKeptByDieCommands : Prop :=
  ∀ (c : Instr) (s t : State), exec c s = .next t →
    t.pending = s.pending ∧
      (actsOnPins c = false → t.porN = s.porN ∧ t.rails = s.rails ∧ t.tripped = s.tripped ∧ t.jtagIr = s.jtagIr)

/-- A die that does not run hears nothing: while por_n is low, the rails are down or the Cone has tripped, a command that is
carried and does not act on the pins changes nothing (R412, R497). -/
def Obligations.DeadDieHearsNothing : Prop :=
  ∀ (c : Instr) (s : State), s.live = false → wellFormed c = true → actsOnPins c = false → exec c s = .next s

/-- After POR_ASSERT nothing of the die can be told but what outlives reset: two running blocks that agree on that alone give
the same state (R423, R488, R491, R498). -/
def Obligations.PorAssertForgets : Prop :=
  ∀ s t : State, s.live = true → t.live = true → s.pending = t.pending → s.jtagIr = t.jtagIr →
    s.die.nand = t.die.nand → s.die.repairLog = t.die.repairLog → s.die.nv = t.die.nv →
    s.die.dmc.lines = t.die.dmc.lines → s.die.dmc.keyCtr = t.die.dmc.keyCtr → s.die.freeCtr = t.die.freeCtr →
    s.die.out = t.die.out → s.die.reg Reg.DMP_TRIP = t.die.reg Reg.DMP_TRIP →
    exec .porAssert s = exec .porAssert t

/-- In DOZE and SLEEP these register commands have no effect but DMP_ERR.ASLEEP (R419). -/
def Obligations.AsleepRefusesWrites : Prop :=
  ∀ (c : Instr) (d : Die), refusedAsleep c = true → d.asleep = true → Does c d (d.err Reg.DMP_ERR Bit.DMP_ERR_ASLEEP)

/-! ### Completion: power, registers, Shelves, events and queues -/

/-- Power, por_n, the Cone and the test access port take effect (R412, R448, R497 to R500, R507, R508; what a trip with por_n
low shows is the model's choice, log entry 13, and the instruction a TAP reset selects is log entry 71). -/
def Obligations.PowerAndPortComplete : Prop :=
  (∀ s : State, s.porN = true → s.rails = true →
    exec .porAssert s = .next { s with
      porN := false, tripped := false, die := s.die.resetAll.setReg Reg.DMP_TRIP (s.die.reg Reg.DMP_TRIP) }) ∧
  (∀ (s : State) (straps : Straps) (image : FlashImage) (d : Die), s.porN = false → s.rails = true →
    ((s.die.sampleStraps straps).bootSaggar straps.test).bootFrom straps.boot.toNat image = d →
    exec (.porRelease straps image) s = .next { s with
      porN := true, tripped := false, die := d.setHalted (s.jtagIr == 0x10#8 && d.testMode) }) ∧
  (∀ s : State, s.rails = true →
    exec .powerLoss s = .next { s with
      rails := false, porN := false, tripped := false,
      die := { s.die.resetAll with
        nand := { s.die.nand with orderly := s.die.nand.orderly && !s.porN, place := [], mapCache := [] },
        dmc := { s.die.resetAll.dmc with lines := [] } } }) ∧
  (∀ s : State, s.rails = false →
    exec .powerUp s = .next { s with rails := true, porN := false, tripped := false, jtagIr := 0x01#8 }) ∧
  (∀ (s : State) (site : BitVec 5), site.toNat < 24 → s.rails = true → s.tripped = false → s.porN = true →
    exec (.coneTrip site) s = .next { s with
      tripped := true,
      die := { s.die.setReg Reg.DMP_TRIP (BitVec.ofNat 32 (1 + 2 * site.toNat)) with
        dmc := { s.die.dmc with lines := [], keys := [] } } }) ∧
  (∀ (s : State) (site : BitVec 5), site.toNat < 24 → s.rails = true → s.tripped = false → s.porN = false →
    exec (.coneTrip site) s = .next { s with tripped := true }) ∧
  (∀ s : State, s.rails = true →
    exec .jtagTapReset s = .next { s with
      jtagIr := 0x01#8, die := if s.live then s.die.setHalted false else s.die }) ∧
  (∀ (s : State) (code : BitVec 8), s.rails = true →
    exec (.jtagInstruction code) s = .next { s with
      jtagIr := code, die := if s.live then s.die.setHalted (code == 0x10#8 && s.die.testMode) else s.die })

/-- A host access of 4 or 8 aligned bytes to registers that answer takes effect, word by word, and the tick that a write to
SCH_TICK_NOW makes falls (R6, R201, R484, R486, R487). -/
def Obligations.RegisterAccessesComplete : Prop :=
  (∀ (d : Die) (bar2 : Bool) (off : BitVec 26) (data : BitVec 64), off.toNat % 4 = 0 →
    Does (.registerWrite bar2 off 4#4 data) d (d.writeOne bar2 off.toNat (data.setWidth 32)).lateTick) ∧
  (∀ (d : Die) (bar2 : Bool) (off : BitVec 26) (data : BitVec 64), off.toNat % 4 = 0 →
    Does (.registerWrite bar2 off 8#4 data) d
      ((d.writeOne bar2 off.toNat (data.setWidth 32)).writeOne bar2 (off.toNat + 4) ((data >>> 32).setWidth 32)).lateTick) ∧
  (∀ (d : Die) (off : BitVec 26) (v : Word) (r : RegRow), off.toNat % 4 = 0 → d.asleep = false → off.toNat < 0x100000 →
    wordAddr false off.toNat = some off.toNat → regRow off.toNat = some r → d.sched.late = none →
    Does (.registerWrite false off 4#4 (v.setWidth 64)) d (d.setReg off.toNat (writtenWord r (d.reg off.toNat) v))) ∧
  (∀ (d : Die) (bar2 : Bool) (off : BitVec 26) (a : Nat), off.toNat % 4 = 0 → d.asleep = false →
    wordAddr bar2 off.toNat = some a →
    Does (.counterReadClear bar2 off 4#4) d { d.afterRead a with bus := BitVec.ofNat 64 (d.viewReg a).toNat }) ∧
  (∀ (d : Die), d.asleep = false →
    Does (.latchedPairRead .refclk false) d { d with
      latch := SMap.put (fun _ => 0#32) d.latch Reg.GLB_REFCLK_HI (BitVec.ofNat 32 (d.refclk / 2 ^ 32)),
      bus := BitVec.ofNat 64 (d.refclk % 2 ^ 32) })

/-- The registers of the Shelves take their legal writes: a bank's owner, tenant and class with the clear a change of class
asks for, a slot's range, its declaration with GEN, POISON and READS_LEFT at 0, and its release (R55, R58, R59, R62, R65). -/
def Obligations.ShelfRegistersComplete : Prop :=
  (∀ (d : Die) (bank : BitVec 7) (w : Word), bank.toNat < 88 → d.asleep = false → d.bankBusy bank.toNat = false →
    w.f 3 0 ≤ 6 → (w.f 14 8 < 64 ∨ w.f 14 8 = 0x40 ∨ w.f 14 8 = 0x7F) → d.handoffHolds bank.toNat = false →
    w.b 4 = d.bankWeight bank.toNat →
    Does (.shfBankCfgWrite bank w) d (d.setReg (Reg.SHF_BANK_CFG bank.toNat)
      ((((d.reg (Reg.SHF_BANK_CFG bank.toNat)).setF 3 0 (w.f 3 0)).setF 4 4 (w.f 4 4)).setF 14 8 (w.f 14 8)))) ∧
  (∀ (d : Die) (bank : BitVec 7) (w : Word), bank.toNat < 88 → d.asleep = false → d.bankBusy bank.toNat = false →
    w.f 3 0 ≤ 6 → (w.f 14 8 < 64 ∨ w.f 14 8 = 0x40 ∨ w.f 14 8 = 0x7F) → d.handoffHolds bank.toNat = false →
    w.b 4 ≠ d.bankWeight bank.toNat →
    Does (.shfBankCfgWrite bank w) d ((d.setReg (Reg.SHF_BANK_CFG bank.toNat)
      ((((d.reg (Reg.SHF_BANK_CFG bank.toNat)).setF 3 0 (w.f 3 0)).setF 4 4 (w.f 4 4)).setF 14 8 (w.f 14 8))).requestClear
        bank.toNat)) ∧
  (∀ (d : Die) (n : BitVec 10) (w : Word), d.asleep = false → d.slotDeclared n.toNat = false →
    Does (.shfSlotRangeWrite n w) d (d.setReg (Reg.SHF_SLOT_RANGE n.toNat) (w &&& 0x0FFFFFFF#32))) ∧
  (∀ (d : Die) (n : BitVec 10) (w : Word), d.asleep = false → w.b 0 = true → d.slotDeclared n.toNat = false →
    d.declareLegal n.toNat (w.f 11 8) = true →
    Does (.slotDeclare n w) d
      ((d.setReg (Reg.SHF_SLOT_CTRL n.toNat) (BitVec.ofNat 32 (w.f 11 8 * 256 + 1))).noReaders n.toNat)) ∧
  (∀ (d : Die) (n : BitVec 10) (w : Word), d.asleep = false → w.b 0 = false → d.slotDeclared n.toNat = true →
    Does (.slotRelease n w) d (d.setReg (Reg.SHF_SLOT_CTRL n.toNat)
      (((d.reg (Reg.SHF_SLOT_CTRL n.toNat)).setF 0 0 0).setF 11 8 (w.f 11 8))))

/-- The Shelves keep house: a rewrite is done, a scrub marks an uncorrectable row, a bank clears and its BUSY falls, a bank's
gate closes over lost contents, and a spare row takes over a failing one (R64 to R67, R69). -/
def Obligations.ShelfUpkeepCompletes : Prop :=
  (∀ (d : Die) (row : BitVec 17), row.toNat < 90112 →
    Does (.shelfRowRewrite row) d { d with shelf := { d.shelf with
      rewrites := d.shelf.rewrites.filter (· != row.toNat) } }) ∧
  (∀ (d d1 : Die) (row : BitVec 17), row.toNat < 90112 → d.bankPowered (bankOf row.toNat) = true →
    d.rf Reg.SHF_SCRUB_CFG 15 0 ≠ 0 → d.scrubPass = d1 → d1.shelf.scrubbed.contains row.toNat = false →
    SMap.get (fun _ => 0) d1.shelf.damage row.toNat = 0 →
    Does (.shelfScrub row none) d
      { d1 with shelf := { d1.shelf with scrubbed := setInsert row.toNat d1.shelf.scrubbed } }) ∧
  (∀ (d d1 d2 : Die) (row : BitVec 17) (m : BitVec 32), row.toNat < 90112 → d.bankPowered (bankOf row.toNat) = true →
    d.rf Reg.SHF_SCRUB_CFG 15 0 ≠ 0 → d.scrubPass = d1 → d1.shelf.scrubbed.contains row.toNat = false →
    Die.upset { d1 with shelf := { d1.shelf with scrubbed := setInsert row.toNat d1.shelf.scrubbed } }
      ⟨false, BitVec.ofNat 32 row.toNat, BitVec.ofNat 576 m.toNat, false⟩ = d2 →
    SMap.get (fun _ => 0) d2.shelf.damage row.toNat ≠ 0 →
    Does (.shelfScrub row (some m)) d
      ((({ d2 with shelf := { d2.shelf with
        marks := SMap.put (fun _ => 0) d2.shelf.marks row.toNat 0xFF } }).shelfFault Bit.SHF_ERR_UNCORRECTABLE (bankOf row.toNat)
          7 none).countError 3 row.toNat)) ∧
  (∀ (d d1 : Die) (bank : BitVec 7), bank.toNat < 88 → d.shelf.clearing.contains bank.toNat = true →
    d.bankInUse bank.toNat = false → (d.zeroBank bank.toNat).setRf (Reg.SHF_BANK_CFG bank.toNat) 17 17 0 = d1 →
    Does (.bankClear bank) d { d1 with shelf := { d1.shelf with clearing := setErase bank.toNat d1.shelf.clearing } }) ∧
  (∀ (d d1 : Die) (bank : BitVec 7), bank.toNat < 88 → d.shelf.closing.contains bank.toNat = true → d.sb = [] →
    (d.zeroBank bank.toNat).setRf (Reg.SHF_BANK_CFG bank.toNat) 16 16 0 = d1 →
    Does (.bankGateClose bank) d (Die.setRf { d1 with shelf := { d1.shelf with
        closing := setErase bank.toNat d1.shelf.closing,
        clearing := setErase bank.toNat d1.shelf.clearing } } (Reg.SHF_BANK_CFG bank.toNat) 17 17 0)) ∧
  (∀ (d d1 : Die) (r n : Nat), d.firstWanted 3 = some r → d.rf (Reg.SHF_BANK_STAT (bankOf r)) 3 0 = n + 1 →
    (d.setRf (Reg.SHF_BANK_STAT (bankOf r)) 3 0 n).spareInService 3 r = d1 →
    Does .shelfSpareRow d { d1 with shelf := { d1.shelf with
      spared := setInsert r d1.shelf.spared,
      rewrites := d1.shelf.rewrites.filter (· != r) } })

/-- The event registers set a counter, add to it, and clear POISON bits (R174, R175). -/
def Obligations.EventRegistersComplete : Prop :=
  (∀ (d : Die) (c : BitVec 16) (v : Word), d.asleep = false →
    Does (.schEventWrite c v) d (d.putEvt c.toNat v.toNat)) ∧
  (∀ (d : Die) (w : Word), d.asleep = false → w.f 31 16 ≠ 0 →
    Does (.schEventInc w) d (d.addEvt (w.f 15 0) (w.f 31 16))) ∧
  (∀ (d : Die) (i : BitVec 11) (w : Word), d.asleep = false →
    Does (.schEvtPoisonClear i w) d
      (d.setReg (Reg.SCH_EVT_POISON i.toNat) (d.reg (Reg.SCH_EVT_POISON i.toNat) &&& ~~~w)))

/-- Doorbells of a live page, and of the management context, on a queue that takes them: slots are added and records released
when its context is cached, and a flush ends its descriptors CANCELLED and marks its SQ_TAIL; a missing context is fetched
(R232, R233, R235, R236). -/
def Obligations.DoorbellsComplete : Prop :=
  (∀ (d d1 : Die) (t : BitVec 6) (v : Word) (c : QCtx), d.pageLive t.toNat = true → d.wakeEvent 0 = d1 →
    v.f 31 20 ≠ 0 → v.f 19 0 < d1.qcount t.toNat → d1.cachedCtx (d1.qbase t.toNat + v.f 19 0) = some c → c.state ≠ 0 →
    c.state ≠ 3 → sub32 c.sqTail c.sqHead + v.f 31 20 ≤ 2 ^ c.sqLog2 →
    Does (.dbAdd (.page t) v) d
      (Die.setCtx { d1 with sched := { d1.sched with idleSince := d1.refclk } } (d1.qbase t.toNat + v.f 19 0)
        { c with sqTail := (c.sqTail + v.f 31 20) % 2 ^ 32 })) ∧
  (∀ (d d1 : Die) (t : BitVec 6) (v : Word) (c : QCtx), d.pageLive t.toNat = true → d.wakeEvent 0 = d1 →
    v.f 31 20 ≠ 0 → v.f 19 0 < d1.qcount t.toNat → d1.cachedCtx (d1.qbase t.toNat + v.f 19 0) = some c → c.state ≠ 0 →
    c.state ≠ 3 → v.f 31 20 ≤ sub32 c.cqTail c.cqHead →
    Does (.dbRelease (.page t) v) d
      (Die.setCtx { d1 with sched := { d1.sched with idleSince := d1.refclk } } (d1.qbase t.toNat + v.f 19 0)
        { c with cqHead := (c.cqHead + v.f 31 20) % 2 ^ 32 })) ∧
  (∀ (d d1 d2 : Die) (t : BitVec 6) (v : Word) (q : Nat) (c : QCtx), d.pageLive t.toNat = true → d.wakeEvent 0 = d1 →
    v.f 19 0 < d1.qcount t.toNat → d1.qbase t.toNat + v.f 19 0 = q → d1.fetchCtx q = d2 → d2.ctxOf q = c → c.state ≠ 0 →
    c.state ≠ 3 →
    Does (.dbFlush (.page t) v) d
      ((d2.sb.filter fun e => e.queue == q).foldl (fun acc e => acc.endEarly e stCancelled)
        { d2 with queues := { d2.queues with
          flushMarks := (d2.queues.flushMarks.filter fun (m : Nat × Nat) => m.1 != q) ++ [(q, c.sqTail)] } })) ∧
  (∀ (d d1 : Die) (v : Word) (c : QCtx), d.wakeEvent 0 = d1 → v.f 31 20 ≠ 0 → v.f 19 0 < d1.qcount 64 →
    d1.cachedCtx (d1.qbase 64 + v.f 19 0) = some c → c.state ≠ 0 → c.state ≠ 3 →
    sub32 c.sqTail c.sqHead + v.f 31 20 ≤ 2 ^ c.sqLog2 →
    Does (.dbAdd .mgmt v) d
      (Die.setCtx { d1 with sched := { d1.sched with idleSince := d1.refclk } } (d1.qbase 64 + v.f 19 0)
        { c with sqTail := (c.sqTail + v.f 31 20) % 2 ^ 32 })) ∧
  (∀ (d : Die) (v : Word) (c : QCtx), d.asleep = false → v.f 31 20 ≠ 0 → v.f 19 0 < d.qcount 64 →
    d.cachedCtx (d.qbase 64 + v.f 19 0) = some c → c.state ≠ 0 → c.state ≠ 3 → v.f 31 20 ≤ sub32 c.cqTail c.cqHead →
    Does (.dbRelease .mgmt v) d
      (Die.setCtx { d with sched := { d.sched with idleSince := d.refclk } } (d.qbase 64 + v.f 19 0)
        { c with cqHead := (c.cqHead + v.f 31 20) % 2 ^ 32 })) ∧
  (∀ (d d2 : Die) (v : Word) (q : Nat) (c : QCtx), d.asleep = false → v.f 19 0 < d.qcount 64 → d.qbase 64 + v.f 19 0 = q →
    d.fetchCtx q = d2 → d2.ctxOf q = c → c.state ≠ 0 → c.state ≠ 3 →
    Does (.dbFlush .mgmt v) d
      ((d2.sb.filter fun e => e.queue == q).foldl (fun acc e => acc.endEarly e stCancelled)
        { d2 with queues := { d2.queues with
          flushMarks := (d2.queues.flushMarks.filter fun (m : Nat × Nat) => m.1 != q) ++ [(q, c.sqTail)] } })) ∧
  (∀ (d : Die) (q : BitVec 20), d.cachedCtx q.toNat = none →
    Does (.queueContextFetch q none) d (d.fetchCtx q.toNat))

/-- The context commands create, modify, read and destroy a queue and answer RESULT 0, BUSY until it is set (R230, Table
10.4). -/
def Obligations.ContextCommandsComplete : Prop :=
  (∀ (d d1 d2 : Die) (q : BitVec 20) (i : Nat) (x : QCtx), d.asleep = false → d.queues.busy = none → d.fetchCtx q.toNat = d1 →
    QCtx.ofBytes d1.ctxData = x → d1.queueRecord q.toNat = some i → (d1.ctxOf q.toNat).state = 0 →
    x.softLegal = true → x.ringLegal = true →
    d1.ringOk (tenantCode i) x.sqBase (128 * 2 ^ x.sqLog2) false = true →
    d1.ringOk (tenantCode i) x.cqBase (32 * 2 ^ x.cqLog2) true = true →
    (d1.unmark q.toNat).storeCtx q.toNat
      { x with sqTail := 0, sqHead := 0, cqTail := 0, cqHead := 0, nextSeq := 0, err := 0, inFlight := 0 } = d2 →
    Does (.queCmdCreate q) d (Die.queResult
      { d2 with queues := { d2.queues with lastWb := SMap.put (fun _ => 0) d2.queues.lastWb q.toNat 0 } } 0)) ∧
  (∀ (d d1 : Die) (q : BitVec 20) (c x : QCtx), d.asleep = false → d.queues.busy = none → d.fetchCtx q.toNat = d1 → d1.ctxOf q.toNat = c →
    QCtx.ofBytes d1.ctxData = x → (c.state = 1 ∨ c.state = 2 ∨ (c.state = 3 ∧ c.err ≠ 4)) → x.softLegal = true →
    Does (.queCmdModify q) d
      ((d1.storeCtx q.toNat { c with
        headWb := x.headWb, quota := x.quota, vector := x.vector, flags := x.flags, state := x.state, err := 0 }).queResult 0)) ∧
  (∀ (d d1 : Die) (q : BitVec 20), d.asleep = false → d.queues.busy = none → d.fetchCtx q.toNat = d1 →
    Does (.queCmdRead q) d (d1.queAnswer 0 (some (d1.ctxOf q.toNat).toNat))) ∧
  (∀ (d d1 : Die) (q : BitVec 20), d.asleep = false → d.queues.busy = none → d.fetchCtx q.toNat = d1 →
    ((d1.ctxOf q.toNat).state = 2 ∨ (d1.ctxOf q.toNat).state = 3) → (d1.ctxOf q.toNat).inFlight = 0 →
    Does (.queCmdDestroy q) d
      ((((d1.storeCtx q.toNat { d1.ctxOf q.toNat with state := 0 }).unmark q.toNat).forget (admitSlot q.toNat)).queResult 0))

/-- A queue head is admitted, a NOP with its completion in the same cycle; a waiting descriptor becomes ready; an executed
one whose writes are visible completes, and its flush of HOST writes is done (R57, R173, R187, R208, R368). -/
def Obligations.DescriptorLifeCompletes : Prop :=
  (∀ (d d1 : Die) (i q slots : Nat) (c : QCtx) (x : DescBits) (e : Entry), d.cqStalled = false →
    d.pickHead = some (i, q, c) → (d.workOf (admitSlot q)).readHead (tenantCode i) q c = (.ready x slots, d1) → opcodeOf x ≠ 0 →
    d1.flushing q c = false → d1.dispatchCause (tenantCode i) x = 0 → d1.newEntry i q c.nextSeq x 0 = e →
    Settles (.descriptorAdmit none) d
      (({ d1 with sb := d1.sb ++ [e] }).chargeAdmission i q slots c false).noteHigh) ∧
  (∀ (d d1 d2 : Die) (i q slots : Nat) (c : QCtx) (x : DescBits) (e : Entry), d.cqStalled = false →
    d.pickHead = some (i, q, c) → (d.workOf (admitSlot q)).readHead (tenantCode i) q c = (.ready x slots, d1) → opcodeOf x = 0 →
    d1.flushing q c = false → d1.dispatchCause (tenantCode i) x = 0 → d1.newEntry i q c.nextSeq x 0 = e →
    (({ d1 with sb := d1.sb ++ [e] }).chargeAdmission i q slots c false).noteHigh.shelfCheck e.tenant e.queue e.desc = (none, d2) →
    Settles .nop d (d2.complete e)) ∧
  (∀ (d : Die) (slot : BitVec 12) (e : Entry), d.entry slot.toNat = some e → opcodeOf e.desc ≠ 0x63 → d.ctxHeld e = false →
    e.phase = .waiting → e.fail = 0 → d.waitsMet e.desc = true → d.slotsFree e = true →
    d.slotTurn e = true → d.unitAllows e = true → d.eventPoisoned e.desc = false → d.slotPoisoned e.desc = false →
    Does (.descriptorReady slot) d
      (d.modEntry e.slot fun o => { o with phase := .ready, tainted := false, proceeds := d.proceeds e.queue })) ∧
  (∀ (d : Die) (slot : BitVec 12) (e : Entry), d.entry slot.toNat = some e → e.phase = .executed →
    d.writesVisible e = true → AtHand ((d.workOf (recordSlot slot.toNat)).complete e) →
    Does (.descriptorComplete slot) d ((d.workOf (recordSlot slot.toNat)).complete e).spend.settleStop) ∧
  (∀ (d : Die) (slot : BitVec 12) (e : Entry) (l : Nat), d.entry slot.toNat = some e → e.phase = .executed →
    e.hostFlush = some ⟨l, false⟩ → d.hostUp = true →
    Does (.descriptorComplete slot) d
      ((d.modEntry e.slot fun o => { o with hostFlush := some ⟨l, true⟩ }).emit (.hostFlush (64 * l))).settleStop) ∧
  (∀ (d : Die) (slot : BitVec 12) (e : Entry) (l : Nat), d.sb = [e] → e.slot = slot.toNat → e.hostFlush = some ⟨l, true⟩ →
    Does (.hostWriteFlushDone (.descriptor slot)) d { d with sb := [{ e with hostFlush := none }] })

/-- A tick opens the next firing from the timer, the fallback timer or the host, as its source says, and does the steps of the
tick cycle; a register write to SCH_TICK_NOW is a host tick too (R201, R204, R207, R484). -/
def Obligations.TicksComplete : Prop :=
  (∀ (d : Die) (sense : Sense), sense.counts.length = 8 → d.ticksRun = true → d.tickDue = true →
    Does (.tick sense) d
      (Die.tickCycle ⟨d.firing + 1, if d.tickSource = 1 then 1 else 0, false, sense, d.tickInstant⟩
        (d.askTick (d.firing + 1) (if d.tickSource = 1 then 1 else 0) false sense d.tickInstant))) ∧
  (∀ (d : Die) (sense : Sense), sense.counts.length = 8 → d.ticksRun = true → d.fallbackDue = true →
    Does (.tickFallback sense) d
      (Die.tickCycle ⟨d.firing + 1, 0, true, sense, d.timerInstant d.fallbackAfter⟩
        ((d.count Reg.SCH_TICK_FALLBACKS 1).askTick (d.firing + 1) 0 true sense (d.timerInstant d.fallbackAfter)))) ∧
  (∀ (d : Die) (value : Word) (sense : Sense), sense.counts.length = 8 → d.asleep = false → value.b 0 = true →
    d.tickSource = 2 → d.ticksRun = true → d.tooSoon = false →
    Does (.hostTickWrite value sense) d
      (Die.tickCycle ⟨d.firing + 1, 2, false, sense, d.refclk⟩ (d.askTick (d.firing + 1) 2 false sense d.refclk))) ∧
  (∀ (d d1 : Die) (sense : Sense) (v : Word), d.asleep = false → v.b 0 = true → d.freeSense = (sense, d1) →
    d1.tickSource = 2 → d1.ticksRun = true → d1.tooSoon = false →
    Does (.registerWrite false (BitVec.ofNat 26 Reg.SCH_TICK_NOW) 4#4 (v.setWidth 64)) d
      (Die.tickCycle ⟨d1.firing + 1, 2, false, sense, d1.refclk⟩ (d1.askTick (d1.firing + 1) 2 false sense d1.refclk)))

/-! ### Completion: the units -/

/-- S.WAIT, S.SIGNAL, S.BARRIER and S.TICKWAIT run to their end, with the timeouts, readiness and release instants that serve
them (R187 to R190, R216, R391). -/
def Obligations.SyncCompletes : Prop :=
  (∀ (d : Die) (slot : BitVec 12) (e : Entry), Starts 0x60 slot.toNat Run.clean freeStart anyLegal d e →
    Settles (.sWait slot) d ((d.checked e Run.clean).finish e.slot stOk 0 0 0 0)) ∧
  (∀ (d : Die) (slot : BitVec 12) (e : Entry), d.entry slot.toNat = some e → e.phase = .waiting → opcodeOf e.desc = 0x60 →
    e.fail = 0 → pF e.desc 15 0 ≠ 0 → pF e.desc 15 0 ≤ e.ticks →
    Does (.sWaitTimeout slot) d (d.finish e.slot stTimeout 0 0 0 0)) ∧
  (∀ (d : Die) (slot : BitVec 12) (e : Entry), Starts 0x61 slot.toNat Run.clean (fun e _ => pF e.desc 1 0 == 0) anyLegal d e →
    Settles (.sSignalAdd slot) d (signalBody e (d.checked e Run.clean))) ∧
  (∀ (d : Die) (slot : BitVec 12) (e : Entry), Starts 0x61 slot.toNat Run.clean (fun e _ => pF e.desc 1 0 == 1) anyLegal d e →
    Settles (.sSignalSet slot) d (signalBody e (d.checked e Run.clean))) ∧
  (∀ (d : Die) (slot : BitVec 12) (e : Entry), Starts 0x61 slot.toNat Run.clean (fun e _ => pF e.desc 1 0 == 2) anyLegal d e →
    Settles (.sSignalClear slot) d (signalBody e (d.checked e Run.clean))) ∧
  (∀ (d : Die) (slot : BitVec 12) (e : Entry),
    Starts 0x62 slot.toNat Run.clean freeStart (fun e d1 => (barMask e.desc).testBit d1.dieId) d e →
    Settles (.sBarrier slot) d (barrierBody e (d.checked e Run.clean))) ∧
  (∀ (d : Die) (r : Release), d.sched.releases = [r] → r.t0 + 250 * d.dieId ≤ d.ftime →
    Does .barrierReleaseInstant d (d.releaseBarrier r)) ∧
  (∀ (d : Die) (slot : BitVec 12) (e : Entry), Starts 0x63 slot.toNat Run.clean freeStart anyLegal d e →
    Settles (.sTickwait slot) d
      ((d.checked e Run.clean).finish e.slot stOk 0 e.result0 0 0)) ∧
  (∀ (d : Die) (slot : BitVec 12) (e : Entry), d.entry slot.toNat = some e → opcodeOf e.desc = 0x63 → e.phase = .waiting →
    e.fail = 0 → d.waitsMet e.desc = true → d.slotsFree e = true → d.slotTurn e = true → d.eventPoisoned e.desc = false →
    d.slotPoisoned e.desc = false →
    (if tickAbs e.desc = true then d.firingReached (pF e.desc 63 32) = true else pF e.desc 31 16 ≤ e.ticks) →
    Does (.sTickwaitReady slot) d (d.setEntry { e with
      phase := .ready, tainted := false, proceeds := d.proceeds e.queue,
      flags := if tickAbs e.desc && pF e.desc 63 32 != d.firing % 2 ^ 32 then e.flags ||| flLate else e.flags,
      result0 := d.firing % 2 ^ 32 }))

/-- The data movers, started on legal descriptors with their checks passed, do their copying and filling (R183 to R186). -/
def Obligations.MoversComplete : Prop :=
  ∀ (d : Die) (slot : BitVec 12) (run : Run) (e : Entry),
    (Starts 0x40 slot.toNat run freeStart mCopyLegal d e →
      Settles (.mCopy slot run) d (mCopyBody run e (d.checked e run))) ∧
    (Starts 0x41 slot.toNat run freeStart (indexedLegal 0 2) d e →
      Settles (.mGather slot run) d (mGatherBody run e (d.checked e run))) ∧
    (Starts 0x42 slot.toNat run freeStart (indexedLegal 2 0) d e →
      Settles (.mScatter slot run) d (mScatterBody run e (d.checked e run))) ∧
    (Starts 0x43 slot.toNat run freeStart (fun _ _ => true) d e →
      Settles (.mFill slot run) d (mFillBody run e (d.checked e run)))

/-- The Glaze unit, started on legal descriptors with its checks passed, does its vector operations (R43, R126 to R132). -/
def Obligations.GlazeCompletes : Prop :=
  ∀ (d : Die) (slot : BitVec 12) (run : Run) (e : Entry),
    (Starts 0x30 slot.toNat run freeStart elemLegal d e →
      Settles (.gElem slot run) d (gElemBody run e (d.checked e run))) ∧
    (Starts 0x31 slot.toNat run freeStart normLegal d e →
      Settles (.gNorm slot run) d (gNormBody run e (d.checked e run))) ∧
    (Starts 0x32 slot.toNat run freeStart softmaxLegal d e →
      Settles (.gSoftmax slot run) d (gSoftmaxBody run e (d.checked e run))) ∧
    (Starts 0x33 slot.toNat run freeStart ropeLegal d e →
      Settles (.gRope slot run) d (gRopeBody run e (d.checked e run))) ∧
    (Starts 0x34 slot.toNat run freeStart requantLegal d e →
      Settles (.gRequant slot run) d (gRequantBody run e (d.checked e run))) ∧
    (Starts 0x35 slot.toNat run freeStart topkLegal d e →
      Settles (.gTopk slot run) d (gTopkBody run e (d.checked e run)))

/-- The Pug codec, started on legal descriptors with its checks passed, codes and expands (R106, R109). -/
def Obligations.PugCompletes : Prop :=
  ∀ (d : Die) (slot : BitVec 12) (run : Run) (e : Entry),
    (Starts 0x50 slot.toNat run freeStart pCompressLegal d e →
      Settles (.pCompress slot run) d (pCompressBody run e (d.checked e run))) ∧
    (Starts 0x51 slot.toNat run freeStart pExpandLegal d e →
      Settles (.pExpand slot run) d (pExpandBody run e (d.checked e run)))

/-- The Wheel, started on legal descriptors with its checks passed, does its products, attention, appends and evictions; it
prefetches for a W.GEMV and brings its spare slice in (R141, R146, R153, R157, R158, R167). -/
def Obligations.WheelCompletes : Prop :=
  (∀ (d : Die) (slot : BitVec 12) (run : Run) (faults : List WheelUpset) (e : Entry),
    Starts 0x20 slot.toNat run freeStart gemvLegal d e →
    Settles (.wGemv slot run faults) d (gemvBody faults run e (d.checked e run))) ∧
  (∀ (d : Die) (slot : BitVec 12) (run : Run) (faults : List WheelUpset) (e : Entry),
    Starts 0x21 slot.toNat run freeStart attnLegal d e →
    Settles (.wAttn slot run faults) d (attnBody faults run e (d.checked e run))) ∧
  (∀ (d : Die) (slot : BitVec 12) (run : Run) (e : Entry), Starts 0x22 slot.toNat run freeStart appendLegal d e →
    Settles (.wKvappend slot run) d (appendBody run e (d.checked e run))) ∧
  (∀ (d : Die) (slot : BitVec 12) (run : Run) (e : Entry), Starts 0x23 slot.toNat run freeStart evictLegal d e →
    Settles (.wKvevict slot run) d (evictBody run e (d.checked e run))) ∧
  (∀ (d t : Die) (e : Entry), d.prefetchPick = some e → d.prefetchable e = true →
    prefetchRead e (Die.workOf { d with wheel := { d.wheel with prefetch := some e.slot } } e.slot) = t → AtHand t →
    Does .wheelPrefetchStart d t.holdRead) ∧
  (∀ (d : Die) (p s : Nat) (more : List Nat), d.firstWanted 2 = some p → (d.inClass 101).isEmpty = true →
    d.prefetching = false → d.sharesRunBy p = s :: more → d.rf Reg.WHL_SPARE_STAT 4 0 ≠ 0x1F →
    Does .wheelSpareSwap d
      (((d.remap (s :: more) fun _ _ => d.rf Reg.WHL_SPARE_STAT 4 0).setRf Reg.WHL_SPARE_STAT 4 0 0x1F).spareInService 2 p))

/-- The Kiln loads a plane, primes a charge, swaps and begins to issue, issues a vector, lands its update, and drains a row
(R76, R79, R82, R84, R88, R91). -/
def Obligations.KilnWorkCompletes : Prop :=
  (∀ (d d2 : Die) (slot : BitVec 12) (run : Run) (e : Entry), (d.entry slot.toNat).map d.atStart = some e →
    opcodeOf e.desc = 0x10 → d.kiln.shadowState = .empty → d.mayStart e = true → d.slotTurn e = true → e.skipped = false →
    loadLegal e.desc = true → ((d.workOf slot.toNat).kilnStart e run).allStartChecks e = (none, d2) →
    Settles (.kLoadIn slot run) d ((d2.taintEntry e).loadPlane e run)) ∧
  (∀ (d d2 : Die) (slot : BitVec 12) (run : Run) (e : Entry), (d.entry slot.toNat).map d.atStart = some e →
    opcodeOf e.desc = 0x11 → d.mayPrime = true → d.startable e = true → d.oldest e = true → d.slotTurn e = true →
    e.skipped = false → chargeLegal e.desc = true →
    ((d.workOf slot.toNat).kilnStart e run).allStartChecks e = (none, d2) →
    Settles (.kCharge slot run) d (d2.primeCharge e)) ∧
  (∀ (d : Die) (c : Charge) (e : Entry), d.kiln.priming = some c → d.entry c.slot = some e → c.skip = false →
    d.kiln.issuing = none → chargeSwap e.desc = true → d.kiln.shadowState = .full → d.kiln.swapsOwed = 0 →
    d.owedNext e c = false → (c.vectors.length = 1 → d.kiln.finishing = []) →
    Does .kilnFirstIssueSwap d (d.kilnSwap.beginIssue c e)) ∧
  (∀ (d : Die) (c : Charge) (e : Entry) (p : Plane) (v : WVec) (rest : List WVec),
    d.kiln.issuing = some c → d.kiln.active = some p → d.entry c.slot = some e → c.vectors = v :: rest →
    (chargeFmt e.desc = Fmt.E2M3 → c.cadence % 3 ≠ 2) → (c.cycles = 0 ∨ d.owedNext e c = false) →
    (rest = [] → d.kiln.finishing = []) →
    Does (.kilnVectorIssue .ready false none) d (d.issueVector c e p v rest none)) ∧
  (∀ (d : Die) (g : List InFlight) (rest : List (List InFlight)), d.kiln.pipe = g :: rest →
    Does (.accUpdateLand none) d (g.foldl Die.landOne { d with kiln := { d.kiln with pipe := rest } }).settleCharges) ∧
  (∀ (d : Die) (c : Charge) (e : Entry) (p : Bool × Die), d.kiln.draining = some c → d.entry c.slot = some e →
    c.drained / kilnLanes (chargeFmt e.desc) < c.next → d.kiln.pipe = [] →
    d.drainWrite e (d.accRow (chargeBase e.desc + c.drained)) 0 (c.outRows.take (ceilDiv c.cols 256)) = p → p.1 = true →
    Does .kilnDrainRow d
      ((({ p.2 with kiln := p.2.kiln.setCharge { c with
          drained := c.drained + 1, outRows := c.outRows.drop (ceilDiv c.cols 256) } }).unowe
        [chargeBase e.desc + c.drained]).modEntry c.slot fun o =>
          { o with flags := o.flags ||| (if (d.accRow (chargeBase e.desc + c.drained)).poison then flPoisonOut else 0) }).settleCharges)

/-- The Kiln's planes, holds, clocks, spares and OWED bits move on (R75, R89, R90, R93, R98, R511). -/
def Obligations.KilnUpkeepCompletes : Prop :=
  (∀ d : Die, d.kiln.shadowState = .releasing →
    Does .kilnShadowReleased d { d with kiln := { d.kiln with shadow := none, shadowState := .empty } }) ∧
  (∀ (d : Die) (n : Nat), d.kiln.shadowState = .full → d.kiln.issuing = none → d.kiln.swapsOwed = n + 1 →
    Does .kilnOwedSwap d { d.kilnSwap with kiln := { d.kilnSwap.kiln with swapsOwed := n } }) ∧
  (∀ (d : Die) (c : Charge), d.kiln.issuing = some c → (d.reg Reg.KLN_HOLD_LIMIT).toNat ≠ 0 →
    (d.reg Reg.KLN_HOLD_LIMIT).toNat ≤ c.held →
    Does .kilnHoldTimeout d ((d.err Reg.KLN_ERR Bit.KLN_ERR_HOLD_TIMEOUT).chargeEarlyEnd c.slot stTimeout)) ∧
  (∀ d : Die, d.kiln.issuing = none → d.kiln.finishing = [] →
    Does .kilnClockGate d { d with kiln := { d.kiln with gated := true } }) ∧
  (∀ (d : Die) (loc : Nat), d.firstWanted 1 = some loc → d.kilnIdle = true →
    (d.reg Reg.KLN_SPARE_STAT).b (8 + loc % 512 / 64) = true →
    Does (.kilnSpareSwap .column) d
      ((d.setRf Reg.KLN_SPARE_STAT (8 + loc % 512 / 64) (8 + loc % 512 / 64) 0).spareInService 1 loc)) ∧
  (∀ (d : Die) (loc : Nat), d.firstWanted 1 = some loc → d.kilnIdle = true →
    Does (.kilnSpareSwap .row) d (d.kilnSpareRow loc)) ∧
  (∀ (d : Die) (w : Word), d.asleep = false → w.b 0 = true →
    Does (.klnOwedRelease w) d (({ d with kiln := { d.kiln with owed := [] } }).err Reg.KLN_ERR Bit.KLN_ERR_OWED_RELEASE))

/-- A unit reset ends every descriptor the unit executes with UNIT_RESET and EARLY_END, drops what else the unit holds, and
owes its fence an epoch; the epoch comes once none of them is left to complete (R95, R117, R135, R168, R199, R292, R395,
R476, R477). -/
def Obligations.UnitResetsComplete : Prop :=
  (∀ d : Die, d.asleep = false → Does .dmReset d (d.resetUnit Reg.SCH_DM_FENCE isMover)) ∧
  (∀ d : Die, d.asleep = false → Does .glazeReset d (d.resetUnit Reg.GLZ_FENCE isGlaze)) ∧
  (∀ d : Die, d.asleep = false → Does .pugReset d (d.resetUnit Reg.PUG_FENCE isPug)) ∧
  (∀ d : Die, d.asleep = false →
    Does .wheelReset d (d.dropPrefetch.resetUnit Reg.WHL_FENCE isWheel)) ∧
  (∀ d : Die, d.asleep = false →
    Does .kilnReset d { d.resetUnit Reg.KLN_FENCE isKiln with
      kiln := { Kiln.powerUp with gated := d.kiln.gated, afterBarrier := d.kiln.afterBarrier } }) ∧
  (∀ d d1 d2 : Die, d.asleep = false → d.tier.moves.foldl (fun acc m => acc.abandonMove m) d = d1 →
    (d.tier.parks.filter fun r => r.mgmt && r.expires.isNone).foldl (fun acc r => acc.parkDone r.id) d1 = d2 →
    Does .tierReset d (d2.resetUnit Reg.TIR_FENCE isTier)) ∧
  (∀ d d1 : Die, d.asleep = false →
    (List.range 4).foldl (fun acc c =>
      let a := ((acc.sensor c).frames.foldl (fun a f => a.resetFrame c f) acc).dropHeld c stUnitReset;
      a.setSensor c { a.sensor c with frames := [] }) d = d1 →
    Does .ifeReset d ((({ d1 with ife := { d1.ife with dn := [], writes := [] } }).endWaiting (fun _ => true)
      stUnitReset).resetUnit Reg.IFE_FENCE fun op => op == 0x90 || op == 0x91)) ∧
  (∀ d d1 d2 d3 d4 : Die, d.asleep = false → d.link.sends.foldl (fun acc s => acc.abortSend s.slot) d = d1 →
    d1.far.txns.foldl (fun acc t => acc.failTxn t) d1 = d2 → d2.failHost.dropFlushes = d3 →
    (d3.link.incoming.filter (·.own)).foldl (fun acc x => acc.done x stUnitReset) d3 = d4 →
    Does .linkReset d (Die.resetUnit
      { d4 with link := { d4.link with
        incoming := (d4.link.incoming.filter fun x => !x.ended).map fun x => { x with own := false } } }
      Reg.LNK_FENCE fun op => unitOf op == some ExecUnit.link)) ∧
  (∀ (d : Die) (u : ResetUnit), d.epochDue.contains (resetFence u).1 = true →
    (d.sb.any fun e => e.phase == .executed && (resetFence u).2 (opcodeOf e.desc) &&
      (e.began && e.flags / 16 % 2 == 1 || e.status == stUnitReset)) = false →
    Does (.epochAdvance u) d ({ d with epochDue := setErase (resetFence u).1 d.epochDue }.bumpEpoch (resetFence u).1))

/-- Sampling, masks and the emission of serving descriptors run, and the serving registers and deadlines act (R243, R251,
R255, R259, R264). -/
def Obligations.ServingCompletes : Prop :=
  (∀ (d : Die) (slot : BitVec 12) (run : Run) (e : Entry), Starts 0x70 slot.toNat run freeStart sampleLegal d e →
    Settles (.vSample slot run) d (vSampleBody run e (d.checked e run))) ∧
  (∀ (d : Die) (slot : BitVec 12) (run : Run) (e : Entry), Starts 0x72 slot.toNat run freeStart maskstepLegal d e →
    Settles (.vMaskstep slot run) d (vMaskstepBody run e (d.checked e run))) ∧
  (∀ (d t : Die) (slot : BitVec 12) (h : Hits) (e : Entry),
    Starts 0x71 slot.toNat (Run.hit h) (fun e _ => veKind e.desc == 0)
      (fun e d0 => unitCount e.desc (streamOf e.desc 0) == 1 && d0.stepNamed e) d e → e.phase = .ready →
    d.stepNamed e = true → emitStepBody e (d.checked e (Run.hit h)) = t → AtHand t →
    Does (.vEmitStep slot h) d (t.spend.modEntry slot.toNat fun o => { o with lawful := o.lawful || o.began })) ∧
  (∀ (d : Die) (slot : BitVec 12) (h : Hits) (e : Entry),
    Starts 0x71 slot.toNat (Run.hit h) (fun e _ => veKind e.desc == 1)
      (fun e _ => unitCount e.desc (streamOf e.desc 0) == 2) d e →
    Settles (.vEmitSubmit slot h) d (emitSubmitBody e (d.checked e (Run.hit h)))) ∧
  (∀ (d : Die) (slot : BitVec 12) (e : Entry),
    Starts 0x71 slot.toNat Run.clean (fun e _ => veKind e.desc == 2) (fun _ _ => true) d e →
    Settles (.vEmitCancel slot) d ((d.checked e Run.clean).parkEntry e.slot)) ∧
  (∀ (d d1 : Die) (g : BitVec 4) (t : BitVec 7) (id : Word) (r : Nat) (q : Req), d.firing ≠ 0 →
    ((d.grp g.toNat).rows.find? fun p => p.2.tenant == t.toNat && p.2.id == id.toNat) = some (r, q) →
    (d.grp g.toNat).at_ r = some q → q.expired d.sched.closed = true → (d.grp g.toNat).rowInStep r = true →
    d.workOf serveSlot = d1 →
    Settles (.servingDeadline g t id) d (d1.setGrp g.toNat ((d1.grp g.toNat).setRow r { q with overdue := true }))) ∧
  (∀ (d d1 : Die) (g : BitVec 4) (t : BitVec 7) (id : Word) (r : Nat) (q : Req), d.firing ≠ 0 →
    ((d.grp g.toNat).rows.find? fun p => p.2.tenant == t.toNat && p.2.id == id.toNat) = some (r, q) →
    (d.grp g.toNat).at_ r = some q → q.expired d.sched.closed = true → (d.grp g.toNat).rowInStep r = false →
    (d.workOf serveSlot).endReq q g.toNat r stDeadline 5 = d1 →
    Settles (.servingDeadline g t id) d (d1.setGrp g.toNat ((d1.grp g.toNat).freeRow r))) ∧
  (∀ (d d1 : Die) (g : BitVec 4) (t : BitVec 7) (id : Word) (q : Req), d.firing ≠ 0 →
    ((d.grp g.toNat).rows.find? fun p => p.2.tenant == t.toNat && p.2.id == id.toNat) = none →
    ((d.grp g.toNat).wait.find? fun q => q.tenant == t.toNat && q.id == id.toNat) = some q →
    q.expired d.sched.closed = true → (d.workOf serveSlot).endReq q g.toNat q.waitPlace stDeadline 5 = d1 →
    Settles (.servingDeadline g t id) d
      (d1.setGrp g.toNat { d1.grp g.toNat with wait := (d1.grp g.toNat).wait.filter fun o => o != q })) ∧
  (∀ (d : Die) (g : BitVec 4), d.asleep = false →
    Does (.servingAbort g true) d (d.setGrp g.toNat { d.grp g.toNat with abort := true }))

/-- The tier manager's descriptors run; park records expire, page moves end and switch, and FLASH pages are filled on demand
or given up (R277 to R279, R282 to R289). -/
def Obligations.TierCompletes : Prop :=
  (∀ (d : Die) (slot : BitVec 12) (h : Hits) (e : Entry), Starts 0x80 slot.toNat (Run.hit h) freeStart prefetchLegal d e →
    Settles (.tPrefetch slot h) d (prefetchBody e (d.checked e (Run.hit h)))) ∧
  (∀ (d : Die) (slot : BitVec 12) (h : Hits) (e : Entry), Starts 0x81 slot.toNat (Run.hit h) migrateMay migrateLegal d e →
    Settles (.tMigrate slot h) d (migrateBody e (d.checked e (Run.hit h)))) ∧
  (∀ (d : Die) (slot : BitVec 12) (h : Hits) (e : Entry),
    Starts 0x82 slot.toNat (Run.hit h) (fun e d0 => !d0.ctxHeld e) parkLegal d e →
    Settles (.tPark slot h) d (parkBody e (d.checked e (Run.hit h)))) ∧
  (∀ (d : Die) (slot : BitVec 12) (h : Hits) (e : Entry),
    Starts 0x83 slot.toNat (Run.hit h) (fun e d0 => !d0.ctxHeld e) (fun e _ => pkCtxOk e.desc) d e →
    Settles (.tRestore slot h) d (restoreBody e (d.checked e (Run.hit h)))) ∧
  (∀ (d : Die) (id : BitVec 16) (r : ParkRec) (t : Nat), (d.tier.parks.find? fun r => r.id == id.toNat) = some r →
    r.expires = some t → t ≤ d.sched.lastTick → r.restoring = false → Does (.parkExpiry id) d (d.expirePark r)) ∧
  (∀ (d d1 d2 : Die) (copy : PageCopy) (m m1 : Move) (f : Nat), d.moveOf copy.page.toNat = some m →
    (m.kind = .fill → m.badUnits = []) → m.nandDone = true →
    (if m.hasFrame then some (m.dstFrame, d) else d.fillFrame (pteGroup (d.pte m.page))) = some (f, d1) →
    { m with dstFrame := f, hasFrame := true } = m1 →
    (Die.count { d1 with far := (d.workOf (moveSlot m.page)).far } Reg.SHF_CONFLICT copy.lost).copyTo m1 = d2 →
    Settles (.pageMigrationSwitch copy) d ((d2.setPte m.page (switchedPte (d2.pte m.page) m1)).endMove m1)) ∧
  (∀ (d d2 d3 : Die) (page : BitVec 32) (x : Nat × Nat) (f : Nat), (d.tier.demanded.find? fun x => x.1 == page.toNat) = some x →
    d.moveOf page.toNat = none → cacheable (d.pte page.toNat) = true → pteTier (d.pte page.toNat) = 5 →
    d.fillFrame (pteGroup (d.pte page.toNat)) = some (f, d2) → d2.startFill page.toNat x.2 (some f) true = d3 →
    Does (.demandFill page) d
      ((Die.notePage { d3 with tier := { d3.tier with demanded := d3.tier.demanded.filter fun y => y != x } } x.2
        page.toNat).count Reg.TIR_DEMAND 1)) ∧
  (∀ (d : Die) (page : BitVec 32) (m : Move) (t : Nat), d.moveOf page.toNat = some m → m.since = some t → m.kind = .fill →
    m.hasFrame = false → t + msCycles 1 ≤ d.refclk → d.fillFrame (pteGroup (d.pte m.page)) = none →
    Does (.fillNoFrame page) d (d.failMove m Bit.TIR_ERR_NO_FRAME))

/-- The page-table commands make a directory entry valid, map, unmap and read, and answer RESULT 0, BUSY until it is set (R274,
Table 12.4). -/
def Obligations.PageTableCommandsComplete : Prop :=
  (∀ d : Die, d.asleep = false → d.tier.busy = none → d.tirData % 2 ^ 64 % 2 ^ 20 = 0 → d.dirValid (65536 * (d.tirFirst / 65536)) = false →
    Does .tirCmdSetdir d ({ d with tier := { d.tier with
      dir := SMap.put (fun _ => 0) d.tier.dir (d.tirFirst / 65536) (d.tirData % 2 ^ 64 % 2 ^ 48 + 1),
      pages := d.tier.pages.filter fun kv => decide (kv.1 / 65536 ≠ d.tirFirst / 65536) &&
        SMap.get (fun _ => 0) d.tier.dir (kv.1 / 65536) != d.tirData % 2 ^ 64 % 2 ^ 48 + 1 } }.tirResult 0)) ∧
  (∀ (d : Die) (t : BitVec 128), d.asleep = false → d.tier.busy = none → mapTemplate d.tirData = t → d.tirRangeOk = true →
    (pteTier t < 5 ∨ (pteTier t = 5 ∧ pteRo t = true)) → d.tirRefusal = 0 →
    Does .tirCmdMap d ((d.tirPages.zipIdx.foldl (fun acc p =>
      (acc.releasePage false p.1).setPte p.1 (pteSet t 95 64 ((pteFrame t + p.2) % 2 ^ 32))) d).tirResult 0)) ∧
  (∀ d : Die, d.asleep = false → d.tier.busy = none → d.tirRangeOk = true → d.tirRefusal = 0 →
    Does .tirCmdUnmap d ((d.tirPages.foldl (fun acc p =>
      (acc.releasePage true p).setPte p (pteSet (pteSet (pteSet (pteSet (acc.pte p) 3 0 0) 6 6 0) 19 16 0) 127 96 0))
        d).tirResult 0)) ∧
  (∀ d : Die, d.asleep = false → d.tier.busy = none →
    Does .tirCmdRead d (d.tirAnswer 0 (some (d.pte d.tirFirst).toNat)))

/-! ### Completion: memory, cameras and links -/

/-- LOCAL lines are read, written and merged through the controller, corrected lines rewritten, the next line scrubbed, a
channel retrained, row-hammer rows acted on, a row repaired, and a lost segment cleared (R314 to R328). -/
def Obligations.DramCompletes : Prop :=
  (∀ (d d0 : Die) (key tenant : BitVec 7) (line : BitVec 30) (queue : BitVec 20) (act : Bool) (c : LineCell),
    line.toNat < d.localLines → d.lineHeld line.toNat = false →
    d.openRow line.toNat tenant.toNat queue.toNat act = d0 → d0.lineCell line.toNat = c → d0.keyGen key.toNat ≠ 0 →
    d0.macOk key.toNat line.toNat c = true →
    Does (.dramLineRead key line tenant queue act false ⟨0#576, false, false⟩) d (d0.emit (.line (some c.data) false))) ∧
  (∀ (d d0 : Die) (key tenant : BitVec 7) (line : BitVec 30) (queue : BitVec 20) (act : Bool),
    line.toNat < d.localLines → d.lineHeld line.toNat = false →
    d.openRow line.toNat tenant.toNat queue.toNat act = d0 → (d0.lineCell line.toNat).poison = true →
    Does (.dramLineRead key line tenant queue act false ⟨0#576, false, false⟩) d (d0.emit (.line (some 0#512) true))) ∧
  (∀ (d d0 : Die) (key tenant : BitVec 7) (line : BitVec 30) (queue : BitVec 20) (act : Bool) (p : UnitRd × Die),
    line.toNat < d.localLines → d.lineHeld line.toNat = false →
    d.openRow line.toNat tenant.toNat queue.toNat act = d0 → (d0.lineCell line.toNat).poison = false →
    d0.readLocal key.toNat line.toNat = p → p.1.bad = true →
    Does (.dramLineRead key line tenant queue act false ⟨0#576, false, false⟩) d (p.2.emit (.line none false))) ∧
  (∀ (d d0 : Die) (key tenant : BitVec 7) (line : BitVec 30) (v : Line) (queue : BitVec 20) (act : Bool),
    line.toNat < d.localLines → d.lineHeld line.toNat = false →
    d.openRow line.toNat tenant.toNat queue.toNat act = d0 → d0.keyGen key.toNat ≠ 0 →
    Does (.dramLineWrite key line v false tenant queue act) d
      (d0.setLine line.toNat ⟨v, key.toNat, d0.keyGen key.toNat, d0.lineEpoch line.toNat, 0, false⟩) ∧
    Does (.dramLineWrite key line v true tenant queue act) d (d0.setLine line.toNat LineCell.poisoned)) ∧
  (∀ (d d0 : Die) (key tenant : BitVec 7) (line : BitVec 30) (mask : BitVec 64) (v : Line) (queue : BitVec 20) (act : Bool)
      (p : UnitRd × Die), line.toNat < d.localLines → d.lineHeld line.toNat = false →
    d.openRow line.toNat tenant.toNat queue.toNat act = d0 → d0.keyGen key.toNat ≠ 0 →
    d0.readLocal key.toNat line.toNat = p → p.1.bad = false → p.2.keyGen key.toNat ≠ 0 →
    Does (.dramPartialWrite key line mask v tenant queue act) d
      (p.2.setLine line.toNat ⟨mergeBytes mask (BitVec.ofNat 512 p.1.data) v, key.toNat, p.2.keyGen key.toNat,
        p.2.lineEpoch line.toNat, 0, false⟩)) ∧
  (∀ (d : Die) (line : BitVec 30), d.dmc.rewrites.contains line.toNat = true → d.lineHeld line.toNat = false →
    Does (.dramCeRewrite line) d (d.setLine line.toNat (d.lineCell line.toNat).corrected)) ∧
  (∀ (d d1 d2 : Die) (n page : Nat), d.rf Reg.DMC_SCRUB_CFG 7 0 ≠ 0 → d.dmc.scrub = n → n < d.localLines →
    d.lineHeld n = false → { d with dmc := { d.dmc with scrub := n + 1 } } = d1 →
    (d1.putLine n (d1.lineCell n)).openRow n mgmtCode 0 false = d2 → d2.pageIn (n / 1024) = some page →
    Does (.dramPatrolScrub ⟨0#576, false, false⟩) d (d2.readLocal (pteKey (d2.pte page)) n).2) ∧
  (∀ (d : Die) (warm : Bool), (d.reg Reg.DMC_STAT).b d.dmc.trainNext = true → d.trainDue warm = true →
    d.rf Reg.DMP_STAT 2 0 < 2 →
    Does (.dramRetrain warm true) d
      (({ d with dmc := { d.dmc with
        trainNext := (d.dmc.trainNext + 1) % 16,
        trainLast := d.refclk,
        trainSoon := d.dmc.trainSoon.filter (· != d.dmc.trainNext),
        trainFails := SMap.put (fun _ => 0) d.dmc.trainFails d.dmc.trainNext 0 } }.setRf (Reg.DMC_CH_STAT d.dmc.trainNext) 8 8
          0).serveWaiting)) ∧
  (∀ (d : Die) (key row tenant queue : Nat) (rest : List (Nat × Nat × Nat × Nat)),
    d.dmc.rhDue = (key, row, tenant, queue) :: rest → d.dmc.throttles.contains (key, tenant, queue) = false →
    Does .rowHammerAction d
      ((((({ d with dmc := { d.dmc with
        rhDue := rest, throttles := d.dmc.throttles ++ [(key, tenant, queue)] } }.emit
          (.rfm key (if d.dmc.directed then some row else none))).setReg Reg.DMC_RH_LOG
          (BitVec.ofNat 32 (key / 16 * 2 ^ 28 + key % 16 * 2 ^ 24 + tenant % 128 * 2 ^ 17 + row % 2 ^ 17))).setReg Reg.DMC_RH_QUEUE
          (BitVec.ofNat 32 (queue % 2 ^ 20))).count Reg.DMC_RH_EVENTS 1).err Reg.DMC_ERR Bit.DMC_ERR_RH)) ∧
  (∀ d : Die, d.dmc.rhStart + d.rf Reg.DMC_RH_WINDOW 9 0 * 3840 ≤ d.refclk →
    Does .rowHammerWindowEnd d { d with dmc := { d.dmc with rows := [], throttles := [], rhStart := d.refclk } }) ∧
  (∀ (d d1 d2 : Die) (loc : Nat), d.firstWanted 4 = some loc → d.rf Reg.DMP_STAT 2 0 < 2 → d.sparesIn (loc / 2 ^ 20) ≠ 0 →
    ((d.dmc.lines.filter fun kv => dramLocation kv.1 == loc).map (·.1)).foldl
      (fun (acc : Die) n => if acc.dmc.rewrites.contains n then acc else acc.checkLine n) d = d1 →
    (d1.dmc.rewrites.filter fun x => dramLocation x == loc).foldl
      (fun (acc : Die) n => acc.setLine n (acc.lineCell n).corrected) d1 = d2 →
    Does .dramPpr d
      { (d2.takeSpareRows (loc / 2 ^ 20) 1).spareInService 4 loc with repairLog := d.repairLog ++ [(loc, false)] }) ∧
  (∀ (d : Die) (seg : BitVec 3), d.segClearing seg.toNat = true →
    Does (.dramSegmentClear seg) d
      (({ d with dmc := { d.dmc with
        lines := d.dmc.lines.filter fun kv => decide (d.segmentOf (kv.1 / 1024) ≠ seg.toNat),
        cleared := setInsert seg.toNat d.dmc.cleared,
        epochs := if seg.toNat = 7 then [] else d.dmc.epochs,
        rewrites := d.dmc.rewrites.filter fun n => decide (d.segmentOf (n / 1024) ≠ seg.toNat) } }.setRf Reg.DMC_STAT
          (24 + seg.toNat) (24 + seg.toNat) 0).serveWaiting))

/-- NAND units are read and written for page moves, and blocks relocated, levelled, collected and retired (R331 to R334). -/
def Obligations.NandCompletes : Prop :=
  (∀ (d d1 : Die) (page : BitVec 32) (unit : BitVec 4) (how : NandHow) (m : Move), d.moveOf page.toNat = some m →
    m.srcTier = 5 → m.demand = true → m.units.contains unit.toNat = false → m.units.length < 15 →
    d.readCodeword (16 * m.srcFrame + unit.toNat) how = (false, d1) →
    Does (.nandUnitRead page unit how) d (d1.setMove { m with units := m.units ++ [unit.toNat] })) ∧
  (∀ (d d1 : Die) (page : BitVec 32) (unit : BitVec 4) (how : NandHow) (m : Move), d.moveOf page.toNat = some m →
    m.srcTier = 5 → m.demand = true → m.units.contains unit.toNat = false → m.units.length = 15 →
    d.readCodeword (16 * m.srcFrame + unit.toNat) how = (false, d1) →
    Does (.nandUnitRead page unit how) d
      ((d1.setMove { m with units := m.units ++ [unit.toNat] }).count Reg.TIR_FLASH_RD 1)) ∧
  (∀ (d d1 : Die) (page : BitVec 32) (unit : BitVec 4) (how : NandHow) (m : Move), d.moveOf page.toNat = some m →
    m.srcTier = 5 → m.demand = true → m.units.contains unit.toNat = false → m.units.length < 15 →
    d.readCodeword (16 * m.srcFrame + unit.toNat) how = (true, d1) →
    Does (.nandUnitRead page unit how) d
      (d1.setMove { m with units := m.units ++ [unit.toNat], badUnits := m.badUnits ++ [unit.toNat] })) ∧
  (∀ (d d1 : Die) (page : BitVec 32) (unit : BitVec 4) (m : Move) (u : (BitVec 32768 × Bool) × Die) (q : Nat × Die),
    d.moveOf page.toNat = some m → m.dstTier = 5 → m.units.contains unit.toNat = false → m.units.length < 15 →
    (d.workOf (moveSlot m.page)).unitOfMove m unit.toNat = u → u.2.writeBlock = some q →
    q.2.placeUnit (16 * m.dstFrame + unit.toNat) = some d1 →
    Settles (.nandUnitWrite page unit false) d
      ((d1.writtenUnit (16 * m.dstFrame + unit.toNat) u.1.1 u.1.2).setMove { m with units := m.units ++ [unit.toNat] })) ∧
  (∀ (d d1 : Die) (block : BitVec 25), d.nand.used.contains block.toNat = true →
    d.rf Reg.NFC_RD_LIMIT 23 0 ≤ (d.nblk block.toNat).reads → d.fillsReading = false → d.moveUnits block.toNat = some d1 →
    Does (.nandReadDisturbReloc block) d ((d1.eraseBlock block.toNat).count Reg.NFC_RELOC_RD 1)) ∧
  (∀ (d d1 : Die) (b : Nat), d.leastWorn d.nand.used = some b →
    d.rf Reg.NFC_WL_SPREAD 15 0 < d.eraseSpread.1 - d.eraseSpread.2 → d.fillsReading = false → d.moveUnits b = some d1 →
    Does .nandWearLevel d ((d1.eraseBlock b).count Reg.NFC_RELOC_WL 1)) ∧
  (∀ (d d1 : Die) (block : BitVec 25), d.nand.used.contains block.toNat = true → d.nand.current ≠ some block.toNat →
    d.fillsReading = false → d.moveUnits block.toNat = some d1 →
    Does (.nandGarbageCollect block) d (d1.eraseBlock block.toNat)) ∧
  (∀ (d d1 d2 : Die) (block : BitVec 25), d.nand.used.contains block.toNat = true → d.grownBad block.toNat = true →
    d.nand.spare ≠ [] → (d.takeSpare.spareInService 5 (blockLoc block.toNat)).moveUnits block.toNat = some d1 →
    { d1 with nand := { d1.nand with
      used := d1.nand.used.filter (· != block.toNat), bad := d1.nand.bad ++ [block.toNat], grown := d1.nand.grown + 1 } } = d2 →
    Does (.nandGrownBad block) d
      ((d2.setRf Reg.NFC_BAD_GROWN 15 0 (d2.rf Reg.NFC_BAD_GROWN 15 0 + 1)).err Reg.NFC_ERR Bit.NFC_ERR_GROWN_BAD))

/-- Frames open, take lines and embedded data, and close; their statistics are ready; contexts are enabled and disabled; a
damaged header marks its frame (R339 to R349). -/
def Obligations.CameraFramesComplete : Prop :=
  (∀ (d d1 d2 d3 : Die) (port : Bool) (vc : BitVec 4) (c : Nat) (s : Sensor) (late : Bool) (k id : Nat),
    d.asleep = false → d.damper.entry = none → d.camOf port vc = some c → d.fixFirings.closeFrame c = d1 → d1.sensor c = s →
    d1.freeCtr = k → (if s.started then (d1.rf (Reg.IFE_CTX_FRAME c) 31 0 + 1) % 2 ^ 32 else 0) = id →
    (d1.rf (Reg.IFE_CTX_PERIOD c) 25 0 != 0 && s.lastStart.any fun t =>
      decide (384 * d1.rf Reg.IFE_LATE_US 15 0 < 10 * (d1.refclk - t - d1.rf (Reg.IFE_CTX_PERIOD c) 25 0))) = late →
    ((({ d1 with freeCtr := k + 1 } : Die).setReg (Reg.IFE_CTX_FRAME c) (BitVec.ofNat 32 id)).setSensor c { s with
      frames := s.frames ++ [⟨id, k, s.bindings.head?,
          (if late then 4 else 0) + (if s.fallback && s.lastStart.isSome then 8 else 0) + (if s.badHeader then 16 else 0) +
            (if s.bindings.head?.isNone then 256 else 0), 0, 0, none, d1.refclk, d1.refclk, [], 0, 0, 0, 0, 0, [], true, false, false, false, [],
          0, d1.reg (Reg.IFE_CTX_CFG c), d1.camW c, d1.camH c, d1.reg (Reg.IFE_CTX_BLACK c), [], d1.ife.block,
          if d1.camInline c then some (d1.rf Reg.IFE_ISP_BASE_HI 15 0 * 2 ^ 32 + (d1.reg Reg.IFE_ISP_BASE_LO).toNat / 64 * 64) else none,
          d1.reg Reg.IFE_DN_CFG, d1.reg Reg.IFE_DN_SLOTS, [], false, false⟩],
      bindings := s.bindings.drop 1,
      started := true,
      lastStart := some d1.refclk,
      fallback := false,
      badHeader := false,
      latchDue := s.latchDue ++ [(id, d1.settingsAddr c / 64, d1.camTenant c)] }) = d2 →
    (if late then d2.camCount c cntLate else d2) = d3 →
    Does (.csiFrameStart port vc) d
      (((if s.bindings.head?.isNone then d3.camCount c cntUnbound else d3).camTickSource c).camGoOn)) ∧
  (∀ (d d1 : Die) (port : Bool) (vc : BitVec 4) (dt : BitVec 6) (bytes : List (BitVec 8)) (eccCorr crcBad : Bool) (c : Nat)
      (f : Frame) (line : List Nat),
    d.asleep = false → d.camOf port vc = some c → d.openFrame c = some f → dt.toNat = d.camF c 23 18 →
    unpackLine dt.toNat (bytes.map (·.toNat)) = line → line.length = lineSamples f.dt f.width → f.lines.length < f.height →
    d.packetErrors c f eccCorr crcBad true = d1 →
    Does (.csiLine port vc dt bytes eccCorr crcBad ⟨false, none⟩) d
      ((((d1.writeRaw c f f.lines.length line false).modFrame c f.key fun o =>
        { o with lines := o.lines ++ [(line, true)], times := o.times ++ [d1.refclk], tEnd := d1.refclk }).dnLine f.key).settleTiles)) ∧
  (∀ (d d1 : Die) (port : Bool) (vc : BitVec 4) (dt : BitVec 6) (bytes : List (BitVec 8)) (eccCorr crcBad : Bool) (c : Nat)
      (f : Frame) (line : List Nat),
    d.asleep = false → d.camOf port vc = some c → d.openFrame c = some f → dt.toNat = d.camF c 23 18 →
    unpackLine dt.toNat (bytes.map (·.toNat)) = line → f.height ≤ f.lines.length →
    (if line.length = lineSamples f.dt f.width then d.packetErrors c f eccCorr crcBad true
      else (d.packetErrors c f eccCorr crcBad true).markFrame c f 6 none) = d1 →
    Does (.csiLine port vc dt bytes eccCorr crcBad ⟨false, none⟩) d
      ((d1.markFrame c f 1 (some cntLong)).modFrame c f.key fun o => { o with extra := min 65535 (o.extra + 1) })) ∧
  (∀ (d : Die) (port : Bool) (vc : BitVec 4) (bytes : List (BitVec 8)) (eccCorr crcBad : Bool) (c : Nat) (f : Frame),
    d.asleep = false → d.camOf port vc = some c → d.openFrame c = some f → d.camF c 0 0 = 1 →
    Does (.csiEmbedded port vc bytes eccCorr crcBad) d
      ((d.packetErrors c f eccCorr crcBad false).modFrame c f.key fun o =>
        { o with embed := o.embed ++ bytes.map (·.toNat) })) ∧
  (∀ (d : Die) (port : Bool) (vc : BitVec 4) (bytes : List (BitVec 8)) (eccCorr crcBad : Bool) (c : Nat) (f : Frame),
    d.asleep = false → d.camOf port vc = some c → d.openFrame c = some f → d.camF c 0 0 ≠ 1 →
    Does (.csiEmbedded port vc bytes eccCorr crcBad) d (d.packetErrors c f eccCorr crcBad false)) ∧
  (∀ (d d1 : Die) (port : Bool) (vc : BitVec 4) (c : Nat), d.asleep = false → d.camOf port vc = some c →
    (d.openFrame c).isSome = true → d.fixFirings.closeFrame c = d1 → Does (.csiFrameEnd port vc) d d1.camGoOn) ∧
  (∀ (d d1 : Die) (ctx : BitVec 2) (f : Frame), d.openFrame ctx.toNat = some f →
    (d.rf (Reg.IFE_CTX_PERIOD ctx.toNat) 25 0 = 0 → f.tStart + 3840000 ≤ d.refclk) →
    (d.rf (Reg.IFE_CTX_PERIOD ctx.toNat) 25 0 ≠ 0 →
      2 * f.tStart + 3 * d.rf (Reg.IFE_CTX_PERIOD ctx.toNat) 25 0 ≤ 2 * d.refclk) →
    d.fixFirings.closeFrame ctx.toNat = d1 → Does (.frameCloseTimeout ctx) d d1.camGoOn) ∧
  (∀ (d : Die) (ctx : BitVec 2) (w : Word) (s : Sensor), d.asleep = false → w.b 31 = true → d.camOn ctx.toNat = false →
    d.camLimits ctx.toNat w = true → d.sensor ctx.toNat = s →
    Does (.ifeCtxEnable ctx w) d ((d.setReg (Reg.IFE_CTX_CFG ctx.toNat) (w &&& 0xFFFFE7F1#32)).setSensor ctx.toNat
      { Sensor.fresh with seq := s.seq, old := s.underWay, frames := s.frames })) ∧
  (∀ (d d1 : Die) (ctx : BitVec 2) (w : Word), d.asleep = false → w.b 31 = false → d.camOn ctx.toNat = true →
    ((d.fixFirings.closeFrame ctx.toNat).setRf (Reg.IFE_CTX_CFG ctx.toNat) 31 31 0).errIf
      ((w ^^^ d.reg (Reg.IFE_CTX_CFG ctx.toNat)) &&& 0x7FFFE7F1#32 != 0#32) Reg.IFE_ERR Bit.IFE_ERR_CONFIG = d1 →
    Does (.ifeCtxDisable ctx w) d
      (((d1.dropHeld ctx.toNat stCancelled).endWaiting (· == ctx.toNat) stCancelled).camGoOn)) ∧
  (∀ (d d1 : Die) (ctx : BitVec 2) (f : Frame), d.camGoOn.fixFirings = d1 →
    ((d1.sensor ctx.toNat).held.find? fun f => !f.ready && f.blockAt.isNone) = some f →
    Does (.statsReady ctx) d (d1.modFrame ctx.toNat f.key fun o => { o with
      ready := true, statFlags := o.flags, statBypass := o.bypass,
      firing := some (o.firing.getD (d1.firing % 2 ^ 32)) })) ∧
  (∀ (d d1 : Die) (ctx : BitVec 2) (f : Frame), d.asleep = false → d.camOn ctx.toNat = true →
    (d.camCount ctx.toNat cntEccUncorr).err Reg.IFE_ERR Bit.IFE_ERR_PACKET = d1 → d1.openFrame ctx.toNat = some f →
    Does (.csiHeaderUncorrectable ctx) d (d1.markFrame ctx.toNat f 4 none)) ∧
  (∀ (d d1 : Die) (ctx : BitVec 2), d.asleep = false → d.camOn ctx.toNat = true →
    (d.camCount ctx.toNat cntEccUncorr).err Reg.IFE_ERR Bit.IFE_ERR_PACKET = d1 → d1.openFrame ctx.toNat = none →
    Does (.csiHeaderUncorrectable ctx) d (d1.setSensor ctx.toNat { d1.sensor ctx.toNat with badHeader := true }))

/-- C.BIND and C.STATS run; denoising tiles are filled, read and bypassed; settings transfers end; an in-band interrupt is
logged (R350 to R362). -/
def Obligations.CameraWorkCompletes : Prop :=
  (∀ (d d1 : Die) (slot : BitVec 12) (e : Entry),
    Starts 0x90 slot.toNat Run.clean freeStart (fun e d0 => d0.bindLegal e.desc && d0.camMine e) d e →
    d.checked e Run.clean = d1 →
    Settles (.cBind slot) d ((d1.setSensor (camCtx e.desc) { d1.sensor (camCtx e.desc) with
      bindings := (d1.sensor (camCtx e.desc)).bindings ++
        [⟨e.desc, e.tenant, e.queue, ((d1.slotUses8 e.desc).filter fun u => u.2 == .writer).map (·.1)⟩] }).finish e.slot stOk 0 0 0 0)) ∧
  (∀ (d : Die) (slot : BitVec 12) (bufferError : Bool) (e : Entry),
    Starts 0x91 slot.toNat Run.clean (fun e d0 => e.phase == .loading || d0.statsComes e.desc)
      (fun e d0 => d0.statsLegal e.desc && d0.camMine e) d.camGoOn e →
    Settles (.cStats slot bufferError) d (statsBody bufferError e (d.camGoOn.checked e Run.clean))) ∧
  (∀ (d : Die) (j : DnJob) (n : Nat) (byp : Bool), d.fillJob = some j → j.nextFill = some n →
    d.slotAllows n .writer = true → (d.tileRefusal n j.tenant true).isNone = true → j.bypassed.contains j.filled = byp →
    Does .dnTileFill d
      ((((d.writeTile j.tenant (d.slotRange n).1
        (if byp then (j.inputRows j.filled).map fun _ => 0 else j.inputRows j.filled) false).slotDone
          (if byp then stPoison else stOk) (n, .writer)).setJob j { j with filled := j.filled + 1 }).settleTiles)) ∧
  (∀ (d : Die) (j : DnJob) (n : Nat) (r : List Nat × Die), d.readJob = some j → j.nextRead = some n →
    d.slotAllows n .reader = true → (d.tileRefusal n j.tenant false).isNone = true → j.bypassed.contains j.read = true →
    (d.jobOf j.key).getD j = j → d.readTile j.tenant (d.slotRange n).1 (d.slotRange n).2 = r →
    Does .dnTileOutput d (((r.2.slotDone stOk (n, .reader)).setJob j { j with read := j.read + 1 }).settleTiles)) ∧
  (∀ (d : Die) (j : DnJob) (n : Nat) (r : List Nat × Die), d.readJob = some j → j.nextRead = some n →
    d.slotAllows n .reader = true → (d.tileRefusal n j.tenant false).isNone = true → j.bypassed.contains j.read = false →
    d.slotPoison n = false → (d.jobOf j.key).getD j = j → d.readTile j.tenant (d.slotRange n).1 (d.slotRange n).2 = r →
    Does .dnTileOutput d
      (((((r.2.slotDone stOk (n, .reader)).setJob j { j with read := j.read + 1 }).modFrame j.ctx j.key fun f =>
        { f with tiles := f.tiles ++ [(j.read, r.1)] }).noteLatency ((j.arrived j.read).getD d.refclk)).settleTiles)) ∧
  (∀ (d : Die) (j : DnJob) (t a : Nat), d.ife.dn = [j] → j.oldest = some t → j.arrived t = some a →
    d.elapsed a j.limit = true → Does .dnTileDeadline d ((d.bypassTile j t).settleTiles)) ∧
  (∀ (d : Die) (ctx : BitVec 2) (t : Transfer), (d.sensor ctx.toNat).underWay.head? = some t → d.refclk ≤ t.due →
    Does (.settingsTransferDone ctx true) d (d.setSensor ctx.toNat { d.sensor ctx.toNat with
      transfers := (d.sensor ctx.toNat).transfers.map fun o => if o = t then { o with outcome := some true } else o,
      old := (d.sensor ctx.toNat).old.filter fun o => o != t })) ∧
  (∀ (d : Die) (ctx : BitVec 2) (t : Transfer) (s : Sensor), d.sensor ctx.toNat = s →
    (s.underWay.find? fun t => decide (t.due < d.refclk)) = some t →
    Does (.settingsWindowExpiry ctx) d
      (((d.setSensor ctx.toNat { s with
        transfers := s.transfers.filter fun o => o != t,
        old := s.old.filter fun o => o != t,
        setFails := if s.old.contains t then s.setFails else s.setFails ++ [t.reach] }).camCount ctx.toNat cntSetFail).err
          Reg.IFE_ERR Bit.IFE_ERR_SETTINGS)) ∧
  (∀ (d : Die) (port : Bool) (addr : BitVec 7) (payload : List (BitVec 8)), d.damper.entry = none →
    Does (.i3cIbi port addr payload) d { d with ife := { d.ife with
      ibis := SMap.put (fun _ => (0, [])) d.ife.ibis (if port then 1 else 0) (addr.toNat, (payload.take 8).map (·.toNat)) } })

/-- The host link delivers what it read, gives up reads that have timed out, answers snoops, and goes down (R367, R369, R394). -/
def Obligations.HostLinkCompletes : Prop :=
  (∀ (d : Die) (line : BitVec 42) (data : Line) (a : FarAsk), d.confMode = false →
    (d.far.asked.find? fun a => d.askLine a == some line.toNat) = some a → a.key < rawKey 0 →
    Does (.hostReadResponse line data .data) d (d.landReads [a] ⟨data, false, false⟩)) ∧
  (∀ (d : Die) (line : BitVec 42) (data : Line) (a : FarAsk) (n : Nat), d.confMode = true →
    (d.far.asked.find? fun a => d.askLine a == some line.toNat) = some a → a.key = rawKey n → n < 2 ^ 42 →
    Does (.hostReadResponse line data .data) d
      ((Die.landReads { d with saggar := { d.saggar with traffic := d.refclk } } [a] ⟨data, false, false⟩).settleUnit a.slot n)) ∧
  (∀ (d : Die) (line : BitVec 42) (a : FarAsk),
    (d.far.asked.find? fun a => d.askLine a == some line.toNat && d.elapsed a.since (d.rf Reg.LNK_HOST_CFG 15 0)) = some a →
    a.key < rawKey 0 →
    Does (.hostReadTimeout line) d ((d.landReads [a] FarCell.error).err Reg.LNK_ERR Bit.LNK_ERR_HOST_TIMEOUT)) ∧
  (∀ (d : Die) (line : BitVec 42), Does (.hostSnoop line) d (d.emit (.snoop (64 * line.toNat)))) ∧
  (∀ (d d2 : Die), d.portState 0 ≠ 0 →
    (((d.setPortState 0 0).setRf (Reg.LNK_PORT_STAT 0) 6 4 0).err Reg.LNK_ERR Bit.LNK_ERR_HOST_DOWN).failHost.dropFlushes = d2 →
    Does .hostPortDown d
      (if d2.sessionOpen then { d2 with saggar := { d2.saggar with closing := true, lost := true } } else d2))

/-- A peer port trains, its HELLO and TOPO are taken, flits are received and replayed, and the port retrains or goes down
(R376 to R381, R393, R394). -/
def Obligations.PeerPortsComplete : Prop :=
  (∀ (d : Die) (port : Bool) (rate : BitVec 3) (repaired : BitVec 4) (p : Nat), (if port then 2 else 1) = p →
    (d.port p).enabled = true → d.portState p ≤ 1 → 1 ≤ rate.toNat → rate.toNat ≤ 4 → rate.toNat ≤ (d.port p).cap →
    Does (.peerPortTrained port rate repaired) d
      (((((d.setRf (Reg.LNK_PORT_STAT p) 6 4 rate.toNat).setRf (Reg.LNK_PORT_STAT p) 11 8 repaired.toNat).setPortState p 2).setPort p
        { d.port p with fails := 0 }).portMsg p 0xC 7 false 0 0 [(d.reg Reg.NS_ID).toNat, p] [])) ∧
  (∀ (d d1 d2 : Die) (h : Hdr) (nsId : Word), (d.heard h).portState (portOf h) = 2 →
    (d.heard h).received (portOf h) 3 (laneOf h) 0 = d1 → h.src.toNat ≠ (d.heard h).dieId →
    nsId.f 15 8 = (d.heard h).rf Reg.NS_ID 15 8 →
    (((d1.setRf (Reg.LNK_PORT_STAT (portOf h)) 14 12 h.src.toNat).setRf (Reg.LNK_PORT_STAT (portOf h)) 15 15 1).setPortState
      (portOf h) 3).sendTopo = d2 →
    Does (.eslisHello h nsId) d
      ((d2.link.topos.filter fun t => t.1 != h.src.toNat).foldl (fun acc t => acc.passTopo (portOf h) 0 0 t) d2)) ∧
  (∀ (d d1 : Die) (h : Hdr) (die1 die2 : BitVec 8) (latency : BitVec 32), (d.heard h).portOpen (portOf h) = true →
    (d.heard h).received (portOf h) 3 (laneOf h) 0 = d1 →
    d1.link.topos.contains (h.src.toNat, die1.toNat, die2.toNat) = false → h.src.toNat ≠ (d.heard h).dieId →
    d1.portState (3 - portOf h) ≠ 3 → d1.rf Reg.LNK_STAT 12 12 ≠ 1 →
    Does (.eslisTopo h die1 die2 latency) d
      (Die.fabricReady { d1 with link := { d1.link with
        topos := (d1.link.topos.filter fun (o : Nat × Nat × Nat) => o.1 != h.src.toNat) ++
          [(h.src.toNat, die1.toNat, die2.toNat)] } } latency.toNat)) ∧
  (∀ (d d1 : Die) (f : FlitWords) (p v : Nat), (if f.port then 2 else 1) = p → f.bits.toNat = v → d.dueRetrains = d →
    d.portState p = 3 → crc32c (toBytes 252 v) = fld v 2047 2016 → fld v 26 25 = 1 → fld v 11 0 = (d.port p).rxSeq →
    v.testBit 24 = false → badMessages 15 15 (fld v 2015 96) = 0 →
    (d.setPort p { d.port p with
      rxSeq := ((d.port p).rxSeq + 1) % 4096,
      replay := ackReplay (fld v 23 12) (d.port p).replay,
      credits := creditAdd (d.port p).credits (BitVec.ofNat 32 (fld v 63 32)) }).pump p = d1 →
    Does (.flitReceive f) d (if (d1.port p).txSeq = (d.port p).txSeq then d1.ackNow p else d1)) ∧
  (∀ (d : Die) (port : Bool) (p : Nat) (u : Unacked) (us : List Unacked), (if port then 2 else 1) = p → d.dueRetrains = d →
    (d.port p).replay = u :: us → d.elapsed u.since 2 = true → d.portState p = 3 → u.sent < 8 →
    Does (.flitAckTimeout port) d
      ((d.port p).replay.foldl (fun acc o => acc.emit (.flit p o.flit (flitBytes o.seq (d.port p).ack false [] o.flit)))
        ((d.setPort p { d.port p with
          replay := (d.port p).replay.map fun o => { o with sent := o.sent + 1, since := d.refclk } }).count (Reg.LNK_PORT_REPLAY p) 1))) ∧
  (∀ (d d3 : Die) (port : BitVec 2) (t : Trained), port.toNat ≤ 2 → d.portState port.toNat = 4 → t.rate.toNat ≠ 0 →
    ((((d.count (Reg.LNK_PORT_RETRAIN port.toNat) 1).setRf (Reg.LNK_PORT_STAT port.toNat) 6 4
      (min (d.port port.toNat).cap (min 4 t.rate.toNat))).setRf (Reg.LNK_PORT_STAT port.toNat) 11 8
        t.repaired.toNat).setPortState port.toNat (if port.toNat = 0 ∨ (d.peerOn port.toNat).isSome then 3 else 2)) = d3 →
    Does (.linkRetrain port true false t) d
      ((d3.setPort port.toNat { d3.port port.toNat with
        fails := 0,
        crcs := [],
        replay := (d3.port port.toNat).replay.map fun u => { u with sent := 1, since := d.refclk } }).pump port.toNat)) ∧
  (∀ (d d1 : Die) (port : Bool) (p : Nat), (if port then 2 else 1) = p → d.portState p = 4 → 3 ≤ (d.port p).fails →
    (((d.setPortState p 0).setRf (Reg.LNK_PORT_STAT p) 6 4 0).setRf (Reg.LNK_PORT_STAT p) 15 12 0).setPort p
      { Port.fresh with cap := (d.port p).cap, enabled := (d.port p).enabled, shut := (d.port p).shut } = d1 →
    Does (.peerPortDown port) d
      (({ d1 with link := { d1.link with recompute := true, portLost := true } } : Die).err Reg.LNK_ERR Bit.LNK_ERR_PEER_DOWN))

/-- Remote reads and writes of exported lines are served, and answers return to their requests, or time out (R383 to R385). -/
def Obligations.RemoteAccessCompletes : Prop :=
  (∀ (d d1 : Die) (h : Hdr) (addr : BitVec 36) (key tenant : BitVec 7) (queue : BitVec 20) (p : UnitRd × Die),
    Delivers h 1 0 [addr.toNat, key.toNat, tenant.toNat, queue.toNat] [] ((d.heard h).workOf serveSlot) d1 →
    d1.exportRefused addr.toNat = false →
    d1.readFrame ⟨4, tenant.toNat, queue.toNat, serveSlot⟩ key.toNat (addr.toNat / 64 / 1024) (addr.toNat / 64 % 1024) = p →
    p.1.bad = false →
    Settles (.eslisRd h addr key tenant queue) d (p.2.answer h 4 false stOk (linePayload p.1.data))) ∧
  (∀ (d d1 : Die) (h : Hdr) (addr : BitVec 36) (key tenant : BitVec 7) (queue : BitVec 20) (v : Line) (p : Bool × Die),
    Delivers h 2 64 [addr.toNat, key.toNat, tenant.toNat, queue.toNat] (linePayload v.toNat) ((d.heard h).workOf serveSlot) d1 →
    d1.exportRefused addr.toNat = false →
    d1.writeFrame ⟨4, tenant.toNat, queue.toNat, serveSlot⟩ key.toNat (addr.toNat / 65536) (addr.toNat / 64 % 1024) v h.poison = p →
    p.1 = true →
    Settles (.eslisWr h addr key tenant queue v) d (p.2.answer h 5 false stOk [])) ∧
  (∀ (d d1 : Die) (h : Hdr) (addr : BitVec 36) (key tenant : BitVec 7) (queue : BitVec 20) (mask : BitVec 64) (v : Line)
      (p : Bool × Die),
    Delivers h 3 64 [addr.toNat, key.toNat, tenant.toNat, queue.toNat, mask.toNat] (linePayload v.toNat)
      ((d.heard h).workOf serveSlot) d1 →
    d1.exportRefused addr.toNat = false →
    d1.mergeFrame ⟨4, tenant.toNat, queue.toNat, serveSlot⟩ key.toNat (addr.toNat / 65536) (addr.toNat / 64 % 1024) mask v = p →
    p.1 = true →
    Settles (.eslisWrm h addr key tenant queue mask v) d (p.2.answer h 5 false stOk [])) ∧
  (∀ (d d1 : Die) (h : Hdr) (v : Line) (t : Txn), Delivers h 4 64 [0] (linePayload v.toNat) (d.heard h) d1 →
    d1.txnOf h.tag false = some t → h.poison = false →
    Does (.eslisRdata h 0#8 v) d ((d1.deliverFar t.slot t.line t.via ⟨v, false, false⟩).closeTxn t)) ∧
  (∀ (d d1 : Die) (h : Hdr) (t : Txn), Delivers h 5 0 [0] [] (d.heard h) d1 → d1.txnOf h.tag true = some t →
    Does (.eslisWack h 0#8) d (d1.closeTxn t)) ∧
  (∀ (d : Die) (idx : BitVec 12) (t : Txn), d.far.txns = [t] → t.idx = idx.toNat →
    d.elapsed t.since (d.rf Reg.LNK_FAB_CFG 15 0) = true →
    Does (.peerRequestTimeout idx) d
      (((d.failTxn t).count Reg.LNK_PEER_TIMEOUTS 1).err Reg.LNK_ERR Bit.LNK_ERR_PEER_TIMEOUT))

/-- Transfers are sent and received: F.SEND and F.BCAST open them, a target takes OPEN and data and answers, and the sender
takes the answer or gives up (R386 to R388). -/
def Obligations.TransfersComplete : Prop :=
  (∀ (d : Die) (slot : BitVec 12) (run : Run) (e : Entry), Starts 0xA0 slot.toNat run fMay fLegal d e →
    Settles (.fSend slot run) d (fBody run e (d.checked e run))) ∧
  (∀ (d : Die) (slot : BitVec 12) (run : Run) (e : Entry), Starts 0xA1 slot.toNat run fMay fLegal d e →
    Settles (.fBcast slot run) d (fBody run e (d.checked e run))) ∧
  (∀ (d d1 d2 : Die) (h : Hdr) (dst : BitVec 48) (len : Word) (mask : BitVec 8) (sig : Bool) (counter inc : BitVec 16)
      (tenant : BitVec 7) (queue : BitVec 20), (d.heard h).portOpen (portOf h) = true → len ≠ 0#32 → len.toNat % 64 = 0 →
    ((d.heard h).received (portOf h) 0 (laneOf h) 0).dropMembers (portOf h) mask.toNat = d1 →
    d1.maskVia (portOf h) 1 mask.toNat = 0 → d1.maskVia (portOf h) 2 mask.toNat = 0 →
    mask.toNat.testBit (d.heard h).dieId = true → (d.heard h).shardAt dst.toNat len.toNat tenant.toNat = none →
    d1.transferOk tenant.toNat dst.toNat len.toNat sig counter.toNat = (true, d2) →
    Does (.eslisOpen h dst len mask sig counter inc tenant queue) d { d2 with link := { d2.link with
      incoming := d2.link.incoming ++ [⟨d2.link.nextIn, portOf h, laneOf h, h.bulk.toNat, h.src.toNat, h.tag.toNat, tenant.toNat,
        queue.toNat, true, [], dst.toNat, len.toNat, [], 0, if sig then some (counter.toNat, inc.toNat) else none, stOk, false,
        false, none, none⟩],
      nextIn := d2.link.nextIn + 1 } }) ∧
  (∀ (d d1 : Die) (f : BulkFlit) (p ln : Nat) (x : Incoming), (if f.port then 2 else 1) = p →
    (if f.lane then 1 else 0) = ln → d.portOpen p = true →
    (d.link.incoming.find? fun x => x.port == p && x.lane == ln && x.bulk == f.bulk.toNat && !x.ended) = some x → x.forward = [] →
    x.own = true → f.abort = false → f.last = true → (d.workOf serveSlot).received p 2 ln (min 240 f.bytes.toNat) = d1 →
    Settles (.eslisBulk f) d (((d1.takeBulk x f).modIncoming x.id fun o => { o with ended := true }).settleTransfers)) ∧
  (∀ (d d1 : Die) (h : Hdr) (st : BitVec 8) (s : Sending), Delivers h 7 0 [st.toNat] [] (d.heard h) d1 →
    (d1.link.sends.find? fun s => s.tag == h.tag.toNat && s.left.contains h.src.toNat) = some s →
    s.left.filter (· != h.src.toNat) = [] →
    Does (.eslisDone h st) d (d1.endSend { s with left := [], status := if s.status = 0 then st.toNat else s.status } false)) ∧
  (∀ (d : Die) (slot : BitVec 12) (s : Sending), (d.link.sends.find? fun s => s.slot == slot.toNat) = some s → s.sent = true →
    d.elapsed s.since (d.rf Reg.LNK_FAB_CFG 15 0) = true →
    Does (.fabricDoneTimeout slot) d
      (((d.dropSend s.slot).finish s.slot
        (if s.status = stPermission then stPermission
          else if s.poison || s.status == stDataFault then stDataFault else stTimeout) 0 0 0 0).startShard))

/-- The fabric's ticks, time and barriers reach this die (R206, R216, R390 to R392). -/
def Obligations.FabricTimeCompletes : Prop :=
  (∀ (d d1 : Die) (h : Hdr) (firing : BitVec 64) (mask : BitVec 8) (sense : Sense), sense.counts.length = 8 →
    (d.heard h).portOpen (portOf h) = true →
    ((d.heard h).received (portOf h) 3 (laneOf h) 0).sendAll (some h) 8 h.src.toNat firing.toNat mask.toNat = d1 →
    mask.toNat.testBit d1.dieId = true → d1.tickSource = 3 → d1.ticksRun = true → d1.tooSoon = false →
    d1.firing < firing.toNat →
    Does (.eslisTick h firing mask sense) d
      (Die.tickCycle ⟨firing.toNat, 3, false, sense, d1.refclk⟩ (d1.askTick firing.toNat 3 false sense d1.refclk))) ∧
  (∀ d : Die, d.dieId = 0 → d.rf Reg.LNK_STAT 12 12 = 1 → d.elapsed d.link.timeSent 1000 = true →
    Does .eslisTimeSend d ({ d with link := { d.link with timeSent := d.refclk } }.sendAll none 9 0 d.ftime d.members)) ∧
  (∀ (d d1 : Die) (h : Hdr) (value : BitVec 64) (mask : BitVec 8), (d.heard h).portOpen (portOf h) = true →
    ((d.heard h).received (portOf h) 3 (laneOf h) 0).sendAll (some h) 9 h.src.toNat value.toNat mask.toNat = d1 →
    mask.toNat.testBit (d.heard h).dieId = true →
    Does (.eslisTime h value mask) d { d1 with link := { d1.link with
      ftOffset := (value.toNat + (d.heard h).link.latency + 2 ^ 64 - (d.heard h).refclk * 625 / 24 % 2 ^ 64) % 2 ^ 64 } }) ∧
  (∀ (d d1 : Die) (h : Hdr) (id : BitVec 8) (k : BitVec 24) (mask : BitVec 8),
    Delivers h 0xA 0 [id.toNat, k.toNat, mask.toNat] [] (d.heard h) d1 →
    Does (.eslisArrive h id k mask) d (d1.arrive ⟨id.toNat, k.toNat, mask.toNat, h.src.toNat⟩)) ∧
  (∀ (d d1 : Die) (h : Hdr) (id : BitVec 8) (k : BitVec 24) (t0 : BitVec 64),
    (d.heard h).portOpen (portOf h) = true →
    Delivers h 0xB 0 [id.toNat, k.toNat, t0.toNat] [] { d.heard h with
      link := { (d.heard h).link with quietUntil := max (d.heard h).link.quietUntil (t0.toNat + 1750) } } d1 →
    d1.ftime ≤ t0.toNat + 250 * d1.dieId →
    Does (.eslisRelease h id k t0) d { d1 with
      sched := { d1.sched with releases := d1.sched.releases ++ [⟨id.toNat, k.toNat, t0.toNat, h.poison⟩] } })

/-! ### Completion: power and firmware on their own -/

/-- The Damper's own events: droops stretch and relax the clock, estimates and samples are taken, the die enters IDLE, drains
into DOZE or SLEEP or gives that up, and wakes (R398, R402, R409 to R418). -/
def Obligations.PowerEventsComplete : Prop :=
  (∀ (d : Die) (drop : BitVec 8) (steps : BitVec 3), d.rf Reg.DMP_DROOP_CFG 7 0 < drop.toNat → 1 ≤ steps.toNat →
    steps.toNat < 4 →
    Does (.droopDetect drop steps) d { d.count Reg.DMP_DROOP_EVENTS 1 with
      damper := { d.damper with stretch := max d.damper.stretch steps.toNat } }) ∧
  (∀ (d : Die) (cycles : Word), d.damper.stretch ≠ 0 → d.rf Reg.DMP_DROOP_CFG 15 8 ≤ cycles.toNat →
    Does (.droopRelax cycles) d
      (Die.count { d with damper := { d.damper with stretch := d.damper.stretch - 1 } } Reg.DMP_DROOP_CYC cycles.toNat)) ∧
  (∀ (d d1 d2 : Die) (e : Estimate) (ratios : List Nat), e.domains.length = 4 → e.rails.length = 4 → e.held.length = 3 →
    d.pstate ≠ 3 → d.elapsed d.damper.estimated 2 = true → (if d.railMode then d.railRatios e else d.capRatios e) = ratios →
    (List.range 4).foldl (fun acc k => acc.setRf (Reg.DMP_DOM_EST k) 15 0 (e.domains.getD k 0#16).toNat)
      (d.setRf Reg.DMP_EST 15 0 e.die.toNat) = d1 →
    ((List.range 3).filter d1.limited).foldl (fun acc k => acc.domainHeld k (e.held.getD k 0#12).toNat) d1 = d2 →
    Does (.powerEstimatePeriod e) d
      ((Die.setRf { d2 with damper := { d2.damper with
        ratio := ratios,
        dieMax := max d2.damper.dieMax e.die.toNat,
        baseMax := max d2.damper.baseMax (e.domains.getD 3 0#16).toNat,
        sum := d2.damper.sum + e.die.toNat,
        periods := d2.damper.periods + 1,
        estimated := d2.refclk } } Reg.DMP_STAT 10 10 (if (List.range 3).any d.limited then 1 else 0)).errIf
          (d.railMode && !(d.railsHit e).isEmpty) Reg.DMP_ERR Bit.DMP_ERR_RAIL_LIMIT)) ∧
  (∀ (d d1 d2 : Die) (temps : List (BitVec 16)) (h : Int × Nat), temps.length = 24 → d.pstate ≠ 3 →
    d.elapsed d.damper.sampled 10 = true → hottest temps.zipIdx = some h →
    temps.zipIdx.foldl (fun acc t => acc.setRf (Reg.DMP_TEMP t.2) 15 0 t.1.toNat) d = d1 →
    ({ d1 with damper := { d1.damper with sampled := d.refclk } } : Die).setReg Reg.DMP_TEMP_MAX
      (BitVec.ofNat 32 (ofSigned 16 h.1 + h.2 * 2 ^ 16)) = d2 →
    Does (.thermalSample temps) d { d2 with damper := { d2.damper with peak := some (match d2.damper.peak with
      | none => h.1
      | some q => max q h.1) } }) ∧
  (∀ d : Die, d.pstate = 0 → d.sb = [] → d.queues.recorded = [] →
    d.elapsed d.sched.idleSince (d.rf Reg.DMP_IDLE_CFG 15 0) = true → Does .idleEnter d (d.setRf Reg.DMP_STAT 2 0 1)) ∧
  (∀ (d d1 d2 d3 d4 : Die) (e : PowerEntry), d.damper.entry = some e → d.entering = true → d.sb = [] → d.owed = [] →
    d.serving.late = [] → d.dmc.waiting = [] →
    (List.range 4).foldl (fun acc c => if acc.camOn c then acc.closeFrame c else acc) d = d1 →
    ((List.range 88).filter fun b => !d.retained b).foldl
      (fun acc b => (acc.powerBankDown b).bankGateClose (BitVec.ofNat 7 b)) d1 = d2 →
    (match d2.runningCmd 0x0105 with
      | some c => d2.dramRest.reply c stOk 0 (c.aux.headD 0) []
      | none => d2.dramRest) = d3 →
    { d3 with
      sched := { d3.sched with camTick := none },
      kiln := Kiln.powerUp,
      wheel := ⟨none, false⟩,
      damper := { d3.damper with
        timer := if e.timer = 0 then none else some (d.refclk + msCycles e.timer) } } = d4 →
    Does .powerEntryDrained d
      (((if e.target = 3 then
          { d4 with
            track := [],
            tier := { d4.tier with ptCache := [] },
            queues := { d4.queues with
              table := d4.queues.cache.foldl (fun t c => SMap.put (fun _ => QCtx.free) t c.1 c.2) d4.queues.table,
              cache := [] } }
        else d4).setRf Reg.DMP_STAT 3 3 0).setRf Reg.DMP_STAT 2 0 e.target)) ∧
  (∀ (d d2 : Die) (e : PowerEntry), d.damper.entry = some e → d.entering = true → d.drained = false →
    e.since + msCycles e.limit ≤ d.refclk →
    (Die.setRf { d with damper := { d.damper with entry := none, wake := none } } Reg.DMP_STAT 3 3 0).err Reg.DMP_ERR
      Bit.DMP_ERR_ENTRY_TIMEOUT = d2 →
    Does .powerEntryTimeout d (match d2.runningCmd 0x0105 with
      | some c => d2.reply c stTimeout 0 (c.aux.headD 0) []
      | none => d2)) ∧
  (∀ (d : Die) (t : Nat) (e : PowerEntry), d.damper.timer = some t → t ≤ d.refclk → d.damper.entry = some e →
    e.mask.testBit 2 = true → d.damper.wake = none → (d.entering || d.asleep) = true →
    Does .wakeTimer d { d with damper := { d.damper with timer := none, wake := some 2 } }) ∧
  (∀ (d : Die) (w : Word) (e : PowerEntry), w.b 0 = true → d.damper.entry = some e → d.damper.wake = none →
    (d.entering || d.asleep) = true → Does (.dmpWake w) d { d with damper := { d.damper with wake := some 5 } }) ∧
  (∀ (d d1 d2 : Die) (k : Nat), d.damper.wake = some k → d.asleep = true →
    ((List.range 88).filter fun b => !d.retained b).foldl (fun acc b => acc.bankBack b) d = d1 →
    (if d.pstate = 3 then
      ((List.range 8).filter fun s => !d.segKept s).foldl (fun acc s => acc.setRf Reg.DMC_STAT (24 + s) (24 + s) 1)
        d1.clearCounters.areaLost
    else d1) = d2 →
    Does .wake d
      (((Die.setRf { d2 with
        dmc := { d2.dmc with trainSoon := List.range 16 },
        sched := { d2.sched with idleSince := d2.refclk },
        damper := { d2.damper with entry := none, wake := none, timer := none, firstTick := true } } Reg.DMP_STAT 2 0 0).setRf
          Reg.DMP_STAT 23 20 k).setRailMode (d2.fwState != fwRunning)))

/-- Firmware's own events: the boot ends, a host image loads, watchdogs expire and processors come back, packets are taken,
and an update goes through its states (R449, R450, R452, R461 to R468, R471). -/
def Obligations.FirmwareEventsComplete : Prop :=
  (∀ (d d0 d1 d2 d4 d5 : Die) (b : BootFind) (i : Image), d.fwState = fwBoot → d.fw.running = some i →
    ((d.bootDram b).bootNand b).setPortState 0 3 = d0 →
    d0.setRf (Reg.LNK_PORT_STAT 0) 6 4 (min (d0.port 0).cap (max 1 b.hostRate.toNat)) = d1 →
    (d1.setRf Reg.LNK_STAT 23 16 (2 ^ d1.dieId)).selfTest (some b.kiln) (some b.wheel) = d2 →
    (List.range (b.wheel.headD []).length).foldl (fun acc _ => acc.wheelSpareSwap)
      ((List.range (b.kiln.headD []).length).foldl (fun acc _ => acc.kilnSpareSwap .cell) d2) = d4 →
    (d4.setRf Reg.FWP_BOOT_STAT 23 8 (min 65535 (d4.refclk / 38400))).setFwState fwWaitDriver = d5 →
    Does (.bootComplete b) d
      ((Die.bootPorts { d5 with ras := { d5.ras with kilnTested := d5.refclk, wheelTested := d5.refclk } } b).resetSplit).snapMeasures) ∧
  (∀ (d d0 d2 : Die) (len : Word) (hits : Hits) (p : UnitRd × Die) (n x : Nat), d.struck hits = d0 → d0.fwState = fwHostWait →
    (d0.setReg Reg.FWP_RECOVERY_LEN (len &&& 0x003FFFFF#32)).workOf imageSlot = d2 →
    d2.readHostLines ((d2.rf Reg.FWP_RECOVERY_HI 15 0 * 2 ^ 32 + d2.rf Reg.FWP_RECOVERY_LO 31 12 * 4096) / 64)
      (ceilDiv (len.toNat % 2 ^ 22) 64) = p →
    p.1.data % 2 ^ (8 * (len.toNat % 2 ^ 22)) = n →
    (if p.1.bad then 1 else p.2.imageError n (some (len.toNat % 2 ^ 22)) (imageProof n)) = x →
    Settles (.hostImageLoad len hits) d
      (if x = 0 then
        ((p.2.startImage (imageOf n (imageProof n).digest) false).setRf Reg.FWP_BOOT_STAT 2 2 1).setRf
          Reg.FWP_BOOT_STAT 7 4 0
      else p.2.bootFailed x true)) ∧
  (∀ (d d1 d2 : Die) (p : BitVec 2) (recent : List Nat), d.procUp p.toNat = true → d.watchdogDue p.toNat = true →
    d.update ≠ 2 →
    (d.refclk :: SMap.get (fun _ => []) d.fw.expiries p.toNat).filter (fun t => !d.elapsed t 10000001) = recent →
    recent.length < 3 →
    { d with fw := { d.fw with expiries := SMap.put (fun _ => []) d.fw.expiries p.toNat recent } } = d1 →
    (((d1.setRf (Reg.FWP_WDT p.toNat) 31 16 (min 65535 (d1.rf (Reg.FWP_WDT p.toNat) 31 16 + 1))).setDown p.toNat true).dump
      p.toNat).err Reg.FWP_ERR p.toNat = d2 → d2.update ≠ 2 →
    Does (.watchdogExpiry p) d (if p = 0#2 then d2.degrade else d2)) ∧
  (∀ (d : Die) (p : BitVec 2), d.procDown p.toNat = true → d.fw.stuck.contains p.toNat = false → p.toNat ≠ 0 →
    Does (.processorRestart p) d ((d.setDown p.toNat false).resetCmds p.toNat)) ∧
  (∀ d : Die, d.procDown 0 = true → d.fw.stuck.contains 0 = false →
    Does (.processorRestart 0#2) d { d with fw := { d.fw with restarting := true } }) ∧
  (∀ d : Die, d.fw.restarting = true →
    Does .supervisorRestored d
      (Die.resetCmds { d.setDown 0 false with fw := { d.fw with restarting := false, restored := true, paused := false } } 0)) ∧
  (∀ (d : Die) (w : Word), (w.b 31 = false ∨ (4 ≤ w.f 3 0 ∧ w.f 3 0 ≤ 12)) →
    Does (.fwpRingCfgWrite w) d { d.setReg Reg.FWP_RING_CFG (w &&& 0x8000000F#32) with
      fw := { d.fw with lastSeq := none, ringBad := false } }) ∧
  (∀ (d d0 : Die) (v : Word), (d.setReg Reg.FWP_CMD_TAIL v).workOf mgmtSlot = d0 → d0.mayTake = false →
    Settles (.fwpCmdTailWrite v) d d0) ∧
  (∀ (d d0 d1 : Die) (v : Word) (p : UnitRd × Die) (n k : Nat), (d.setReg Reg.FWP_CMD_TAIL v).workOf mgmtSlot = d0 →
    d0.mayTake = true →
    d0.readHost 0 (d0.ringSlot Reg.FWP_CMD_BASE_LO (d0.reg Reg.FWP_CMD_HEAD).toNat / 64) Who.die = p → p.1.bad = false →
    p.2.setReg Reg.FWP_CMD_HEAD (d0.reg Reg.FWP_CMD_HEAD + 1#32) = d1 → p.1.data = n → d1.fw.lastSeq = none →
    cmdLength (bytesAt n 0 2) = some k → bytesAt n 2 2 = k → d1.fw.stuck = [] →
    Die.mayTake { d1 with fw := { d1.fw with
      lastSeq := some (bytesAt n 4 4),
      cmds := d1.fw.cmds ++ [⟨bytesAt n 0 2, bytesAt n 4 4, bytesAt n 8 56, .queued, []⟩] } } = false →
    Settles (.fwpCmdTailWrite v) d { d1 with fw := { d1.fw with
      lastSeq := some (bytesAt n 4 4),
      cmds := d1.fw.cmds ++ [⟨bytesAt n 0 2, bytesAt n 4 4, bytesAt n 8 56, .queued, []⟩] } }) ∧
  (∀ (d : Die) (c : Cmd), d.runningCmd 0x030B = some c → 1 < d.fw.cmds.length →
    d.elapsed (c.aux.headD 0) 1000000 = true →
    Settles .activateDrainTimeout d
      ((Die.workOf { d with fw := { d.fw with paused := false } } mgmtSlot).reply c stTimeout 0 0 [])) ∧
  (∀ d : Die, d.update = 2 → d.elapsed d.fw.probation 10000000 = true →
    Does .probationPass d { d.spiProgram.setUpdate 3 with nv := { d.nv with slot := .broken } }) ∧
  (∀ (d : Die) (i : Image), d.fw.running = some i → d.update = 3 →
    Does .commitDone d
      { d.spiRead.setUpdate 0 with nv := { d.nv with slot := .holds i }, fw := { d.fw with inFlash := true } }) ∧
  (∀ (d d1 : Die) (p : BitVec 2) (word : BitVec 20),
    (d.countError 6 (4 * 2 ^ 24 + word.toNat)).err Reg.RAS_ERR Bit.RAS_ERR_CTRL_UE = d1 → d1.procUp p.toNat = true →
    Does (.firmwareSramUncorrectable p word) d (d1.expire p.toNat))

/-- Key sessions, offers and confidential sessions lapse, and a failed health test is flagged (R426, R434, R439, R440). -/
def Obligations.SecurityEventsComplete : Prop :=
  (∀ (d : Die) (num : BitVec 16) (a b : List KeySession) (x : KeySession), d.saggar.sessions = a ++ x :: b →
    x.num = num.toNat → d.elapsed x.since 60000000 = true → (∀ o ∈ a ++ b, o.num ≠ num.toNat) →
    Does (.keySessionLapse num) d { d with saggar := { d.saggar with sessions := a ++ b } }) ∧
  (∀ (d : Die) (t pair : Nat), d.saggar.offer = some (t, pair) → d.elapsed t 10000000 = true →
    Does .confOfferLapse d { d with saggar := { d.saggar with offer := none } }) ∧
  (∀ d : Die, d.confMode = true → d.elapsed d.saggar.traffic 86400000000 = true →
    Does .confSessionIdle d { d with saggar := { d.saggar with closing := true } }) ∧
  (∀ d : Die, d.rngOk = true → Does .rngHealthFail d ((d.setRf Reg.SGR_STAT 7 7 0).err Reg.SGR_ERR Bit.SGR_ERR_RNG))

/-- Tracker entries free themselves, and the periodic self-test runs on each unit that is due and idle (R473, R475). -/
def Obligations.ReliabilityEventsComplete : Prop :=
  (∀ (d : Die) (a b : List TrackEntry) (x : TrackEntry), d.track = a ++ x :: b → d.trackLive x = false →
    (∀ o ∈ a ++ b, d.trackLive o = true) → Does .trackerEntryExpire d { d with track := a ++ b }) ∧
  (∀ (d : Die) (kiln : List (List (BitVec 12))) (wheel : List (List (BitVec 5))) (k w : Bool),
    d.testDue d.ras.kilnTested d.kilnIdle = k → d.testDue d.ras.wheelTested d.wheelIdle = w → (k || w) = true →
    Does (.selftestPeriodic kiln wheel) d
      (Die.selfTest { d with ras := { d.ras with
        kilnTested := if k then d.refclk else d.ras.kilnTested,
        wheelTested := if w then d.refclk else d.ras.wheelTested } }
        (if k then some kiln else none) (if w then some wheel else none)))

/-! ### Completion: the management plane -/

/-- The power commands are accepted for the next tick, set a rail's limit, and report (R400, R404, R405, R409, R411, R415,
R420). -/
def Obligations.PowerCommandsComplete : Prop :=
  ∀ (d d1 : Die) (c : Cmd),
    (Handles 0x0101 d d1 c → 2000 ≤ c.arg 0 2 → c.arg 0 2 ≤ 38000 → Settles .powerCap d (d1.toTick c [])) ∧
    (Handles 0x0102 d d1 c → (c.arg 0 1).testBit 1 = false → Settles .powerSplit d (d1.toTick c [])) ∧
    (∀ (p : UnitRd × Die) (t : List (List Nat × List Nat)), Handles 0x0102 d d1 c → (c.arg 0 1).testBit 1 = true →
      d1.readBytes Who.die (c.arg 8 8) 512 = p → p.1.bad = false → (List.range 16).map (phaseEntry p.1.data) = t →
      (t.any fun x => x.2.foldl (· + ·) 0 != 256) = false →
      Settles .powerSplit d (p.2.toTick c (t.flatMap fun x => x.1 ++ x.2))) ∧
    (Handles 0x0103 d d1 c → Settles .boost d (d1.toTick c [])) ∧
    (Handles 0x0104 d d1 c → c.arg 0 1 ≤ 3 → 100 ≤ c.arg 2 2 → c.arg 2 2 ≤ 20000 → 1 ≤ c.arg 4 1 → c.arg 4 1 ≤ 10 →
      Settles .railLimit d (Die.reply { d1 with damper := { d1.damper with
        rails := d1.damper.rails.zipIdx.map fun (p : (Nat × Nat) × Nat) =>
          if p.2 = c.arg 0 1 then (c.arg 2 2, c.arg 4 1) else p.1 } } c stOk 0 0 [])) ∧
    (Handles 0x0105 d d1 c → d1.stateRefused c = false → Settles .powerState d (d1.toTick c [])) ∧
    (Handles 0x0106 d d1 c → Settles .shelfPower d (d1.toTick c [])) ∧
    (Handles 0x0107 d d1 c → Settles .powerInfo d (d1.reply c stOk 0 0
      ([(2, d1.rf Reg.DMP_EST 15 0)] ++ ((List.range 4).map fun k => (2, d1.rf (Reg.DMP_DOM_EST k) 15 0)) ++
        ((List.range 4).map fun k => (2, d1.grant k)) ++
        [(2, d1.rf Reg.DMP_FLOORS 15 0), (2, d1.rf Reg.DMP_FLOORS 31 16), (1, d1.rf Reg.DMP_STAT 19 16),
          (2, d1.rf Reg.DMP_SPLIT 8 0), (2, d1.rf Reg.DMP_SPLIT 17 9), (2, d1.rf Reg.DMP_SPLIT 26 18),
          (1, d1.rf Reg.DMP_DUTY 3 0), (1, d1.rf Reg.DMP_STAT 9 9)]))) ∧
    (Handles 0x0108 d d1 c → 85 ≤ c.arg 0 1 → c.arg 0 1 ≤ 100 → Settles .thermalCfg d (d1.toTick c []))

/-- The security commands report, open and use key sessions, offer and accept confidential sessions, and blow rollback fuses
(R424, R432, R434, R435, R438 to R440, R442). -/
def Obligations.SecurityCommandsComplete : Prop :=
  ∀ (d d1 : Die) (c : Cmd),
    (∀ (n : Nat) (p : Bool × Die), Handles 0x0201 d d1 c → Config.crypto 3 0 % 8193 = n →
      d1.bufferOk (c.arg 0 8) (max 9985 (1797 + n)) = true →
      d1.writeBytes Who.die (c.arg 0 8) (1797 + n)
        (layout [(0, 1793, Config.crypto 1 0), (1793, 4, n), (1797, n, Config.crypto 2 0)]) = p → p.1 = true →
      Settles .secIdentity d (p.2.reply c stOk 0 0 [])) ∧
    (∀ p : Bool × Die, Handles 0x0202 d d1 c → d1.reportRefused false = none → d1.bufferOk (c.arg 0 8) 4352 = true →
      d1.writeReport (c.arg 0 8) (c.arg 8 32) none = p → p.1 = true →
      Settles .secAttest d (p.2.reply c stOk 0 0 [(8, d1.firing)])) ∧
    (∀ p : Bool × Die, Handles 0x0203 d d1 c → d1.reportRefused true = none → d1.openSessions.length < 8 →
      d1.bufferOk (c.arg 0 8) 5920 = true →
      d1.fresh.2.writeReport (c.arg 0 8) (c.arg 8 32) (some d1.fresh.1) = p → p.1 = true →
      Settles .secKeySession d (Die.reply { p.2 with saggar := { p.2.saggar with
        sessions := p.2.openSessions ++
          [⟨d1.saggar.nextSession, d1.refclk, d1.fresh.1, digest32 (toBytes 1568 (Config.crypto 4 d1.fresh.1)), c.arg 8 32⟩],
        nextSession := if d1.saggar.nextSession = 65535 then 1 else d1.saggar.nextSession + 1 } } c stOk 0 0
          [(2, d1.saggar.nextSession)])) ∧
    (∀ (upsets : List Upset) (lost : Nat) (s : KeySession) (p : UnitRd × Die), Handles 0x0204 d d1 c → d1.testMode = false →
      (d1.openSessions.find? fun s => s.num == c.arg 0 2) = some s → modelCode (c.arg 2 1) = true →
      (Die.struck { d1 with saggar := { d1.saggar with
        sessions := d1.openSessions.filter fun s => s.num != c.arg 0 2 } } ⟨upsets, lost⟩).readBytes Who.die (c.arg 8 8) 1648 = p →
      p.1.bad = false →
      (p.2.awaitsTick 0x0205 fun o => o.arg 0 1 == c.arg 2 1 && o.aux.headD 0 == bytesAt p.1.data 1568 32) = false →
      p.2.keySlot (bytesAt p.1.data 1568 32) (c.arg 2 1) = none → p.2.freeKeySlot.isSome = true →
      Settles (.secKeyRelease upsets lost) d (match s.unwrap p.1.data (c.arg 2 1) with
        | some key => p.2.toTick c [bytesAt p.1.data 1568 32, key]
        | none => (p.2.err Reg.SGR_ERR Bit.SGR_ERR_RELEASE).reply c stIntegrity 0 0 [])) ∧
    (∀ p : UnitRd × Die, Handles 0x0205 d d1 c → d1.readBytes Who.die (c.arg 8 8) 32 = p → p.1.bad = false →
      (p.2.keySlot (bytesAt p.1.data 0 32) (c.arg 0 1)).isSome = true →
      Settles .secKeyErase d (p.2.toTick c [bytesAt p.1.data 0 32])) ∧
    (∀ p : Bool × Die, Handles 0x0206 d d1 c → d1.reportRefused true = none → d1.offerOpen = false →
      d1.sessionOpen = false → d1.bufferOk (c.arg 0 8) 5920 = true →
      d1.fresh.2.writeReport (c.arg 0 8) (c.arg 8 32) (some d1.fresh.1) = p → p.1 = true →
      Settles .secConfOpen d (Die.reply { p.2 with saggar := { p.2.saggar with offer := some (d1.refclk, d1.fresh.1) } } c stOk 0 0 [])) ∧
    (∀ (p : UnitRd × Die) (n t pair : Nat), Handles 0x0207 d d1 c → d1.saggar.offer = some (t, pair) →
      d1.elapsed t 10000000 = false →
      d1.readBytes Who.die (c.arg 8 8) 1568 = p → p.1.bad = false →
      (if (p.2.saggar.session + 1) % 2 ^ 32 = 0 then 1 else (p.2.saggar.session + 1) % 2 ^ 32) = n →
      Settles .secConfAccept d (Die.toTick { p.2 with saggar := { p.2.saggar with
        offer := none, session := n, traffic := p.2.refclk, opening := true,
        confKeys := some (sessionKeys pair p.1.data) } } c [])) ∧
    (Handles 0x0208 d d1 c → d1.sessionOpen = true →
      Settles .secConfClose d (Die.toTick { d1 with saggar := { d1.saggar with closing := true } } c [])) ∧
    (∀ good : BitVec 7, Handles 0x0209 d d1 c → d1.update ≠ 1 → d1.fw.inFlash = true →
      d1.runningSvn - d1.nv.rollback ≤ good.toNat →
      Settles (.secRollback good) d (Die.reply
        { d1 with nv := { d1.nv with rollback := d1.nv.rollback + (d1.runningSvn - d1.nv.rollback) } } c stOk 0 0
          [(1, d1.nv.rollback + (d1.runningSvn - d1.nv.rollback))]))

/-- The Supervisor's commands report, start and stop the data plane, configure the tick and the tenants, and update the
firmware (R201, R220, R222, R272, R459 to R461, R465, R466). -/
def Obligations.SupervisorCommandsComplete : Prop :=
  ∀ (d d1 : Die) (c : Cmd),
    (Handles 0x0301 d d1 c → Settles .fwInfo d (d1.reply c stOk 0 0
      [(4, d1.imageField (·.version)), (1, d1.imageField (·.svn)), (1, d1.imageField (·.ifMajor)),
        (1, d1.imageField (·.ifMinor)), (1, d1.fwState), (1, d1.rf Reg.FWP_BOOT_STAT 1 0), (2, d1.rf Reg.FWP_BOOT_STAT 23 8),
        (1, d1.update)])) ∧
    (Handles 0x0302 d d1 c → c.arg 0 1 = d1.imageField (·.ifMajor) → d1.fwState ≠ fwRefused →
      Settles .drvHello d (Die.reply { d1 with fw := { d1.fw with hello := true } } c stOk 0 0
        [(1, d1.imageField (·.ifMajor)), (1, d1.imageField (·.ifMinor))])) ∧
    (Handles 0x0303 d d1 c → d1.fwState = fwWaitDriver → d1.fw.hello = true → d1.allTrained = true →
      Settles .dataStart d (d1.toTick c [])) ∧
    (Handles 0x0304 d d1 c → d1.fwState = fwRunning →
      (d1.fw.cmds.any fun o => o.op == 0x0304 && o.stage != .queued) = false → AtHand (d1.toTick c []) →
      Does .dataStop d (d1.toTick c []).spend.settleStop) ∧
    (Handles 0x0305 d d1 c → c.arg 0 1 ≤ 3 → c.arg 1 1 ≤ 3 → 384 ≤ c.arg 4 4 → c.arg 4 4 ≤ 38400000 →
      (c.arg 0 1 = 3 → d1.dieId ≠ 0) → Settles .tickConfig d (d1.toTick c [])) ∧
    (Handles 0x0306 d d1 c → d1.tenantRefused (tenantRec c) (d1.awaitsTick 0x0308 fun o => o.arg 0 1 == c.arg 0 1) = none →
      Settles .tenantConfig d (d1.toTick c [])) ∧
    (Handles 0x0307 d d1 c → c.arg 0 1 < 64 → c.arg 1 1 < 8 →
      d1.windowLegal (c.arg 0 1) (d1.awaitsTick 0x0306 fun o => o.arg 0 1 == c.arg 0 1)
        (d1.awaitsTick 0x0308 fun o => o.arg 0 1 == c.arg 0 1) = true → Settles .tenantWindow d (d1.toTick c [])) ∧
    (Handles 0x0308 d d1 c → c.arg 0 1 < 64 → d1.tenantValid (c.arg 0 1) = true → d1.tenantDraining (c.arg 0 1) = false →
      (d1.awaitsTick 0x0308 fun o => o.arg 0 1 == c.arg 0 1) = false → Settles .tenantTeardown d (d1.toTick c [])) ∧
    (Handles 0x0309 d d1 c → c.arg 0 1 ≤ 3 → 1 ≤ c.arg 2 2 → c.arg 2 2 ≤ 1000 →
      Settles .watchdog d ((d1.setRf (Reg.FWP_WDT (c.arg 0 1)) 9 0 (c.arg 2 2)).reply c stOk 0 0 [])) ∧
    (∀ (hits : Hits) (p : UnitRd × Die), Handles 0x030A (d.struck hits) d1 c → d1.update ≠ 2 → d1.update ≠ 3 →
      d1.readBytes Who.die (c.arg 0 8) (max 64 (min (c.arg 8 4) (2 ^ 22))) = p → p.1.bad = false →
      Settles (.fwStage hits) d
        (if p.2.imageError p.1.data (some (c.arg 8 4)) (imageProof p.1.data) = 0 then
          (Die.setUpdate { p.2 with fw := { p.2.fw with
            other := some (imageOf p.1.data (imageProof p.1.data).digest) } } 1).reply c stOk 0 0 []
        else p.2.reply c stIntegrity 0 0 [])) ∧
    (∀ accepts : Bool, d.runningCmd 0x030B = none → Handles 0x030B d d1 c → d1.update = 1 →
      Settles (.fwActivate accepts) d (d1.toTick c [])) ∧
    (∀ (i : Image) (d2 : Die), d.runningCmd 0x030B = some c → d.fw.cmds.length = 1 → d.procDown 0 = false →
      d.fw.other = some i → (List.range 4).foldl (fun acc p => acc.procStarts p) (d.workOf mgmtSlot).failSettings = d2 →
      Settles (.fwActivate true) d
        (((Die.setUpdate { d2 with fw := { d2.fw with
          running := some i, other := (d.workOf mgmtSlot).fw.running, slot := 1 - (d.workOf mgmtSlot).fw.slot, inFlash := false,
          oldInFlash := (d.workOf mgmtSlot).fw.inFlash, paused := false, probation := (d.workOf mgmtSlot).refclk } } 2).countMeasure
            1).reply c stOk 0 0 [(4, i.version)])) ∧
    (∀ (i : Image) (d2 : Die), d.runningCmd 0x030B = some c → d.fw.cmds.length = 1 → d.procDown 0 = false →
      d.fw.other = some i → (List.range 4).foldl (fun acc p => acc.procStarts p) (d.workOf mgmtSlot).failSettings = d2 →
      Settles (.fwActivate false) d (Die.reply { d2 with fw := { d2.fw with paused := false } } c stIllegal 1 0 [])) ∧
    (Handles 0x030C d d1 c → d1.update ≠ 4 → d1.fw.slot = 0 →
      Settles .fwStatus d (d1.reply c stOk 0 0 [(1, d1.update), (4, d1.imageField (·.version)),
        (4, match d1.fw.other with
          | some i => i.version
          | none => 0)]))

/-- The memory and NAND commands report, retrain, repair for good and format (R322, R328, R334, R335). -/
def Obligations.MemoryCommandsComplete : Prop :=
  ∀ (d d1 : Die) (c : Cmd),
    (Handles 0x0401 d d1 c → Settles .memInfo d (d1.reply c stOk 0 0
      ([(4, (d1.reg Reg.DMC_CAP).toNat / 14336), (4, (d1.reg Reg.DMC_CAP).toNat), (4, rateOf d1.dmc.rate),
        (2, d1.rf Reg.DMC_STAT 15 0)] ++ ((List.range 16).map fun i => (1, d1.rf (Reg.DMC_CH_STAT i) 7 0)) ++
        [(4, d1.dmc.outside.length)] ++ ((d1.dmc.outside.take 3).map fun f => (4, f))))) ∧
    (Handles 0x0402 d d1 c → 10 ≤ c.arg 0 2 → c.arg 0 2 ≤ 10000 → 1 ≤ c.arg 2 1 → c.arg 2 1 ≤ 4 →
      Settles .memRetrain d (d1.toTick c [])) ∧
    (Handles 0x0403 d d1 c → d1.inUse = false →
      Settles .memPprHard d (Die.reply { d1 with repairLog := (d1.repairLog.map (fun r =>
        if (!r.2 && (c.arg 0 2).testBit (r.1 / 2 ^ 24)) = true then (r.1, true) else r)) } c stOk 0 0
          [(4, (d1.repairLog.filter fun r => !r.2 && (c.arg 0 2).testBit (r.1 / 2 ^ 24)).length)])) ∧
    (∀ (marks : List (BitVec 25)) (n : Nand), Handles 0x0410 d d1 c → d1.rf (Reg.TIR_POOL_COUNT 2) 25 0 = 0 →
      1 ≤ c.arg 0 1 → c.arg 0 1 ≤ 20 → 4 ≤ c.arg 1 1 → c.arg 1 1 ≤ 28 →
      d1.nand.format (marks.map (·.toNat)) (c.arg 0 1) (c.arg 1 1) = n →
      Settles (.flashFormat marks) d
        (((((Die.setRf { d1 with nand := n } Reg.NFC_STAT 3 2 2).setReg Reg.TIR_FLASH_CAP (BitVec.ofNat 32 n.logical)).setRf
          Reg.NFC_SPARES 15 0 n.spare.length).setRf Reg.NFC_BAD_GROWN 15 0 n.grown).reply c stOk 0 0 [(4, n.logical)])) ∧
    (∀ es : List Nat, Handles 0x0411 d d1 c → ((d1.nand.used ++ d1.nand.free).map fun b => (d1.nblk b).erases) = es →
      Settles .flashInfo d (d1.reply c stOk 0 0
        [(2, d1.eraseSpread.2), (2, d1.eraseSpread.1), (2, es.foldl (· + ·) 0 / max 1 es.length),
          (2, d1.rf Reg.NFC_SPARES 15 0), (2, d1.rf Reg.NFC_BAD_GROWN 15 0), (4, (d1.reg Reg.TIR_FLASH_CAP).toNat)]))

/-- The camera and fabric commands configure ports, move bytes on the control buses, and report (R338, R362, R363, R376, R382,
R393, R396). -/
def Obligations.PortCommandsComplete : Prop :=
  ∀ (d d1 : Die) (c : Cmd),
    (Handles 0x0501 d d1 c → c.arg 0 1 ≤ 1 → phyLegal (c.arg 1 1) (c.arg 2 1) (c.arg 4 2) = true →
      d1.camPortBusy (c.arg 0 1) = false → Settles .camPortConfig d (d1.toTick c [])) ∧
    (∀ r : BusReply, Handles 0x0502 d d1 c → c.arg 0 1 ≤ 1 → c.arg 3 1 ≤ 40 → c.arg 4 1 ≤ 40 → r.ok = true →
      d1.settingsOn (c.arg 0 1) = false →
      Settles (.camXfer r) d
        ((d1.emit (.camera (c.arg 0 1) (c.arg 1 1 :: c.arg 2 1 :: toBytes (c.arg 3 1) (c.arg 8 40)))).reply c stOk 0 0
          ((List.range (c.arg 4 1)).map fun i => (1, (r.bytes.getD i 0#8).toNat)))) ∧
    (∀ targets : List (BitVec 7), Handles 0x0503 d d1 c → c.arg 0 1 ≤ 1 → d1.settingsOn (c.arg 0 1) = false →
      Settles (.camDaa targets) d (Die.reply { d1 with ife := { d1.ife with
        addrs := SMap.put (fun _ => []) d1.ife.addrs (c.arg 0 1) (targets.map (·.toNat)) } } c stOk 0 0
          ((4, targets.length) :: ((targets.map (·.toNat)).take 44).map fun a => (1, a)))) ∧
    (∀ (bus : Word) (ibi : Nat × List Nat), Handles 0x0504 d d1 c → c.arg 0 1 ≤ 1 →
      SMap.get (fun _ => (0, [])) d1.ife.ibis (c.arg 0 1) = ibi →
      Settles (.camStatus bus) d (d1.reply c stOk 0 0
        ([(4, bus.toNat), (1, ibi.1)] ++ (List.range 8).map fun i => (1, ibi.2.getD i 0)))) ∧
    (Handles 0x0601 d d1 c → Settles .fabStatus d (d1.reply c stOk 0 0
      ([(1, d1.dieId), (1, d1.rf Reg.LNK_STAT 3 3), (1, d1.members), (1, d1.topology)] ++
        ((List.range 3).flatMap fun p =>
          [(1, d1.portState p), (1, d1.rf (Reg.LNK_PORT_STAT p) 6 4), (1, (d1.peerOn p).getD 0xFF)]) ++
        ((List.range 3).map fun p => (2, (d1.reg (Reg.LNK_ROUTE p)).toNat))))) ∧
    (Handles 0x0602 d d1 c → c.arg 0 1 ≤ 7 → d1.alone = true → Settles .fabSetId d (d1.toTick c [])) ∧
    (Handles 0x0603 d d1 c → d1.routesLegal c = true → Settles .fabRoute d (d1.toTick c [])) ∧
    (Handles 0x0604 d d1 c → portIllegal c = false → c.arg 1 1 = 0 → Settles .linkPortDisable d (d1.toTick c [])) ∧
    (Handles 0x0604 d d1 c → portIllegal c = false → c.arg 1 1 = 1 → c.arg 0 1 ≠ 0 → d1.portState (c.arg 0 1) = 0 →
      Settles .linkPortEnable d
        (((d1.setPort (c.arg 0 1) { d1.port (c.arg 0 1) with enabled := true, cap := c.arg 2 1 }).setPortState (c.arg 0 1)
          1).reply c stOk 0 0 [])) ∧
    (Handles 0x0604 d d1 c → portIllegal c = false → c.arg 1 1 = 2 →
      (d1.portState (c.arg 0 1) = 3 → d1.link.quietUntil ≤ d1.ftime) →
      Settles .linkPortRetrain d
        (((d1.setPort (c.arg 0 1) { d1.port (c.arg 0 1) with cap := c.arg 2 1 }).startRetrain (c.arg 0 1)).reply c stOk 0 0 []))

/-- The reliability commands report the tracker and the spares, write the tracker out, and run the self-test (R475, R481). -/
def Obligations.ReliabilityCommandsComplete : Prop :=
  ∀ (d d1 : Die) (c : Cmd),
    (Handles 0x0701 d d1 c → Settles .rasInfo d (d1.reply c stOk 0 0
      [(2, d1.trackUsed.length), (4, d1.ras.lasting), (1, d1.rf Reg.KLN_SPARE_STAT 2 0), (1, d1.rf Reg.KLN_SPARE_STAT 15 8),
        (1, d1.rf Reg.WHL_SPARE_STAT 4 0), (1, d1.lowSpares.1), (1, d1.lowSpares.2)])) ∧
    (Handles 0x0702 d d1 c → d1.bufferOk (c.arg 0 8) 4096 = true → d1.trackUsed = [] →
      Settles .rasLog d (d1.reply c stOk 0 0 [(4, 0)])) ∧
    (∀ (bs : List Nat) (p : Bool × Die), Handles 0x0702 d d1 c → d1.bufferOk (c.arg 0 8) 4096 = true →
      d1.trackUsed.flatMap d1.logEntry = bs → bs ≠ [] → d1.writeBytes Who.die (c.arg 0 8) bs.length (ofBytes bs) = p →
      p.1 = true → Settles .rasLog d (p.2.reply c stOk 0 0 [(4, d1.trackUsed.length)])) ∧
    (∀ (kiln : List (List (BitVec 12))) (wheel : List (List (BitVec 5))), d.runningCmd 0x0703 = none → Handles 0x0703 d d1 c →
      Settles (.rasSelftest kiln wheel) d
        ((d1.setCmd c .running [d1.refclk]).tryTest { c with stage := .running, aux := [d1.refclk] } kiln wheel)) ∧
    (∀ (kiln : List (List (BitVec 12))) (wheel : List (List (BitVec 5))) (k w : Bool), d.runningCmd 0x0703 = some c →
      d.procDown 0 = false → d.asleep = false → (c.arg 0 1).testBit 0 = k → (c.arg 0 1).testBit 1 = w →
      (k = true → d.kilnIdle = true) → (w = true → d.wheelIdle = true) →
      Settles (.rasSelftest kiln wheel) d
        (((d.workOf mgmtSlot).selfTest (if k then some kiln else none) (if w then some wheel else none)).reply c stOk 0 0
          [(4, (if k then failing (kiln.map fun r => r.map (·.toNat)) else 0) +
            (if w then failing (wheel.map fun r => r.map (·.toNat)) else 0))]))

/-- Models are loaded, unloaded, queried and scrubbed; shards are verified, scrubbed and repaired; the messages between
Supervisors act (R298 to R310). A load that names other dies asks them for a slot first; one of this die alone makes its checks
and begins (R299, R308). -/
def Obligations.ModelsComplete : Prop :=
  (∀ (d d1 t : Die) (c : Cmd) (hits : Hits) (s : Nat) (m : Model), (d.struck hits).ownPlan = none →
    Handles 0x0420 (d.struck hits) d1 c → (c.arg 18 1).testBit d1.dieId = true →
    ((diesOf (c.arg 18 1)).all fun k => d1.members.testBit k || k == d1.dieId) = true → d1.freeModel = some s →
    m = { Model.empty with
      base := c.arg 8 8 / 65536, refs := 1, home := c.arg 16 1, key := c.arg 17 1, dies := c.arg 18 1,
      keep := c.arg 19 1 % 2 == 1, src := c.arg 0 8, source := d1.dieId, left := diesOf (c.arg 18 1) } →
    ((d1.setPlan s (some ⟨s, m, false, d1.otherDies (c.arg 18 1), none⟩)).setCmd c .running [s]).tellAll
      (d1.otherDies (c.arg 18 1)) (.probe (BitVec.ofNat 32 m.base)) = t → AtHand t →
    t.spend.planGoOn = t.spend → Does (.modelLoad hits) d t.spend) ∧
  (∀ (d d1 t d2 r d4 : Die) (c c2 : Cmd) (hits : Hits) (s : Nat) (m : Model) (f : Manifest), (d.struck hits).ownPlan = none →
    Handles 0x0420 (d.struck hits) d1 c → c.arg 18 1 = 2 ^ d1.dieId → (c.arg 18 1).testBit d1.dieId = true →
    ((diesOf (c.arg 18 1)).all fun k => d1.members.testBit k || k == d1.dieId) = true → d1.freeModel = some s →
    d1.otherDies (c.arg 18 1) = [] →
    m = { Model.empty with
      base := c.arg 8 8 / 65536, refs := 1, home := c.arg 16 1, key := c.arg 17 1, dies := c.arg 18 1,
      keep := c.arg 19 1 % 2 == 1, src := c.arg 0 8, source := d1.dieId, left := diesOf (c.arg 18 1) } →
    (d1.setPlan s (some ⟨s, m, false, [], none⟩)).setCmd c .running [s] = t → AtHand t → t.spend = d2 →
    d2.procDown 0 = false → d2.asleep = false → d2.ownPlan = some ⟨s, m, false, [], none⟩ → d2.planCmd s = some c2 →
    modelCode m.key = true → (d2.workOf (modelSlot s)).readManifest m.src = (.inr f, r) → f.authentic = true →
    r.loaded f.digest m.key = none → r.otherDies m.dies = [] →
    AtHand (r.setPlan s (some ⟨s, m.withManifest f, true, [], none⟩)) →
    (r.setPlan s (some ⟨s, m.withManifest f, true, [], none⟩)).spend = d4 → d4.procDown 0 = false → d4.asleep = false →
    d4.ownPlan = some ⟨s, m.withManifest f, true, [], none⟩ → d4.planCmd s = some c2 → c2.arg 8 8 % 65536 = 0 →
    c2.arg 8 8 < 2 ^ 48 → d4.placeRefused f.digest f.isSealed m.home m.key m.base f.pages = none → d4.otherDies m.dies = [] →
    Does (.modelLoad hits) d ((d4.setPlan s none).beginLoad s (m.withManifest f))) ∧
  (∀ (d d0 d2 : Die) (slot : BitVec 5) (hits : Hits) (m : Model) (sh : Shard) (b : ShardBytes)
      (p : Option ShardBytes × Die) (w : Bool × Die), (d.struck hits).workOf (modelSlot slot.toNat) = d0 →
    d0.model slot.toNat = m → m.shards[m.next]? = some sh → m.state = mdlLoading → d0.procDown 0 = false → d0.asleep = false →
    (m.isSealed = true → (d0.keySlot m.digest m.key).isNone = false) → d0.fetchShard m m.next sh = p → p.1 = some b →
    shardGood sh b = true → p.2.writeShard m ((m.frames.drop sh.page).take sh.pages) b.plain = w → w.1 = true →
    (w.2.passShard m sh b.wire).setModel slot.toNat { m with
      next := m.next + 1, resent := false,
      sent := if w.2.nextDies m = [] then m.sent else m.sent ++ [(m.next, b.wire)],
      inbox := m.inbox.filter fun x => x.1 != m.next } = d2 →
    Settles (.shardVerify slot hits) d (if m.next + 1 = m.shards.length then d2.dieVerified slot.toNat else d2)) ∧
  (∀ (d d1 : Die) (c : Cmd) (m : Model), Handles 0x0421 d d1 c → c.arg 0 1 < 32 → d1.model (c.arg 0 1) = m →
    m.state ≠ mdlEmpty → m.state ≠ mdlUnloading → d1.otherDies (c.arg 1 1) = [] → (c.arg 1 1).testBit d1.dieId = true →
    m.state ≠ mdlLoading → m.refs ≤ 1 →
    Settles .modelUnload d ((d1.setModel (c.arg 0 1) { m with refs := 0, state := mdlUnloading, pass := none }).setCmd c .running
      [c.arg 0 1])) ∧
  (∀ (d d1 : Die) (c : Cmd), Handles 0x0422 d d1 c → c.arg 0 1 < 32 →
    Settles .modelQuery d (d1.reply c stOk 0 0
      [(1, (d1.model (c.arg 0 1)).state), (2, (d1.model (c.arg 0 1)).refs),
        (1, min 255 (d1.model (c.arg 0 1)).damaged.length)])) ∧
  (∀ (d d1 : Die) (c : Cmd), Handles 0x0423 d d1 c → c.arg 0 2 ≤ 10080 → 16 ≤ c.arg 2 2 → c.arg 2 2 ≤ 2048 →
    Settles .modelScrub d (Die.reply { d1 with scrubEvery := c.arg 0 2, scrubRate := c.arg 2 2 } c stOk 0 0 [])) ∧
  (∀ (d d0 : Die) (slot : BitVec 5) (m : Model) (sh : Shard) (p q : UnitRd × Die), d.model slot.toNat = m → m.state = mdlReady →
    d.procDown 0 = false → d.asleep = false → m.pass = none → d.passDue m = true → m.shards[0]? = some sh →
    (d.setModel slot.toNat { m with pass := some 0, since := m.since + d.scrubEvery * 60000 * 38400 }).workOf
      (modelSlot slot.toNat) = d0 →
    (d0.model slot.toNat).shardSpan sh = m.shardSpan sh → (d0.model slot.toNat).shards[0]? = some sh →
    d0.readSpan false (m.shardSpan sh) = p → spanGood sh p.1 = true → p.2.readSpan true (m.shardSpan sh) = q →
    spanGood sh q.1 = true →
    Settles (.modelScrubPass slot) d (q.2.passNext slot.toNat 0)) ∧
  (∀ (d d0 : Die) (slot : BitVec 5) (hits : Hits) (m : Model) (i : Nat) (is : List Nat) (sh : Shard) (b : ShardBytes)
      (p : Option ShardBytes × Die) (q : List Nat × Die) (w : Bool × Die),
    ((d.struck hits).startRepair slot.toNat).workOf (modelSlot slot.toNat) = d0 → d0.model slot.toNat = m →
    m.damaged = i :: is → m.shards[i]? = some sh → m.state = mdlRepairing → d0.procDown 0 = false → d0.asleep = false →
    ((m.shardSpan sh).any fun p => pteMoving (d0.pte p)) = false →
    (m.isSealed = true → (d0.keySlot m.digest m.key).isNone = false) → d0.fetchShard m i sh = p → p.1 = some b →
    shardGood sh b = true → p.2.model slot.toNat = m → sh.pages ≤ (p.2.freeFrames m.home).length →
    (m.home = 5 → p.2.flashLocked = false) →
    p.2.claimFrames m.home sh.pages = q → q.2.writeShard m q.1 b.plain = w → w.1 = true →
    Settles (.modelRepair slot hits) d
      ((((m.shardSpan sh).zip q.1).foldl (fun acc x => acc.switchRepaired x.1 x.2) w.2).repairEnd slot.toNat i true)) ∧
  (∀ (d d1 : Die) (h : Hdr) (base : BitVec 32) (s : Nat), (d.heard h).procDown 0 = false → (d.heard h).asleep = false →
    Delivers h 0xE 0 [2, base.toNat] [] (d.heard h) d1 → (d1.modelAt base.toNat fun m => m.state == mdlLoading) = some s →
    Does (.eslisMgmt h (.verified base)) d
      ((d1.setModel s { d1.model s with left := (d1.model s).left.filter (· != h.src.toNat) }).allVerified s)) ∧
  (∀ (d d1 : Die) (h : Hdr) (o : LoadOffer) (s : Nat) (m : Model), (d.heard h).procDown 0 = false → (d.heard h).asleep = false →
    Delivers h 0xE 0 (mgmtBody (.load o)) [] (d.heard h) d1 → d1.judgeOffer o h.src.toNat = .inr (s, m) →
    Does (.eslisMgmt h (.load o)) d
      (((d1.takeSpan m).2.setPlan s (some ⟨s, (d1.takeSpan m).1, true, [], none⟩)).tell h.src.toNat (.verdict o.base 0#8 0#8))) ∧
  (∀ (d d1 : Die) (h : Hdr) (base : BitVec 32) (s : Nat), (d.heard h).procDown 0 = false → (d.heard h).asleep = false →
    Delivers h 0xE 0 [7, base.toNat] [] (d.heard h) d1 →
    (d1.modelAt base.toNat fun m =>
      m.state == mdlLoading && m.next == m.shards.length && m.source == h.src.toNat) = some s →
    Does (.modelInServiceMsg h base) d (d1.setModel s { d1.model s with due := true }))

/-! ### Results the rules state -/

/-- NB4 and NB3 codes decode to the S8 values of Table 2.3 under their sign bit, so that NB4 has 15 distinct values and NB3
has 7; the Kiln's weights and the Wheel's weights and inputs are decoded so (R31). -/
def Obligations.NbDecode : Prop :=
  (∀ c, c < 16 → ∃ s8, s8 < 256 ∧ decodeNum Fmt.NB4 c = decodeNum Fmt.S8 s8 ∧
    toSigned 8 s8 = (if 8 ≤ c then -1 else 1) * (([0, 11, 22, 35, 50, 68, 90, 127] : List Int).getD (c % 8) 0)) ∧
  (∀ c, c < 8 → ∃ s8, s8 < 256 ∧ decodeNum Fmt.NB3 c = decodeNum Fmt.S8 s8 ∧
    toSigned 8 s8 = (if 4 ≤ c then -1 else 1) * (([0, 32, 71, 127] : List Int).getD (c % 4) 0)) ∧
  decodeNum Fmt.NB4 8 = decodeNum Fmt.S8 0 ∧ decodeNum Fmt.NB3 4 = decodeNum Fmt.S8 0 ∧
  ((List.range 16).map (decodeNum Fmt.NB4)).eraseDups.length = 15 ∧
  ((List.range 8).map (decodeNum Fmt.NB3)).eraseDups.length = 7 ∧
  (∀ lanes data k j : Nat,
    weightOf Fmt.NB4 lanes data k j = decodeNum Fmt.NB4 (elemAt Fmt.NB4 data (lanes * k + j) % 16) ∧
    weightOf Fmt.NB3 lanes data k j = decodeNum Fmt.NB3 (elemAt Fmt.NB3 data (lanes * k + j) % 8))

/-- An access of another width or alignment reads 0 and writes nothing but the record of its refusal; an 8-byte access acts
as two 4-byte accesses, the lower address first, at any word offset; the refusal sets its flag, keeps its address and is
counted; a tick that had fallen goes on with the access (R484, R490; the last is the model's choice, log entry 50). -/
def Obligations.AccessWidths : Prop :=
  (∀ (d : Die) (bar2 : Bool) (off : BitVec 26) (size : BitVec 4) (data : BitVec 64),
    ((size ≠ 4#4 ∧ size ≠ 8#4) ∨ off.toNat % 4 ≠ 0) →
    Does (.registerWrite bar2 off size data) d (d.refuse bar2 true off.toNat Bit.GLB_ERR_WIDTH).lateTick ∧
    Does (.counterReadClear bar2 off size) d { d.refuse bar2 false off.toNat Bit.GLB_ERR_WIDTH with bus := 0#64 }) ∧
  (∀ (d d1 d2 : Die) (bar2 : Bool) (off : BitVec 26) (data : BitVec 64), off.toNat % 4 = 0 →
    d.writeOne bar2 off.toNat (data.setWidth 32) = d1 →
    d1.writeOne bar2 (off.toNat + 4) ((data >>> 32).setWidth 32) = d2 →
    Does (.registerWrite bar2 off 8#4 data) d d2.lateTick) ∧
  (∀ (d d1 d2 : Die) (bar2 : Bool) (off : BitVec 26) (lo hi : Word), off.toNat % 4 = 0 →
    d.readOne bar2 off.toNat = (lo, d1) → d1.readOne bar2 (off.toNat + 4) = (hi, d2) →
    Does (.counterReadClear bar2 off 8#4) d { d2 with bus := hi ++ lo }) ∧
  (∀ (d : Die) (bar2 write : Bool) (off bit : Nat), bit < 32 → off < 2 ^ 26 →
    ((d.refuse bar2 write off bit).reg Reg.GLB_ERR).b bit = true ∧
    ((d.refuse bar2 write off bit).reg Reg.GLB_ERR_ADDR).f 25 0 = off ∧
    ((d.refuse bar2 write off bit).reg Reg.GLB_ERR_ADDR).b 31 = write ∧
    ((d.refuse bar2 write off bit).reg Reg.GLB_ERR_ADDR).b 30 = bar2 ∧
    (d.refuse bar2 write off bit).reg Reg.GLB_ERR_COUNT = satAdd32 (d.reg Reg.GLB_ERR_COUNT) 1 ∧
    ∀ a, a ≠ Reg.GLB_ERR → a ≠ Reg.GLB_ERR_ADDR → a ≠ Reg.GLB_ERR_COUNT → (d.refuse bar2 write off bit).reg a = d.reg a)

/-- A word no table names reads 0 and ignores writes, and its access sets GLB_ERR.UNMAPPED and is recorded in GLB_ERR_ADDR;
so do the offsets of BAR0 above 0x011F_FFFF, the unnamed words of each doorbell page and the word of a bank 88. A sleeping
die answers so for the blocks that stay awake; a tick that had fallen goes on with the access (R485; the last is the model's
choice, log entry 50). -/
def Obligations.UnnamedWords : Prop :=
  (∀ (d : Die) (bar2 : Bool) (off : BitVec 26) (v : BitVec 64), off.toNat % 4 = 0 → wordAddr bar2 off.toNat = none →
    (d.asleep = true → awakeBlock (if bar2 then 0x4000000 + off.toNat else off.toNat) = true) →
    Does (.registerWrite bar2 off 4#4 v) d (d.refuse bar2 true off.toNat Bit.GLB_ERR_UNMAPPED).lateTick ∧
    Does (.counterReadClear bar2 off 4#4) d { d.refuse bar2 false off.toNat Bit.GLB_ERR_UNMAPPED with bus := 0#64 } ∧
    ((d.refuse bar2 true off.toNat Bit.GLB_ERR_UNMAPPED).reg Reg.GLB_ERR).b 0 = true ∧
    (d.refuse bar2 true off.toNat Bit.GLB_ERR_UNMAPPED).reg Reg.GLB_ERR_ADDR =
      BitVec.ofNat 32 (2 ^ 31 + (if bar2 then 2 ^ 30 else 0) + off.toNat) ∧
    (d.refuse bar2 false off.toNat Bit.GLB_ERR_UNMAPPED).reg Reg.GLB_ERR_ADDR =
      BitVec.ofNat 32 ((if bar2 then 2 ^ 30 else 0) + off.toNat)) ∧
  (∀ off : Nat, 0x011FFFFF < off → wordAddr false off = none) ∧
  wordAddr false (Reg.SHF_BANK_CFG 87) = some (Reg.SHF_BANK_CFG 87) ∧
  wordAddr false (Reg.SHF_BANK_CFG 88) = none ∧
  (∀ t o : Nat, t < 64 → o < 65536 → o % 4 = 0 →
    (wordAddr true (65536 * t + o) = none ↔ 0x1C ≤ o ∨ o = 0xC))

/-- The tenant field of a bank: which codes it takes, whom it lets read and whom it lets write; a write to SHF_BANK_CFG with
an illegal code is ignored (R55). -/
def Obligations.BankTenants : Prop :=
  (∀ n : Nat, tenantLegal n = true ↔ n ≤ 63 ∨ n = 0x40 ∨ n = 0x7F) ∧
  (∀ n : Nat, 0x41 ≤ n → n ≤ 0x7E → tenantLegal n = false) ∧
  (∀ (d : Die) (bank : BitVec 7) (w : Word), bank.toNat < 88 → d.asleep = false → tenantLegal (w.f 14 8) = false →
    Does (.shfBankCfgWrite bank w) d (d.err Reg.SHF_ERR Bit.SHF_ERR_CONFIG)) ∧
  (∀ (field code : Nat) (write : Bool), tenantAllows field code write = true ↔
    code = 0x40 ∨ field = code ∨ (field = 0x7F ∧ write = false)) ∧
  (∀ (d : Die) (w : Who) (page : Nat) (write : Bool),
    (d.shelfPage w page write = some (stPermission, Bit.SHF_ERR_TENANT) ↔
      pteFrame (d.pte page) / 8 < 88 ∧ ¬ (w.tenant = 0x40 ∨ d.bankTenant (pteFrame (d.pte page) / 8) = w.tenant ∨
        (d.bankTenant (pteFrame (d.pte page) / 8) = 0x7F ∧ write = false))) ∧
    (d.shelfPage w page write = some (stIllegal, Bit.SHF_ERR_RANGE) ↔ 88 ≤ pteFrame (d.pte page) / 8))

/-- An event counter belongs to the tenant in whose record's range it lies; one in no range belongs to the management
context alone; a descriptor that waits on or signals a counter of another is not let in: PERMISSION (R221, R172, R191). -/
def Obligations.EventOwners : Prop :=
  (∀ (d : Die) (t c : Nat), d.evtInRange t c = true ↔
    ((d.reg (Reg.QUE_TEN_EVT_BASE t)).f 15 0 ≤ c ∧
      c < (d.reg (Reg.QUE_TEN_EVT_BASE t)).f 15 0 + (d.reg (Reg.QUE_TEN_EVT_COUNT t)).f 16 0)) ∧
  (∀ (d : Die) (c : Nat), d.evtPermitted 0x40 c = true) ∧
  (∀ (d : Die) (c : Nat), (∀ t, t < 64 → d.evtInRange t c = false) → ∀ t, t < 64 → d.evtPermitted t c = false) ∧
  (∀ (d : Die) (t c : Nat) (x : DescBits), t < 64 → d.evtInRange t c = false →
    (c ∈ (waitsOf x).map Prod.fst ∨ c ∈ (signalsOf x).map Prod.fst) →
    (unitOf (opcodeOf x)).isSome = true → (needsExt (opcodeOf x) = true → isExt x = true) →
    nwait x ≤ 4 → (opcodeOf x = 0 → nwait x = 0) → nsig x ≤ 2 →
    d.dispatchCause t x = 4 ∧ dispatchStatus 4 = stPermission)

/-- A source event less than 10 µs (384 reference cycles) after the previous tick opens no firing: a host write, a tick
message and a frame start only count in SCH_TICK_MERGED; a tick that had fallen goes on with the host's write (R203; the last
is the model's choice, log entry 50). -/
def Obligations.TicksMerge : Prop :=
  (∀ (d : Die) (value : Word) (sense : Sense), sense.counts.length = 8 → d.asleep = false → value.b 0 = true →
    d.tickSource = 2 → d.ticksRun = true → d.refclk < d.sched.lastTick + 384 →
    Does (.hostTickWrite value sense) d (d.count Reg.SCH_TICK_MERGED 1).lateTick) ∧
  (∀ (d : Die) (n : Nat) (sense : Sense), d.tickSource = 3 → d.ticksRun = true → d.refclk < d.sched.lastTick + 384 →
    d.fabricTick n sense = d.count Reg.SCH_TICK_MERGED 1) ∧
  (∀ (d : Die) (c : Nat), d.tickSource = 1 → d.rf Reg.SCH_TICK_CFG 3 2 = c → d.refclk < d.sched.lastTick + 384 →
    d.camTickSource c = d.count Reg.SCH_TICK_MERGED 1) ∧
  (∀ d : Die, (d.count Reg.SCH_TICK_MERGED 1).firing = d.firing ∧
    (d.count Reg.SCH_TICK_MERGED 1).reg Reg.SCH_TICK_MERGED = satAdd32 (d.reg Reg.SCH_TICK_MERGED) 1)

/-- An addition to an event counter adds its amount; one that would pass 0xFFFF_FFFF leaves the counter there, sets its POISON
bit and SCH_EVT_ERR.SATURATED; every other counter keeps its value and its POISON bit (R174). -/
def Obligations.EventAdditions : Prop :=
  (∀ (d : Die) (w : Word) (t : Die), d.asleep = false → w.f 31 16 ≠ 0 → d.addEvt (w.f 15 0) (w.f 31 16) = t →
    Does (.schEventInc w) d t) ∧
  (∀ (d : Die) (w : Word), d.asleep = false → w.f 31 16 = 0 → Does (.schEventInc w) d d) ∧
  (∀ (d t : Die) (c n : Nat), c < 65536 → d.addEvt c n = t →
    t.evt c = min (d.evt c + n) 0xFFFFFFFF ∧
    t.evtPoison c = (d.evtPoison c || decide (0xFFFFFFFF < d.evt c + n)) ∧
    (0xFFFFFFFF < d.evt c + n → (t.reg Reg.SCH_EVT_ERR).b Bit.SCH_EVT_ERR_SATURATED = true) ∧
    (d.evt c + n ≤ 0xFFFFFFFF → t.reg Reg.SCH_EVT_ERR = d.reg Reg.SCH_EVT_ERR) ∧
    ∀ k, k < 65536 → k ≠ c → t.evt k = d.evt k ∧ t.evtPoison k = d.evtPoison k)

/-- A read of the _LO word of a latching pair keeps the high half as it stood then, however far the counter runs on, and an
8-byte read of the pair gives one 64-bit value. A write to the _LO word of a base changes no register until the next write
to its _HI word, which takes both halves; without a held half the _LO value in force stays (R487). -/
def Obligations.RegisterPairs : Prop :=
  (∀ (p : LatchPair) (lo : Nat) (count : Die → Nat),
    ((p, lo) = (.refclk, Reg.GLB_REFCLK_LO) ∧ count = fun d => d.refclk) ∨
      ((p, lo) = (.firing, Reg.SCH_FIRING_LO) ∧ count = fun d => d.firing) ∨
      ((p, lo) = (.ftime, Reg.LNK_FTIME_LO) ∧ count = fun d => d.ftime) →
    (∀ d : Die, d.asleep = false → (d.readOne false lo).1 = BitVec.ofNat 32 (count d)) ∧
    (∀ d d1 : Die, d.asleep = false → d1.asleep = false → d1.latch = (d.readOne false lo).2.latch →
      (d1.readOne false (lo + 4)).1 = BitVec.ofNat 32 (count d / 2 ^ 32)) ∧
    (∀ d : Die, d.asleep = false → d.latch = [] → (d.readOne false (lo + 4)).1 = 0#32) ∧
    (∀ d : Die, d.asleep = false → Does (.latchedPairRead p true) d
      { (d.readOne false lo).2 with bus := BitVec.ofNat 64 (count d) })) ∧
  (∀ (lo : Nat) (d d1 d2 : Die) (v w : Word) (rl rh : RegRow),
    lo ∈ [Reg.IFE_ISP_BASE_LO, Reg.FWP_CMD_BASE_LO, Reg.FWP_RPL_BASE_LO, Reg.FWP_RECOVERY_LO, Reg.TIR_PT_BASE_LO,
      Reg.TIR_AREA_LO] →
    d.asleep = false → (lo = Reg.TIR_PT_BASE_LO ∨ lo = Reg.TIR_AREA_LO → d.tierOn = false) → regRow lo = some rl → regRow (lo + 4) = some rh →
    d.writeOne false lo v = d1 → d1.writeOne false (lo + 4) w = d2 →
    (∀ a, d1.reg a = d.reg a) ∧ d2.reg lo = v &&& rl.rw ∧ d2.reg (lo + 4) = writtenWord rh (d.reg (lo + 4)) w ∧
    (∀ a, a ≠ lo → a ≠ lo + 4 → d2.reg a = d.reg a) ∧
    Does (.registerWrite false (BitVec.ofNat 26 lo) 8#4 (w ++ v)) d d2.lateTick ∧
    (SMap.get d.reg d.heldLo lo = d.reg lo → (d.writeOne false (lo + 4) w).reg lo = d.reg lo))

/-- A line of LOCAL written under a key reads back as written under that key and fails check 5 under every other; every
other line stays as it was (R314, R315, R316, R319). -/
def Obligations.LinesReadBack : Prop :=
  ∀ (d d1 : Die) (key tenant : BitVec 7) (line : BitVec 30) (v : Line) (queue : BitVec 20), line.toNat < d.localLines →
    d.lineHeld line.toNat = false → d.keyGen key.toNat ≠ 0 →
    SMap.get (fun _ => 0) d.dmc.openRows (bankKey line.toNat) = rowOf line.toNat + 1 →
    d.setLine line.toNat ⟨v, key.toNat, d.keyGen key.toNat, d.lineEpoch line.toNat, 0, false⟩ = d1 →
    Does (.dramLineWrite key line v false tenant queue false) d d1 ∧
    Does (.dramLineRead key line tenant queue false false ⟨0#576, false, false⟩) d1 (d1.emit (.line (some v) false)) ∧
    (∀ other : BitVec 7, other ≠ key → d.keyGen other.toNat ≠ 0 →
      Does (.dramLineRead other line tenant queue false false ⟨0#576, false, false⟩) d1
        ((((d1.dmcAddr line.toNat).count Reg.DMC_MAC_FAIL 1).err Reg.DMC_ERR Bit.DMC_ERR_MAC).emit (.line none false))) ∧
    (∀ n, n ≠ line.toNat → d1.lineCell n = d.lineCell n)

/-- These commands store nothing: every row of the Shelves, every line of LOCAL, every NAND unit and every accumulator row
reads after them as it read before. So does a retraining that no access waits for, and a frame's statistics that become ready
with nothing of the frames left to write. -/
def Obligations.StorageKept : Prop :=
  ∀ (c : Instr) (s t : State),
    (leavesStorage c = true ∨ (∃ warm ok, c = .dramRetrain warm ok ∧ s.die.dmc.waiting = []) ∨
      (∃ ctx, c = .statsReady ctx ∧ s.die.camGoOn = s.die)) → exec c s = .next t →
    (∀ row, SMap.get (fun _ => (0#4096 : Row)) t.die.shelf.rows row = SMap.get (fun _ => (0#4096 : Row)) s.die.shelf.rows row) ∧
    (∀ n, SMap.get s.die.lineDefault t.die.dmc.lines n = s.die.lineCell n) ∧
    (∀ u, SMap.get (fun _ => FlashUnit.zero) t.die.nand.units u = SMap.get (fun _ => FlashUnit.zero) s.die.nand.units u) ∧
    (∀ row, SMap.get (fun _ => AccRow.powerUp) t.die.kiln.acc row = SMap.get (fun _ => AccRow.powerUp) s.die.kiln.acc row)
end

