-- ==== Sys2Proof/Laws/Steps.lean ====
section
/-! SUPPORT. What the frames every meaning stands in do: a command to the die, an operation that reads memory, a descriptor's
start, a management command and a message. Each lemma says it once, so that no proof unfolds the frame. -/

namespace Sys2Proof.Machine

/-! ### A command to the die -/

theorem onDie_live {f : Die → Die} {s : State} (h : s.live = true) : onDie f s = .next { s with die := f s.die } := by
  simp [onDie, h]

theorem onDie_dead {f : Die → Die} {s : State} (h : s.live = false) : onDie f s = .next s := by
  simp [onDie, h]

theorem onDie_next (f : Die → Die) (s : State) : ∃ d, onDie f s = .next { s with die := d } := by
  unfold onDie
  split
  · exact ⟨_, rfl⟩
  · exact ⟨s.die, rfl⟩

theorem onDieIf_true (f : Die → Die) (s : State) : onDieIf true f s = onDie f s := rfl

theorem onDieIf_false (f : Die → Die) (s : State) : onDieIf false f s = .fault .illFormed := rfl

theorem does_onDie {c : Instr} {f : Die → Die} {d t : Die} (hx : ∀ s, exec c s = onDie f s) (hf : f d = t) : Does c d t := by
  intro s hl hd
  subst hd hf
  rw [hx, onDie_live hl]

theorem does_onDieIf {c : Instr} {ok : Bool} {f : Die → Die} {d t : Die} (hx : ∀ s, exec c s = onDieIf ok f s)
    (hok : ok = true) (hf : f d = t) : Does c d t := by
  subst hok
  exact does_onDie hx hf

/-! ### An operation that reads memory -/

/-- With every line it reads at hand, an evaluated operation has its effect. -/
theorem evaluate_at_hand {slot : Nat} {wait : Die → Die → Die} {f : Die → Die} {d : Die} (h : AtHand (f (d.workOf slot))) :
    d.evaluate slot wait f = (f (d.workOf slot)).spend := if_pos h

/-- Without one of them, it only asks for what it lacks. -/
theorem evaluate_waits {slot : Nat} {wait : Die → Die → Die} {f : Die → Die} {d : Die} (h : ¬ AtHand (f (d.workOf slot))) :
    d.evaluate slot wait f = wait (f (d.workOf slot)) (d.await slot (f (d.workOf slot))) := if_neg h

theorem attempt_of_eq {slot : Nat} {f : Die → Die} {d t : Die} (hf : f (d.workOf slot) = t) (h : AtHand t) :
    d.attempt slot f = t.spend := by
  subst hf
  exact evaluate_at_hand h

theorem settles_attempt {c : Instr} {g f : Die → Die} {slot : Nat} {d t : Die} (hx : ∀ s, exec c s = onDie g s)
    (hg : g d = d.attempt slot f) (hf : f (d.workOf slot) = t) : Settles c d t :=
  fun h => does_onDie hx (hg.trans (attempt_of_eq hf h))

/-! ### A descriptor's start -/

/-- A startable descriptor goes through its start, and the unit does its part when the start checks leave one. -/
theorem runOpBy_startable {op slot : Nat} {may : Entry → Die → Bool} {d : Die} {e : Entry} (run : Run)
    (verdict : Entry → Die → Nat) (body : Entry → Die → Die) (h : Startable op slot may d e) :
    d.runOpBy op slot run may verdict body =
      if (d.startOp op run verdict e).1 = true then (d.startOp op run verdict e).2.runBody op e body
      else (d.startOp op run verdict e).2 := by
  obtain ⟨h1, h2, h3, h4, h5, h6, -⟩ := h
  obtain ⟨e0, h0, he⟩ := Option.map_eq_some_iff.mp h1
  unfold Die.runOpBy
  rw [h0]
  simp only [he, h2, h3, h5, h6, ne_eq, not_true_eq_false, Bool.true_eq_false, or_self, if_false, if_neg h4, Bool.and_self, if_true]

/-- The start of a descriptor with legal parameters, every check passed, leaves its unit's part. -/
theorem startOp_lawful {op slot : Nat} {may : Entry → Die → Bool} {d : Die} {e : Entry} {run : Run}
    {verdict : Entry → Die → Nat} (h : Startable op slot may d e) (hv : verdict e (d.launched e run) = stOk)
    (hc : (d.startVerdict e run).1 = none) :
    d.startOp op run verdict e = (true, (d.startVerdict e run).2.taintEntry e) := by
  obtain ⟨-, h2, -, -, -, -, h7⟩ := h
  subst h2
  unfold Die.launched at hv
  unfold Die.startOp
  rw [h7, if_neg Bool.false_ne_true]
  dsimp only
  rw [if_neg (not_not.mpr hv)]
  have step : ∀ c : Option Nat × Die, c.1 = none →
      (match c with
        | (some st, d2) => (false, d2.reject e.slot st)
        | (none, d2) => (true, d2.taintEntry e)) = (true, c.2.taintEntry e) := by
    rintro ⟨_, _⟩ rfl
    rfl
  exact step _ hc

theorem runOpBy_starts {op slot : Nat} {run : Run} {may : Entry → Die → Bool} {d : Die} {e : Entry}
    {verdict : Entry → Die → Nat} (body : Entry → Die → Die) (h : Startable op slot may d e)
    (hv : verdict e (d.launched e run) = stOk) (hc : (d.startVerdict e run).1 = none)
    (hh : AtHand (body e (d.checked e run))) :
    d.runOpBy op slot run may verdict body = (body e (d.checked e run)).spend := by
  rw [runOpBy_startable run verdict body h, startOp_lawful h hv hc]
  exact evaluate_at_hand hh

theorem runOp_starts {op slot : Nat} {run : Run} {may legal : Entry → Die → Bool} {d : Die} {e : Entry}
    (body : Entry → Die → Die) (h : Starts op slot run may legal d e) (hh : AtHand (body e (d.checked e run))) :
    d.runOp op slot run may legal body = (body e (d.checked e run)).spend :=
  runOpBy_starts body h.1 (if_pos h.2.1) h.2.2 hh

theorem settles_runOp {c : Instr} {op slot : Nat} {run : Run} {may legal : Entry → Die → Bool} {d : Die} {e : Entry}
    {body : Entry → Die → Die} (h : Starts op slot run may legal d e)
    (hx : ∀ s, exec c s = onDie (fun x => x.runOp op slot run may legal body) s) :
    Settles c d (body e (d.checked e run)) :=
  fun hh => does_onDie hx (runOp_starts body h hh)

/-! ### A management command -/

theorem mgmt_handles {op : Nat} {d d1 t : Die} {c : Cmd} {f : Cmd → Die → Die} (h : Handles op d d1 c) (hf : f c d1 = t)
    (hh : AtHand t) : d.mgmt op f = t.spend := by
  obtain ⟨h1, h2, h3, h4, h5, h6, h7⟩ := h
  unfold Die.mgmt
  refine attempt_of_eq ?_ hh
  dsimp only
  rw [h1, h2]
  simp only [h3, h4, h5, h6, h7, hf, ne_eq, not_true_eq_false, Bool.false_eq_true, or_self, if_false]

theorem settles_mgmt {i : Instr} {op : Nat} {d d1 t : Die} {c : Cmd} {f : Cmd → Die → Die} (h : Handles op d d1 c)
    (hx : ∀ s, exec i s = onDie (fun x => x.mgmt op f) s) (hf : f c d1 = t) : Settles i d t :=
  fun hh => does_onDie hx (mgmt_handles h hf hh)

/-! ### A message -/

theorem routed_delivers {h : Hdr} {op bytes : Nat} {body payload : List Nat} {d d1 : Die} {own : Die → Die}
    (hd : Delivers h op bytes body payload d d1) : d.routed h op bytes body payload own = own d1 := by
  obtain ⟨h1, h2, h3, h4⟩ := hd
  unfold Die.routed
  simp [h1, h2, h3, h4]

end Sys2Proof.Machine
end

