-- ==== Sys2Proof/Laws/Exec.lean ====
section
/-! SUPPORT. Every command but those of the pins is one operation of the die, taken when the hardware can carry the command:
one lemma for each command, and the lemma that says it of all. No proof over all commands unfolds a meaning. -/

namespace Sys2Proof.Machine

theorem exec_is_bootComplete (found : BootFind) (s : State) :
    exec (.bootComplete found) s = onDieIf (wellFormed (.bootComplete found)) ((fun d => d.bootComplete found)) s := rfl

theorem exec_is_hostImageLoad (len : Word) (hits : Hits) (s : State) :
    exec (.hostImageLoad len hits) s = onDieIf (wellFormed (.hostImageLoad len hits)) ((fun d => d.hostImageLoad len hits)) s := rfl

theorem exec_is_droopDetect (drop : BitVec 8) (steps : BitVec 3) (s : State) :
    exec (.droopDetect drop steps) s = onDieIf (wellFormed (.droopDetect drop steps)) ((fun d => d.droopDetect drop steps)) s := rfl

theorem exec_is_droopRelax (cycles : Word) (s : State) :
    exec (.droopRelax cycles) s = onDieIf (wellFormed (.droopRelax cycles)) ((fun d => d.droopRelax cycles)) s := rfl

theorem exec_is_tick (sense : Sense) (s : State) :
    exec (.tick sense) s = onDieIf (wellFormed (.tick sense)) ((fun d => d.tick sense)) s := rfl

theorem exec_is_tickFallback (sense : Sense) (s : State) :
    exec (.tickFallback sense) s = onDieIf (wellFormed (.tickFallback sense)) ((fun d => d.tickFallback sense)) s := rfl

theorem exec_is_hostTickWrite (value : Word) (sense : Sense) (s : State) :
    exec (.hostTickWrite value sense) s = onDieIf (wellFormed (.hostTickWrite value sense)) ((fun d => d.hostTickWrite value sense)) s := rfl

theorem exec_is_sWaitTimeout (slot : BitVec 12) (s : State) :
    exec (.sWaitTimeout slot) s = onDieIf (wellFormed (.sWaitTimeout slot)) ((fun d => d.sWaitTimeout slot)) s := rfl

theorem exec_is_sTickwaitReady (slot : BitVec 12) (s : State) :
    exec (.sTickwaitReady slot) s = onDieIf (wellFormed (.sTickwaitReady slot)) ((fun d => d.sTickwaitReady slot)) s := rfl

theorem exec_is_servingDeadline (group : BitVec 4) (tenant : BitVec 7) (id : Word) (s : State) :
    exec (.servingDeadline group tenant id) s = onDieIf (wellFormed (.servingDeadline group tenant id)) ((fun d => d.servingDeadline group tenant id)) s := rfl

theorem exec_is_parkExpiry (id : BitVec 16) (s : State) :
    exec (.parkExpiry id) s = onDieIf (wellFormed (.parkExpiry id)) ((fun d => d.parkExpiry id)) s := rfl

theorem exec_is_descriptorAdmit (upset : Option CacheUpset) (s : State) :
    exec (.descriptorAdmit upset) s = onDieIf (wellFormed (.descriptorAdmit upset)) ((fun d => d.descriptorAdmit upset)) s := rfl

theorem exec_is_queueContextFetch (queue : BitVec 20) (upset : Option CacheUpset) (s : State) :
    exec (.queueContextFetch queue upset) s = onDieIf (wellFormed (.queueContextFetch queue upset)) ((fun d => d.queueContextFetch queue upset)) s := rfl

theorem exec_is_descriptorReady (slot : BitVec 12) (s : State) :
    exec (.descriptorReady slot) s = onDieIf (wellFormed (.descriptorReady slot)) ((fun d => d.descriptorReady slot)) s := rfl

theorem exec_is_descriptorComplete (slot : BitVec 12) (s : State) :
    exec (.descriptorComplete slot) s = onDieIf (wellFormed (.descriptorComplete slot)) ((fun d => (d.descriptorComplete slot).settleStop)) s := rfl

theorem exec_is_hostWriteFlushDone (slot : FlushOf) (s : State) :
    exec (.hostWriteFlushDone slot) s = onDieIf (wellFormed (.hostWriteFlushDone slot)) ((fun d => d.hostWriteFlushDone slot)) s := rfl

theorem exec_is_nop (s : State) :
    exec .nop s = onDieIf (wellFormed .nop) (Die.nop) s := rfl

theorem exec_is_kLoadIn (slot : BitVec 12) (run : Run) (s : State) :
    exec (.kLoadIn slot run) s = onDieIf (wellFormed (.kLoadIn slot run)) ((fun d => d.kLoadIn slot run)) s := rfl

theorem exec_is_kCharge (slot : BitVec 12) (run : Run) (s : State) :
    exec (.kCharge slot run) s = onDieIf (wellFormed (.kCharge slot run)) ((fun d => d.kCharge slot run)) s := rfl

theorem exec_is_kilnFirstIssueSwap (s : State) :
    exec .kilnFirstIssueSwap s = onDieIf (wellFormed .kilnFirstIssueSwap) (Die.kilnFirstIssueSwap) s := rfl

theorem exec_is_kilnVectorIssue (feeder : Feeder) (damper : Bool) (residue : Option (BitVec 12)) (s : State) :
    exec (.kilnVectorIssue feeder damper residue) s = onDieIf (wellFormed (.kilnVectorIssue feeder damper residue)) ((fun d => d.kilnVectorIssue feeder damper residue)) s := rfl

theorem exec_is_accUpdateLand (upset : Option AccUpset) (s : State) :
    exec (.accUpdateLand upset) s = onDieIf (wellFormed (.accUpdateLand upset)) ((fun d => d.accUpdateLand upset)) s := rfl

theorem exec_is_kilnDrainRow (s : State) :
    exec .kilnDrainRow s = onDieIf (wellFormed .kilnDrainRow) (Die.kilnDrainRow) s := rfl

theorem exec_is_kilnShadowReleased (s : State) :
    exec .kilnShadowReleased s = onDieIf (wellFormed .kilnShadowReleased) (Die.kilnShadowReleased) s := rfl

theorem exec_is_kilnOwedSwap (s : State) :
    exec .kilnOwedSwap s = onDieIf (wellFormed .kilnOwedSwap) (Die.kilnOwedSwap) s := rfl

theorem exec_is_kilnHoldTimeout (s : State) :
    exec .kilnHoldTimeout s = onDieIf (wellFormed .kilnHoldTimeout) (Die.kilnHoldTimeout) s := rfl

theorem exec_is_kilnClockGate (s : State) :
    exec .kilnClockGate s = onDieIf (wellFormed .kilnClockGate) (Die.kilnClockGate) s := rfl

theorem exec_is_kilnSpareSwap (found : PatternResult) (s : State) :
    exec (.kilnSpareSwap found) s = onDieIf (wellFormed (.kilnSpareSwap found)) ((fun d => d.kilnSpareSwap found)) s := rfl

theorem exec_is_klnOwedRelease (value : Word) (s : State) :
    exec (.klnOwedRelease value) s = onDieIf (wellFormed (.klnOwedRelease value)) ((fun d => d.awake fun d => d.klnOwedRelease value)) s := rfl

theorem exec_is_kilnReset (s : State) :
    exec .kilnReset s = onDieIf (wellFormed .kilnReset) ((fun d => d.awake fun d => d.kilnReset)) s := rfl

theorem exec_is_wGemv (slot : BitVec 12) (run : Run) (faults : List WheelUpset) (s : State) :
    exec (.wGemv slot run faults) s = onDieIf (wellFormed (.wGemv slot run faults)) ((fun d => d.wGemv slot run faults)) s := rfl

theorem exec_is_wAttn (slot : BitVec 12) (run : Run) (faults : List WheelUpset) (s : State) :
    exec (.wAttn slot run faults) s = onDieIf (wellFormed (.wAttn slot run faults)) ((fun d => d.wAttn slot run faults)) s := rfl

theorem exec_is_wKvappend (slot : BitVec 12) (run : Run) (s : State) :
    exec (.wKvappend slot run) s = onDieIf (wellFormed (.wKvappend slot run)) ((fun d => d.wKvappend slot run)) s := rfl

theorem exec_is_wKvevict (slot : BitVec 12) (run : Run) (s : State) :
    exec (.wKvevict slot run) s = onDieIf (wellFormed (.wKvevict slot run)) ((fun d => d.wKvevict slot run)) s := rfl

theorem exec_is_wheelPrefetchStart (s : State) :
    exec .wheelPrefetchStart s = onDieIf (wellFormed .wheelPrefetchStart) (Die.wheelPrefetchStart) s := rfl

theorem exec_is_wheelSpareSwap (s : State) :
    exec .wheelSpareSwap s = onDieIf (wellFormed .wheelSpareSwap) (Die.wheelSpareSwap) s := rfl

theorem exec_is_wheelReset (s : State) :
    exec .wheelReset s = onDieIf (wellFormed .wheelReset) ((fun d => d.awake fun d => d.wheelReset)) s := rfl

theorem exec_is_gElem (slot : BitVec 12) (run : Run) (s : State) :
    exec (.gElem slot run) s = onDieIf (wellFormed (.gElem slot run)) ((fun d => d.gElem slot run)) s := rfl

theorem exec_is_gNorm (slot : BitVec 12) (run : Run) (s : State) :
    exec (.gNorm slot run) s = onDieIf (wellFormed (.gNorm slot run)) ((fun d => d.gNorm slot run)) s := rfl

theorem exec_is_gSoftmax (slot : BitVec 12) (run : Run) (s : State) :
    exec (.gSoftmax slot run) s = onDieIf (wellFormed (.gSoftmax slot run)) ((fun d => d.gSoftmax slot run)) s := rfl

theorem exec_is_gRope (slot : BitVec 12) (run : Run) (s : State) :
    exec (.gRope slot run) s = onDieIf (wellFormed (.gRope slot run)) ((fun d => d.gRope slot run)) s := rfl

theorem exec_is_gRequant (slot : BitVec 12) (run : Run) (s : State) :
    exec (.gRequant slot run) s = onDieIf (wellFormed (.gRequant slot run)) ((fun d => d.gRequant slot run)) s := rfl

theorem exec_is_gTopk (slot : BitVec 12) (run : Run) (s : State) :
    exec (.gTopk slot run) s = onDieIf (wellFormed (.gTopk slot run)) ((fun d => d.gTopk slot run)) s := rfl

theorem exec_is_glazeReset (s : State) :
    exec .glazeReset s = onDieIf (wellFormed .glazeReset) ((fun d => d.awake fun d => d.glazeReset)) s := rfl

theorem exec_is_mCopy (slot : BitVec 12) (run : Run) (s : State) :
    exec (.mCopy slot run) s = onDieIf (wellFormed (.mCopy slot run)) ((fun d => d.mCopy slot run)) s := rfl

theorem exec_is_mGather (slot : BitVec 12) (run : Run) (s : State) :
    exec (.mGather slot run) s = onDieIf (wellFormed (.mGather slot run)) ((fun d => d.mGather slot run)) s := rfl

theorem exec_is_mScatter (slot : BitVec 12) (run : Run) (s : State) :
    exec (.mScatter slot run) s = onDieIf (wellFormed (.mScatter slot run)) ((fun d => d.mScatter slot run)) s := rfl

theorem exec_is_mFill (slot : BitVec 12) (run : Run) (s : State) :
    exec (.mFill slot run) s = onDieIf (wellFormed (.mFill slot run)) ((fun d => d.mFill slot run)) s := rfl

theorem exec_is_dmReset (s : State) :
    exec .dmReset s = onDieIf (wellFormed .dmReset) ((fun d => d.awake fun d => d.dmReset)) s := rfl

theorem exec_is_pCompress (slot : BitVec 12) (run : Run) (s : State) :
    exec (.pCompress slot run) s = onDieIf (wellFormed (.pCompress slot run)) ((fun d => d.pCompress slot run)) s := rfl

theorem exec_is_pExpand (slot : BitVec 12) (run : Run) (s : State) :
    exec (.pExpand slot run) s = onDieIf (wellFormed (.pExpand slot run)) ((fun d => d.pExpand slot run)) s := rfl

theorem exec_is_pugReset (s : State) :
    exec .pugReset s = onDieIf (wellFormed .pugReset) ((fun d => d.awake fun d => d.pugReset)) s := rfl

theorem exec_is_sWait (slot : BitVec 12) (s : State) :
    exec (.sWait slot) s = onDieIf (wellFormed (.sWait slot)) ((fun d => d.sWait slot)) s := rfl

theorem exec_is_sSignalAdd (slot : BitVec 12) (s : State) :
    exec (.sSignalAdd slot) s = onDieIf (wellFormed (.sSignalAdd slot)) ((fun d => d.sSignalAdd slot)) s := rfl

theorem exec_is_sSignalSet (slot : BitVec 12) (s : State) :
    exec (.sSignalSet slot) s = onDieIf (wellFormed (.sSignalSet slot)) ((fun d => d.sSignalSet slot)) s := rfl

theorem exec_is_sSignalClear (slot : BitVec 12) (s : State) :
    exec (.sSignalClear slot) s = onDieIf (wellFormed (.sSignalClear slot)) ((fun d => d.sSignalClear slot)) s := rfl

theorem exec_is_sBarrier (slot : BitVec 12) (s : State) :
    exec (.sBarrier slot) s = onDieIf (wellFormed (.sBarrier slot)) ((fun d => d.sBarrier slot)) s := rfl

theorem exec_is_barrierReleaseInstant (s : State) :
    exec .barrierReleaseInstant s = onDieIf (wellFormed .barrierReleaseInstant) (Die.barrierReleaseInstant) s := rfl

theorem exec_is_sTickwait (slot : BitVec 12) (s : State) :
    exec (.sTickwait slot) s = onDieIf (wellFormed (.sTickwait slot)) ((fun d => d.sTickwait slot)) s := rfl

theorem exec_is_vSample (slot : BitVec 12) (run : Run) (s : State) :
    exec (.vSample slot run) s = onDieIf (wellFormed (.vSample slot run)) ((fun d => d.vSample slot run)) s := rfl

theorem exec_is_vMaskstep (slot : BitVec 12) (run : Run) (s : State) :
    exec (.vMaskstep slot run) s = onDieIf (wellFormed (.vMaskstep slot run)) ((fun d => d.vMaskstep slot run)) s := rfl

theorem exec_is_vEmitStep (slot : BitVec 12) (hits : Hits) (s : State) :
    exec (.vEmitStep slot hits) s = onDieIf (wellFormed (.vEmitStep slot hits)) ((fun d => d.vEmitStep slot hits)) s := rfl

theorem exec_is_vEmitSubmit (slot : BitVec 12) (hits : Hits) (s : State) :
    exec (.vEmitSubmit slot hits) s = onDieIf (wellFormed (.vEmitSubmit slot hits)) ((fun d => d.vEmitSubmit slot hits)) s := rfl

theorem exec_is_vEmitCancel (slot : BitVec 12) (s : State) :
    exec (.vEmitCancel slot) s = onDieIf (wellFormed (.vEmitCancel slot)) ((fun d => d.vEmitCancel slot)) s := rfl

theorem exec_is_tPrefetch (slot : BitVec 12) (hits : Hits) (s : State) :
    exec (.tPrefetch slot hits) s = onDieIf (wellFormed (.tPrefetch slot hits)) ((fun d => d.tPrefetch slot hits)) s := rfl

theorem exec_is_tMigrate (slot : BitVec 12) (hits : Hits) (s : State) :
    exec (.tMigrate slot hits) s = onDieIf (wellFormed (.tMigrate slot hits)) ((fun d => d.tMigrate slot hits)) s := rfl

theorem exec_is_tPark (slot : BitVec 12) (hits : Hits) (s : State) :
    exec (.tPark slot hits) s = onDieIf (wellFormed (.tPark slot hits)) ((fun d => d.tPark slot hits)) s := rfl

theorem exec_is_tRestore (slot : BitVec 12) (hits : Hits) (s : State) :
    exec (.tRestore slot hits) s = onDieIf (wellFormed (.tRestore slot hits)) ((fun d => d.tRestore slot hits)) s := rfl

theorem exec_is_tierReset (s : State) :
    exec .tierReset s = onDieIf (wellFormed .tierReset) ((fun d => d.awake fun d => d.tierReset)) s := rfl

theorem exec_is_cBind (slot : BitVec 12) (s : State) :
    exec (.cBind slot) s = onDieIf (wellFormed (.cBind slot)) ((fun d => d.cBind slot)) s := rfl

theorem exec_is_cStats (slot : BitVec 12) (bufferError : Bool) (s : State) :
    exec (.cStats slot bufferError) s = onDieIf (wellFormed (.cStats slot bufferError)) ((fun d => d.cStats slot bufferError)) s := rfl

theorem exec_is_fSend (slot : BitVec 12) (run : Run) (s : State) :
    exec (.fSend slot run) s = onDieIf (wellFormed (.fSend slot run)) ((fun d => d.fSend slot run)) s := rfl

theorem exec_is_fBcast (slot : BitVec 12) (run : Run) (s : State) :
    exec (.fBcast slot run) s = onDieIf (wellFormed (.fBcast slot run)) ((fun d => d.fBcast slot run)) s := rfl

theorem exec_is_epochAdvance (unit : ResetUnit) (s : State) :
    exec (.epochAdvance unit) s = onDieIf (wellFormed (.epochAdvance unit)) ((fun d => d.unitEpochAdvance unit)) s := rfl

theorem exec_is_shfBankCfgWrite (bank : BitVec 7) (value : Word) (s : State) :
    exec (.shfBankCfgWrite bank value) s = onDieIf (wellFormed (.shfBankCfgWrite bank value)) ((fun d => d.awake fun d => d.shfBankCfgWrite bank value)) s := rfl

theorem exec_is_shfSlotRangeWrite (slot : BitVec 10) (value : Word) (s : State) :
    exec (.shfSlotRangeWrite slot value) s = onDieIf (wellFormed (.shfSlotRangeWrite slot value)) ((fun d => d.awake fun d => d.shfSlotRangeWrite slot value)) s := rfl

theorem exec_is_slotDeclare (slot : BitVec 10) (value : Word) (s : State) :
    exec (.slotDeclare slot value) s = onDieIf (wellFormed (.slotDeclare slot value)) ((fun d => d.awake fun d => d.slotDeclare slot value)) s := rfl

theorem exec_is_slotRelease (slot : BitVec 10) (value : Word) (s : State) :
    exec (.slotRelease slot value) s = onDieIf (wellFormed (.slotRelease slot value)) ((fun d => d.awake fun d => d.slotRelease slot value)) s := rfl

theorem exec_is_shelfRowRewrite (row : BitVec 17) (s : State) :
    exec (.shelfRowRewrite row) s = onDieIf (wellFormed (.shelfRowRewrite row)) ((fun d => d.shelfRowRewrite row)) s := rfl

theorem exec_is_shelfScrub (row : BitVec 17) (fault : Option (BitVec 32)) (s : State) :
    exec (.shelfScrub row fault) s = onDieIf (wellFormed (.shelfScrub row fault)) ((fun d => d.shelfScrub row fault)) s := rfl

theorem exec_is_bankClear (bank : BitVec 7) (s : State) :
    exec (.bankClear bank) s = onDieIf (wellFormed (.bankClear bank)) ((fun d => d.bankClear bank)) s := rfl

theorem exec_is_bankGateClose (bank : BitVec 7) (s : State) :
    exec (.bankGateClose bank) s = onDieIf (wellFormed (.bankGateClose bank)) ((fun d => d.bankGateClose bank)) s := rfl

theorem exec_is_shelfSpareRow (s : State) :
    exec .shelfSpareRow s = onDieIf (wellFormed .shelfSpareRow) (Die.shelfSpareRow) s := rfl

theorem exec_is_schEventWrite (counter : BitVec 16) (value : Word) (s : State) :
    exec (.schEventWrite counter value) s = onDieIf (wellFormed (.schEventWrite counter value)) ((fun d => d.awake fun d => d.schEventWrite counter value)) s := rfl

theorem exec_is_schEventInc (value : Word) (s : State) :
    exec (.schEventInc value) s = onDieIf (wellFormed (.schEventInc value)) ((fun d => d.awake fun d => d.schEventInc value)) s := rfl

theorem exec_is_schEvtPoisonClear (word : BitVec 11) (value : Word) (s : State) :
    exec (.schEvtPoisonClear word value) s = onDieIf (wellFormed (.schEvtPoisonClear word value)) ((fun d => d.awake fun d => d.schEvtPoisonClear word value)) s := rfl

theorem exec_is_registerWrite (bar2 : Bool) (off : BitVec 26) (size : BitVec 4) (data : BitVec 64) (s : State) :
    exec (.registerWrite bar2 off size data) s = onDieIf (wellFormed (.registerWrite bar2 off size data)) ((fun d => d.registerWrite bar2 off.toNat size.toNat data)) s := rfl

theorem exec_is_counterReadClear (bar2 : Bool) (off : BitVec 26) (size : BitVec 4) (s : State) :
    exec (.counterReadClear bar2 off size) s = onDieIf (wellFormed (.counterReadClear bar2 off size)) ((fun d => d.hostRead bar2 off.toNat size.toNat)) s := rfl

theorem exec_is_latchedPairRead (pair : LatchPair) (wide : Bool) (s : State) :
    exec (.latchedPairRead pair wide) s = onDieIf (wellFormed (.latchedPairRead pair wide)) ((fun d => d.latchedRead pair wide)) s := rfl

theorem exec_is_dbAdd (page : DbPage) (value : Word) (s : State) :
    exec (.dbAdd page value) s = onDieIf (wellFormed (.dbAdd page value)) ((fun d => d.doorbellAdd (dbIndex page) value)) s := rfl

theorem exec_is_dbRelease (page : DbPage) (value : Word) (s : State) :
    exec (.dbRelease page value) s = onDieIf (wellFormed (.dbRelease page value)) ((fun d => d.doorbellRelease (dbIndex page) value)) s := rfl

theorem exec_is_dbFlush (page : DbPage) (value : Word) (s : State) :
    exec (.dbFlush page value) s = onDieIf (wellFormed (.dbFlush page value)) ((fun d => d.doorbellFlush (dbIndex page) value)) s := rfl

theorem exec_is_queCmdCreate (queue : BitVec 20) (s : State) :
    exec (.queCmdCreate queue) s = onDieIf (wellFormed (.queCmdCreate queue)) ((fun d => d.awake fun d => d.queCreate queue)) s := rfl

theorem exec_is_queCmdModify (queue : BitVec 20) (s : State) :
    exec (.queCmdModify queue) s = onDieIf (wellFormed (.queCmdModify queue)) ((fun d => d.awake fun d => d.queModify queue)) s := rfl

theorem exec_is_queCmdRead (queue : BitVec 20) (s : State) :
    exec (.queCmdRead queue) s = onDieIf (wellFormed (.queCmdRead queue)) ((fun d => d.awake fun d => d.queRead queue)) s := rfl

theorem exec_is_queCmdDestroy (queue : BitVec 20) (s : State) :
    exec (.queCmdDestroy queue) s = onDieIf (wellFormed (.queCmdDestroy queue)) ((fun d => d.awake fun d => d.queDestroy queue)) s := rfl

theorem exec_is_servingAbort (group : BitVec 4) (abort : Bool) (s : State) :
    exec (.servingAbort group abort) s = onDieIf (wellFormed (.servingAbort group abort)) ((fun d => d.awake fun d => d.servingAbort group abort)) s := rfl

theorem exec_is_tirCmdSetdir (s : State) :
    exec .tirCmdSetdir s = onDieIf (wellFormed .tirCmdSetdir) ((fun d => d.awake fun d => d.tirSetdir)) s := rfl

theorem exec_is_tirCmdMap (s : State) :
    exec .tirCmdMap s = onDieIf (wellFormed .tirCmdMap) ((fun d => d.awake fun d => d.tirMap)) s := rfl

theorem exec_is_tirCmdUnmap (s : State) :
    exec .tirCmdUnmap s = onDieIf (wellFormed .tirCmdUnmap) ((fun d => d.awake fun d => d.tirUnmap)) s := rfl

theorem exec_is_tirCmdRead (s : State) :
    exec .tirCmdRead s = onDieIf (wellFormed .tirCmdRead) ((fun d => d.awake fun d => d.tirRead)) s := rfl

theorem exec_is_pageMigrationSwitch (copy : PageCopy) (s : State) :
    exec (.pageMigrationSwitch copy) s = onDieIf (wellFormed (.pageMigrationSwitch copy)) ((fun d => d.pageMigrationSwitch copy)) s := rfl

theorem exec_is_demandFill (page : BitVec 32) (s : State) :
    exec (.demandFill page) s = onDieIf (wellFormed (.demandFill page)) ((fun d => d.demandFill page)) s := rfl

theorem exec_is_fillNoFrame (page : BitVec 32) (s : State) :
    exec (.fillNoFrame page) s = onDieIf (wellFormed (.fillNoFrame page)) ((fun d => d.fillNoFrame page)) s := rfl

theorem exec_is_modelLoad (hits : Hits) (s : State) :
    exec (.modelLoad hits) s = onDieIf (wellFormed (.modelLoad hits)) ((fun d => d.modelLoad hits)) s := rfl

theorem exec_is_shardVerify (slot : BitVec 5) (hits : Hits) (s : State) :
    exec (.shardVerify slot hits) s = onDieIf (wellFormed (.shardVerify slot hits)) ((fun d => d.shardVerify slot hits)) s := rfl

theorem exec_is_modelUnload (s : State) :
    exec .modelUnload s = onDieIf (wellFormed .modelUnload) (Die.modelUnload) s := rfl

theorem exec_is_modelQuery (s : State) :
    exec .modelQuery s = onDieIf (wellFormed .modelQuery) (Die.modelQuery) s := rfl

theorem exec_is_modelScrub (s : State) :
    exec .modelScrub s = onDieIf (wellFormed .modelScrub) (Die.modelScrub) s := rfl

theorem exec_is_modelScrubPass (slot : BitVec 5) (s : State) :
    exec (.modelScrubPass slot) s = onDieIf (wellFormed (.modelScrubPass slot)) ((fun d => d.modelScrubPass slot)) s := rfl

theorem exec_is_modelRepair (slot : BitVec 5) (hits : Hits) (s : State) :
    exec (.modelRepair slot hits) s = onDieIf (wellFormed (.modelRepair slot hits)) ((fun d => d.modelRepair slot hits)) s := rfl

theorem exec_is_dramLineRead (key : BitVec 7) (line : BitVec 30) (tenant : BitVec 7) (queue : BitVec 20) (act : Bool) (linkCe : Bool) (fault : Strike) (s : State) :
    exec (.dramLineRead key line tenant queue act linkCe fault) s = onDieIf (wellFormed (.dramLineRead key line tenant queue act linkCe fault)) ((fun d => d.dramLineRead key line tenant queue act linkCe fault)) s := rfl

theorem exec_is_dramLineWrite (key : BitVec 7) (line : BitVec 30) (data : Line) (poison : Bool) (tenant : BitVec 7) (queue : BitVec 20) (act : Bool) (s : State) :
    exec (.dramLineWrite key line data poison tenant queue act) s = onDieIf (wellFormed (.dramLineWrite key line data poison tenant queue act)) ((fun d => d.dramLineWrite key line data poison tenant queue act)) s := rfl

theorem exec_is_dramPartialWrite (key : BitVec 7) (line : BitVec 30) (mask : BitVec 64) (data : Line) (tenant : BitVec 7) (queue : BitVec 20) (act : Bool) (s : State) :
    exec (.dramPartialWrite key line mask data tenant queue act) s = onDieIf (wellFormed (.dramPartialWrite key line mask data tenant queue act)) ((fun d => d.dramPartialWrite key line mask data tenant queue act)) s := rfl

theorem exec_is_dramCeRewrite (line : BitVec 30) (s : State) :
    exec (.dramCeRewrite line) s = onDieIf (wellFormed (.dramCeRewrite line)) ((fun d => d.dramCeRewrite line)) s := rfl

theorem exec_is_dramPatrolScrub (fault : Strike) (s : State) :
    exec (.dramPatrolScrub fault) s = onDieIf (wellFormed (.dramPatrolScrub fault)) ((fun d => d.dramPatrolScrub fault)) s := rfl

theorem exec_is_dramRetrain (warm : Bool) (ok : Bool) (s : State) :
    exec (.dramRetrain warm ok) s = onDieIf (wellFormed (.dramRetrain warm ok)) ((fun d => d.dramRetrain warm ok)) s := rfl

theorem exec_is_rowHammerAction (s : State) :
    exec .rowHammerAction s = onDieIf (wellFormed .rowHammerAction) (Die.rowHammerAction) s := rfl

theorem exec_is_rowHammerWindowEnd (s : State) :
    exec .rowHammerWindowEnd s = onDieIf (wellFormed .rowHammerWindowEnd) (Die.rowHammerWindowEnd) s := rfl

theorem exec_is_dramPpr (s : State) :
    exec .dramPpr s = onDieIf (wellFormed .dramPpr) (Die.dramPpr) s := rfl

theorem exec_is_dramSegmentClear (seg : BitVec 3) (s : State) :
    exec (.dramSegmentClear seg) s = onDieIf (wellFormed (.dramSegmentClear seg)) ((fun d => d.dramSegmentClear seg)) s := rfl

theorem exec_is_nandUnitRead (page : BitVec 32) (unit : BitVec 4) (how : NandHow) (s : State) :
    exec (.nandUnitRead page unit how) s = onDieIf (wellFormed (.nandUnitRead page unit how)) ((fun d => d.nandUnitRead page unit how)) s := rfl

theorem exec_is_nandUnitWrite (page : BitVec 32) (unit : BitVec 4) (fails : Bool) (s : State) :
    exec (.nandUnitWrite page unit fails) s = onDieIf (wellFormed (.nandUnitWrite page unit fails)) ((fun d => d.nandUnitWrite page unit fails)) s := rfl

theorem exec_is_nandReadDisturbReloc (block : BitVec 25) (s : State) :
    exec (.nandReadDisturbReloc block) s = onDieIf (wellFormed (.nandReadDisturbReloc block)) ((fun d => d.nandReadDisturbReloc block)) s := rfl

theorem exec_is_nandWearLevel (s : State) :
    exec .nandWearLevel s = onDieIf (wellFormed .nandWearLevel) (Die.nandWearLevel) s := rfl

theorem exec_is_nandGarbageCollect (block : BitVec 25) (s : State) :
    exec (.nandGarbageCollect block) s = onDieIf (wellFormed (.nandGarbageCollect block)) ((fun d => d.nandGarbageCollect block)) s := rfl

theorem exec_is_nandGrownBad (block : BitVec 25) (s : State) :
    exec (.nandGrownBad block) s = onDieIf (wellFormed (.nandGrownBad block)) ((fun d => d.nandGrownBad block)) s := rfl

theorem exec_is_csiFrameStart (port : Bool) (vc : BitVec 4) (s : State) :
    exec (.csiFrameStart port vc) s = onDieIf (wellFormed (.csiFrameStart port vc)) ((fun d => d.frameStart port vc)) s := rfl

theorem exec_is_csiLine (port : Bool) (vc : BitVec 4) (dt : BitVec 6) (bytes : List (BitVec 8)) (eccCorr : Bool) (crcBad : Bool) (buffered : Buffered) (s : State) :
    exec (.csiLine port vc dt bytes eccCorr crcBad buffered) s = onDieIf (wellFormed (.csiLine port vc dt bytes eccCorr crcBad buffered)) ((fun d => d.whileAwake fun d => d.csiLine port vc dt bytes eccCorr crcBad buffered)) s := rfl

theorem exec_is_csiEmbedded (port : Bool) (vc : BitVec 4) (bytes : List (BitVec 8)) (eccCorr : Bool) (crcBad : Bool) (s : State) :
    exec (.csiEmbedded port vc bytes eccCorr crcBad) s = onDieIf (wellFormed (.csiEmbedded port vc bytes eccCorr crcBad)) ((fun d => d.whileAwake fun d => d.csiEmbedded port vc bytes eccCorr crcBad)) s := rfl

theorem exec_is_csiFrameEnd (port : Bool) (vc : BitVec 4) (s : State) :
    exec (.csiFrameEnd port vc) s = onDieIf (wellFormed (.csiFrameEnd port vc)) ((fun d => d.whileAwake fun d => d.csiFrameEnd port vc)) s := rfl

theorem exec_is_frameCloseTimeout (ctx : BitVec 2) (s : State) :
    exec (.frameCloseTimeout ctx) s = onDieIf (wellFormed (.frameCloseTimeout ctx)) ((fun d => d.frameCloseTimeout ctx)) s := rfl

theorem exec_is_ifeCtxEnable (ctx : BitVec 2) (value : Word) (s : State) :
    exec (.ifeCtxEnable ctx value) s = onDieIf (wellFormed (.ifeCtxEnable ctx value)) ((fun d => d.awake fun d => d.ifeCtxEnable ctx value)) s := rfl

theorem exec_is_ifeCtxDisable (ctx : BitVec 2) (value : Word) (s : State) :
    exec (.ifeCtxDisable ctx value) s = onDieIf (wellFormed (.ifeCtxDisable ctx value)) ((fun d => d.awake fun d => d.ifeCtxDisable ctx value)) s := rfl

theorem exec_is_dnTileFill (s : State) :
    exec .dnTileFill s = onDieIf (wellFormed .dnTileFill) (Die.dnTileFill) s := rfl

theorem exec_is_dnTileOutput (s : State) :
    exec .dnTileOutput s = onDieIf (wellFormed .dnTileOutput) (Die.dnTileOutput) s := rfl

theorem exec_is_dnTileDeadline (s : State) :
    exec .dnTileDeadline s = onDieIf (wellFormed .dnTileDeadline) (Die.dnTileDeadline) s := rfl

theorem exec_is_statsReady (ctx : BitVec 2) (s : State) :
    exec (.statsReady ctx) s = onDieIf (wellFormed (.statsReady ctx)) ((fun d => d.statsReady ctx)) s := rfl

theorem exec_is_settingsTransferDone (ctx : BitVec 2) (acked : Bool) (s : State) :
    exec (.settingsTransferDone ctx acked) s = onDieIf (wellFormed (.settingsTransferDone ctx acked)) ((fun d => d.settingsTransferDone ctx acked)) s := rfl

theorem exec_is_settingsWindowExpiry (ctx : BitVec 2) (s : State) :
    exec (.settingsWindowExpiry ctx) s = onDieIf (wellFormed (.settingsWindowExpiry ctx)) ((fun d => d.settingsWindowExpiry ctx)) s := rfl

theorem exec_is_i3cIbi (port : Bool) (addr : BitVec 7) (payload : List (BitVec 8)) (s : State) :
    exec (.i3cIbi port addr payload) s = onDieIf (wellFormed (.i3cIbi port addr payload)) ((fun d => (d.wakeEvent 4).i3cIbi port addr payload)) s := rfl

theorem exec_is_ifeReset (s : State) :
    exec .ifeReset s = onDieIf (wellFormed .ifeReset) ((fun d => d.awake fun d => d.ifeReset)) s := rfl

theorem exec_is_hostReadResponse (line : BitVec 42) (data : Line) (how : HostReply) (s : State) :
    exec (.hostReadResponse line data how) s = onDieIf (wellFormed (.hostReadResponse line data how)) ((fun d => d.hostReadResponse line data how)) s := rfl

theorem exec_is_hostReadTimeout (line : BitVec 42) (s : State) :
    exec (.hostReadTimeout line) s = onDieIf (wellFormed (.hostReadTimeout line)) ((fun d => d.hostReadTimeout line)) s := rfl

theorem exec_is_hostSnoop (line : BitVec 42) (s : State) :
    exec (.hostSnoop line) s = onDieIf (wellFormed (.hostSnoop line)) ((fun d => d.hostSnoop line)) s := rfl

theorem exec_is_peerPortTrained (port : Bool) (rate : BitVec 3) (repaired : BitVec 4) (s : State) :
    exec (.peerPortTrained port rate repaired) s = onDieIf (wellFormed (.peerPortTrained port rate repaired)) ((fun d => d.peerPortTrained port rate repaired)) s := rfl

theorem exec_is_eslisHello (hdr : Hdr) (nsId : Word) (s : State) :
    exec (.eslisHello hdr nsId) s = onDieIf (wellFormed (.eslisHello hdr nsId)) ((fun d => (d.heard hdr).eslisHello hdr nsId)) s := rfl

theorem exec_is_eslisTopo (hdr : Hdr) (die1 : BitVec 8) (die2 : BitVec 8) (latency : BitVec 32) (s : State) :
    exec (.eslisTopo hdr die1 die2 latency) s = onDieIf (wellFormed (.eslisTopo hdr die1 die2 latency)) ((fun d => (d.heard hdr).eslisTopo hdr die1 die2 latency)) s := rfl

theorem exec_is_flitReceive (flit : FlitWords) (s : State) :
    exec (.flitReceive flit) s = onDieIf (wellFormed (.flitReceive flit)) ((fun d => d.flitReceive flit)) s := rfl

theorem exec_is_flitAckTimeout (port : Bool) (s : State) :
    exec (.flitAckTimeout port) s = onDieIf (wellFormed (.flitAckTimeout port)) ((fun d => d.flitAckTimeout port)) s := rfl

theorem exec_is_linkRetrain (port : BitVec 2) (ok : Bool) (repairOut : Bool) (trained : Trained) (s : State) :
    exec (.linkRetrain port ok repairOut trained) s = onDieIf (wellFormed (.linkRetrain port ok repairOut trained)) ((fun d => d.linkRetrain port ok repairOut trained)) s := rfl

theorem exec_is_peerPortDown (port : Bool) (s : State) :
    exec (.peerPortDown port) s = onDieIf (wellFormed (.peerPortDown port)) ((fun d => d.peerPortDown port)) s := rfl

theorem exec_is_hostPortDown (s : State) :
    exec .hostPortDown s = onDieIf (wellFormed .hostPortDown) (Die.hostPortDown) s := rfl

theorem exec_is_eslisRd (hdr : Hdr) (addr : BitVec 36) (key : BitVec 7) (tenant : BitVec 7) (queue : BitVec 20) (s : State) :
    exec (.eslisRd hdr addr key tenant queue) s = onDieIf (wellFormed (.eslisRd hdr addr key tenant queue)) ((fun d => (d.heard hdr).eslisRd hdr addr key tenant queue)) s := rfl

theorem exec_is_eslisWr (hdr : Hdr) (addr : BitVec 36) (key : BitVec 7) (tenant : BitVec 7) (queue : BitVec 20) (data : Line) (s : State) :
    exec (.eslisWr hdr addr key tenant queue data) s = onDieIf (wellFormed (.eslisWr hdr addr key tenant queue data)) ((fun d => (d.heard hdr).eslisWr hdr addr key tenant queue data)) s := rfl

theorem exec_is_eslisWrm (hdr : Hdr) (addr : BitVec 36) (key : BitVec 7) (tenant : BitVec 7) (queue : BitVec 20) (mask : BitVec 64) (data : Line) (s : State) :
    exec (.eslisWrm hdr addr key tenant queue mask data) s = onDieIf (wellFormed (.eslisWrm hdr addr key tenant queue mask data)) ((fun d => (d.heard hdr).eslisWrm hdr addr key tenant queue mask data)) s := rfl

theorem exec_is_eslisRdata (hdr : Hdr) (status : BitVec 8) (data : Line) (s : State) :
    exec (.eslisRdata hdr status data) s = onDieIf (wellFormed (.eslisRdata hdr status data)) ((fun d => (d.heard hdr).eslisRdata hdr status data)) s := rfl

theorem exec_is_eslisWack (hdr : Hdr) (status : BitVec 8) (s : State) :
    exec (.eslisWack hdr status) s = onDieIf (wellFormed (.eslisWack hdr status)) ((fun d => (d.heard hdr).eslisWack hdr status)) s := rfl

theorem exec_is_peerRequestTimeout (idx : BitVec 12) (s : State) :
    exec (.peerRequestTimeout idx) s = onDieIf (wellFormed (.peerRequestTimeout idx)) ((fun d => d.peerRequestTimeout idx)) s := rfl

theorem exec_is_eslisOpen (hdr : Hdr) (dst : BitVec 48) (len : Word) (mask : BitVec 8) (sig : Bool) (counter : BitVec 16) (inc : BitVec 16) (tenant : BitVec 7) (queue : BitVec 20) (s : State) :
    exec (.eslisOpen hdr dst len mask sig counter inc tenant queue) s = onDieIf (wellFormed (.eslisOpen hdr dst len mask sig counter inc tenant queue)) ((fun d => (d.heard hdr).eslisOpen hdr dst len mask sig counter inc tenant queue)) s := rfl

theorem exec_is_eslisBulk (flit : BulkFlit) (s : State) :
    exec (.eslisBulk flit) s = onDieIf (wellFormed (.eslisBulk flit)) ((fun d => d.eslisBulk flit)) s := rfl

theorem exec_is_eslisDone (hdr : Hdr) (status : BitVec 8) (s : State) :
    exec (.eslisDone hdr status) s = onDieIf (wellFormed (.eslisDone hdr status)) ((fun d => (d.heard hdr).eslisDone hdr status)) s := rfl

theorem exec_is_fabricDoneTimeout (slot : BitVec 12) (s : State) :
    exec (.fabricDoneTimeout slot) s = onDieIf (wellFormed (.fabricDoneTimeout slot)) ((fun d => d.fabricDoneTimeout slot)) s := rfl

theorem exec_is_eslisTick (hdr : Hdr) (firing : BitVec 64) (mask : BitVec 8) (sense : Sense) (s : State) :
    exec (.eslisTick hdr firing mask sense) s = onDieIf (wellFormed (.eslisTick hdr firing mask sense)) ((fun d => (d.heard hdr).eslisTick hdr firing mask sense)) s := rfl

theorem exec_is_eslisTimeSend (s : State) :
    exec .eslisTimeSend s = onDieIf (wellFormed .eslisTimeSend) (Die.eslisTimeSend) s := rfl

theorem exec_is_eslisTime (hdr : Hdr) (value : BitVec 64) (mask : BitVec 8) (s : State) :
    exec (.eslisTime hdr value mask) s = onDieIf (wellFormed (.eslisTime hdr value mask)) ((fun d => (d.heard hdr).eslisTime hdr value mask)) s := rfl

theorem exec_is_eslisArrive (hdr : Hdr) (id : BitVec 8) (k : BitVec 24) (mask : BitVec 8) (s : State) :
    exec (.eslisArrive hdr id k mask) s = onDieIf (wellFormed (.eslisArrive hdr id k mask)) ((fun d => (d.heard hdr).eslisArrive hdr id k mask)) s := rfl

theorem exec_is_eslisRelease (hdr : Hdr) (id : BitVec 8) (k : BitVec 24) (t0 : BitVec 64) (s : State) :
    exec (.eslisRelease hdr id k t0) s = onDieIf (wellFormed (.eslisRelease hdr id k t0)) ((fun d => (d.heard hdr).eslisRelease hdr id k t0)) s := rfl

theorem exec_is_eslisMgmt (hdr : Hdr) (msg : Mgmt) (s : State) :
    exec (.eslisMgmt hdr msg) s = onDieIf (wellFormed (.eslisMgmt hdr msg)) ((fun d => (d.heard hdr).eslisMgmt hdr msg)) s := rfl

theorem exec_is_modelInServiceMsg (hdr : Hdr) (base : BitVec 32) (s : State) :
    exec (.modelInServiceMsg hdr base) s = onDieIf (wellFormed (.modelInServiceMsg hdr base)) ((fun d => (d.heard hdr).modelInServiceMsg hdr base)) s := rfl

theorem exec_is_linkReset (s : State) :
    exec .linkReset s = onDieIf (wellFormed .linkReset) ((fun d => d.awake fun d => d.linkReset)) s := rfl

theorem exec_is_powerEstimatePeriod (estimate : Estimate) (s : State) :
    exec (.powerEstimatePeriod estimate) s = onDieIf (wellFormed (.powerEstimatePeriod estimate)) ((fun d => d.powerEstimatePeriod estimate)) s := rfl

theorem exec_is_thermalSample (temps : List (BitVec 16)) (s : State) :
    exec (.thermalSample temps) s = onDieIf (wellFormed (.thermalSample temps)) ((fun d => d.thermalSample temps)) s := rfl

theorem exec_is_idleEnter (s : State) :
    exec .idleEnter s = onDieIf (wellFormed .idleEnter) (Die.idleEnter) s := rfl

theorem exec_is_powerEntryDrained (s : State) :
    exec .powerEntryDrained s = onDieIf (wellFormed .powerEntryDrained) (Die.powerEntryDrained) s := rfl

theorem exec_is_powerEntryTimeout (s : State) :
    exec .powerEntryTimeout s = onDieIf (wellFormed .powerEntryTimeout) (Die.powerEntryTimeout) s := rfl

theorem exec_is_wakeTimer (s : State) :
    exec .wakeTimer s = onDieIf (wellFormed .wakeTimer) (Die.wakeTimer) s := rfl

theorem exec_is_dmpWake (value : Word) (s : State) :
    exec (.dmpWake value) s = onDieIf (wellFormed (.dmpWake value)) ((fun d => d.dmpWake value)) s := rfl

theorem exec_is_wake (s : State) :
    exec .wake s = onDieIf (wellFormed .wake) (Die.wakeUp) s := rfl

theorem exec_is_watchdogExpiry (proc : BitVec 2) (s : State) :
    exec (.watchdogExpiry proc) s = onDieIf (wellFormed (.watchdogExpiry proc)) ((fun d => d.watchdogExpiry proc)) s := rfl

theorem exec_is_processorRestart (proc : BitVec 2) (s : State) :
    exec (.processorRestart proc) s = onDieIf (wellFormed (.processorRestart proc)) ((fun d => d.processorRestart proc)) s := rfl

theorem exec_is_supervisorRestored (s : State) :
    exec .supervisorRestored s = onDieIf (wellFormed .supervisorRestored) (Die.supervisorRestored) s := rfl

theorem exec_is_fwpRingCfgWrite (value : Word) (s : State) :
    exec (.fwpRingCfgWrite value) s = onDieIf (wellFormed (.fwpRingCfgWrite value)) ((fun d => d.fwpRingCfgWrite value)) s := rfl

theorem exec_is_fwpCmdTailWrite (tail : Word) (s : State) :
    exec (.fwpCmdTailWrite tail) s = onDieIf (wellFormed (.fwpCmdTailWrite tail)) ((fun d => d.fwpCmdTailWrite tail)) s := rfl

theorem exec_is_activateDrainTimeout (s : State) :
    exec .activateDrainTimeout s = onDieIf (wellFormed .activateDrainTimeout) (Die.activateDrainTimeout) s := rfl

theorem exec_is_probationPass (s : State) :
    exec .probationPass s = onDieIf (wellFormed .probationPass) (Die.probationPass) s := rfl

theorem exec_is_commitDone (s : State) :
    exec .commitDone s = onDieIf (wellFormed .commitDone) (Die.commitDone) s := rfl

theorem exec_is_keySessionLapse (num : BitVec 16) (s : State) :
    exec (.keySessionLapse num) s = onDieIf (wellFormed (.keySessionLapse num)) ((fun d => d.keySessionLapse num)) s := rfl

theorem exec_is_confOfferLapse (s : State) :
    exec .confOfferLapse s = onDieIf (wellFormed .confOfferLapse) (Die.confOfferLapse) s := rfl

theorem exec_is_confSessionIdle (s : State) :
    exec .confSessionIdle s = onDieIf (wellFormed .confSessionIdle) (Die.confSessionIdle) s := rfl

theorem exec_is_rngHealthFail (s : State) :
    exec .rngHealthFail s = onDieIf (wellFormed .rngHealthFail) (Die.rngHealthFail) s := rfl

theorem exec_is_trackerEntryExpire (s : State) :
    exec .trackerEntryExpire s = onDieIf (wellFormed .trackerEntryExpire) (Die.trackerEntryExpire) s := rfl

theorem exec_is_selftestPeriodic (kiln : List (List (BitVec 12))) (wheel : List (List (BitVec 5))) (s : State) :
    exec (.selftestPeriodic kiln wheel) s = onDieIf (wellFormed (.selftestPeriodic kiln wheel)) ((fun d => d.selftestPeriodic kiln wheel)) s := rfl

theorem exec_is_powerCap (s : State) :
    exec .powerCap s = onDieIf (wellFormed .powerCap) (Die.powerCap) s := rfl

theorem exec_is_powerSplit (s : State) :
    exec .powerSplit s = onDieIf (wellFormed .powerSplit) (Die.powerSplit) s := rfl

theorem exec_is_boost (s : State) :
    exec .boost s = onDieIf (wellFormed .boost) (Die.boostCmd) s := rfl

theorem exec_is_railLimit (s : State) :
    exec .railLimit s = onDieIf (wellFormed .railLimit) (Die.railLimit) s := rfl

theorem exec_is_powerState (s : State) :
    exec .powerState s = onDieIf (wellFormed .powerState) (Die.powerState) s := rfl

theorem exec_is_shelfPower (s : State) :
    exec .shelfPower s = onDieIf (wellFormed .shelfPower) (Die.shelfPower) s := rfl

theorem exec_is_powerInfo (s : State) :
    exec .powerInfo s = onDieIf (wellFormed .powerInfo) (Die.powerInfo) s := rfl

theorem exec_is_thermalCfg (s : State) :
    exec .thermalCfg s = onDieIf (wellFormed .thermalCfg) (Die.thermalCfg) s := rfl

theorem exec_is_secIdentity (s : State) :
    exec .secIdentity s = onDieIf (wellFormed .secIdentity) (Die.secIdentity) s := rfl

theorem exec_is_secAttest (s : State) :
    exec .secAttest s = onDieIf (wellFormed .secAttest) (Die.secAttest) s := rfl

theorem exec_is_secKeySession (s : State) :
    exec .secKeySession s = onDieIf (wellFormed .secKeySession) (Die.secKeySession) s := rfl

theorem exec_is_secKeyRelease (upsets : List Upset) (lost : Nat) (s : State) :
    exec (.secKeyRelease upsets lost) s = onDieIf (wellFormed (.secKeyRelease upsets lost)) ((fun d => d.secKeyRelease upsets lost)) s := rfl

theorem exec_is_secKeyErase (s : State) :
    exec .secKeyErase s = onDieIf (wellFormed .secKeyErase) (Die.secKeyErase) s := rfl

theorem exec_is_secConfOpen (s : State) :
    exec .secConfOpen s = onDieIf (wellFormed .secConfOpen) (Die.secConfOpen) s := rfl

theorem exec_is_secConfAccept (s : State) :
    exec .secConfAccept s = onDieIf (wellFormed .secConfAccept) (Die.secConfAccept) s := rfl

theorem exec_is_secConfClose (s : State) :
    exec .secConfClose s = onDieIf (wellFormed .secConfClose) (Die.secConfClose) s := rfl

theorem exec_is_secRollback (good : BitVec 7) (s : State) :
    exec (.secRollback good) s = onDieIf (wellFormed (.secRollback good)) ((fun d => d.secRollback good)) s := rfl

theorem exec_is_fwInfo (s : State) :
    exec .fwInfo s = onDieIf (wellFormed .fwInfo) (Die.fwInfo) s := rfl

theorem exec_is_drvHello (s : State) :
    exec .drvHello s = onDieIf (wellFormed .drvHello) (Die.drvHello) s := rfl

theorem exec_is_dataStart (s : State) :
    exec .dataStart s = onDieIf (wellFormed .dataStart) (Die.dataStart) s := rfl

theorem exec_is_dataStop (s : State) :
    exec .dataStop s = onDieIf (wellFormed .dataStop) (Die.dataStop) s := rfl

theorem exec_is_tickConfig (s : State) :
    exec .tickConfig s = onDieIf (wellFormed .tickConfig) (Die.tickConfig) s := rfl

theorem exec_is_tenantConfig (s : State) :
    exec .tenantConfig s = onDieIf (wellFormed .tenantConfig) (Die.tenantConfig) s := rfl

theorem exec_is_tenantWindow (s : State) :
    exec .tenantWindow s = onDieIf (wellFormed .tenantWindow) (Die.tenantWindow) s := rfl

theorem exec_is_tenantTeardown (s : State) :
    exec .tenantTeardown s = onDieIf (wellFormed .tenantTeardown) (Die.tenantTeardown) s := rfl

theorem exec_is_watchdog (s : State) :
    exec .watchdog s = onDieIf (wellFormed .watchdog) (Die.watchdog) s := rfl

theorem exec_is_fwStage (hits : Hits) (s : State) :
    exec (.fwStage hits) s = onDieIf (wellFormed (.fwStage hits)) ((fun d => d.fwStage hits)) s := rfl

theorem exec_is_fwActivate (accepts : Bool) (s : State) :
    exec (.fwActivate accepts) s = onDieIf (wellFormed (.fwActivate accepts)) ((fun d => d.fwActivate accepts)) s := rfl

theorem exec_is_fwStatus (s : State) :
    exec .fwStatus s = onDieIf (wellFormed .fwStatus) (Die.fwStatus) s := rfl

theorem exec_is_memInfo (s : State) :
    exec .memInfo s = onDieIf (wellFormed .memInfo) (Die.memInfo) s := rfl

theorem exec_is_memRetrain (s : State) :
    exec .memRetrain s = onDieIf (wellFormed .memRetrain) (Die.memRetrain) s := rfl

theorem exec_is_memPprHard (s : State) :
    exec .memPprHard s = onDieIf (wellFormed .memPprHard) (Die.memPprHard) s := rfl

theorem exec_is_flashFormat (marks : List (BitVec 25)) (s : State) :
    exec (.flashFormat marks) s = onDieIf (wellFormed (.flashFormat marks)) ((fun d => d.flashFormat marks)) s := rfl

theorem exec_is_flashInfo (s : State) :
    exec .flashInfo s = onDieIf (wellFormed .flashInfo) (Die.flashInfo) s := rfl

theorem exec_is_camPortConfig (s : State) :
    exec .camPortConfig s = onDieIf (wellFormed .camPortConfig) (Die.camPortConfig) s := rfl

theorem exec_is_camXfer (reply : BusReply) (s : State) :
    exec (.camXfer reply) s = onDieIf (wellFormed (.camXfer reply)) ((fun d => d.camXfer reply)) s := rfl

theorem exec_is_camDaa (targets : List (BitVec 7)) (s : State) :
    exec (.camDaa targets) s = onDieIf (wellFormed (.camDaa targets)) ((fun d => d.camDaa targets)) s := rfl

theorem exec_is_camStatus (bus : Word) (s : State) :
    exec (.camStatus bus) s = onDieIf (wellFormed (.camStatus bus)) ((fun d => d.camStatus bus)) s := rfl

theorem exec_is_fabStatus (s : State) :
    exec .fabStatus s = onDieIf (wellFormed .fabStatus) (Die.fabStatus) s := rfl

theorem exec_is_fabSetId (s : State) :
    exec .fabSetId s = onDieIf (wellFormed .fabSetId) (Die.fabSetId) s := rfl

theorem exec_is_fabRoute (s : State) :
    exec .fabRoute s = onDieIf (wellFormed .fabRoute) (Die.fabRoute) s := rfl

theorem exec_is_linkPortDisable (s : State) :
    exec .linkPortDisable s = onDieIf (wellFormed .linkPortDisable) (Die.linkPortDisable) s := rfl

theorem exec_is_linkPortEnable (s : State) :
    exec .linkPortEnable s = onDieIf (wellFormed .linkPortEnable) (Die.linkPortEnable) s := rfl

theorem exec_is_linkPortRetrain (s : State) :
    exec .linkPortRetrain s = onDieIf (wellFormed .linkPortRetrain) (Die.linkPortRetrain) s := rfl

theorem exec_is_rasInfo (s : State) :
    exec .rasInfo s = onDieIf (wellFormed .rasInfo) (Die.rasInfo) s := rfl

theorem exec_is_rasLog (s : State) :
    exec .rasLog s = onDieIf (wellFormed .rasLog) (Die.rasLog) s := rfl

theorem exec_is_rasSelftest (kiln : List (List (BitVec 12))) (wheel : List (List (BitVec 5))) (s : State) :
    exec (.rasSelftest kiln wheel) s = onDieIf (wellFormed (.rasSelftest kiln wheel)) ((fun d => d.rasSelftest kiln wheel)) s := rfl

theorem exec_is_firmwareSramUncorrectable (proc : BitVec 2) (word : BitVec 20) (s : State) :
    exec (.firmwareSramUncorrectable proc word) s = onDieIf (wellFormed (.firmwareSramUncorrectable proc word)) ((fun d => d.firmwareSramUncorrectable proc word)) s := rfl

theorem exec_is_csiHeaderUncorrectable (ctx : BitVec 2) (s : State) :
    exec (.csiHeaderUncorrectable ctx) s = onDieIf (wellFormed (.csiHeaderUncorrectable ctx)) ((fun d => d.whileAwake fun d => d.csiHeaderUncorrectable ctx)) s := rfl

/-- Every command but those of the pins is one operation of the die, under its well-formedness. -/
theorem exec_shape (c : Instr) (h : actsOnPins c = false) (s : State) : ∃ f, exec c s = onDieIf (wellFormed c) f s := by
  cases c with
  | porAssert => exact absurd h Bool.noConfusion
  | porRelease _ _ => exact absurd h Bool.noConfusion
  | bootComplete a0 => exact ⟨_, exec_is_bootComplete a0 s⟩
  | hostImageLoad a0 a1 => exact ⟨_, exec_is_hostImageLoad a0 a1 s⟩
  | powerLoss => exact absurd h Bool.noConfusion
  | coneTrip _ => exact absurd h Bool.noConfusion
  | droopDetect a0 a1 => exact ⟨_, exec_is_droopDetect a0 a1 s⟩
  | droopRelax a0 => exact ⟨_, exec_is_droopRelax a0 s⟩
  | tick a0 => exact ⟨_, exec_is_tick a0 s⟩
  | tickFallback a0 => exact ⟨_, exec_is_tickFallback a0 s⟩
  | hostTickWrite a0 a1 => exact ⟨_, exec_is_hostTickWrite a0 a1 s⟩
  | sWaitTimeout a0 => exact ⟨_, exec_is_sWaitTimeout a0 s⟩
  | sTickwaitReady a0 => exact ⟨_, exec_is_sTickwaitReady a0 s⟩
  | servingDeadline a0 a1 a2 => exact ⟨_, exec_is_servingDeadline a0 a1 a2 s⟩
  | parkExpiry a0 => exact ⟨_, exec_is_parkExpiry a0 s⟩
  | descriptorAdmit a0 => exact ⟨_, exec_is_descriptorAdmit a0 s⟩
  | queueContextFetch a0 a1 => exact ⟨_, exec_is_queueContextFetch a0 a1 s⟩
  | descriptorReady a0 => exact ⟨_, exec_is_descriptorReady a0 s⟩
  | descriptorComplete a0 => exact ⟨_, exec_is_descriptorComplete a0 s⟩
  | hostWriteFlushDone a0 => exact ⟨_, exec_is_hostWriteFlushDone a0 s⟩
  | nop => exact ⟨_, exec_is_nop s⟩
  | kLoadIn a0 a1 => exact ⟨_, exec_is_kLoadIn a0 a1 s⟩
  | kCharge a0 a1 => exact ⟨_, exec_is_kCharge a0 a1 s⟩
  | kilnFirstIssueSwap => exact ⟨_, exec_is_kilnFirstIssueSwap s⟩
  | kilnVectorIssue a0 a1 a2 => exact ⟨_, exec_is_kilnVectorIssue a0 a1 a2 s⟩
  | accUpdateLand a0 => exact ⟨_, exec_is_accUpdateLand a0 s⟩
  | kilnDrainRow => exact ⟨_, exec_is_kilnDrainRow s⟩
  | kilnShadowReleased => exact ⟨_, exec_is_kilnShadowReleased s⟩
  | kilnOwedSwap => exact ⟨_, exec_is_kilnOwedSwap s⟩
  | kilnHoldTimeout => exact ⟨_, exec_is_kilnHoldTimeout s⟩
  | kilnClockGate => exact ⟨_, exec_is_kilnClockGate s⟩
  | kilnSpareSwap a0 => exact ⟨_, exec_is_kilnSpareSwap a0 s⟩
  | klnOwedRelease a0 => exact ⟨_, exec_is_klnOwedRelease a0 s⟩
  | kilnReset => exact ⟨_, exec_is_kilnReset s⟩
  | wGemv a0 a1 a2 => exact ⟨_, exec_is_wGemv a0 a1 a2 s⟩
  | wAttn a0 a1 a2 => exact ⟨_, exec_is_wAttn a0 a1 a2 s⟩
  | wKvappend a0 a1 => exact ⟨_, exec_is_wKvappend a0 a1 s⟩
  | wKvevict a0 a1 => exact ⟨_, exec_is_wKvevict a0 a1 s⟩
  | wheelPrefetchStart => exact ⟨_, exec_is_wheelPrefetchStart s⟩
  | wheelSpareSwap => exact ⟨_, exec_is_wheelSpareSwap s⟩
  | wheelReset => exact ⟨_, exec_is_wheelReset s⟩
  | gElem a0 a1 => exact ⟨_, exec_is_gElem a0 a1 s⟩
  | gNorm a0 a1 => exact ⟨_, exec_is_gNorm a0 a1 s⟩
  | gSoftmax a0 a1 => exact ⟨_, exec_is_gSoftmax a0 a1 s⟩
  | gRope a0 a1 => exact ⟨_, exec_is_gRope a0 a1 s⟩
  | gRequant a0 a1 => exact ⟨_, exec_is_gRequant a0 a1 s⟩
  | gTopk a0 a1 => exact ⟨_, exec_is_gTopk a0 a1 s⟩
  | glazeReset => exact ⟨_, exec_is_glazeReset s⟩
  | mCopy a0 a1 => exact ⟨_, exec_is_mCopy a0 a1 s⟩
  | mGather a0 a1 => exact ⟨_, exec_is_mGather a0 a1 s⟩
  | mScatter a0 a1 => exact ⟨_, exec_is_mScatter a0 a1 s⟩
  | mFill a0 a1 => exact ⟨_, exec_is_mFill a0 a1 s⟩
  | dmReset => exact ⟨_, exec_is_dmReset s⟩
  | pCompress a0 a1 => exact ⟨_, exec_is_pCompress a0 a1 s⟩
  | pExpand a0 a1 => exact ⟨_, exec_is_pExpand a0 a1 s⟩
  | pugReset => exact ⟨_, exec_is_pugReset s⟩
  | sWait a0 => exact ⟨_, exec_is_sWait a0 s⟩
  | sSignalAdd a0 => exact ⟨_, exec_is_sSignalAdd a0 s⟩
  | sSignalSet a0 => exact ⟨_, exec_is_sSignalSet a0 s⟩
  | sSignalClear a0 => exact ⟨_, exec_is_sSignalClear a0 s⟩
  | sBarrier a0 => exact ⟨_, exec_is_sBarrier a0 s⟩
  | barrierReleaseInstant => exact ⟨_, exec_is_barrierReleaseInstant s⟩
  | sTickwait a0 => exact ⟨_, exec_is_sTickwait a0 s⟩
  | vSample a0 a1 => exact ⟨_, exec_is_vSample a0 a1 s⟩
  | vMaskstep a0 a1 => exact ⟨_, exec_is_vMaskstep a0 a1 s⟩
  | vEmitStep a0 a1 => exact ⟨_, exec_is_vEmitStep a0 a1 s⟩
  | vEmitSubmit a0 a1 => exact ⟨_, exec_is_vEmitSubmit a0 a1 s⟩
  | vEmitCancel a0 => exact ⟨_, exec_is_vEmitCancel a0 s⟩
  | tPrefetch a0 a1 => exact ⟨_, exec_is_tPrefetch a0 a1 s⟩
  | tMigrate a0 a1 => exact ⟨_, exec_is_tMigrate a0 a1 s⟩
  | tPark a0 a1 => exact ⟨_, exec_is_tPark a0 a1 s⟩
  | tRestore a0 a1 => exact ⟨_, exec_is_tRestore a0 a1 s⟩
  | tierReset => exact ⟨_, exec_is_tierReset s⟩
  | cBind a0 => exact ⟨_, exec_is_cBind a0 s⟩
  | cStats a0 a1 => exact ⟨_, exec_is_cStats a0 a1 s⟩
  | fSend a0 a1 => exact ⟨_, exec_is_fSend a0 a1 s⟩
  | fBcast a0 a1 => exact ⟨_, exec_is_fBcast a0 a1 s⟩
  | epochAdvance a0 => exact ⟨_, exec_is_epochAdvance a0 s⟩
  | shfBankCfgWrite a0 a1 => exact ⟨_, exec_is_shfBankCfgWrite a0 a1 s⟩
  | shfSlotRangeWrite a0 a1 => exact ⟨_, exec_is_shfSlotRangeWrite a0 a1 s⟩
  | slotDeclare a0 a1 => exact ⟨_, exec_is_slotDeclare a0 a1 s⟩
  | slotRelease a0 a1 => exact ⟨_, exec_is_slotRelease a0 a1 s⟩
  | shelfRowRewrite a0 => exact ⟨_, exec_is_shelfRowRewrite a0 s⟩
  | shelfScrub a0 a1 => exact ⟨_, exec_is_shelfScrub a0 a1 s⟩
  | bankClear a0 => exact ⟨_, exec_is_bankClear a0 s⟩
  | bankGateClose a0 => exact ⟨_, exec_is_bankGateClose a0 s⟩
  | shelfSpareRow => exact ⟨_, exec_is_shelfSpareRow s⟩
  | schEventWrite a0 a1 => exact ⟨_, exec_is_schEventWrite a0 a1 s⟩
  | schEventInc a0 => exact ⟨_, exec_is_schEventInc a0 s⟩
  | schEvtPoisonClear a0 a1 => exact ⟨_, exec_is_schEvtPoisonClear a0 a1 s⟩
  | registerWrite a0 a1 a2 a3 => exact ⟨_, exec_is_registerWrite a0 a1 a2 a3 s⟩
  | counterReadClear a0 a1 a2 => exact ⟨_, exec_is_counterReadClear a0 a1 a2 s⟩
  | latchedPairRead a0 a1 => exact ⟨_, exec_is_latchedPairRead a0 a1 s⟩
  | dbAdd a0 a1 => exact ⟨_, exec_is_dbAdd a0 a1 s⟩
  | dbRelease a0 a1 => exact ⟨_, exec_is_dbRelease a0 a1 s⟩
  | dbFlush a0 a1 => exact ⟨_, exec_is_dbFlush a0 a1 s⟩
  | queCmdCreate a0 => exact ⟨_, exec_is_queCmdCreate a0 s⟩
  | queCmdModify a0 => exact ⟨_, exec_is_queCmdModify a0 s⟩
  | queCmdRead a0 => exact ⟨_, exec_is_queCmdRead a0 s⟩
  | queCmdDestroy a0 => exact ⟨_, exec_is_queCmdDestroy a0 s⟩
  | servingAbort a0 a1 => exact ⟨_, exec_is_servingAbort a0 a1 s⟩
  | tirCmdSetdir => exact ⟨_, exec_is_tirCmdSetdir s⟩
  | tirCmdMap => exact ⟨_, exec_is_tirCmdMap s⟩
  | tirCmdUnmap => exact ⟨_, exec_is_tirCmdUnmap s⟩
  | tirCmdRead => exact ⟨_, exec_is_tirCmdRead s⟩
  | pageMigrationSwitch a0 => exact ⟨_, exec_is_pageMigrationSwitch a0 s⟩
  | demandFill a0 => exact ⟨_, exec_is_demandFill a0 s⟩
  | fillNoFrame a0 => exact ⟨_, exec_is_fillNoFrame a0 s⟩
  | modelLoad a0 => exact ⟨_, exec_is_modelLoad a0 s⟩
  | shardVerify a0 a1 => exact ⟨_, exec_is_shardVerify a0 a1 s⟩
  | modelUnload => exact ⟨_, exec_is_modelUnload s⟩
  | modelQuery => exact ⟨_, exec_is_modelQuery s⟩
  | modelScrub => exact ⟨_, exec_is_modelScrub s⟩
  | modelScrubPass a0 => exact ⟨_, exec_is_modelScrubPass a0 s⟩
  | modelRepair a0 a1 => exact ⟨_, exec_is_modelRepair a0 a1 s⟩
  | dramLineRead a0 a1 a2 a3 a4 a5 a6 => exact ⟨_, exec_is_dramLineRead a0 a1 a2 a3 a4 a5 a6 s⟩
  | dramLineWrite a0 a1 a2 a3 a4 a5 a6 => exact ⟨_, exec_is_dramLineWrite a0 a1 a2 a3 a4 a5 a6 s⟩
  | dramPartialWrite a0 a1 a2 a3 a4 a5 a6 => exact ⟨_, exec_is_dramPartialWrite a0 a1 a2 a3 a4 a5 a6 s⟩
  | dramCeRewrite a0 => exact ⟨_, exec_is_dramCeRewrite a0 s⟩
  | dramPatrolScrub a0 => exact ⟨_, exec_is_dramPatrolScrub a0 s⟩
  | dramRetrain a0 a1 => exact ⟨_, exec_is_dramRetrain a0 a1 s⟩
  | rowHammerAction => exact ⟨_, exec_is_rowHammerAction s⟩
  | rowHammerWindowEnd => exact ⟨_, exec_is_rowHammerWindowEnd s⟩
  | dramPpr => exact ⟨_, exec_is_dramPpr s⟩
  | dramSegmentClear a0 => exact ⟨_, exec_is_dramSegmentClear a0 s⟩
  | nandUnitRead a0 a1 a2 => exact ⟨_, exec_is_nandUnitRead a0 a1 a2 s⟩
  | nandUnitWrite a0 a1 a2 => exact ⟨_, exec_is_nandUnitWrite a0 a1 a2 s⟩
  | nandReadDisturbReloc a0 => exact ⟨_, exec_is_nandReadDisturbReloc a0 s⟩
  | nandWearLevel => exact ⟨_, exec_is_nandWearLevel s⟩
  | nandGarbageCollect a0 => exact ⟨_, exec_is_nandGarbageCollect a0 s⟩
  | nandGrownBad a0 => exact ⟨_, exec_is_nandGrownBad a0 s⟩
  | csiFrameStart a0 a1 => exact ⟨_, exec_is_csiFrameStart a0 a1 s⟩
  | csiLine a0 a1 a2 a3 a4 a5 a6 => exact ⟨_, exec_is_csiLine a0 a1 a2 a3 a4 a5 a6 s⟩
  | csiEmbedded a0 a1 a2 a3 a4 => exact ⟨_, exec_is_csiEmbedded a0 a1 a2 a3 a4 s⟩
  | csiFrameEnd a0 a1 => exact ⟨_, exec_is_csiFrameEnd a0 a1 s⟩
  | frameCloseTimeout a0 => exact ⟨_, exec_is_frameCloseTimeout a0 s⟩
  | ifeCtxEnable a0 a1 => exact ⟨_, exec_is_ifeCtxEnable a0 a1 s⟩
  | ifeCtxDisable a0 a1 => exact ⟨_, exec_is_ifeCtxDisable a0 a1 s⟩
  | dnTileFill => exact ⟨_, exec_is_dnTileFill s⟩
  | dnTileOutput => exact ⟨_, exec_is_dnTileOutput s⟩
  | dnTileDeadline => exact ⟨_, exec_is_dnTileDeadline s⟩
  | statsReady a0 => exact ⟨_, exec_is_statsReady a0 s⟩
  | settingsTransferDone a0 a1 => exact ⟨_, exec_is_settingsTransferDone a0 a1 s⟩
  | settingsWindowExpiry a0 => exact ⟨_, exec_is_settingsWindowExpiry a0 s⟩
  | i3cIbi a0 a1 a2 => exact ⟨_, exec_is_i3cIbi a0 a1 a2 s⟩
  | ifeReset => exact ⟨_, exec_is_ifeReset s⟩
  | hostReadResponse a0 a1 a2 => exact ⟨_, exec_is_hostReadResponse a0 a1 a2 s⟩
  | hostReadTimeout a0 => exact ⟨_, exec_is_hostReadTimeout a0 s⟩
  | hostSnoop a0 => exact ⟨_, exec_is_hostSnoop a0 s⟩
  | peerPortTrained a0 a1 a2 => exact ⟨_, exec_is_peerPortTrained a0 a1 a2 s⟩
  | eslisHello a0 a1 => exact ⟨_, exec_is_eslisHello a0 a1 s⟩
  | eslisTopo a0 a1 a2 a3 => exact ⟨_, exec_is_eslisTopo a0 a1 a2 a3 s⟩
  | flitReceive a0 => exact ⟨_, exec_is_flitReceive a0 s⟩
  | flitAckTimeout a0 => exact ⟨_, exec_is_flitAckTimeout a0 s⟩
  | linkRetrain a0 a1 a2 a3 => exact ⟨_, exec_is_linkRetrain a0 a1 a2 a3 s⟩
  | peerPortDown a0 => exact ⟨_, exec_is_peerPortDown a0 s⟩
  | hostPortDown => exact ⟨_, exec_is_hostPortDown s⟩
  | eslisRd a0 a1 a2 a3 a4 => exact ⟨_, exec_is_eslisRd a0 a1 a2 a3 a4 s⟩
  | eslisWr a0 a1 a2 a3 a4 a5 => exact ⟨_, exec_is_eslisWr a0 a1 a2 a3 a4 a5 s⟩
  | eslisWrm a0 a1 a2 a3 a4 a5 a6 => exact ⟨_, exec_is_eslisWrm a0 a1 a2 a3 a4 a5 a6 s⟩
  | eslisRdata a0 a1 a2 => exact ⟨_, exec_is_eslisRdata a0 a1 a2 s⟩
  | eslisWack a0 a1 => exact ⟨_, exec_is_eslisWack a0 a1 s⟩
  | peerRequestTimeout a0 => exact ⟨_, exec_is_peerRequestTimeout a0 s⟩
  | eslisOpen a0 a1 a2 a3 a4 a5 a6 a7 a8 => exact ⟨_, exec_is_eslisOpen a0 a1 a2 a3 a4 a5 a6 a7 a8 s⟩
  | eslisBulk a0 => exact ⟨_, exec_is_eslisBulk a0 s⟩
  | eslisDone a0 a1 => exact ⟨_, exec_is_eslisDone a0 a1 s⟩
  | fabricDoneTimeout a0 => exact ⟨_, exec_is_fabricDoneTimeout a0 s⟩
  | eslisTick a0 a1 a2 a3 => exact ⟨_, exec_is_eslisTick a0 a1 a2 a3 s⟩
  | eslisTimeSend => exact ⟨_, exec_is_eslisTimeSend s⟩
  | eslisTime a0 a1 a2 => exact ⟨_, exec_is_eslisTime a0 a1 a2 s⟩
  | eslisArrive a0 a1 a2 a3 => exact ⟨_, exec_is_eslisArrive a0 a1 a2 a3 s⟩
  | eslisRelease a0 a1 a2 a3 => exact ⟨_, exec_is_eslisRelease a0 a1 a2 a3 s⟩
  | eslisMgmt a0 a1 => exact ⟨_, exec_is_eslisMgmt a0 a1 s⟩
  | modelInServiceMsg a0 a1 => exact ⟨_, exec_is_modelInServiceMsg a0 a1 s⟩
  | linkReset => exact ⟨_, exec_is_linkReset s⟩
  | powerEstimatePeriod a0 => exact ⟨_, exec_is_powerEstimatePeriod a0 s⟩
  | thermalSample a0 => exact ⟨_, exec_is_thermalSample a0 s⟩
  | idleEnter => exact ⟨_, exec_is_idleEnter s⟩
  | powerEntryDrained => exact ⟨_, exec_is_powerEntryDrained s⟩
  | powerEntryTimeout => exact ⟨_, exec_is_powerEntryTimeout s⟩
  | wakeTimer => exact ⟨_, exec_is_wakeTimer s⟩
  | dmpWake a0 => exact ⟨_, exec_is_dmpWake a0 s⟩
  | wake => exact ⟨_, exec_is_wake s⟩
  | watchdogExpiry a0 => exact ⟨_, exec_is_watchdogExpiry a0 s⟩
  | processorRestart a0 => exact ⟨_, exec_is_processorRestart a0 s⟩
  | supervisorRestored => exact ⟨_, exec_is_supervisorRestored s⟩
  | fwpRingCfgWrite a0 => exact ⟨_, exec_is_fwpRingCfgWrite a0 s⟩
  | fwpCmdTailWrite a0 => exact ⟨_, exec_is_fwpCmdTailWrite a0 s⟩
  | activateDrainTimeout => exact ⟨_, exec_is_activateDrainTimeout s⟩
  | probationPass => exact ⟨_, exec_is_probationPass s⟩
  | commitDone => exact ⟨_, exec_is_commitDone s⟩
  | keySessionLapse a0 => exact ⟨_, exec_is_keySessionLapse a0 s⟩
  | confOfferLapse => exact ⟨_, exec_is_confOfferLapse s⟩
  | confSessionIdle => exact ⟨_, exec_is_confSessionIdle s⟩
  | rngHealthFail => exact ⟨_, exec_is_rngHealthFail s⟩
  | trackerEntryExpire => exact ⟨_, exec_is_trackerEntryExpire s⟩
  | selftestPeriodic a0 a1 => exact ⟨_, exec_is_selftestPeriodic a0 a1 s⟩
  | powerCap => exact ⟨_, exec_is_powerCap s⟩
  | powerSplit => exact ⟨_, exec_is_powerSplit s⟩
  | boost => exact ⟨_, exec_is_boost s⟩
  | railLimit => exact ⟨_, exec_is_railLimit s⟩
  | powerState => exact ⟨_, exec_is_powerState s⟩
  | shelfPower => exact ⟨_, exec_is_shelfPower s⟩
  | powerInfo => exact ⟨_, exec_is_powerInfo s⟩
  | thermalCfg => exact ⟨_, exec_is_thermalCfg s⟩
  | secIdentity => exact ⟨_, exec_is_secIdentity s⟩
  | secAttest => exact ⟨_, exec_is_secAttest s⟩
  | secKeySession => exact ⟨_, exec_is_secKeySession s⟩
  | secKeyRelease a0 a1 => exact ⟨_, exec_is_secKeyRelease a0 a1 s⟩
  | secKeyErase => exact ⟨_, exec_is_secKeyErase s⟩
  | secConfOpen => exact ⟨_, exec_is_secConfOpen s⟩
  | secConfAccept => exact ⟨_, exec_is_secConfAccept s⟩
  | secConfClose => exact ⟨_, exec_is_secConfClose s⟩
  | secRollback a0 => exact ⟨_, exec_is_secRollback a0 s⟩
  | fwInfo => exact ⟨_, exec_is_fwInfo s⟩
  | drvHello => exact ⟨_, exec_is_drvHello s⟩
  | dataStart => exact ⟨_, exec_is_dataStart s⟩
  | dataStop => exact ⟨_, exec_is_dataStop s⟩
  | tickConfig => exact ⟨_, exec_is_tickConfig s⟩
  | tenantConfig => exact ⟨_, exec_is_tenantConfig s⟩
  | tenantWindow => exact ⟨_, exec_is_tenantWindow s⟩
  | tenantTeardown => exact ⟨_, exec_is_tenantTeardown s⟩
  | watchdog => exact ⟨_, exec_is_watchdog s⟩
  | fwStage a0 => exact ⟨_, exec_is_fwStage a0 s⟩
  | fwActivate a0 => exact ⟨_, exec_is_fwActivate a0 s⟩
  | fwStatus => exact ⟨_, exec_is_fwStatus s⟩
  | memInfo => exact ⟨_, exec_is_memInfo s⟩
  | memRetrain => exact ⟨_, exec_is_memRetrain s⟩
  | memPprHard => exact ⟨_, exec_is_memPprHard s⟩
  | flashFormat a0 => exact ⟨_, exec_is_flashFormat a0 s⟩
  | flashInfo => exact ⟨_, exec_is_flashInfo s⟩
  | camPortConfig => exact ⟨_, exec_is_camPortConfig s⟩
  | camXfer a0 => exact ⟨_, exec_is_camXfer a0 s⟩
  | camDaa a0 => exact ⟨_, exec_is_camDaa a0 s⟩
  | camStatus a0 => exact ⟨_, exec_is_camStatus a0 s⟩
  | fabStatus => exact ⟨_, exec_is_fabStatus s⟩
  | fabSetId => exact ⟨_, exec_is_fabSetId s⟩
  | fabRoute => exact ⟨_, exec_is_fabRoute s⟩
  | linkPortDisable => exact ⟨_, exec_is_linkPortDisable s⟩
  | linkPortEnable => exact ⟨_, exec_is_linkPortEnable s⟩
  | linkPortRetrain => exact ⟨_, exec_is_linkPortRetrain s⟩
  | rasInfo => exact ⟨_, exec_is_rasInfo s⟩
  | rasLog => exact ⟨_, exec_is_rasLog s⟩
  | rasSelftest a0 a1 => exact ⟨_, exec_is_rasSelftest a0 a1 s⟩
  | powerUp => exact absurd h Bool.noConfusion
  | firmwareSramUncorrectable a0 a1 => exact ⟨_, exec_is_firmwareSramUncorrectable a0 a1 s⟩
  | csiHeaderUncorrectable a0 => exact ⟨_, exec_is_csiHeaderUncorrectable a0 s⟩
  | jtagTapReset => exact absurd h Bool.noConfusion
  | jtagInstruction _ => exact absurd h Bool.noConfusion

end Sys2Proof.Machine
end

