-- ==== Sys2Proof/Laws/State.lean ====
section
/-! SUPPORT. One lemma for each field of the die and each shared update of it: what the update leaves alone, and the one part
it writes. With them no proof unfolds a record update. -/

namespace Sys2Proof.Machine

/-! ### A register word -/

@[simp] theorem Die.regs_setReg (d : Die) (a : Nat) (w : Word) : (d.setReg a w).regs = SMap.put resetOf d.regs a w := rfl
@[simp] theorem Die.latch_setReg (d : Die) (a : Nat) (w : Word) : (d.setReg a w).latch = d.latch := rfl
@[simp] theorem Die.heldLo_setReg (d : Die) (a : Nat) (w : Word) : (d.setReg a w).heldLo = d.heldLo := rfl
@[simp] theorem Die.refclk_setReg (d : Die) (a : Nat) (w : Word) : (d.setReg a w).refclk = d.refclk := rfl
@[simp] theorem Die.firing_setReg (d : Die) (a : Nat) (w : Word) : (d.setReg a w).firing = d.firing := rfl
@[simp] theorem Die.sb_setReg (d : Die) (a : Nat) (w : Word) : (d.setReg a w).sb = d.sb := rfl
@[simp] theorem Die.queues_setReg (d : Die) (a : Nat) (w : Word) : (d.setReg a w).queues = d.queues := rfl
@[simp] theorem Die.sched_setReg (d : Die) (a : Nat) (w : Word) : (d.setReg a w).sched = d.sched := rfl
@[simp] theorem Die.shelf_setReg (d : Die) (a : Nat) (w : Word) : (d.setReg a w).shelf = d.shelf := rfl
@[simp] theorem Die.kiln_setReg (d : Die) (a : Nat) (w : Word) : (d.setReg a w).kiln = d.kiln := rfl
@[simp] theorem Die.wheel_setReg (d : Die) (a : Nat) (w : Word) : (d.setReg a w).wheel = d.wheel := rfl
@[simp] theorem Die.serving_setReg (d : Die) (a : Nat) (w : Word) : (d.setReg a w).serving = d.serving := rfl
@[simp] theorem Die.tier_setReg (d : Die) (a : Nat) (w : Word) : (d.setReg a w).tier = d.tier := rfl
@[simp] theorem Die.dmc_setReg (d : Die) (a : Nat) (w : Word) : (d.setReg a w).dmc = d.dmc := rfl
@[simp] theorem Die.nand_setReg (d : Die) (a : Nat) (w : Word) : (d.setReg a w).nand = d.nand := rfl
@[simp] theorem Die.repairLog_setReg (d : Die) (a : Nat) (w : Word) : (d.setReg a w).repairLog = d.repairLog := rfl
@[simp] theorem Die.far_setReg (d : Die) (a : Nat) (w : Word) : (d.setReg a w).far = d.far := rfl
@[simp] theorem Die.link_setReg (d : Die) (a : Nat) (w : Word) : (d.setReg a w).link = d.link := rfl
@[simp] theorem Die.ife_setReg (d : Die) (a : Nat) (w : Word) : (d.setReg a w).ife = d.ife := rfl
@[simp] theorem Die.models_setReg (d : Die) (a : Nat) (w : Word) : (d.setReg a w).models = d.models := rfl
@[simp] theorem Die.plans_setReg (d : Die) (a : Nat) (w : Word) : (d.setReg a w).plans = d.plans := rfl
@[simp] theorem Die.scrubEvery_setReg (d : Die) (a : Nat) (w : Word) : (d.setReg a w).scrubEvery = d.scrubEvery := rfl
@[simp] theorem Die.scrubRate_setReg (d : Die) (a : Nat) (w : Word) : (d.setReg a w).scrubRate = d.scrubRate := rfl
@[simp] theorem Die.fw_setReg (d : Die) (a : Nat) (w : Word) : (d.setReg a w).fw = d.fw := rfl
@[simp] theorem Die.spi_setReg (d : Die) (a : Nat) (w : Word) : (d.setReg a w).spi = d.spi := rfl
@[simp] theorem Die.damper_setReg (d : Die) (a : Nat) (w : Word) : (d.setReg a w).damper = d.damper := rfl
@[simp] theorem Die.saggar_setReg (d : Die) (a : Nat) (w : Word) : (d.setReg a w).saggar = d.saggar := rfl
@[simp] theorem Die.nv_setReg (d : Die) (a : Nat) (w : Word) : (d.setReg a w).nv = d.nv := rfl
@[simp] theorem Die.ras_setReg (d : Die) (a : Nat) (w : Word) : (d.setReg a w).ras = d.ras := rfl
@[simp] theorem Die.epochDue_setReg (d : Die) (a : Nat) (w : Word) : (d.setReg a w).epochDue = d.epochDue := rfl
@[simp] theorem Die.track_setReg (d : Die) (a : Nat) (w : Word) : (d.setReg a w).track = d.track := rfl
@[simp] theorem Die.owed_setReg (d : Die) (a : Nat) (w : Word) : (d.setReg a w).owed = d.owed := rfl
@[simp] theorem Die.cycle_setReg (d : Die) (a : Nat) (w : Word) : (d.setReg a w).cycle = d.cycle := rfl
@[simp] theorem Die.freeCtr_setReg (d : Die) (a : Nat) (w : Word) : (d.setReg a w).freeCtr = d.freeCtr := rfl
@[simp] theorem Die.out_setReg (d : Die) (a : Nat) (w : Word) : (d.setReg a w).out = d.out := rfl
@[simp] theorem Die.bus_setReg (d : Die) (a : Nat) (w : Word) : (d.setReg a w).bus = d.bus := rfl

/-! ### A register field -/

@[simp] theorem Die.regs_setRf (d : Die) (a hi lo v : Nat) : (d.setRf a hi lo v).regs = SMap.put resetOf d.regs a ((d.reg a).setF hi lo v) := rfl
@[simp] theorem Die.latch_setRf (d : Die) (a hi lo v : Nat) : (d.setRf a hi lo v).latch = d.latch := rfl
@[simp] theorem Die.heldLo_setRf (d : Die) (a hi lo v : Nat) : (d.setRf a hi lo v).heldLo = d.heldLo := rfl
@[simp] theorem Die.refclk_setRf (d : Die) (a hi lo v : Nat) : (d.setRf a hi lo v).refclk = d.refclk := rfl
@[simp] theorem Die.firing_setRf (d : Die) (a hi lo v : Nat) : (d.setRf a hi lo v).firing = d.firing := rfl
@[simp] theorem Die.sb_setRf (d : Die) (a hi lo v : Nat) : (d.setRf a hi lo v).sb = d.sb := rfl
@[simp] theorem Die.queues_setRf (d : Die) (a hi lo v : Nat) : (d.setRf a hi lo v).queues = d.queues := rfl
@[simp] theorem Die.sched_setRf (d : Die) (a hi lo v : Nat) : (d.setRf a hi lo v).sched = d.sched := rfl
@[simp] theorem Die.shelf_setRf (d : Die) (a hi lo v : Nat) : (d.setRf a hi lo v).shelf = d.shelf := rfl
@[simp] theorem Die.kiln_setRf (d : Die) (a hi lo v : Nat) : (d.setRf a hi lo v).kiln = d.kiln := rfl
@[simp] theorem Die.wheel_setRf (d : Die) (a hi lo v : Nat) : (d.setRf a hi lo v).wheel = d.wheel := rfl
@[simp] theorem Die.serving_setRf (d : Die) (a hi lo v : Nat) : (d.setRf a hi lo v).serving = d.serving := rfl
@[simp] theorem Die.tier_setRf (d : Die) (a hi lo v : Nat) : (d.setRf a hi lo v).tier = d.tier := rfl
@[simp] theorem Die.dmc_setRf (d : Die) (a hi lo v : Nat) : (d.setRf a hi lo v).dmc = d.dmc := rfl
@[simp] theorem Die.nand_setRf (d : Die) (a hi lo v : Nat) : (d.setRf a hi lo v).nand = d.nand := rfl
@[simp] theorem Die.repairLog_setRf (d : Die) (a hi lo v : Nat) : (d.setRf a hi lo v).repairLog = d.repairLog := rfl
@[simp] theorem Die.far_setRf (d : Die) (a hi lo v : Nat) : (d.setRf a hi lo v).far = d.far := rfl
@[simp] theorem Die.link_setRf (d : Die) (a hi lo v : Nat) : (d.setRf a hi lo v).link = d.link := rfl
@[simp] theorem Die.ife_setRf (d : Die) (a hi lo v : Nat) : (d.setRf a hi lo v).ife = d.ife := rfl
@[simp] theorem Die.models_setRf (d : Die) (a hi lo v : Nat) : (d.setRf a hi lo v).models = d.models := rfl
@[simp] theorem Die.plans_setRf (d : Die) (a hi lo v : Nat) : (d.setRf a hi lo v).plans = d.plans := rfl
@[simp] theorem Die.scrubEvery_setRf (d : Die) (a hi lo v : Nat) : (d.setRf a hi lo v).scrubEvery = d.scrubEvery := rfl
@[simp] theorem Die.scrubRate_setRf (d : Die) (a hi lo v : Nat) : (d.setRf a hi lo v).scrubRate = d.scrubRate := rfl
@[simp] theorem Die.fw_setRf (d : Die) (a hi lo v : Nat) : (d.setRf a hi lo v).fw = d.fw := rfl
@[simp] theorem Die.spi_setRf (d : Die) (a hi lo v : Nat) : (d.setRf a hi lo v).spi = d.spi := rfl
@[simp] theorem Die.damper_setRf (d : Die) (a hi lo v : Nat) : (d.setRf a hi lo v).damper = d.damper := rfl
@[simp] theorem Die.saggar_setRf (d : Die) (a hi lo v : Nat) : (d.setRf a hi lo v).saggar = d.saggar := rfl
@[simp] theorem Die.nv_setRf (d : Die) (a hi lo v : Nat) : (d.setRf a hi lo v).nv = d.nv := rfl
@[simp] theorem Die.ras_setRf (d : Die) (a hi lo v : Nat) : (d.setRf a hi lo v).ras = d.ras := rfl
@[simp] theorem Die.epochDue_setRf (d : Die) (a hi lo v : Nat) : (d.setRf a hi lo v).epochDue = d.epochDue := rfl
@[simp] theorem Die.track_setRf (d : Die) (a hi lo v : Nat) : (d.setRf a hi lo v).track = d.track := rfl
@[simp] theorem Die.owed_setRf (d : Die) (a hi lo v : Nat) : (d.setRf a hi lo v).owed = d.owed := rfl
@[simp] theorem Die.cycle_setRf (d : Die) (a hi lo v : Nat) : (d.setRf a hi lo v).cycle = d.cycle := rfl
@[simp] theorem Die.freeCtr_setRf (d : Die) (a hi lo v : Nat) : (d.setRf a hi lo v).freeCtr = d.freeCtr := rfl
@[simp] theorem Die.out_setRf (d : Die) (a hi lo v : Nat) : (d.setRf a hi lo v).out = d.out := rfl
@[simp] theorem Die.bus_setRf (d : Die) (a hi lo v : Nat) : (d.setRf a hi lo v).bus = d.bus := rfl

/-! ### A counting register -/

@[simp] theorem Die.regs_count (d : Die) (a n : Nat) : (d.count a n).regs = SMap.put resetOf d.regs a (satAdd32 (d.reg a) n) := rfl
@[simp] theorem Die.latch_count (d : Die) (a n : Nat) : (d.count a n).latch = d.latch := rfl
@[simp] theorem Die.heldLo_count (d : Die) (a n : Nat) : (d.count a n).heldLo = d.heldLo := rfl
@[simp] theorem Die.refclk_count (d : Die) (a n : Nat) : (d.count a n).refclk = d.refclk := rfl
@[simp] theorem Die.firing_count (d : Die) (a n : Nat) : (d.count a n).firing = d.firing := rfl
@[simp] theorem Die.sb_count (d : Die) (a n : Nat) : (d.count a n).sb = d.sb := rfl
@[simp] theorem Die.queues_count (d : Die) (a n : Nat) : (d.count a n).queues = d.queues := rfl
@[simp] theorem Die.sched_count (d : Die) (a n : Nat) : (d.count a n).sched = d.sched := rfl
@[simp] theorem Die.shelf_count (d : Die) (a n : Nat) : (d.count a n).shelf = d.shelf := rfl
@[simp] theorem Die.kiln_count (d : Die) (a n : Nat) : (d.count a n).kiln = d.kiln := rfl
@[simp] theorem Die.wheel_count (d : Die) (a n : Nat) : (d.count a n).wheel = d.wheel := rfl
@[simp] theorem Die.serving_count (d : Die) (a n : Nat) : (d.count a n).serving = d.serving := rfl
@[simp] theorem Die.tier_count (d : Die) (a n : Nat) : (d.count a n).tier = d.tier := rfl
@[simp] theorem Die.dmc_count (d : Die) (a n : Nat) : (d.count a n).dmc = d.dmc := rfl
@[simp] theorem Die.nand_count (d : Die) (a n : Nat) : (d.count a n).nand = d.nand := rfl
@[simp] theorem Die.repairLog_count (d : Die) (a n : Nat) : (d.count a n).repairLog = d.repairLog := rfl
@[simp] theorem Die.far_count (d : Die) (a n : Nat) : (d.count a n).far = d.far := rfl
@[simp] theorem Die.link_count (d : Die) (a n : Nat) : (d.count a n).link = d.link := rfl
@[simp] theorem Die.ife_count (d : Die) (a n : Nat) : (d.count a n).ife = d.ife := rfl
@[simp] theorem Die.models_count (d : Die) (a n : Nat) : (d.count a n).models = d.models := rfl
@[simp] theorem Die.plans_count (d : Die) (a n : Nat) : (d.count a n).plans = d.plans := rfl
@[simp] theorem Die.scrubEvery_count (d : Die) (a n : Nat) : (d.count a n).scrubEvery = d.scrubEvery := rfl
@[simp] theorem Die.scrubRate_count (d : Die) (a n : Nat) : (d.count a n).scrubRate = d.scrubRate := rfl
@[simp] theorem Die.fw_count (d : Die) (a n : Nat) : (d.count a n).fw = d.fw := rfl
@[simp] theorem Die.spi_count (d : Die) (a n : Nat) : (d.count a n).spi = d.spi := rfl
@[simp] theorem Die.damper_count (d : Die) (a n : Nat) : (d.count a n).damper = d.damper := rfl
@[simp] theorem Die.saggar_count (d : Die) (a n : Nat) : (d.count a n).saggar = d.saggar := rfl
@[simp] theorem Die.nv_count (d : Die) (a n : Nat) : (d.count a n).nv = d.nv := rfl
@[simp] theorem Die.ras_count (d : Die) (a n : Nat) : (d.count a n).ras = d.ras := rfl
@[simp] theorem Die.epochDue_count (d : Die) (a n : Nat) : (d.count a n).epochDue = d.epochDue := rfl
@[simp] theorem Die.track_count (d : Die) (a n : Nat) : (d.count a n).track = d.track := rfl
@[simp] theorem Die.owed_count (d : Die) (a n : Nat) : (d.count a n).owed = d.owed := rfl
@[simp] theorem Die.cycle_count (d : Die) (a n : Nat) : (d.count a n).cycle = d.cycle := rfl
@[simp] theorem Die.freeCtr_count (d : Die) (a n : Nat) : (d.count a n).freeCtr = d.freeCtr := rfl
@[simp] theorem Die.out_count (d : Die) (a n : Nat) : (d.count a n).out = d.out := rfl
@[simp] theorem Die.bus_count (d : Die) (a n : Nat) : (d.count a n).bus = d.bus := rfl

/-! ### An event counter -/

@[simp] theorem Die.regs_setEvt (d : Die) (c v : Nat) : (d.setEvt c v).regs = SMap.put resetOf d.regs (Reg.SCH_EVENT c) (BitVec.ofNat 32 v) := rfl
@[simp] theorem Die.latch_setEvt (d : Die) (c v : Nat) : (d.setEvt c v).latch = d.latch := rfl
@[simp] theorem Die.heldLo_setEvt (d : Die) (c v : Nat) : (d.setEvt c v).heldLo = d.heldLo := rfl
@[simp] theorem Die.refclk_setEvt (d : Die) (c v : Nat) : (d.setEvt c v).refclk = d.refclk := rfl
@[simp] theorem Die.firing_setEvt (d : Die) (c v : Nat) : (d.setEvt c v).firing = d.firing := rfl
@[simp] theorem Die.sb_setEvt (d : Die) (c v : Nat) : (d.setEvt c v).sb = d.sb := rfl
@[simp] theorem Die.queues_setEvt (d : Die) (c v : Nat) : (d.setEvt c v).queues = d.queues := rfl
@[simp] theorem Die.sched_setEvt (d : Die) (c v : Nat) : (d.setEvt c v).sched = d.sched := rfl
@[simp] theorem Die.shelf_setEvt (d : Die) (c v : Nat) : (d.setEvt c v).shelf = d.shelf := rfl
@[simp] theorem Die.kiln_setEvt (d : Die) (c v : Nat) : (d.setEvt c v).kiln = d.kiln := rfl
@[simp] theorem Die.wheel_setEvt (d : Die) (c v : Nat) : (d.setEvt c v).wheel = d.wheel := rfl
@[simp] theorem Die.serving_setEvt (d : Die) (c v : Nat) : (d.setEvt c v).serving = d.serving := rfl
@[simp] theorem Die.tier_setEvt (d : Die) (c v : Nat) : (d.setEvt c v).tier = d.tier := rfl
@[simp] theorem Die.dmc_setEvt (d : Die) (c v : Nat) : (d.setEvt c v).dmc = d.dmc := rfl
@[simp] theorem Die.nand_setEvt (d : Die) (c v : Nat) : (d.setEvt c v).nand = d.nand := rfl
@[simp] theorem Die.repairLog_setEvt (d : Die) (c v : Nat) : (d.setEvt c v).repairLog = d.repairLog := rfl
@[simp] theorem Die.far_setEvt (d : Die) (c v : Nat) : (d.setEvt c v).far = d.far := rfl
@[simp] theorem Die.link_setEvt (d : Die) (c v : Nat) : (d.setEvt c v).link = d.link := rfl
@[simp] theorem Die.ife_setEvt (d : Die) (c v : Nat) : (d.setEvt c v).ife = d.ife := rfl
@[simp] theorem Die.models_setEvt (d : Die) (c v : Nat) : (d.setEvt c v).models = d.models := rfl
@[simp] theorem Die.plans_setEvt (d : Die) (c v : Nat) : (d.setEvt c v).plans = d.plans := rfl
@[simp] theorem Die.scrubEvery_setEvt (d : Die) (c v : Nat) : (d.setEvt c v).scrubEvery = d.scrubEvery := rfl
@[simp] theorem Die.scrubRate_setEvt (d : Die) (c v : Nat) : (d.setEvt c v).scrubRate = d.scrubRate := rfl
@[simp] theorem Die.fw_setEvt (d : Die) (c v : Nat) : (d.setEvt c v).fw = d.fw := rfl
@[simp] theorem Die.spi_setEvt (d : Die) (c v : Nat) : (d.setEvt c v).spi = d.spi := rfl
@[simp] theorem Die.damper_setEvt (d : Die) (c v : Nat) : (d.setEvt c v).damper = d.damper := rfl
@[simp] theorem Die.saggar_setEvt (d : Die) (c v : Nat) : (d.setEvt c v).saggar = d.saggar := rfl
@[simp] theorem Die.nv_setEvt (d : Die) (c v : Nat) : (d.setEvt c v).nv = d.nv := rfl
@[simp] theorem Die.ras_setEvt (d : Die) (c v : Nat) : (d.setEvt c v).ras = d.ras := rfl
@[simp] theorem Die.epochDue_setEvt (d : Die) (c v : Nat) : (d.setEvt c v).epochDue = d.epochDue := rfl
@[simp] theorem Die.track_setEvt (d : Die) (c v : Nat) : (d.setEvt c v).track = d.track := rfl
@[simp] theorem Die.owed_setEvt (d : Die) (c v : Nat) : (d.setEvt c v).owed = d.owed := rfl
@[simp] theorem Die.cycle_setEvt (d : Die) (c v : Nat) : (d.setEvt c v).cycle = d.cycle := rfl
@[simp] theorem Die.freeCtr_setEvt (d : Die) (c v : Nat) : (d.setEvt c v).freeCtr = d.freeCtr := rfl
@[simp] theorem Die.out_setEvt (d : Die) (c v : Nat) : (d.setEvt c v).out = d.out := rfl
@[simp] theorem Die.bus_setEvt (d : Die) (c v : Nat) : (d.setEvt c v).bus = d.bus := rfl

/-! ### A scoreboard entry -/

@[simp] theorem Die.regs_modEntry (d : Die) (slot : Nat) (f : Entry → Entry) : (d.modEntry slot f).regs = d.regs := rfl
@[simp] theorem Die.latch_modEntry (d : Die) (slot : Nat) (f : Entry → Entry) : (d.modEntry slot f).latch = d.latch := rfl
@[simp] theorem Die.heldLo_modEntry (d : Die) (slot : Nat) (f : Entry → Entry) : (d.modEntry slot f).heldLo = d.heldLo := rfl
@[simp] theorem Die.refclk_modEntry (d : Die) (slot : Nat) (f : Entry → Entry) : (d.modEntry slot f).refclk = d.refclk := rfl
@[simp] theorem Die.firing_modEntry (d : Die) (slot : Nat) (f : Entry → Entry) : (d.modEntry slot f).firing = d.firing := rfl
@[simp] theorem Die.sb_modEntry (d : Die) (slot : Nat) (f : Entry → Entry) : (d.modEntry slot f).sb = d.sb.map fun o => if o.slot = slot then f o else o := rfl
@[simp] theorem Die.queues_modEntry (d : Die) (slot : Nat) (f : Entry → Entry) : (d.modEntry slot f).queues = d.queues := rfl
@[simp] theorem Die.sched_modEntry (d : Die) (slot : Nat) (f : Entry → Entry) : (d.modEntry slot f).sched = d.sched := rfl
@[simp] theorem Die.shelf_modEntry (d : Die) (slot : Nat) (f : Entry → Entry) : (d.modEntry slot f).shelf = d.shelf := rfl
@[simp] theorem Die.kiln_modEntry (d : Die) (slot : Nat) (f : Entry → Entry) : (d.modEntry slot f).kiln = d.kiln := rfl
@[simp] theorem Die.wheel_modEntry (d : Die) (slot : Nat) (f : Entry → Entry) : (d.modEntry slot f).wheel = d.wheel := rfl
@[simp] theorem Die.serving_modEntry (d : Die) (slot : Nat) (f : Entry → Entry) : (d.modEntry slot f).serving = d.serving := rfl
@[simp] theorem Die.tier_modEntry (d : Die) (slot : Nat) (f : Entry → Entry) : (d.modEntry slot f).tier = d.tier := rfl
@[simp] theorem Die.dmc_modEntry (d : Die) (slot : Nat) (f : Entry → Entry) : (d.modEntry slot f).dmc = d.dmc := rfl
@[simp] theorem Die.nand_modEntry (d : Die) (slot : Nat) (f : Entry → Entry) : (d.modEntry slot f).nand = d.nand := rfl
@[simp] theorem Die.repairLog_modEntry (d : Die) (slot : Nat) (f : Entry → Entry) : (d.modEntry slot f).repairLog = d.repairLog := rfl
@[simp] theorem Die.far_modEntry (d : Die) (slot : Nat) (f : Entry → Entry) : (d.modEntry slot f).far = d.far := rfl
@[simp] theorem Die.link_modEntry (d : Die) (slot : Nat) (f : Entry → Entry) : (d.modEntry slot f).link = d.link := rfl
@[simp] theorem Die.ife_modEntry (d : Die) (slot : Nat) (f : Entry → Entry) : (d.modEntry slot f).ife = d.ife := rfl
@[simp] theorem Die.models_modEntry (d : Die) (slot : Nat) (f : Entry → Entry) : (d.modEntry slot f).models = d.models := rfl
@[simp] theorem Die.plans_modEntry (d : Die) (slot : Nat) (f : Entry → Entry) : (d.modEntry slot f).plans = d.plans := rfl
@[simp] theorem Die.scrubEvery_modEntry (d : Die) (slot : Nat) (f : Entry → Entry) : (d.modEntry slot f).scrubEvery = d.scrubEvery := rfl
@[simp] theorem Die.scrubRate_modEntry (d : Die) (slot : Nat) (f : Entry → Entry) : (d.modEntry slot f).scrubRate = d.scrubRate := rfl
@[simp] theorem Die.fw_modEntry (d : Die) (slot : Nat) (f : Entry → Entry) : (d.modEntry slot f).fw = d.fw := rfl
@[simp] theorem Die.spi_modEntry (d : Die) (slot : Nat) (f : Entry → Entry) : (d.modEntry slot f).spi = d.spi := rfl
@[simp] theorem Die.damper_modEntry (d : Die) (slot : Nat) (f : Entry → Entry) : (d.modEntry slot f).damper = d.damper := rfl
@[simp] theorem Die.saggar_modEntry (d : Die) (slot : Nat) (f : Entry → Entry) : (d.modEntry slot f).saggar = d.saggar := rfl
@[simp] theorem Die.nv_modEntry (d : Die) (slot : Nat) (f : Entry → Entry) : (d.modEntry slot f).nv = d.nv := rfl
@[simp] theorem Die.ras_modEntry (d : Die) (slot : Nat) (f : Entry → Entry) : (d.modEntry slot f).ras = d.ras := rfl
@[simp] theorem Die.epochDue_modEntry (d : Die) (slot : Nat) (f : Entry → Entry) : (d.modEntry slot f).epochDue = d.epochDue := rfl
@[simp] theorem Die.track_modEntry (d : Die) (slot : Nat) (f : Entry → Entry) : (d.modEntry slot f).track = d.track := rfl
@[simp] theorem Die.owed_modEntry (d : Die) (slot : Nat) (f : Entry → Entry) : (d.modEntry slot f).owed = d.owed := rfl
@[simp] theorem Die.cycle_modEntry (d : Die) (slot : Nat) (f : Entry → Entry) : (d.modEntry slot f).cycle = d.cycle := rfl
@[simp] theorem Die.freeCtr_modEntry (d : Die) (slot : Nat) (f : Entry → Entry) : (d.modEntry slot f).freeCtr = d.freeCtr := rfl
@[simp] theorem Die.out_modEntry (d : Die) (slot : Nat) (f : Entry → Entry) : (d.modEntry slot f).out = d.out := rfl
@[simp] theorem Die.bus_modEntry (d : Die) (slot : Nat) (f : Entry → Entry) : (d.modEntry slot f).bus = d.bus := rfl

/-! ### The end of a descriptor -/

@[simp] theorem Die.regs_finish (d : Die) (slot st fl r0 r1 cause : Nat) : (d.finish slot st fl r0 r1 cause).regs = d.regs := rfl
@[simp] theorem Die.latch_finish (d : Die) (slot st fl r0 r1 cause : Nat) : (d.finish slot st fl r0 r1 cause).latch = d.latch := rfl
@[simp] theorem Die.heldLo_finish (d : Die) (slot st fl r0 r1 cause : Nat) : (d.finish slot st fl r0 r1 cause).heldLo = d.heldLo := rfl
@[simp] theorem Die.refclk_finish (d : Die) (slot st fl r0 r1 cause : Nat) : (d.finish slot st fl r0 r1 cause).refclk = d.refclk := rfl
@[simp] theorem Die.firing_finish (d : Die) (slot st fl r0 r1 cause : Nat) : (d.finish slot st fl r0 r1 cause).firing = d.firing := rfl
@[simp] theorem Die.queues_finish (d : Die) (slot st fl r0 r1 cause : Nat) : (d.finish slot st fl r0 r1 cause).queues = d.queues := rfl
@[simp] theorem Die.sched_finish (d : Die) (slot st fl r0 r1 cause : Nat) : (d.finish slot st fl r0 r1 cause).sched = d.sched := rfl
@[simp] theorem Die.shelf_finish (d : Die) (slot st fl r0 r1 cause : Nat) : (d.finish slot st fl r0 r1 cause).shelf = d.shelf := rfl
@[simp] theorem Die.kiln_finish (d : Die) (slot st fl r0 r1 cause : Nat) : (d.finish slot st fl r0 r1 cause).kiln = d.kiln := rfl
@[simp] theorem Die.wheel_finish (d : Die) (slot st fl r0 r1 cause : Nat) : (d.finish slot st fl r0 r1 cause).wheel = d.wheel := rfl
@[simp] theorem Die.serving_finish (d : Die) (slot st fl r0 r1 cause : Nat) : (d.finish slot st fl r0 r1 cause).serving = d.serving := rfl
@[simp] theorem Die.tier_finish (d : Die) (slot st fl r0 r1 cause : Nat) : (d.finish slot st fl r0 r1 cause).tier = d.tier := rfl
@[simp] theorem Die.dmc_finish (d : Die) (slot st fl r0 r1 cause : Nat) : (d.finish slot st fl r0 r1 cause).dmc = d.dmc := rfl
@[simp] theorem Die.nand_finish (d : Die) (slot st fl r0 r1 cause : Nat) : (d.finish slot st fl r0 r1 cause).nand = d.nand := rfl
@[simp] theorem Die.repairLog_finish (d : Die) (slot st fl r0 r1 cause : Nat) : (d.finish slot st fl r0 r1 cause).repairLog = d.repairLog := rfl
@[simp] theorem Die.far_finish (d : Die) (slot st fl r0 r1 cause : Nat) : (d.finish slot st fl r0 r1 cause).far = d.far := rfl
@[simp] theorem Die.link_finish (d : Die) (slot st fl r0 r1 cause : Nat) : (d.finish slot st fl r0 r1 cause).link = d.link := rfl
@[simp] theorem Die.ife_finish (d : Die) (slot st fl r0 r1 cause : Nat) : (d.finish slot st fl r0 r1 cause).ife = d.ife := rfl
@[simp] theorem Die.models_finish (d : Die) (slot st fl r0 r1 cause : Nat) : (d.finish slot st fl r0 r1 cause).models = d.models := rfl
@[simp] theorem Die.plans_finish (d : Die) (slot st fl r0 r1 cause : Nat) : (d.finish slot st fl r0 r1 cause).plans = d.plans := rfl
@[simp] theorem Die.scrubEvery_finish (d : Die) (slot st fl r0 r1 cause : Nat) : (d.finish slot st fl r0 r1 cause).scrubEvery = d.scrubEvery := rfl
@[simp] theorem Die.scrubRate_finish (d : Die) (slot st fl r0 r1 cause : Nat) : (d.finish slot st fl r0 r1 cause).scrubRate = d.scrubRate := rfl
@[simp] theorem Die.fw_finish (d : Die) (slot st fl r0 r1 cause : Nat) : (d.finish slot st fl r0 r1 cause).fw = d.fw := rfl
@[simp] theorem Die.spi_finish (d : Die) (slot st fl r0 r1 cause : Nat) : (d.finish slot st fl r0 r1 cause).spi = d.spi := rfl
@[simp] theorem Die.damper_finish (d : Die) (slot st fl r0 r1 cause : Nat) : (d.finish slot st fl r0 r1 cause).damper = d.damper := rfl
@[simp] theorem Die.saggar_finish (d : Die) (slot st fl r0 r1 cause : Nat) : (d.finish slot st fl r0 r1 cause).saggar = d.saggar := rfl
@[simp] theorem Die.nv_finish (d : Die) (slot st fl r0 r1 cause : Nat) : (d.finish slot st fl r0 r1 cause).nv = d.nv := rfl
@[simp] theorem Die.ras_finish (d : Die) (slot st fl r0 r1 cause : Nat) : (d.finish slot st fl r0 r1 cause).ras = d.ras := rfl
@[simp] theorem Die.epochDue_finish (d : Die) (slot st fl r0 r1 cause : Nat) : (d.finish slot st fl r0 r1 cause).epochDue = d.epochDue := rfl
@[simp] theorem Die.track_finish (d : Die) (slot st fl r0 r1 cause : Nat) : (d.finish slot st fl r0 r1 cause).track = d.track := rfl
@[simp] theorem Die.owed_finish (d : Die) (slot st fl r0 r1 cause : Nat) : (d.finish slot st fl r0 r1 cause).owed = d.owed := rfl
@[simp] theorem Die.cycle_finish (d : Die) (slot st fl r0 r1 cause : Nat) : (d.finish slot st fl r0 r1 cause).cycle = d.cycle := rfl
@[simp] theorem Die.freeCtr_finish (d : Die) (slot st fl r0 r1 cause : Nat) : (d.finish slot st fl r0 r1 cause).freeCtr = d.freeCtr := rfl
@[simp] theorem Die.out_finish (d : Die) (slot st fl r0 r1 cause : Nat) : (d.finish slot st fl r0 r1 cause).out = d.out := rfl
@[simp] theorem Die.bus_finish (d : Die) (slot st fl r0 r1 cause : Nat) : (d.finish slot st fl r0 r1 cause).bus = d.bus := rfl

/-! ### What the die drives out -/

@[simp] theorem Die.regs_emit (d : Die) (o : Out) : (d.emit o).regs = d.regs := rfl
@[simp] theorem Die.latch_emit (d : Die) (o : Out) : (d.emit o).latch = d.latch := rfl
@[simp] theorem Die.heldLo_emit (d : Die) (o : Out) : (d.emit o).heldLo = d.heldLo := rfl
@[simp] theorem Die.refclk_emit (d : Die) (o : Out) : (d.emit o).refclk = d.refclk := rfl
@[simp] theorem Die.firing_emit (d : Die) (o : Out) : (d.emit o).firing = d.firing := rfl
@[simp] theorem Die.sb_emit (d : Die) (o : Out) : (d.emit o).sb = d.sb := rfl
@[simp] theorem Die.queues_emit (d : Die) (o : Out) : (d.emit o).queues = d.queues := rfl
@[simp] theorem Die.sched_emit (d : Die) (o : Out) : (d.emit o).sched = d.sched := rfl
@[simp] theorem Die.shelf_emit (d : Die) (o : Out) : (d.emit o).shelf = d.shelf := rfl
@[simp] theorem Die.kiln_emit (d : Die) (o : Out) : (d.emit o).kiln = d.kiln := rfl
@[simp] theorem Die.wheel_emit (d : Die) (o : Out) : (d.emit o).wheel = d.wheel := rfl
@[simp] theorem Die.serving_emit (d : Die) (o : Out) : (d.emit o).serving = d.serving := rfl
@[simp] theorem Die.tier_emit (d : Die) (o : Out) : (d.emit o).tier = d.tier := rfl
@[simp] theorem Die.dmc_emit (d : Die) (o : Out) : (d.emit o).dmc = d.dmc := rfl
@[simp] theorem Die.nand_emit (d : Die) (o : Out) : (d.emit o).nand = d.nand := rfl
@[simp] theorem Die.repairLog_emit (d : Die) (o : Out) : (d.emit o).repairLog = d.repairLog := rfl
@[simp] theorem Die.far_emit (d : Die) (o : Out) : (d.emit o).far = d.far := rfl
@[simp] theorem Die.link_emit (d : Die) (o : Out) : (d.emit o).link = d.link := rfl
@[simp] theorem Die.ife_emit (d : Die) (o : Out) : (d.emit o).ife = d.ife := rfl
@[simp] theorem Die.models_emit (d : Die) (o : Out) : (d.emit o).models = d.models := rfl
@[simp] theorem Die.plans_emit (d : Die) (o : Out) : (d.emit o).plans = d.plans := rfl
@[simp] theorem Die.scrubEvery_emit (d : Die) (o : Out) : (d.emit o).scrubEvery = d.scrubEvery := rfl
@[simp] theorem Die.scrubRate_emit (d : Die) (o : Out) : (d.emit o).scrubRate = d.scrubRate := rfl
@[simp] theorem Die.fw_emit (d : Die) (o : Out) : (d.emit o).fw = d.fw := rfl
@[simp] theorem Die.spi_emit (d : Die) (o : Out) : (d.emit o).spi = d.spi := rfl
@[simp] theorem Die.damper_emit (d : Die) (o : Out) : (d.emit o).damper = d.damper := rfl
@[simp] theorem Die.saggar_emit (d : Die) (o : Out) : (d.emit o).saggar = d.saggar := rfl
@[simp] theorem Die.nv_emit (d : Die) (o : Out) : (d.emit o).nv = d.nv := rfl
@[simp] theorem Die.ras_emit (d : Die) (o : Out) : (d.emit o).ras = d.ras := rfl
@[simp] theorem Die.epochDue_emit (d : Die) (o : Out) : (d.emit o).epochDue = d.epochDue := rfl
@[simp] theorem Die.track_emit (d : Die) (o : Out) : (d.emit o).track = d.track := rfl
@[simp] theorem Die.owed_emit (d : Die) (o : Out) : (d.emit o).owed = d.owed := rfl
@[simp] theorem Die.cycle_emit (d : Die) (o : Out) : (d.emit o).cycle = d.cycle := rfl
@[simp] theorem Die.freeCtr_emit (d : Die) (o : Out) : (d.emit o).freeCtr = d.freeCtr := rfl
@[simp] theorem Die.out_emit (d : Die) (o : Out) : (d.emit o).out = o :: d.out := rfl
@[simp] theorem Die.bus_emit (d : Die) (o : Out) : (d.emit o).bus = d.bus := rfl

/-! ### An accumulator row -/

@[simp] theorem Die.regs_setAcc (d : Die) (r : Nat) (x : AccRow) : (d.setAcc r x).regs = d.regs := rfl
@[simp] theorem Die.latch_setAcc (d : Die) (r : Nat) (x : AccRow) : (d.setAcc r x).latch = d.latch := rfl
@[simp] theorem Die.heldLo_setAcc (d : Die) (r : Nat) (x : AccRow) : (d.setAcc r x).heldLo = d.heldLo := rfl
@[simp] theorem Die.refclk_setAcc (d : Die) (r : Nat) (x : AccRow) : (d.setAcc r x).refclk = d.refclk := rfl
@[simp] theorem Die.firing_setAcc (d : Die) (r : Nat) (x : AccRow) : (d.setAcc r x).firing = d.firing := rfl
@[simp] theorem Die.sb_setAcc (d : Die) (r : Nat) (x : AccRow) : (d.setAcc r x).sb = d.sb := rfl
@[simp] theorem Die.queues_setAcc (d : Die) (r : Nat) (x : AccRow) : (d.setAcc r x).queues = d.queues := rfl
@[simp] theorem Die.sched_setAcc (d : Die) (r : Nat) (x : AccRow) : (d.setAcc r x).sched = d.sched := rfl
@[simp] theorem Die.shelf_setAcc (d : Die) (r : Nat) (x : AccRow) : (d.setAcc r x).shelf = d.shelf := rfl
@[simp] theorem Die.kiln_setAcc (d : Die) (r : Nat) (x : AccRow) : (d.setAcc r x).kiln = { d.kiln with acc := SMap.put (fun _ => AccRow.powerUp) d.kiln.acc r x } := rfl
@[simp] theorem Die.wheel_setAcc (d : Die) (r : Nat) (x : AccRow) : (d.setAcc r x).wheel = d.wheel := rfl
@[simp] theorem Die.serving_setAcc (d : Die) (r : Nat) (x : AccRow) : (d.setAcc r x).serving = d.serving := rfl
@[simp] theorem Die.tier_setAcc (d : Die) (r : Nat) (x : AccRow) : (d.setAcc r x).tier = d.tier := rfl
@[simp] theorem Die.dmc_setAcc (d : Die) (r : Nat) (x : AccRow) : (d.setAcc r x).dmc = d.dmc := rfl
@[simp] theorem Die.nand_setAcc (d : Die) (r : Nat) (x : AccRow) : (d.setAcc r x).nand = d.nand := rfl
@[simp] theorem Die.repairLog_setAcc (d : Die) (r : Nat) (x : AccRow) : (d.setAcc r x).repairLog = d.repairLog := rfl
@[simp] theorem Die.far_setAcc (d : Die) (r : Nat) (x : AccRow) : (d.setAcc r x).far = d.far := rfl
@[simp] theorem Die.link_setAcc (d : Die) (r : Nat) (x : AccRow) : (d.setAcc r x).link = d.link := rfl
@[simp] theorem Die.ife_setAcc (d : Die) (r : Nat) (x : AccRow) : (d.setAcc r x).ife = d.ife := rfl
@[simp] theorem Die.models_setAcc (d : Die) (r : Nat) (x : AccRow) : (d.setAcc r x).models = d.models := rfl
@[simp] theorem Die.plans_setAcc (d : Die) (r : Nat) (x : AccRow) : (d.setAcc r x).plans = d.plans := rfl
@[simp] theorem Die.scrubEvery_setAcc (d : Die) (r : Nat) (x : AccRow) : (d.setAcc r x).scrubEvery = d.scrubEvery := rfl
@[simp] theorem Die.scrubRate_setAcc (d : Die) (r : Nat) (x : AccRow) : (d.setAcc r x).scrubRate = d.scrubRate := rfl
@[simp] theorem Die.fw_setAcc (d : Die) (r : Nat) (x : AccRow) : (d.setAcc r x).fw = d.fw := rfl
@[simp] theorem Die.spi_setAcc (d : Die) (r : Nat) (x : AccRow) : (d.setAcc r x).spi = d.spi := rfl
@[simp] theorem Die.damper_setAcc (d : Die) (r : Nat) (x : AccRow) : (d.setAcc r x).damper = d.damper := rfl
@[simp] theorem Die.saggar_setAcc (d : Die) (r : Nat) (x : AccRow) : (d.setAcc r x).saggar = d.saggar := rfl
@[simp] theorem Die.nv_setAcc (d : Die) (r : Nat) (x : AccRow) : (d.setAcc r x).nv = d.nv := rfl
@[simp] theorem Die.ras_setAcc (d : Die) (r : Nat) (x : AccRow) : (d.setAcc r x).ras = d.ras := rfl
@[simp] theorem Die.epochDue_setAcc (d : Die) (r : Nat) (x : AccRow) : (d.setAcc r x).epochDue = d.epochDue := rfl
@[simp] theorem Die.track_setAcc (d : Die) (r : Nat) (x : AccRow) : (d.setAcc r x).track = d.track := rfl
@[simp] theorem Die.owed_setAcc (d : Die) (r : Nat) (x : AccRow) : (d.setAcc r x).owed = d.owed := rfl
@[simp] theorem Die.cycle_setAcc (d : Die) (r : Nat) (x : AccRow) : (d.setAcc r x).cycle = d.cycle := rfl
@[simp] theorem Die.freeCtr_setAcc (d : Die) (r : Nat) (x : AccRow) : (d.setAcc r x).freeCtr = d.freeCtr := rfl
@[simp] theorem Die.out_setAcc (d : Die) (r : Nat) (x : AccRow) : (d.setAcc r x).out = d.out := rfl
@[simp] theorem Die.bus_setAcc (d : Die) (r : Nat) (x : AccRow) : (d.setAcc r x).bus = d.bus := rfl

/-! ### A page-table entry -/

@[simp] theorem Die.regs_setPte (d : Die) (page : Nat) (x : BitVec 128) : (d.setPte page x).regs = d.regs := rfl
@[simp] theorem Die.latch_setPte (d : Die) (page : Nat) (x : BitVec 128) : (d.setPte page x).latch = d.latch := rfl
@[simp] theorem Die.heldLo_setPte (d : Die) (page : Nat) (x : BitVec 128) : (d.setPte page x).heldLo = d.heldLo := rfl
@[simp] theorem Die.refclk_setPte (d : Die) (page : Nat) (x : BitVec 128) : (d.setPte page x).refclk = d.refclk := rfl
@[simp] theorem Die.firing_setPte (d : Die) (page : Nat) (x : BitVec 128) : (d.setPte page x).firing = d.firing := rfl
@[simp] theorem Die.sb_setPte (d : Die) (page : Nat) (x : BitVec 128) : (d.setPte page x).sb = d.sb := rfl
@[simp] theorem Die.queues_setPte (d : Die) (page : Nat) (x : BitVec 128) : (d.setPte page x).queues = d.queues := rfl
@[simp] theorem Die.sched_setPte (d : Die) (page : Nat) (x : BitVec 128) : (d.setPte page x).sched = d.sched := rfl
@[simp] theorem Die.shelf_setPte (d : Die) (page : Nat) (x : BitVec 128) : (d.setPte page x).shelf = d.shelf := rfl
@[simp] theorem Die.kiln_setPte (d : Die) (page : Nat) (x : BitVec 128) : (d.setPte page x).kiln = d.kiln := rfl
@[simp] theorem Die.wheel_setPte (d : Die) (page : Nat) (x : BitVec 128) : (d.setPte page x).wheel = d.wheel := rfl
@[simp] theorem Die.serving_setPte (d : Die) (page : Nat) (x : BitVec 128) : (d.setPte page x).serving = d.serving := rfl
@[simp] theorem Die.tier_setPte (d : Die) (page : Nat) (x : BitVec 128) : (d.setPte page x).tier = { d.tier with pages := SMap.put (fun _ => 0#128) d.tier.pages (d.ptPlace page) x } := rfl
@[simp] theorem Die.dmc_setPte (d : Die) (page : Nat) (x : BitVec 128) : (d.setPte page x).dmc = d.dmc := rfl
@[simp] theorem Die.nand_setPte (d : Die) (page : Nat) (x : BitVec 128) : (d.setPte page x).nand = d.nand := rfl
@[simp] theorem Die.repairLog_setPte (d : Die) (page : Nat) (x : BitVec 128) : (d.setPte page x).repairLog = d.repairLog := rfl
@[simp] theorem Die.far_setPte (d : Die) (page : Nat) (x : BitVec 128) : (d.setPte page x).far = d.far := rfl
@[simp] theorem Die.link_setPte (d : Die) (page : Nat) (x : BitVec 128) : (d.setPte page x).link = d.link := rfl
@[simp] theorem Die.ife_setPte (d : Die) (page : Nat) (x : BitVec 128) : (d.setPte page x).ife = d.ife := rfl
@[simp] theorem Die.models_setPte (d : Die) (page : Nat) (x : BitVec 128) : (d.setPte page x).models = d.models := rfl
@[simp] theorem Die.plans_setPte (d : Die) (page : Nat) (x : BitVec 128) : (d.setPte page x).plans = d.plans := rfl
@[simp] theorem Die.scrubEvery_setPte (d : Die) (page : Nat) (x : BitVec 128) : (d.setPte page x).scrubEvery = d.scrubEvery := rfl
@[simp] theorem Die.scrubRate_setPte (d : Die) (page : Nat) (x : BitVec 128) : (d.setPte page x).scrubRate = d.scrubRate := rfl
@[simp] theorem Die.fw_setPte (d : Die) (page : Nat) (x : BitVec 128) : (d.setPte page x).fw = d.fw := rfl
@[simp] theorem Die.spi_setPte (d : Die) (page : Nat) (x : BitVec 128) : (d.setPte page x).spi = d.spi := rfl
@[simp] theorem Die.damper_setPte (d : Die) (page : Nat) (x : BitVec 128) : (d.setPte page x).damper = d.damper := rfl
@[simp] theorem Die.saggar_setPte (d : Die) (page : Nat) (x : BitVec 128) : (d.setPte page x).saggar = d.saggar := rfl
@[simp] theorem Die.nv_setPte (d : Die) (page : Nat) (x : BitVec 128) : (d.setPte page x).nv = d.nv := rfl
@[simp] theorem Die.ras_setPte (d : Die) (page : Nat) (x : BitVec 128) : (d.setPte page x).ras = d.ras := rfl
@[simp] theorem Die.epochDue_setPte (d : Die) (page : Nat) (x : BitVec 128) : (d.setPte page x).epochDue = d.epochDue := rfl
@[simp] theorem Die.track_setPte (d : Die) (page : Nat) (x : BitVec 128) : (d.setPte page x).track = d.track := rfl
@[simp] theorem Die.owed_setPte (d : Die) (page : Nat) (x : BitVec 128) : (d.setPte page x).owed = d.owed := rfl
@[simp] theorem Die.cycle_setPte (d : Die) (page : Nat) (x : BitVec 128) : (d.setPte page x).cycle = d.cycle := rfl
@[simp] theorem Die.freeCtr_setPte (d : Die) (page : Nat) (x : BitVec 128) : (d.setPte page x).freeCtr = d.freeCtr := rfl
@[simp] theorem Die.out_setPte (d : Die) (page : Nat) (x : BitVec 128) : (d.setPte page x).out = d.out := rfl
@[simp] theorem Die.bus_setPte (d : Die) (page : Nat) (x : BitVec 128) : (d.setPte page x).bus = d.bus := rfl

/-! ### The operation under evaluation -/

@[simp] theorem Die.regs_workOf (d : Die) (who : Nat) : (d.workOf who).regs = d.regs := rfl
@[simp] theorem Die.latch_workOf (d : Die) (who : Nat) : (d.workOf who).latch = d.latch := rfl
@[simp] theorem Die.heldLo_workOf (d : Die) (who : Nat) : (d.workOf who).heldLo = d.heldLo := rfl
@[simp] theorem Die.refclk_workOf (d : Die) (who : Nat) : (d.workOf who).refclk = d.refclk := rfl
@[simp] theorem Die.firing_workOf (d : Die) (who : Nat) : (d.workOf who).firing = d.firing := rfl
@[simp] theorem Die.sb_workOf (d : Die) (who : Nat) : (d.workOf who).sb = d.sb := rfl
@[simp] theorem Die.queues_workOf (d : Die) (who : Nat) : (d.workOf who).queues = d.queues := rfl
@[simp] theorem Die.sched_workOf (d : Die) (who : Nat) : (d.workOf who).sched = d.sched := rfl
@[simp] theorem Die.shelf_workOf (d : Die) (who : Nat) : (d.workOf who).shelf = d.shelf := rfl
@[simp] theorem Die.kiln_workOf (d : Die) (who : Nat) : (d.workOf who).kiln = d.kiln := rfl
@[simp] theorem Die.wheel_workOf (d : Die) (who : Nat) : (d.workOf who).wheel = d.wheel := rfl
@[simp] theorem Die.serving_workOf (d : Die) (who : Nat) : (d.workOf who).serving = d.serving := rfl
@[simp] theorem Die.tier_workOf (d : Die) (who : Nat) : (d.workOf who).tier = d.tier := rfl
@[simp] theorem Die.dmc_workOf (d : Die) (who : Nat) : (d.workOf who).dmc = d.dmc := rfl
@[simp] theorem Die.nand_workOf (d : Die) (who : Nat) : (d.workOf who).nand = d.nand := rfl
@[simp] theorem Die.repairLog_workOf (d : Die) (who : Nat) : (d.workOf who).repairLog = d.repairLog := rfl
@[simp] theorem Die.far_workOf (d : Die) (who : Nat) : (d.workOf who).far = { d.far with who := who, keeps := decide (who < noSlot) } := rfl
@[simp] theorem Die.link_workOf (d : Die) (who : Nat) : (d.workOf who).link = d.link := rfl
@[simp] theorem Die.ife_workOf (d : Die) (who : Nat) : (d.workOf who).ife = d.ife := rfl
@[simp] theorem Die.models_workOf (d : Die) (who : Nat) : (d.workOf who).models = d.models := rfl
@[simp] theorem Die.plans_workOf (d : Die) (who : Nat) : (d.workOf who).plans = d.plans := rfl
@[simp] theorem Die.scrubEvery_workOf (d : Die) (who : Nat) : (d.workOf who).scrubEvery = d.scrubEvery := rfl
@[simp] theorem Die.scrubRate_workOf (d : Die) (who : Nat) : (d.workOf who).scrubRate = d.scrubRate := rfl
@[simp] theorem Die.fw_workOf (d : Die) (who : Nat) : (d.workOf who).fw = d.fw := rfl
@[simp] theorem Die.spi_workOf (d : Die) (who : Nat) : (d.workOf who).spi = d.spi := rfl
@[simp] theorem Die.damper_workOf (d : Die) (who : Nat) : (d.workOf who).damper = d.damper := rfl
@[simp] theorem Die.saggar_workOf (d : Die) (who : Nat) : (d.workOf who).saggar = d.saggar := rfl
@[simp] theorem Die.nv_workOf (d : Die) (who : Nat) : (d.workOf who).nv = d.nv := rfl
@[simp] theorem Die.ras_workOf (d : Die) (who : Nat) : (d.workOf who).ras = d.ras := rfl
@[simp] theorem Die.epochDue_workOf (d : Die) (who : Nat) : (d.workOf who).epochDue = d.epochDue := rfl
@[simp] theorem Die.track_workOf (d : Die) (who : Nat) : (d.workOf who).track = d.track := rfl
@[simp] theorem Die.owed_workOf (d : Die) (who : Nat) : (d.workOf who).owed = d.owed := rfl
@[simp] theorem Die.cycle_workOf (d : Die) (who : Nat) : (d.workOf who).cycle = d.cycle := rfl
@[simp] theorem Die.freeCtr_workOf (d : Die) (who : Nat) : (d.workOf who).freeCtr = d.freeCtr := rfl
@[simp] theorem Die.out_workOf (d : Die) (who : Nat) : (d.workOf who).out = d.out := rfl
@[simp] theorem Die.bus_workOf (d : Die) (who : Nat) : (d.workOf who).bus = d.bus := rfl

/-! ### A LOCAL line -/

@[simp] theorem Die.regs_setLine (d : Die) (n : Nat) (c : LineCell) : (d.setLine n c).regs = d.regs := rfl
@[simp] theorem Die.latch_setLine (d : Die) (n : Nat) (c : LineCell) : (d.setLine n c).latch = d.latch := rfl
@[simp] theorem Die.heldLo_setLine (d : Die) (n : Nat) (c : LineCell) : (d.setLine n c).heldLo = d.heldLo := rfl
@[simp] theorem Die.refclk_setLine (d : Die) (n : Nat) (c : LineCell) : (d.setLine n c).refclk = d.refclk := rfl
@[simp] theorem Die.firing_setLine (d : Die) (n : Nat) (c : LineCell) : (d.setLine n c).firing = d.firing := rfl
@[simp] theorem Die.sb_setLine (d : Die) (n : Nat) (c : LineCell) : (d.setLine n c).sb = d.sb := rfl
@[simp] theorem Die.queues_setLine (d : Die) (n : Nat) (c : LineCell) : (d.setLine n c).queues = d.queues := rfl
@[simp] theorem Die.sched_setLine (d : Die) (n : Nat) (c : LineCell) : (d.setLine n c).sched = d.sched := rfl
@[simp] theorem Die.shelf_setLine (d : Die) (n : Nat) (c : LineCell) : (d.setLine n c).shelf = d.shelf := rfl
@[simp] theorem Die.kiln_setLine (d : Die) (n : Nat) (c : LineCell) : (d.setLine n c).kiln = d.kiln := rfl
@[simp] theorem Die.wheel_setLine (d : Die) (n : Nat) (c : LineCell) : (d.setLine n c).wheel = d.wheel := rfl
@[simp] theorem Die.serving_setLine (d : Die) (n : Nat) (c : LineCell) : (d.setLine n c).serving = d.serving := rfl
@[simp] theorem Die.tier_setLine (d : Die) (n : Nat) (c : LineCell) : (d.setLine n c).tier = d.tier := rfl
@[simp] theorem Die.nand_setLine (d : Die) (n : Nat) (c : LineCell) : (d.setLine n c).nand = d.nand := rfl
@[simp] theorem Die.repairLog_setLine (d : Die) (n : Nat) (c : LineCell) : (d.setLine n c).repairLog = d.repairLog := rfl
@[simp] theorem Die.far_setLine (d : Die) (n : Nat) (c : LineCell) : (d.setLine n c).far = d.far := rfl
@[simp] theorem Die.link_setLine (d : Die) (n : Nat) (c : LineCell) : (d.setLine n c).link = d.link := rfl
@[simp] theorem Die.ife_setLine (d : Die) (n : Nat) (c : LineCell) : (d.setLine n c).ife = d.ife := rfl
@[simp] theorem Die.models_setLine (d : Die) (n : Nat) (c : LineCell) : (d.setLine n c).models = d.models := rfl
@[simp] theorem Die.plans_setLine (d : Die) (n : Nat) (c : LineCell) : (d.setLine n c).plans = d.plans := rfl
@[simp] theorem Die.scrubEvery_setLine (d : Die) (n : Nat) (c : LineCell) : (d.setLine n c).scrubEvery = d.scrubEvery := rfl
@[simp] theorem Die.scrubRate_setLine (d : Die) (n : Nat) (c : LineCell) : (d.setLine n c).scrubRate = d.scrubRate := rfl
@[simp] theorem Die.fw_setLine (d : Die) (n : Nat) (c : LineCell) : (d.setLine n c).fw = d.fw := rfl
@[simp] theorem Die.spi_setLine (d : Die) (n : Nat) (c : LineCell) : (d.setLine n c).spi = d.spi := rfl
@[simp] theorem Die.damper_setLine (d : Die) (n : Nat) (c : LineCell) : (d.setLine n c).damper = d.damper := rfl
@[simp] theorem Die.saggar_setLine (d : Die) (n : Nat) (c : LineCell) : (d.setLine n c).saggar = d.saggar := rfl
@[simp] theorem Die.nv_setLine (d : Die) (n : Nat) (c : LineCell) : (d.setLine n c).nv = d.nv := rfl
@[simp] theorem Die.ras_setLine (d : Die) (n : Nat) (c : LineCell) : (d.setLine n c).ras = d.ras := rfl
@[simp] theorem Die.epochDue_setLine (d : Die) (n : Nat) (c : LineCell) : (d.setLine n c).epochDue = d.epochDue := rfl
@[simp] theorem Die.track_setLine (d : Die) (n : Nat) (c : LineCell) : (d.setLine n c).track = d.track := rfl
@[simp] theorem Die.owed_setLine (d : Die) (n : Nat) (c : LineCell) : (d.setLine n c).owed = d.owed := rfl
@[simp] theorem Die.cycle_setLine (d : Die) (n : Nat) (c : LineCell) : (d.setLine n c).cycle = d.cycle := rfl
@[simp] theorem Die.freeCtr_setLine (d : Die) (n : Nat) (c : LineCell) : (d.setLine n c).freeCtr = d.freeCtr := rfl
@[simp] theorem Die.out_setLine (d : Die) (n : Nat) (c : LineCell) : (d.setLine n c).out = d.out := rfl
@[simp] theorem Die.bus_setLine (d : Die) (n : Nat) (c : LineCell) : (d.setLine n c).bus = d.bus := rfl

/-! ### The zeros of a cleared bank -/

@[simp] theorem Die.regs_zeroBank (d : Die) (b : Nat) : (d.zeroBank b).regs = d.regs := rfl
@[simp] theorem Die.latch_zeroBank (d : Die) (b : Nat) : (d.zeroBank b).latch = d.latch := rfl
@[simp] theorem Die.heldLo_zeroBank (d : Die) (b : Nat) : (d.zeroBank b).heldLo = d.heldLo := rfl
@[simp] theorem Die.refclk_zeroBank (d : Die) (b : Nat) : (d.zeroBank b).refclk = d.refclk := rfl
@[simp] theorem Die.firing_zeroBank (d : Die) (b : Nat) : (d.zeroBank b).firing = d.firing := rfl
@[simp] theorem Die.sb_zeroBank (d : Die) (b : Nat) : (d.zeroBank b).sb = d.sb := rfl
@[simp] theorem Die.queues_zeroBank (d : Die) (b : Nat) : (d.zeroBank b).queues = d.queues := rfl
@[simp] theorem Die.sched_zeroBank (d : Die) (b : Nat) : (d.zeroBank b).sched = d.sched := rfl
@[simp] theorem Die.kiln_zeroBank (d : Die) (b : Nat) : (d.zeroBank b).kiln = d.kiln := rfl
@[simp] theorem Die.wheel_zeroBank (d : Die) (b : Nat) : (d.zeroBank b).wheel = d.wheel := rfl
@[simp] theorem Die.serving_zeroBank (d : Die) (b : Nat) : (d.zeroBank b).serving = d.serving := rfl
@[simp] theorem Die.tier_zeroBank (d : Die) (b : Nat) : (d.zeroBank b).tier = d.tier := rfl
@[simp] theorem Die.dmc_zeroBank (d : Die) (b : Nat) : (d.zeroBank b).dmc = d.dmc := rfl
@[simp] theorem Die.nand_zeroBank (d : Die) (b : Nat) : (d.zeroBank b).nand = d.nand := rfl
@[simp] theorem Die.repairLog_zeroBank (d : Die) (b : Nat) : (d.zeroBank b).repairLog = d.repairLog := rfl
@[simp] theorem Die.far_zeroBank (d : Die) (b : Nat) : (d.zeroBank b).far = d.far := rfl
@[simp] theorem Die.link_zeroBank (d : Die) (b : Nat) : (d.zeroBank b).link = d.link := rfl
@[simp] theorem Die.ife_zeroBank (d : Die) (b : Nat) : (d.zeroBank b).ife = d.ife := rfl
@[simp] theorem Die.models_zeroBank (d : Die) (b : Nat) : (d.zeroBank b).models = d.models := rfl
@[simp] theorem Die.plans_zeroBank (d : Die) (b : Nat) : (d.zeroBank b).plans = d.plans := rfl
@[simp] theorem Die.scrubEvery_zeroBank (d : Die) (b : Nat) : (d.zeroBank b).scrubEvery = d.scrubEvery := rfl
@[simp] theorem Die.scrubRate_zeroBank (d : Die) (b : Nat) : (d.zeroBank b).scrubRate = d.scrubRate := rfl
@[simp] theorem Die.fw_zeroBank (d : Die) (b : Nat) : (d.zeroBank b).fw = d.fw := rfl
@[simp] theorem Die.spi_zeroBank (d : Die) (b : Nat) : (d.zeroBank b).spi = d.spi := rfl
@[simp] theorem Die.damper_zeroBank (d : Die) (b : Nat) : (d.zeroBank b).damper = d.damper := rfl
@[simp] theorem Die.saggar_zeroBank (d : Die) (b : Nat) : (d.zeroBank b).saggar = d.saggar := rfl
@[simp] theorem Die.nv_zeroBank (d : Die) (b : Nat) : (d.zeroBank b).nv = d.nv := rfl
@[simp] theorem Die.ras_zeroBank (d : Die) (b : Nat) : (d.zeroBank b).ras = d.ras := rfl
@[simp] theorem Die.epochDue_zeroBank (d : Die) (b : Nat) : (d.zeroBank b).epochDue = d.epochDue := rfl
@[simp] theorem Die.track_zeroBank (d : Die) (b : Nat) : (d.zeroBank b).track = d.track := rfl
@[simp] theorem Die.owed_zeroBank (d : Die) (b : Nat) : (d.zeroBank b).owed = d.owed := rfl
@[simp] theorem Die.cycle_zeroBank (d : Die) (b : Nat) : (d.zeroBank b).cycle = d.cycle := rfl
@[simp] theorem Die.freeCtr_zeroBank (d : Die) (b : Nat) : (d.zeroBank b).freeCtr = d.freeCtr := rfl
@[simp] theorem Die.out_zeroBank (d : Die) (b : Nat) : (d.zeroBank b).out = d.out := rfl
@[simp] theorem Die.bus_zeroBank (d : Die) (b : Nat) : (d.zeroBank b).bus = d.bus := rfl

/-! ### Reading back -/

theorem Die.reg_congr {d e : Die} (h : d.regs = e.regs) (a : Nat) : d.reg a = e.reg a := by
  simp [Die.reg, h]

@[simp] theorem Die.reg_modEntry (d : Die) (slot : Nat) (f : Entry → Entry) (a : Nat) : (d.modEntry slot f).reg a = d.reg a := rfl

@[simp] theorem Die.reg_finish (d : Die) (slot st fl r0 r1 cause a : Nat) : (d.finish slot st fl r0 r1 cause).reg a = d.reg a := rfl

@[simp] theorem Die.reg_emit (d : Die) (o : Out) (a : Nat) : (d.emit o).reg a = d.reg a := rfl

@[simp] theorem Die.reg_workOf (d : Die) (who a : Nat) : (d.workOf who).reg a = d.reg a := rfl

@[simp] theorem Die.reg_setLine (d : Die) (n : Nat) (c : LineCell) (a : Nat) : (d.setLine n c).reg a = d.reg a := rfl

@[simp] theorem Die.reg_setAcc (d : Die) (r : Nat) (x : AccRow) (a : Nat) : (d.setAcc r x).reg a = d.reg a := rfl

@[simp] theorem Die.reg_zeroBank (d : Die) (b a : Nat) : (d.zeroBank b).reg a = d.reg a := rfl

/-! ### The block around the die -/

@[simp] theorem State.live_pending (s : State) (q : List Instr) : State.live { s with pending := q } = s.live := rfl

@[simp] theorem State.live_die (s : State) (d : Die) : State.live { s with die := d } = s.live := rfl

end Sys2Proof.Machine
end

