-- ==== Sys2Proof/Laws/Storage.lean ====
section
/-! SUPPORT. The laws of the sparse storage: a key reads what was put there last, every other key what it read before, and the
canonical form is kept; with them, what each storage of the die keeps. -/

namespace Sys2Proof

namespace SMap

variable {α : Type}

/-! ### Reading after a put -/

theorem get_filter (d : Nat → α) (m : SMap α) {k n : Nat} (h : n ≠ k) : get d (m.filter fun kv => kv.1 != k) n = get d m n := by
  induction m with
  | nil => rfl
  | cons x m ih =>
    obtain ⟨j, v⟩ := x
    by_cases hj : j = k
    · subst hj
      simp [get, ih, h]
    · simp [hj, get, ih]

theorem get_filter_self (d : Nat → α) (m : SMap α) (k : Nat) : get d (m.filter fun kv => kv.1 != k) k = d k := by
  induction m with
  | nil => rfl
  | cons x m ih =>
    obtain ⟨j, v⟩ := x
    by_cases hj : j = k
    · subst hj
      simpa using ih
    · simp [hj, get, ih, Ne.symm hj]

theorem get_ins (d : Nat → α) (m : SMap α) (k n : Nat) (v : α) (hk : ∀ x ∈ m, x.1 ≠ k) :
    get d (ins m k v) n = if n = k then v else get d m n := by
  induction m with
  | nil => rfl
  | cons x m ih =>
    obtain ⟨j, w⟩ := x
    have hj : j ≠ k := hk (j, w) (by simp)
    have ih' := ih fun y hy => hk y (by simp [hy])
    unfold ins
    split
    · rfl
    · simp only [get, ih']
      by_cases hn : n = j
      · subst hn
        simp [hj]
      · simp [hn]

theorem keys_filter (m : SMap α) (k : Nat) : ∀ x ∈ m.filter (fun kv => kv.1 != k), x.1 ≠ k := by
  intro x hx
  simpa using (List.mem_filter.mp hx).2

theorem get_put [DecidableEq α] (d : Nat → α) (m : SMap α) (k n : Nat) (v : α) :
    get d (put d m k v) n = if n = k then v else get d m n := by
  unfold put
  split
  · rename_i hv
    by_cases hn : n = k
    · subst hn
      simp [get_filter_self, hv]
    · simp [hn, get_filter d m hn]
  · rw [get_ins _ _ _ _ _ (keys_filter m k)]
    by_cases hn : n = k
    · simp [hn]
    · simp [hn, get_filter d m hn]

@[simp] theorem get_put_same [DecidableEq α] (d : Nat → α) (m : SMap α) (k : Nat) (v : α) : get d (put d m k v) k = v := by
  simp [get_put]

theorem get_put_other [DecidableEq α] (d : Nat → α) (m : SMap α) {k n : Nat} (v : α) (h : n ≠ k) :
    get d (put d m k v) n = get d m n := by
  simp [get_put, h]

/-! ### The canonical form -/

theorem risingFrom_mono {m : SMap α} {a b : Nat} (h : a ≤ b) (hb : risingFrom b m = true) : risingFrom a m = true := by
  cases m with
  | nil => rfl
  | cons x m =>
    obtain ⟨j, v⟩ := x
    simp only [risingFrom, Bool.and_eq_true, decide_eq_true_eq] at hb ⊢
    exact ⟨by omega, hb.2⟩

theorem risingFrom_filter (m : SMap α) (p : Nat × α → Bool) {b : Nat} (h : risingFrom b m = true) :
    risingFrom b (m.filter p) = true := by
  induction m generalizing b with
  | nil => rfl
  | cons x m ih =>
    obtain ⟨j, v⟩ := x
    simp only [risingFrom, Bool.and_eq_true, decide_eq_true_eq] at h
    rw [List.filter_cons]
    split
    · simp [risingFrom, h.1, ih h.2]
    · exact ih (risingFrom_mono (Nat.le_of_lt h.1) h.2)

theorem rising_filter (m : SMap α) (p : Nat × α → Bool) (h : rising m = true) : rising (m.filter p) = true := by
  cases m with
  | nil => rfl
  | cons x m =>
    obtain ⟨j, v⟩ := x
    rw [List.filter_cons]
    split
    · exact risingFrom_filter m p h
    · have := risingFrom_filter m p (b := j) h
      cases hm : m.filter p with
      | nil => rfl
      | cons y l =>
        rw [hm] at this
        simp only [risingFrom, Bool.and_eq_true] at this
        exact this.2

theorem risingFrom_ins (m : SMap α) (k : Nat) (v : α) {b : Nat} (hb : b < k) (hk : ∀ x ∈ m, x.1 ≠ k)
    (h : risingFrom b m = true) : risingFrom b (ins m k v) = true := by
  induction m generalizing b with
  | nil => simp [ins, risingFrom, hb]
  | cons x m ih =>
    obtain ⟨j, w⟩ := x
    have hj : j ≠ k := hk (j, w) (by simp)
    simp only [risingFrom, Bool.and_eq_true, decide_eq_true_eq] at h
    unfold ins
    split
    · rename_i hlt
      simp [risingFrom, hb, hlt, h.2]
    · simp only [risingFrom, Bool.and_eq_true, decide_eq_true_eq]
      exact ⟨h.1, ih (by omega) (fun y hy => hk y (by simp [hy])) h.2⟩

theorem rising_ins (m : SMap α) (k : Nat) (v : α) (hk : ∀ x ∈ m, x.1 ≠ k) (h : rising m = true) :
    rising (ins m k v) = true := by
  cases m with
  | nil => rfl
  | cons x m =>
    obtain ⟨j, w⟩ := x
    have hj : j ≠ k := hk (j, w) (by simp)
    unfold ins
    split
    · rename_i hlt
      simp only [rising, risingFrom, Bool.and_eq_true, decide_eq_true_eq]
      exact ⟨hlt, h⟩
    · exact risingFrom_ins m k v (by omega) (fun y hy => hk y (by simp [hy])) h

theorem rising_put [DecidableEq α] (d : Nat → α) (m : SMap α) (k : Nat) (v : α) (h : rising m = true) :
    rising (put d m k v) = true := by
  unfold put
  split
  · exact rising_filter m _ h
  · exact rising_ins _ k v (keys_filter m k) (rising_filter m _ h)

theorem nonDefault_iff [DecidableEq α] (d : Nat → α) (m : SMap α) : nonDefault d m = true ↔ ∀ x ∈ m, x.2 ≠ d x.1 := by
  induction m with
  | nil => simp [nonDefault]
  | cons x m ih => simp [nonDefault, ih]

theorem mem_ins (m : SMap α) (k : Nat) (v : α) : ∀ x ∈ ins m k v, x = (k, v) ∨ x ∈ m := by
  induction m with
  | nil => simp [ins]
  | cons y m ih =>
    obtain ⟨j, w⟩ := y
    unfold ins
    split
    · intro x hx
      simpa using hx
    · intro x hx
      rcases List.mem_cons.mp hx with h | h
      · exact Or.inr (by simp [h])
      · rcases ih x h with h | h
        · exact Or.inl h
        · exact Or.inr (by simp [h])

theorem nonDefault_put [DecidableEq α] (d : Nat → α) (m : SMap α) (k : Nat) (v : α) (h : nonDefault d m = true) :
    nonDefault d (put d m k v) = true := by
  rw [nonDefault_iff] at h ⊢
  intro x hx
  unfold put at hx
  split at hx
  · exact h x (List.mem_filter.mp hx).1
  · rename_i hv
    rcases mem_ins _ k v x hx with rfl | hm
    · exact hv
    · exact h x (List.mem_filter.mp hm).1

/-- A put keeps the canonical form. -/
theorem wf_put [DecidableEq α] (d : Nat → α) (m : SMap α) (k : Nat) (v : α) (h : wf d m = true) : wf d (put d m k v) = true := by
  simp only [wf, Bool.and_eq_true] at h ⊢
  exact ⟨rising_put d m k v h.1, nonDefault_put d m k v h.2⟩

/-- Leaving entries out keeps the canonical form. -/
theorem wf_filter [DecidableEq α] (d : Nat → α) (m : SMap α) (p : Nat × α → Bool) (h : wf d m = true) :
    wf d (m.filter p) = true := by
  simp only [wf, Bool.and_eq_true, nonDefault_iff] at h ⊢
  exact ⟨rising_filter m p h.1, fun x hx => h.2 x (List.mem_filter.mp hx).1⟩

end SMap

namespace Machine

/-! ### Registers -/

@[simp] theorem Die.reg_setReg_same (d : Die) (a : Nat) (w : Word) : (d.setReg a w).reg a = w := by
  simp [Die.reg, Die.setReg]

theorem Die.reg_setReg_other (d : Die) {a b : Nat} (w : Word) (h : b ≠ a) : (d.setReg a w).reg b = d.reg b := by
  simp [Die.reg, Die.setReg, SMap.get_put, h]

theorem Die.reg_setReg (d : Die) (a b : Nat) (w : Word) : (d.setReg a w).reg b = if b = a then w else d.reg b := by
  simp [Die.reg, Die.setReg, SMap.get_put]

/-! ### Flags -/

theorem srcOf_lt {a s : Nat} (h : srcOf a = some s) : s < 18 := by
  have := List.mem_of_find?_eq_some h
  simpa [allSources] using this

theorem Die.regs_sendMsix (d : Die) (v : Nat) : (d.sendMsix v).regs = d.regs := by
  unfold Die.sendMsix
  split <;> rfl

theorem Die.reg_msix (d : Die) {s k : Nat} (hs : s < 18) (hp : k ≠ Reg.MSIX_PBA 64) : (d.msix (2048 + s)).reg k = d.reg k := by
  unfold Die.msix
  split
  · have : (2048 + s) / 32 = 64 := by omega
    rw [this]
    exact Die.reg_setReg_other _ _ hp
  · exact Die.reg_congr (Die.regs_sendMsix d _) k

theorem Die.reg_err (d : Die) (a bit k : Nat) (hr : ∀ s, s < 18 → k ≠ Reg.RAS_SRC_EVENTS s) (hp : k ≠ Reg.MSIX_PBA 64) :
    (d.err a bit).reg k = if k = a then d.reg a ||| Word.oneBit bit else d.reg k := by
  rw [← Die.reg_setReg]
  unfold Die.err
  generalize hq : srcOf a = q
  cases q with
  | none => rfl
  | some s =>
    have hs := srcOf_lt hq
    have h2 := Die.reg_setReg_other (d.setReg a (d.reg a ||| Word.oneBit bit))
      (satAdd32 ((d.setReg a (d.reg a ||| Word.oneBit bit)).reg (Reg.RAS_SRC_EVENTS s)) 1) (hr s hs)
    dsimp only
    split
    · rw [Die.reg_msix _ hs hp]
      exact h2
    · exact h2

/-! ### What leaves the storages alone -/

/-- The storages of the die. -/
def Die.stored (d : Die) : SMap Row × SMap LineCell × SMap FlashUnit × SMap AccRow := (d.shelf.rows, d.dmc.lines, d.nand.units, d.kiln.acc)

@[simp] theorem stored_setReg (d : Die) (a : Nat) (w : Word) : Die.stored (d.setReg a w) = Die.stored d := rfl

@[simp] theorem stored_setRf (d : Die) (a x y w) : Die.stored (d.setRf a x y w) = Die.stored d := rfl

@[simp] theorem stored_count (d : Die) (a w) : Die.stored (d.count a w) = Die.stored d := rfl

@[simp] theorem stored_emit (d : Die) (a) : Die.stored (d.emit a) = Die.stored d := rfl

@[simp] theorem stored_sendMsix (d : Die) (a) : Die.stored (d.sendMsix a) = Die.stored d := by unfold Die.sendMsix; split <;> rfl

@[simp] theorem stored_msix (d : Die) (a) : Die.stored (d.msix a) = Die.stored d := by unfold Die.msix; split <;> simp

@[simp] theorem stored_err (d : Die) (a b) : Die.stored (d.err a b) = Die.stored d := by
  unfold Die.err; generalize srcOf a = q; cases q with
  | none => rfl
  | some s => dsimp only; split <;> simp

@[simp] theorem stored_event (d : Die) (a) : Die.stored (d.event a) = Die.stored d := by unfold Die.event; dsimp only; split <;> simp

@[simp] theorem stored_errIf (d : Die) (c a b) : Die.stored (d.errIf c a b) = Die.stored d := by unfold Die.errIf; split <;> simp

@[simp] theorem stored_modEntry (d : Die) (s f) : Die.stored (d.modEntry s f) = Die.stored d := rfl

@[simp] theorem stored_setEntry (d : Die) (s) : Die.stored (d.setEntry s) = Die.stored d := rfl

@[simp] theorem stored_finish (d : Die) (a b c e f g) : Die.stored (d.finish a b c e f g) = Die.stored d := rfl

@[simp] theorem stored_poisonEvt (d : Die) (c) : Die.stored (d.poisonEvt c) = Die.stored d := rfl

@[simp] theorem stored_setEvt (d : Die) (c v) : Die.stored (d.setEvt c v) = Die.stored d := rfl

@[simp] theorem stored_addEvt (d : Die) (c v) : Die.stored (d.addEvt c v) = Die.stored d := by unfold Die.addEvt; split <;> simp

theorem stored_skipPoisoned (d : Die) (e) : Die.stored (d.skipPoisoned e) = Die.stored d := by
  unfold Die.skipPoisoned; simp only [apply_ite Die.stored, stored_modEntry, stored_finish, ite_self]

theorem stored_becomeReady (d : Die) (e m) : Die.stored (d.becomeReady e m) = Die.stored d := by
  unfold Die.becomeReady; simp only [apply_ite Die.stored, stored_modEntry, stored_finish, ite_self, stored_skipPoisoned]

theorem stored_tickwaitReady (d : Die) (e) : Die.stored (d.tickwaitReady e) = Die.stored d := by
  unfold Die.tickwaitReady; dsimp only; split
  · exact stored_becomeReady _ _ _
  · simp only [apply_ite Die.stored, stored_setEntry, stored_becomeReady, ite_self]

@[simp] theorem stored_refuse (d : Die) (a b c e) : Die.stored (d.refuse a b c e) = Die.stored d := by simp [Die.refuse]

theorem stored_afterRead (d : Die) (a) : Die.stored (d.afterRead a) = Die.stored d := by
  unfold Die.afterRead; dsimp only
  generalize d.latchOf a = l
  cases l <;> dsimp only <;> split <;> try rfl
  all_goals (split <;> try rfl)
  all_goals (generalize regRow a = r; cases r <;> dsimp only <;> try rfl)
  all_goals (split <;> rfl)

theorem stored_readOne (d : Die) (b a) : Die.stored (d.readOne b a).2 = Die.stored d := by
  unfold Die.readOne
  extract_lets x
  split
  · exact stored_err _ _ _
  · generalize wordAddr b a = r; cases r <;> dsimp only
    · exact stored_refuse _ _ _ _ _
    · exact stored_afterRead _ _

theorem stored_bus (d : Die) (v) : Die.stored { d with bus := v } = Die.stored d := rfl

theorem stored_hostRead (d : Die) (b a n) : Die.stored (d.hostRead b a n) = Die.stored d := by
  unfold Die.hostRead
  by_cases hl : accessLegal a n = true
  · rw [if_pos hl]
    refine Eq.trans (stored_bus _ _) ?_
    by_cases h8 : n = 8
    · simp only [h8, if_true, stored_readOne]
    · simp only [h8, if_false, stored_readOne]
  · rw [if_neg hl, stored_bus, stored_refuse]

/-! ### The canonical form of the storages -/

theorem memory_wf_initial (nand : Nand) (log : List (Nat × Bool)) (nv : Nonvol) :
    Memory.wf (Die.initial nand log nv) = SMap.wf (fun _ => FlashUnit.zero) nand.units := by
  simp [Memory.wf, Die.initial, SMap.wf, SMap.rising, SMap.nonDefault, Dmc.fresh, Kiln.powerUp]

theorem memory_wf_setReg (d : Die) (a : Nat) (w : Word) (h : Memory.wf d = true) : Memory.wf (d.setReg a w) = true := by
  simp only [Memory.wf, Bool.and_eq_true, Die.regs_setReg, Die.shelf_setReg, Die.kiln_setReg, Die.nand_setReg,
    Die.dmc_setReg] at h ⊢
  exact ⟨⟨⟨⟨SMap.wf_put _ _ _ _ h.1.1.1.1, h.1.1.1.2⟩, h.1.1.2⟩, h.1.2⟩, h.2⟩

theorem memory_wf_setAcc (d : Die) (r : Nat) (x : AccRow) (h : Memory.wf d = true) : Memory.wf (d.setAcc r x) = true := by
  simp only [Memory.wf, Bool.and_eq_true, Die.regs_setAcc, Die.shelf_setAcc, Die.kiln_setAcc, Die.nand_setAcc,
    Die.dmc_setAcc] at h ⊢
  exact ⟨⟨⟨h.1.1.1, SMap.wf_put _ _ _ _ h.1.1.2⟩, h.1.2⟩, h.2⟩

theorem memory_wf_setLine (d : Die) (n : Nat) (c : LineCell) (h : Memory.wf d = true) : Memory.wf (d.setLine n c) = true := by
  simp only [Memory.wf, Bool.and_eq_true, Die.regs_setLine, Die.shelf_setLine, Die.kiln_setLine, Die.nand_setLine] at h ⊢
  exact ⟨h.1, SMap.rising_put _ _ _ _ h.2⟩

theorem memory_wf_zeroBank (d : Die) (b : Nat) (h : Memory.wf d = true) : Memory.wf (d.zeroBank b) = true := by
  simp only [Memory.wf, Bool.and_eq_true, Die.regs_zeroBank, Die.kiln_zeroBank, Die.nand_zeroBank, Die.dmc_zeroBank] at h ⊢
  exact ⟨⟨⟨⟨h.1.1.1.1, SMap.wf_filter _ _ _ h.1.1.1.2⟩, h.1.1.2⟩, h.1.2⟩, h.2⟩

theorem memory_wf_emit (d : Die) (o : Out) (h : Memory.wf d = true) : Memory.wf (d.emit o) = true := h

theorem memory_wf_modEntry (d : Die) (slot : Nat) (f : Entry → Entry) (h : Memory.wf d = true) :
    Memory.wf (d.modEntry slot f) = true := h

theorem memory_wf_count (d : Die) (a n : Nat) (h : Memory.wf d = true) : Memory.wf (d.count a n) = true :=
  memory_wf_setReg _ _ _ h

theorem memory_wf_sendMsix (d : Die) (v : Nat) (h : Memory.wf d = true) : Memory.wf (d.sendMsix v) = true := by
  unfold Die.sendMsix
  split
  · exact memory_wf_emit _ _ h
  · exact h

theorem memory_wf_msix (d : Die) (v : Nat) (h : Memory.wf d = true) : Memory.wf (d.msix v) = true := by
  unfold Die.msix
  split
  · exact memory_wf_setReg _ _ _ h
  · exact memory_wf_sendMsix _ _ h

theorem memory_wf_err (d : Die) (a bit : Nat) (h : Memory.wf d = true) : Memory.wf (d.err a bit) = true := by
  have h1 : Memory.wf (d.setReg a (d.reg a ||| Word.oneBit bit)) = true := memory_wf_setReg _ _ _ h
  unfold Die.err
  dsimp only
  generalize d.setReg a (d.reg a ||| Word.oneBit bit) = d1 at h1 ⊢
  generalize srcOf a = o
  cases o with
  | none => exact h1
  | some s =>
    have h2 : Memory.wf (d1.count (Reg.RAS_SRC_EVENTS s) 1) = true := memory_wf_count _ _ _ h1
    dsimp only
    generalize d1.count (Reg.RAS_SRC_EVENTS s) 1 = d2 at h2 ⊢
    cases !d.pendingSrc s && d2.pendingSrc s with
    | false => exact h2
    | true => exact memory_wf_msix _ _ h2

theorem memory_wf_shelfFault (d : Die) (kind bank port : Nat) (who : Option (Nat × Nat)) (h : Memory.wf d = true) :
    Memory.wf (d.shelfFault kind bank port who) = true := by
  unfold Die.shelfFault
  apply memory_wf_err
  apply memory_wf_count
  cases who with
  | none => exact memory_wf_setReg _ _ _ h
  | some w => exact memory_wf_setReg _ _ _ (memory_wf_setReg _ _ _ h)

theorem memory_wf_writeRow (d : Die) (w : Who) (row : Nat) (v : Row) (poison : Bool) (h : Memory.wf d = true) :
    Memory.wf (d.writeRow w row v poison).2 = true := by
  unfold Die.writeRow
  have h1 := memory_wf_shelfFault d 2 (bankOf row) w.port (some (w.tenant, w.queue)) h
  dsimp only
  split
  · exact h1
  · simp only [Memory.wf, Bool.and_eq_true] at h ⊢
    exact ⟨⟨⟨⟨h.1.1.1.1, SMap.wf_put _ _ _ _ h.1.1.1.2⟩, h.1.1.2⟩, h.1.2⟩, h.2⟩

theorem memory_wf_reset : Memory.wf State.reset.die = true := by decide

end Machine
end Sys2Proof
end

