-- ==== Sys2Proof/Tests/Slice0.lean ====
section
/-! SUPPORT. Tests: terms each well-formedness check refuses, single steps with results worked by hand from the spec, and for
every obligation with hypotheses a case that meets them. -/

open Sys2Proof Sys2Proof.Machine

namespace Sys2Proof.Tests

/-! ### Helpers -/

theorem got {α : Type} {o : Option α} (h : o.isSome = true) : o = some (o.get h) := (Option.some_get h).symm

theorem gotPair {α β : Type} {o : Option (α × β)} (h : o.isSome = true) : o = some ((o.get h).1, (o.get h).2) :=
  (Option.some_get h).symm

theorem gotFirst {α β : Type} {p : α × β} {a : α} (h : p.1 = a) : p = (a, p.2) := by subst h; rfl

/-- A die with registers set. -/
def regs (d : Die) (l : List (Nat × Nat)) : Die := l.foldl (fun a p => a.setReg p.1 (BitVec.ofNat 32 p.2)) d

/-- Owners of the first banks: one bank, or pair of banks, for each group. -/
def owners : List Nat := [0, 1, 2, 2, 3, 4, 5, 6]

/-- A number from fields at bit offsets. -/
def fields (l : List (Nat × Nat)) : Nat := l.foldl (fun n p => n + p.2 * 2 ^ p.1) 0

/-- A page-table entry of the management context: TIER and FRAME. -/
def page (tier frame : Nat) : BitVec 128 := BitVec.ofNat 128 (fields [(0, tier), (8, 0x40), (64, frame)])

/-- A running die: its first banks are powered, owned, and the management context's; the tier manager is on with page 1 in
HOST and page 2 in LOCAL; the host port is open. -/
def die : Die :=
  let d := regs State.reset.die ((owners.zipIdx.map fun p => (Reg.SHF_BANK_CFG p.2, 0x14000 + p.1)) ++
    [(Reg.FWP_STAT, 3), (Reg.TIR_CTRL, 1), (Reg.DMC_CAP, 28672), (Reg.LNK_PORT_STAT 0, 3)])
  { d with
    refclk := 10 ^ 9
    tier := { d.tier with dir := [(0, 1)], pages := [(1, page 3 1), (2, page 2 2)] }
    dmc := { d.dmc with keys := [(0x40, 1)], keyCtr := 2 } }

/-- A running block with that die. -/
def on : State := { State.reset with porN := true, die := die }

/-- Counts of a closing firing. -/
def sense : Sense := ⟨0#16, List.replicate 8 0#16⟩

/-- A queue whose ring lies in page 1 and holds one descriptor. -/
def ctx : QCtx := ⟨0x10000, 0x11000, 0, 1, 0, 0, 0, 0, 4, 4, 1, 0xFFFF, 0, 1, 0, 0⟩

/-- HOST lines returned to an operation that reads them by model address, and to one that names them. -/
def arriveAt (slot : Nat) (d : Die) (l : List (Nat × Nat)) : Die :=
  { d with far := { d.far with arrived := l.flatMap fun p =>
    [⟨slot, p.1, p.1 + 1, ⟨BitVec.ofNat 512 p.2, false, false⟩⟩, ⟨slot, p.1, 0, ⟨BitVec.ofNat 512 p.2, false, false⟩⟩] } }

/-- HOST lines returned to the descriptor in slot 0. -/
def arrive (d : Die) (l : List (Nat × Nat)) : Die := arriveAt 0 d l

/-- Queue 0 cached, with a head of that opcode. -/
def queued (op : Nat) : Die :=
  arriveAt (admitSlot 0) { die with
    queues := { die.queues with cache := [(0, ctx)] }
    sched := { die.sched with admitOpen := true } } [(1024, op), (1025, 0)]

/-- The words of a context in QUE_CTX_DATA. -/
def ctxRegs (d : Die) (c : QCtx) : Die :=
  regs d ((List.range 16).map fun i => (Reg.QUE_CTX_DATA i, bytesAt c.toNat (4 * i) 4))

/-- The running die with a power split loaded and SCH_TICK_CFG set. -/
def timed (cfg : Nat) : Die :=
  { regs die [(Reg.SCH_TICK_CFG, cfg)] with damper := { die.damper with table := some (List.replicate 16 (List.replicate 8 0, [85, 85, 85])) } }

/-- A descriptor from its opcode and fields. -/
def desc (op : Nat) (l : List (Nat × Nat)) : DescBits := BitVec.ofNat 2048 (op + fields l)

/-- STREAM[i]: base, format, space, levels and its first level. -/
def stream (i base fmt space levels first : Nat) : Nat × Nat :=
  (0x140 + 64 * i, fields [(0, base), (48, fmt), (52, space), (54, levels), (57, first)])

/-- LEVEL[i]: count and stride. -/
def level (i count stride : Nat) : Nat × Nat := (0x200 + 48 * i, count + stride * 2 ^ 16)

/-- A field of the PARAM area of the short form. -/
def param (lo v : Nat) : Nat × Nat := (0x340 + lo, v)

/-- A field of the PARAM area of the extended form. -/
def paramX (lo v : Nat) : Nat × Nat := (0x580 + lo, v)

/-- A ready descriptor of the management context in slot 0. -/
def entry (x : DescBits) : Entry :=
  ⟨0, x, 0, 0x40, 0, 0, 0, .ready, false, 0, [], false, false, false, false, 0, 0, 0, 0, 0, 0, 0, 0, [], none, [], [], []⟩

/-- The running die with a ready descriptor. -/
def ready (x : DescBits) : Die := { die with sb := [entry x] }

/-- Contents of rows. -/
def withRows (d : Die) (l : List (Nat × Nat)) : Die :=
  { d with shelf := { d.shelf with rows := l.map fun p => (p.1, BitVec.ofNat 4096 p.2) } }

/-- A Pug stream of the bytes 3 and 252, stored: preamble, code lengths, map and payload by their fields (Tables 5.1, 5.2). -/
def pugStream : Nat :=
  fields [(0, 0x9A1C), (16, 1), (32, 2), (64, 1), (80, 1), (96, 0x9A2B), (140, 1), (1136, 1), (1152, 0x40004002), (1216, 0xFC03)]

/-- A KV context in HOST line 1024, with an empty list at line 1025 and its pool at line 1026, which holds one block. -/
def kvDie (x : DescBits) (row : Nat) : Die :=
  withRows (arrive (ready x) [
    (1024, fields [(0, 0x10040), (64, 0x10080), (176, 1), (192, 1), (224, 1), (232, 1), (240, 5),
      (256, 1065353216), (288, 1065353216), (320, 1065353216)]),
    (1026, fields [(0, 0x100C0), (64, 1), (128, 1)]), (1027, 0x10200)]) [(row, 0x10000)]

/-- A free frame is claimed when there is one, whichever the free choice takes. -/
theorem claimFrame_isSome {d : Die} {tier : Nat} (h : (d.freeFrames tier).isEmpty = false) : (d.claimFrame tier).isSome = true := by
  have h0 : 0 < (d.freeFrames tier).length := by
    cases hf : d.freeFrames tier with
    | nil => simp [hf] at h
    | cons a l => simp
  simp only [Die.claimFrame, List.getElem?_eq_getElem (Nat.mod_lt _ h0)]
  rfl

/-- A fill finds a frame when its group has no limit and the LOCAL pool has a free frame. -/
theorem fillFrame_isSome {d : Die} {g : Nat} (h : (d.freeFrames 2).isEmpty = false) (h0 : d.rf (Reg.TIR_RES_LIMIT g) 20 0 = 0) :
    (d.fillFrame g).isSome = true := by
  obtain ⟨r, hr⟩ := Option.isSome_iff_exists.mp (claimFrame_isSome h)
  simp [Die.fillFrame, h0, hr]

/-- An open frame that has taken no line. -/
def frame : Frame := ⟨0, 0, none, 0, 0, 0, none, 0, 0, [], 0, 0, 0, 0, 0, [], true, false, false, false, [], 0, 0x80AC2401#32, 16, 16, 0#32, [], 0, none, 0#32,
  0#32, [], false, false⟩

/-- A memory-mode RAW10 context of 16 by 16 pixels for the management context, with embedded data kept and those frames. -/
def cam (d : Die) (l : List Frame) : Die :=
  let d1 := regs d [(Reg.IFE_CTX_CFG 0, 2 ^ 31 + 0x2B * 2 ^ 18 + 2 ^ 13 + 0x40 * 2 ^ 4 + 1), (Reg.IFE_CTX_SIZE 0, 0x100010)]
  { d1 with ife := { d1.ife with sensors := [(0, { Sensor.fresh with frames := l, started := true })] } }

/-- One denoise job of a single tile, whose slots are slot 0. -/
def dnJob : DnJob := ⟨0, 0, 0, 16, 16, 16, 16, 0, false, 1, 0, 0, 1, 0x40, [], some 5, 0, 0, [], false⟩

/-- A die with that job, slot 0 being a row of the image bank. -/
def denoising (j : DnJob) (ctrl : Nat) : Die :=
  let d := regs die [(Reg.SHF_SLOT_RANGE 0, 5120 + 2 ^ 17), (Reg.SHF_SLOT_CTRL 0, ctrl)]
  { d with ife := { d.ife with dn := [j] } }

/-- Die 0 of a fabric of two dies, with die 1 on its open port 1 and sixteen frames exported. -/
def fabric (d : Die) : Die :=
  let d1 := regs d [(Reg.LNK_PORT_STAT 1, 3), (Reg.LNK_STAT, 0x31000), (Reg.LNK_ROUTE 0, 4), (Reg.LNK_ROUTE 2, 4)]
  { d1 with link := { d1.link with expFirst := 0, expCount := 16 } }

/-- A message from die 1 to die 0 on port 1. -/
def hdr : Hdr := ⟨false, false, 1#3, 0#3, false, 0#4, 0#16⟩

/-- A flit from those bits, with its check (Table 16.3). -/
def flit (n : Nat) : FlitWords := ⟨false, BitVec.ofNat 2048 (n + crc32c (toBytes 252 n) * 2 ^ 2016)⟩

/-- An open transfer of one line to LOCAL page 2. -/
def transfer : Incoming := ⟨0, 1, 0, 0, 1, 0, 0x40, 0, true, [], 0x20000, 64, [], 0, some (0, 1), 0, false, false, none, none⟩

/-- A firmware image. -/
def image : Image := ⟨1, 0, 1, 0, 0⟩

/-- A command whose processor has not come to it, from its opcode and payload: byte offset and value. -/
def cmd (op : Nat) (l : List (Nat × Nat)) : Cmd := ⟨op, 1, fields (l.map fun p => (8 * p.1, p.2)), .queued, []⟩

/-- A die whose firmware runs and owes the answers to those commands. -/
def owing (d : Die) (l : List Cmd) : Die := { d with fw := { d.fw with cmds := l, running := some image } }

/-- The manifest of a model of one shard of one page (Tables 13.1 and 13.2). -/
def manifest : Nat := fields [(0, 0x4D4F4431), (32, 1), (64, 7), (128, 1), (160, 1), (256, 256), (320, 352), (2048, 384), (2144, 1)]

/-- The lines of its image at model address 0x10000. -/
def modelImage : List (Nat × Nat) := (List.range 6).map fun i => (1024 + i, manifest >>> (512 * i) % 2 ^ 512)

/-- The offer of a load of that image to a span that begins at page 3. -/
def offer : LoadOffer := ⟨3#32, 2#3, 0x7F#7, 3#8, false, 65536#48, (toBytes 352 manifest).map (BitVec.ofNat 8)⟩

/-- The running die 383 cycles after a tick, with SCH_TICK_CFG. -/
def justTicked (cfg : Nat) : Die := { regs die [(Reg.SCH_TICK_CFG, cfg)] with sched := { die.sched with lastTick := 10 ^ 9 - 383 } }

/-- An S.WAIT that waits on counter 65535, and a NOP that signals it. -/
def waiting : DescBits := desc 0x60 [(9, 1), (0x40, 65535)]

def signalling : DescBits := desc 0x00 [(12, 1), (0x100, 65535)]

end Sys2Proof.Tests

namespace Sys2Proof.Tests

/-! ### Writes to HOST memory from a die whose host port is open -/

/-- The host port is open, in plain mode, and nothing is waited for. -/
structure Posting (t : Die) : Prop where
  up : t.hostUp = true
  plain : t.confMode = false
  hand : AtHand t

theorem Posting.of {t d : Die} (h : Posting d) (hf : AtHand d → AtHand t)
    (hr : t.reg (Reg.LNK_PORT_STAT 0) = d.reg (Reg.LNK_PORT_STAT 0) ∧ t.reg Reg.LNK_STAT = d.reg Reg.LNK_STAT) : Posting t := by
  refine ⟨?_, ?_, hf h.hand⟩
  · have := h.up
    unfold Die.hostUp Die.rf at *
    rwa [hr.1]
  · have := h.plain
    unfold Die.confMode at *
    rwa [hr.2]

theorem posting_saggar {t : Die} (h : Posting t) (x : Saggar) : Posting { t with saggar := x } := h.of id ⟨rfl, rfl⟩

theorem posting_post {t : Die} (h : Posting t) (addr : Nat) (bytes : List Nat) (ep : Bool) :
    (t.postHostEp addr bytes ep).1 = true ∧ Posting (t.postHostEp addr bytes ep).2 ∧
      (t.postHostEp addr bytes ep).2.regs = t.regs ∧ (t.postHostEp addr bytes ep).2.tier = t.tier := by
  simp only [Die.postHostEp, Die.putHost, h.up, h.plain, Bool.not_true, Bool.false_and, Bool.false_eq_true, if_false]
  exact ⟨trivial, h.of id ⟨rfl, rfl⟩, rfl, rfl⟩

theorem posting_owes {t : Die} (h : Posting t) (s l : Nat) :
    Posting (t.owesFlush s l) ∧ (t.owesFlush s l).regs = t.regs ∧ (t.owesFlush s l).tier = t.tier := by
  unfold Die.owesFlush
  split
  · exact ⟨h.of id ⟨rfl, rfl⟩, rfl, rfl⟩
  · exact ⟨h.of id ⟨rfl, rfl⟩, rfl, rfl⟩

theorem atHand_sendMsix {t : Die} (v : Nat) (h : AtHand t) : AtHand (t.sendMsix v) := by
  unfold Die.sendMsix
  split <;> exact h

theorem atHand_msix {t : Die} (v : Nat) (h : AtHand t) : AtHand (t.msix v) := by
  unfold Die.msix
  split
  · exact h
  · exact atHand_sendMsix v h

theorem atHand_event {t : Die} (s : Nat) (h : AtHand t) : AtHand (t.event s) := by
  unfold Die.event
  dsimp only
  split
  · exact atHand_msix _ h
  · exact h

theorem atHand_reply {t : Die} (c : Cmd) (st detail firing : Nat) (l : List (Nat × Nat)) (h : Posting t) :
    AtHand (t.reply c st detail firing l) := by
  unfold Die.reply
  dsimp only
  split
  · exact h.hand
  · have h1 : Posting { t with fw := { t.fw with cmds := t.fw.cmds.filter fun o => o ≠ c } } := h.of id ⟨rfl, rfl⟩
    unfold Die.postReply Die.postHost
    dsimp only
    rw [if_pos (posting_post h1 _ _ _).1]
    exact atHand_event _ (posting_post h1 _ _ _).2.1.hand

/-- The tier manager is on, with the pages of `die`. -/
structure Paged (t : Die) : Prop where
  posting : Posting t
  tierOn : (t.reg Reg.TIR_CTRL).b 0 = true
  dir : t.tier.dir = [(0, 1)]
  pages : t.tier.pages = [(1, page 3 1), (2, page 2 2)]

theorem Paged.of {t d : Die} (h : Paged d) (hp : Posting t) (hr : t.reg Reg.TIR_CTRL = d.reg Reg.TIR_CTRL)
    (hd : t.tier.dir = d.tier.dir) (hg : t.tier.pages = d.tier.pages) : Paged t :=
  ⟨hp, by rw [hr]; exact h.tierOn, hd.trans h.dir, hg.trans h.pages⟩

theorem paged_touch {t : Die} (h : Paged t) (p : Nat) : Paged (t.ptTouch p) := by
  unfold Die.ptTouch
  dsimp only
  split
  · exact h.of (h.posting.of id ⟨rfl, rfl⟩) rfl rfl rfl
  · have hr : ∀ a, a ≠ Reg.TIR_PT_MISS → ∀ d : Die, ∀ n, (d.count Reg.TIR_PT_MISS n).reg a = d.reg a := fun a ha d n =>
      Die.reg_setReg_other d _ ha
    exact h.of (h.posting.of id ⟨hr _ (by decide) _ _, hr _ (by decide) _ _⟩) (hr _ (by decide) _ _) rfl rfl

theorem paged_keep {t : Die} (h : Paged t) (p l off k v : Nat) (b : Bool) :
    Paged (((t.ptTouch p).ptAccess p).keptWrote l off k v b) :=
  (paged_touch h p).of ((paged_touch h p).posting.of id ⟨rfl, rfl⟩) rfl rfl rfl

theorem paged_post {t : Die} (h : Paged t) (addr : Nat) (bytes : List Nat) (ep : Bool) :
    (t.postHostEp addr bytes ep).1 = true ∧ Paged (t.postHostEp addr bytes ep).2 := by
  obtain ⟨h1, h2, h3, h4⟩ := posting_post h.posting addr bytes ep
  exact ⟨h1, h.of h2 (by unfold Die.reg; rw [h3]) (by rw [h4]) (by rw [h4])⟩

theorem paged_owes {t : Die} (h : Paged t) (s l : Nat) : Paged (t.owesFlush s l) := by
  obtain ⟨h2, h3, h4⟩ := posting_owes h.posting s l
  exact h.of h2 (by unfold Die.reg; rw [h3]) (by rw [h4]) (by rw [h4])

theorem paged_pte {t : Die} (h : Paged t) : t.pte 1 = page 3 1 := by
  have hp : t.ptPlace 1 = 1 := by
    unfold Die.ptPlace
    rw [h.dir]
    decide
  unfold Die.pte
  rw [h.pages, hp]
  decide

theorem paged_tier {t : Die} (h : Paged t) (c : Bool) : t.tierCheck mgmtCode 1 true c = 0 := by
  unfold Die.tierCheck Die.dirValid
  rw [paged_pte h, h.tierOn, h.dir]
  generalize t.inWindow mgmtCode 1 true = b
  cases b <;> cases c <;> decide

theorem paged_check {t : Die} (h : Paged t) (l : Nat) (hl : l / 1024 = 1) :
    t.dataCheck Who.die l true = (true, t.ptTouch 1) := by
  have h1 : l < 2 ^ 42 := by omega
  have h2 : ¬ l ≥ 2 ^ 42 := by omega
  have h3 := paged_touch h 1
  unfold Die.dataCheck
  dsimp only
  rw [hl, if_pos h1, if_neg h2, paged_pte h3]
  rw [show Who.die.tenant = mgmtCode from rfl, paged_tier h3]
  rw [if_neg (by decide), if_neg (by decide)]

theorem paged_line {t : Die} (h : Paged t) (l : Nat) (hl : l / 1024 = 1) (v : Line) :
    (t.writeLine Who.die l v false).1 = true ∧ Paged (t.writeLine Who.die l v false).2 := by
  have hm : pteMoving (page 3 1) = false := by decide
  have ht : pteTier (page 3 1) = 3 := by decide
  have hp := paged_post (paged_keep h 1 l 0 64 v.toNat false) (64 * (pteFrame (page 3 1) * 1024 + l % 1024)) (toBytes 64 v.toNat) false
  simp only [Die.writeLine, hl, paged_pte h, hm, ht, Bool.false_eq_true, if_false, Die.writeHost, hp.1, if_true, true_and]
  exact paged_owes hp.2 _ _

theorem paged_part {t : Die} (h : Paged t) (l off k v : Nat) (hl : l / 1024 = 1) :
    (t.writePart Who.die l off k v).1 = true ∧ Paged (t.writePart Who.die l off k v).2 := by
  have hm : pteMoving (page 3 1) = false := by decide
  have ht : pteTier (page 3 1) = 3 := by decide
  have hp := paged_post (paged_keep h 1 l off k v false) (64 * (pteFrame (page 3 1) * 1024 + l % 1024) + off) (toBytes k v) false
  simp only [Die.writePart, hl, paged_pte h, hm, Bool.false_eq_true, if_false, ht, if_true, Die.postHost, hp.1, true_and]
  exact paged_owes hp.2 _ _

theorem paged_bytes (fuel : Nat) : ∀ (t : Die) (addr k v : Nat), Paged t → 65536 ≤ addr → addr + k ≤ 131072 →
    (t.writeBytesFuel Who.die fuel addr k v).1 = true ∧ Paged (t.writeBytesFuel Who.die fuel addr k v).2 := by
  induction fuel with
  | zero => intro t addr k v h _ _; exact ⟨rfl, h⟩
  | succ n ih =>
    intro t addr k v h h1 h2
    unfold Die.writeBytesFuel
    dsimp only
    rw [show (⟨4, Who.die.tenant, Who.die.queue, Who.die.slot⟩ : Who) = Who.die from rfl]
    split
    · exact ⟨rfl, h⟩
    · have hl : addr / 64 / 1024 = 1 := by omega
      rw [paged_check h _ hl]
      simp only [Bool.not_true, Bool.false_eq_true, if_false]
      split
      · obtain ⟨hp1, hp2⟩ := paged_line (paged_touch h 1) _ hl (BitVec.ofNat 512 v)
        simp only [hp1, if_true]
        exact ih _ _ _ _ hp2 (by omega) (by omega)
      · obtain ⟨hp1, hp2⟩ := paged_part (paged_touch h 1) (addr / 64) (addr % 64) (min k (64 - addr % 64)) (v % 2 ^ (8 * min k (64 - addr % 64))) hl
        simp only [hp1, if_true]
        exact ih _ _ _ _ hp2 (by omega) (by omega)

theorem paged_writeBytes {t : Die} (h : Paged t) (addr k v : Nat) (h1 : 65536 ≤ addr) (h2 : addr + k ≤ 131072) :
    (t.writeBytes Who.die addr k v).1 = true ∧ Paged (t.writeBytes Who.die addr k v).2 := paged_bytes _ t addr k v h h1 h2

theorem paged_written {t : Die} (h : Paged t) {addr k v : Nat} (ha : addr = 65536) (hk : k ≤ 65536) :
    (t.writeBytes Who.die addr k v).1 = true ∧ Paged (t.writeBytes Who.die addr k v).2 :=
  paged_writeBytes h addr k v (by omega) (by omega)

theorem paged_buffer {t : Die} (h : Paged t) {addr k : Nat} (ha : addr = 65536) (h1 : 0 < k) (h2 : k ≤ 65536) :
    t.bufferOk addr k = true := by
  have hp : ∀ p ∈ pagesHolding addr k, p = 1 := by
    intro p hm
    unfold pagesHolding at hm
    rw [if_neg (by omega)] at hm
    simp only [List.mem_map, List.mem_range] at hm
    obtain ⟨i, hi, rfl⟩ := hm
    omega
  unfold Die.bufferOk
  rw [Bool.and_eq_true, List.all_eq_true]
  refine ⟨decide_eq_true (by omega), fun p hm => ?_⟩
  rw [hp p hm, paged_tier h, paged_pte h]
  decide

theorem paged_count {t : Die} (h : Paged t) (n : Nat) : Paged (t.count Reg.SGR_ATTEST_COUNT n) := by
  have hr : ∀ a, a ≠ Reg.SGR_ATTEST_COUNT → (t.count Reg.SGR_ATTEST_COUNT n).reg a = t.reg a := fun a ha =>
    Die.reg_setReg_other t _ ha
  exact h.of (h.posting.of id ⟨hr _ (by decide), hr _ (by decide)⟩) (hr _ (by decide)) rfl rfl

theorem paged_fresh {t : Die} (h : Paged t) : Paged t.fresh.2 := h.of (h.posting.of id ⟨rfl, rfl⟩) rfl rfl rfl

theorem paged_report {t : Die} (h : Paged t) (hm : t.saggar.mModels = []) {addr : Nat} (ha : addr = 65536) (nonce : Nat)
    (key : Option Nat) : (t.writeReport addr nonce key).1 = true ∧ Paged (t.writeReport addr nonce key).2 := by
  have hk : (t.fresh.2.report nonce t.fresh.1 key).2 ≤ 65536 := by
    have h0 : (t.fresh.2.report nonce t.fresh.1 key).2 = 192 + 80 * t.saggar.mModels.length + 2 + (Config.crypto 6 t.fresh.1 % 1536 + 1) := rfl
    rw [h0, hm]
    have := Nat.mod_lt (Config.crypto 6 t.fresh.1) (show 0 < 1536 by decide)
    simp only [List.length_nil]
    omega
  unfold Die.writeReport
  dsimp only
  obtain ⟨h1, h2⟩ := paged_written (v := (t.fresh.2.report nonce t.fresh.1 key).1) (paged_fresh h) ha hk
  rw [h1]
  cases key with
  | none => exact ⟨rfl, paged_count h2 1⟩
  | some k =>
    obtain ⟨h3, h4⟩ := paged_writeBytes h2 (addr + 4352) 1568 (Config.crypto 4 k % 2 ^ 12544) (by omega) (by omega)
    exact ⟨h3, paged_count h4 1⟩

theorem atHand_toTick {t : Die} (c : Cmd) (l : List Nat) (h : AtHand t) : AtHand (t.toTick c l) := h

theorem atHand_either {o : Option Nat} {f : Nat → Die} {t : Die} (h1 : ∀ k, AtHand (f k)) (h2 : AtHand t) :
    AtHand (match o with
      | some k => f k
      | none => t) := by
  cases o with
  | none => exact h2
  | some k => exact h1 k

/-! ### Frames and models -/

theorem far_frameEpochs (d : Die) (f : Nat) : (d.frameEpochs f).far = d.far ∧ (d.frameEpochs f).regs = d.regs := by
  unfold Die.frameEpochs
  generalize List.range 16 = l
  induction l generalizing d with
  | nil => exact ⟨rfl, rfl⟩
  | cons a l ih => exact ih _

theorem far_claimFrames (n tier : Nat) (d : Die) : (d.claimFrames tier n).2.far = d.far ∧ (d.claimFrames tier n).2.regs = d.regs := by
  induction n generalizing d with
  | zero => exact ⟨rfl, rfl⟩
  | succ n ih =>
    unfold Die.claimFrames
    split
    · exact ⟨rfl, rfl⟩
    · rename_i q hq
      have h1 : q.2.far = d.far ∧ q.2.regs = d.regs := by
        simp only [Die.claimFrame] at hq
        split at hq
        · cases hq
        · simp only [Option.some.injEq] at hq
          subst hq
          dsimp only
          split
          · exact far_frameEpochs _ _
          · exact ⟨rfl, rfl⟩
      exact ⟨(ih q.2).1.trans h1.1, (ih q.2).2.trans h1.2⟩

theorem far_markMoving (l : List Nat) (v : Bool) (d : Die) : (d.markMoving l v).far = d.far := by
  unfold Die.markMoving
  induction l generalizing d with
  | nil => rfl
  | cons a l ih => rw [List.foldl_cons, ih, Die.far_setPte]

theorem atHand_load {d : Die} (s : Nat) (m : Model) (c : Cmd) (aux : List Nat) (msg : Mgmt) (l : List Nat) (h : AtHand d)
    (hl : l = []) : AtHand (((d.beginLoad s m).setCmd c .running aux).tellAll l msg) := by
  subst hl
  have hf : (d.beginLoad s m).far = d.far := (far_markMoving _ _ _).trans (far_claimFrames _ _ _).1
  show AtHand (d.beginLoad s m)
  unfold AtHand
  rw [hf]
  exact h

theorem posting_of {t d : Die} (h : Posting d) (hf : t.far = d.far) (hr : t.regs = d.regs) : Posting t :=
  h.of (fun x => by unfold AtHand; rw [hf]; exact x) ⟨by unfold Die.reg; rw [hr], by unfold Die.reg; rw [hr]⟩

/-- A write of a line to HOST memory. -/
theorem posting_line {t : Die} (h : Posting t) (n : Nat) (v : Line) (b : Bool) :
    (t.writeHost noSlot n v b).1 = true ∧ Posting (t.writeHost noSlot n v b).2 ∧ (t.writeHost noSlot n v b).2.regs = t.regs := by
  obtain ⟨h1, h2, h3, _⟩ := posting_post h (64 * n) (toBytes 64 (if b then 0 else v.toNat)) b
  obtain ⟨h4, h5, _⟩ := posting_owes h2 noSlot n
  unfold Die.writeHost
  simp only [h1, if_true, true_and]
  exact ⟨h4, h5.trans h3⟩

theorem posting_fold {β : Type} (f : Die → β → Bool × Die)
    (hf : ∀ t b, Posting t → (f t b).1 = true ∧ Posting (f t b).2 ∧ (f t b).2.regs = t.regs) (l : List β) (g : Bool) (t : Die)
    (hg : g = true) (h : Posting t) :
    (l.foldl (fun acc b => (acc.1 && (f acc.2 b).1, (f acc.2 b).2)) (g, t)).1 = true ∧
      Posting (l.foldl (fun acc b => (acc.1 && (f acc.2 b).1, (f acc.2 b).2)) (g, t)).2 ∧
      (l.foldl (fun acc b => (acc.1 && (f acc.2 b).1, (f acc.2 b).2)) (g, t)).2.regs = t.regs := by
  induction l generalizing g t with
  | nil => exact ⟨hg, h, rfl⟩
  | cons b l ih =>
    obtain ⟨h1, h2, h3⟩ := hf t b h
    rw [List.foldl_cons]
    obtain ⟨g1, g2, g3⟩ := ih (g && (f t b).1) (f t b).2 (by rw [hg, h1]; rfl) h2
    exact ⟨g1, g2, g3.trans h3⟩

theorem posting_page {t : Die} (h : Posting t) (key frame v : Nat) :
    (t.writeModelPage 3 key frame v).1 = true ∧ Posting (t.writeModelPage 3 key frame v).2 ∧
      (t.writeModelPage 3 key frame v).2.regs = t.regs := by
  unfold Die.writeModelPage
  generalize List.range 1024 = l
  exact posting_fold (fun x i => x.writeHost noSlot (frame * 1024 + i) (BitVec.ofNat 512 (v >>> (512 * i))) false)
    (fun _ i hx => posting_line hx (frame * 1024 + i) (BitVec.ofNat 512 (v >>> (512 * i))) false) l true t rfl h

/-- A shard of an unsealed model written to HOST memory. -/
theorem posting_shard {t : Die} (h : Posting t) (m : Model) (h3 : m.home = 3) (hs : m.isSealed = false) (frames plain : List Nat) :
    (t.writeShard m frames plain).1 = true ∧ Posting (t.writeShard m frames plain).2 ∧
      (t.writeShard m frames plain).2.regs = t.regs := by
  unfold Die.writeShard
  simp only [h3, hs, Bool.false_and, Bool.false_eq_true, if_false]
  exact posting_fold (fun x (f : Nat × Nat) => x.writeModelPage 3 m.key f.1 (ofBytes plain >>> (524288 * f.2) % 2 ^ 524288))
    (fun _ f hx => posting_page hx m.key f.1 (ofBytes plain >>> (524288 * f.2) % 2 ^ 524288)) frames.zipIdx true t rfl h

/-- A die whose model is all on it passes no shard on. -/
theorem nextDies_alone {t : Die} (m : Model) (h : t.otherDies m.dies = []) (hl : (diesOf m.dies).length ≤ 2) : t.nextDies m = [] := by
  unfold Die.nextDies
  dsimp only
  rw [if_pos hl]
  split
  · exact h
  · rfl

theorem alone {t : Die} (h : Posting t) (m : Model) (h3 : m.home = 3) (hs : m.isSealed = false) (ho : t.otherDies m.dies = [])
    (hl : (diesOf m.dies).length ≤ 2) (frames plain : List Nat) : (t.writeShard m frames plain).2.nextDies m = [] := by
  refine nextDies_alone m ?_ hl
  unfold Die.otherDies Die.dieId Die.rf Die.reg at *
  rw [(posting_shard h m h3 hs frames plain).2.2]
  exact ho

theorem atHand_pass {t : Die} (m k : Model) (s : Nat) (i : Shard) (wire : List Nat) (h : AtHand t) (hn : t.nextDies m = []) :
    AtHand ((t.passShard m i wire).setModel s k) := by
  unfold Die.passShard Die.sendShard
  rw [hn]
  exact h

theorem far_returnFrame (d : Die) (a b : Nat) : (d.returnFrame a b).far = d.far := by
  unfold Die.returnFrame
  split
  · dsimp only
    split <;> rfl
  · rfl

theorem far_dropCopy (d : Die) (p : Nat) : (d.dropCopy p).far = d.far := by
  unfold Die.dropCopy
  dsimp only
  rw [far_returnFrame, Die.far_setPte]

theorem far_switchRepaired (d : Die) (p f : Nat) : (d.switchRepaired p f).far = d.far := by
  unfold Die.switchRepaired
  dsimp only
  rw [far_returnFrame, Die.far_setPte]
  split
  · exact far_dropCopy d p
  · rfl

theorem far_repairEnd (d : Die) (s i : Nat) (ok : Bool) : (d.repairEnd s i ok).far = d.far := by
  unfold Die.repairEnd Die.setModel
  rfl

theorem far_repaired (l : List (Nat × Nat)) (d : Die) : (l.foldl (fun acc x => acc.switchRepaired x.1 x.2) d).far = d.far := by
  induction l generalizing d with
  | nil => rfl
  | cons a l ih => rw [List.foldl_cons, ih, far_switchRepaired]

theorem atHand_repaired {d : Die} (l : List (Nat × Nat)) (s i : Nat) (ok : Bool) (h : AtHand d) :
    AtHand ((l.foldl (fun acc x => acc.switchRepaired x.1 x.2) d).repairEnd s i ok) := by
  unfold AtHand
  rw [far_repairEnd, far_repaired]
  exact h

theorem gotRight {α β γ : Type} {p : (α ⊕ β) × γ} (h : p.1.isRight = true) : p = (.inr (p.1.getRight h), p.2) := by
  obtain ⟨x, y⟩ := p
  cases x with
  | inl _ => simp at h
  | inr _ => rfl

theorem gotSum {α β γ : Type} {p : α ⊕ (β × γ)} (h : p.isRight = true) : p = .inr ((p.getRight h).1, (p.getRight h).2) := by
  cases p with
  | inl _ => simp at h
  | inr _ => rfl

/-- A load that waits for other dies stays as it is. -/
theorem plan_waits {t : Die} {p : LoadPlan} {c : Cmd} (h1 : (t.procDown 0 || t.asleep) = false) (h2 : t.ownPlan = some p)
    (h3 : t.planCmd p.slot = some c) (h4 : (p.asked.any fun x => !t.members.testBit x) = false) (h5 : p.asked ≠ []) :
    t.planGoOn = t := by
  unfold Die.planGoOn
  rw [h1, h2]
  simp [h3, h4, h5]

theorem identity_fits : 1797 + Config.crypto 3 0 % 8193 ≤ 65536 := by
  have := Nat.mod_lt (Config.crypto 3 0) (show 0 < 8193 by decide)
  omega

set_option maxRecDepth 100000 in
theorem flit_crc : crc32c (toBytes 252 (flit (2 ^ 25)).bits.toNat) = fld (flit (2 ^ 25)).bits.toNat 2047 2016 := by decide +kernel

end Sys2Proof.Tests

namespace Sys2Proof.Tests

set_option Elab.async false
set_option linter.unusedVariables false

/-! ### One step each: expected results worked by hand from the spec -/

/-- What a command leaves of the die. -/
def after (c : Instr) (d : Die) : Die :=
  match exec c { on with die := d } with
  | .next t => t.die
  | _ => d

/-- A row of the Shelves. -/
def rowOf (d : Die) (row : Nat) : Row := SMap.get (fun _ => (0#4096 : Row)) d.shelf.rows row

/-- A die whose Kiln issues the vector of 3 and −4 to the plane of rows 5 and 7, S8 by S8. -/
def issuing : Die :=
  { ready (desc 0x11 [stream 0 1024 1 1 0 0, param 0 1, param 12 2047]) with
    kiln := { Kiln.powerUp with
      issuing := some ⟨0, [⟨0xFC03, false⟩], 0, 0, 0, 0, 0, 0, false, false, 0, false, false, 0, [], [], [], 1⟩
      active := some ⟨false, 1, 2, 1, none, [5#4096, 7#4096], []⟩ } }

/-- 3 · 5 + (−4) · 7 = −13 is on its way to the accumulator (R84). -/
theorem test_kiln_vector :
    (after (.kilnVectorIssue .ready false none) issuing).kiln.pipe.map (fun g => g.map fun u => u.sums.headD 0) = [[2 ^ 32 - 13]] := by
  decide +kernel

/-- A copy moves all 4,096 bits of a row. -/
theorem test_copy_row :
    rowOf (after (.mCopy 0#12 Run.clean) (withRows (ready (desc 0x40 [stream 0 6144 0 1 0 0, stream 1 6145 0 1 0 0]))
      [(6144, 2 ^ 4095 + 5)])) 6145 = BitVec.ofNat 4096 (2 ^ 4095 + 5) := by decide +kernel

/-- An addition past 0xFFFF_FFFF stays there and poisons the counter (R174). -/
theorem test_event_saturates :
    let d := after (.schEventInc 0x2FFFF#32) (die.setEvt 65535 0xFFFFFFFE)
    d.evt 65535 = 0xFFFFFFFF ∧ d.evtPoison 65535 = true ∧ (d.reg Reg.SCH_EVT_ERR).toNat % 2 = 1 := by decide +kernel

/-- An addition that just fits does not (R174). -/
theorem test_event_fits :
    let d := after (.schEventInc 0x1FFFF#32) (die.setEvt 65535 0xFFFFFFFE)
    d.evt 65535 = 0xFFFFFFFF ∧ d.evtPoison 65535 = false ∧ (d.reg Reg.SCH_EVT_ERR).toNat % 2 = 0 := by decide +kernel

/-- A 2-byte write is refused and recorded: GLB_ERR bit 1, write, offset (R484). -/
theorem test_narrow_write :
    let d := after (.registerWrite false 0x14#26 2#4 0xFFFF#64) die
    (d.reg Reg.GLB_ERR).toNat = 2 ∧ (d.reg Reg.GLB_ERR_ADDR).toNat = 2 ^ 31 + 0x14 := by decide +kernel

/-- 383 cycles after a tick a host write only merges (R203). -/
theorem test_tick_merges :
    let d := after (.hostTickWrite 1#32 sense) (justTicked 2)
    d.firing = 0 ∧ (d.reg Reg.SCH_TICK_MERGED).toNat = 1 := by decide +kernel

/-- The low half of the reference clock is read and the high half is kept (R487). -/
theorem test_refclk_pair :
    (after (.latchedPairRead .refclk false) { die with refclk := 5 * 2 ^ 32 + 7 }).bus = 7#64 ∧
      ((after (.latchedPairRead .refclk false) { die with refclk := 5 * 2 ^ 32 + 7 }).readOne false (Reg.GLB_REFCLK_LO + 4)).1 = 5#32 := by
  decide +kernel

/-- A tenant code between 0x41 and 0x7E leaves SHF_BANK_CFG as it was (R55). -/
theorem test_bank_code :
    let d := after (.shfBankCfgWrite 1#7 0x17E01#32) die
    d.reg (Reg.SHF_BANK_CFG 1) = die.reg (Reg.SHF_BANK_CFG 1) ∧ (d.reg Reg.SHF_ERR).toNat ≠ 0 := by decide +kernel

/-- A line written under key 0x40 does not answer key 5 (R316). -/
theorem test_line_key :
    let d := after (.dramLineWrite 0x40#7 2048#30 7#512 false 0x40#7 0#20 false) (die.drawKey 5)
    (after (.dramLineRead 0x40#7 2048#30 0x40#7 0#20 false false ⟨0#576, false, false⟩) d).out.head? = some (.line (some 7#512) false) ∧
      (after (.dramLineRead 5#7 2048#30 5#7 0#20 false false ⟨0#576, false, false⟩) d).out.head? = some (.line none false) := by decide +kernel

/-- The Cone's trip stops the die, and the next command finds it stopped (R412). -/
theorem test_cone_trip :
    (match exec (.coneTrip 23#5) on with
      | .next t => t.tripped && !t.live && t.die.reg Reg.DMP_TRIP == 47#32
      | _ => false) = true := by decide +kernel

/-- The largest magnitudes of NB4 and NB3, and their negatives (Table 2.3). -/
theorem test_nb_codes :
    decodeNum Fmt.NB4 7 = decodeNum Fmt.S8 127 ∧ decodeNum Fmt.NB4 15 = decodeNum Fmt.S8 129 ∧
      decodeNum Fmt.NB3 3 = decodeNum Fmt.S8 127 ∧ decodeNum Fmt.NB3 7 = decodeNum Fmt.S8 129 := by decide

/-- SHAKE256 of no bytes, by FIPS 202: its first bytes are 46 B9 DD 2B. -/
theorem test_shake_empty : digest32 [] % 2 ^ 32 = 0x2BDDB946 := by decide +kernel

/-- The check value of CRC-32C over the digits 1 to 9. -/
theorem test_crc32c : crc32c [0x31, 0x32, 0x33, 0x34, 0x35, 0x36, 0x37, 0x38, 0x39] = 0xE3069283 := by decide +kernel

/-- FIPS 197, appendix C.3. -/
theorem test_aes256 :
    ofBytesBe (aesEncrypt (List.range 32) (toBytesBe 16 0x00112233445566778899AABBCCDDEEFF)) =
      0x8EA2B7CA516745BFEAFC49904B496089 := by decide +kernel

/-- A cycle of the reference clock passes when no command waits. -/
theorem test_idle_cycle : (match step on with
    | .next t => t.die.refclk
    | _ => 0) = 10 ^ 9 + 1 := by decide +kernel

/-! ### Operands no command of the hardware carries: each check refuses a term -/

theorem illFormed_bank : exec (.shfBankCfgWrite 88#7 0#32) on = .fault .illFormed := rfl

theorem wellFormed_row : wellFormed (.shelfRowRewrite 90111#17) = true ∧ wellFormed (.shelfRowRewrite 90112#17) = false := by decide

theorem wellFormed_site : wellFormed (.coneTrip 23#5) = true ∧ wellFormed (.coneTrip 24#5) = false := by decide

theorem wellFormed_temps :
    wellFormed (.thermalSample (List.replicate 24 0#16)) = true ∧ wellFormed (.thermalSample (List.replicate 23 0#16)) = false := by
  decide

theorem wellFormed_sense :
    wellFormed (.tick ⟨0#16, List.replicate 8 0#16⟩) = true ∧ wellFormed (.tick ⟨0#16, List.replicate 9 0#16⟩) = false := by decide

theorem wellFormed_estimate :
    wellFormed (.powerEstimatePeriod ⟨0#16, List.replicate 4 0#16, List.replicate 4 0#16, List.replicate 3 0#12⟩) = true ∧
      wellFormed (.powerEstimatePeriod ⟨0#16, List.replicate 3 0#16, List.replicate 4 0#16, List.replicate 3 0#12⟩) = false := by decide

/-- Each fault names its reason in every state. -/
theorem illFormed_site (s : State) : exec (.coneTrip 24#5) s = .fault .illFormed := rfl

/-! ### The hypotheses of the statements about the step, the queue, reset and results -/

/-- A running block has any die there is: what a statement says a command does is never empty. -/
theorem witness_Does (d : Die) : ({ on with die := d } : State).live = true ∧ ({ on with die := d } : State).die = d :=
  ⟨rfl, rfl⟩

theorem witness_IdleStepCounts :
    (on.pending = [] ∧ on.live = true ∧ ∃ d : Die, { on.die with refclk := on.die.refclk + 1 } = d ∧ d.queues.busy = none ∧
      d.tier.busy = none ∧ d.camGoOn = d ∧ d.modelsGoOn = d ∧ d.serving.late = [] ∧ d.owed = []) ∧
    (State.reset.pending = [] ∧ State.reset.live = false) :=
  ⟨⟨by decide +kernel, by decide +kernel, _, rfl, by decide +kernel⟩, by decide +kernel⟩

/-- A bank at the end of its range is carried; the next code is not. -/
theorem witness_CarriedCommandsAnswer :
    wellFormed (.shfBankCfgWrite 87#7 0#32) = true ∧ wellFormed (.shfBankCfgWrite 88#7 0#32) = false := by decide

theorem witness_LegalQueueRuns : ({ on with pending := [.nop, .porAssert, .nop] } : State).queueLegal = true := by decide +kernel

/-- The block after reset is held, and its step answers. -/
theorem witness_HeldInResetKept :
    State.reset.HeldInReset ∧ (∃ t, step { State.reset with pending := [.nop] } = .next t) ∧
      ({ State.reset with pending := [.nop] } : State).HeldInReset :=
  ⟨⟨by decide, by decide, fun _ => by decide +kernel⟩, ⟨_, rfl⟩, by decide, by decide, fun _ => by decide +kernel⟩

theorem witness_PinsKeptByDieCommands : (∃ t, exec .nop on = .next t) ∧ actsOnPins .nop = false ∧ actsOnPins .porAssert = true :=
  ⟨⟨_, rfl⟩, by decide, by decide⟩

theorem witness_DeadDieHearsNothing :
    State.reset.live = false ∧ wellFormed (.dmpWake 1#32) = true ∧ actsOnPins (.dmpWake 1#32) = false := by decide +kernel

/-- Two blocks that differ in their registers and agree on what outlives reset. -/
theorem witness_PorAssertForgets :
    ∃ s t : State, s ≠ t ∧ s.live = true ∧ t.live = true ∧ s.pending = t.pending ∧ s.jtagIr = t.jtagIr ∧
      s.die.nand = t.die.nand ∧ s.die.repairLog = t.die.repairLog ∧ s.die.nv = t.die.nv ∧
      s.die.dmc.lines = t.die.dmc.lines ∧ s.die.dmc.keyCtr = t.die.dmc.keyCtr ∧ s.die.freeCtr = t.die.freeCtr ∧
      s.die.out = t.die.out ∧ s.die.reg Reg.DMP_TRIP = t.die.reg Reg.DMP_TRIP :=
  ⟨on, { on with die := regs die [(Reg.GLB_ERR, 1)] }, by decide +kernel⟩

theorem witness_AsleepRefusesWrites :
    refusedAsleep (.queCmdDestroy 0#20) = true ∧ (regs die [(Reg.DMP_STAT, 2)]).asleep = true ∧ (regs die [(Reg.DMP_STAT, 1)]).asleep = false := by
  decide +kernel

theorem witness_NbDecode : (∃ c, c < 16 ∧ c % 8 = 7) ∧ (∃ c, c < 8 ∧ c % 4 = 3) := ⟨⟨15, by decide⟩, ⟨7, by decide⟩⟩

theorem witness_AccessWidths :
    ((0#4 ≠ 4#4 ∧ 0#4 ≠ 8#4) ∨ (0x3FFFFFF#26).toNat % 4 ≠ 0) ∧
    (4#4 = 4#4 ∧ (0x3FFFFFD#26).toNat % 4 ≠ 0) ∧
    (0x3FFFFFC#26).toNat % 4 = 0 ∧
    (∃ d1 d2 : Die, die.writeOne true 0x3FFFFFC 1#32 = d1 ∧ d1.writeOne true (0x3FFFFFC + 4) 0#32 = d2) ∧
    (∃ (d1 d2 : Die) (lo hi : Word), die.readOne false 0 = (lo, d1) ∧ d1.readOne false 4 = (hi, d2)) ∧
    Bit.GLB_ERR_WIDTH < 32 ∧ 0x3FFFFFF < 2 ^ 26 :=
  ⟨by decide, by decide, by decide, ⟨_, _, rfl, rfl⟩, ⟨_, _, _, _, rfl, rfl⟩, by decide, by decide⟩

/-- An offset no table names, on a waking and on a sleeping die. -/
theorem witness_UnnamedWords :
    (0x1200000#26).toNat % 4 = 0 ∧ wordAddr false (0x1200000#26).toNat = none ∧ die.asleep = false ∧
    (∃ off : BitVec 26, off.toNat % 4 = 0 ∧ wordAddr false off.toNat = none ∧ (regs die [(Reg.DMP_STAT, 2)]).asleep = true ∧
      awakeBlock off.toNat = true) ∧
    0x11FFFFF < 0x1200000 ∧ 63 < 64 ∧ 0xFFFC < 65536 ∧ 0xFFFC % 4 = 0 ∧
    wordAddr true (65536 * 63 + 0xFFFC) = none ∧ wordAddr true (65536 * 63 + 0x18) ≠ none :=
  ⟨by decide, by decide +kernel, by decide +kernel, ⟨BitVec.ofNat 26 (Reg.DMP_WAKE + 0x800), by decide +kernel⟩, by decide, by decide,
    by decide, by decide, by decide +kernel, by decide +kernel⟩

theorem witness_BankTenants :
    tenantLegal 0x41 = false ∧ tenantLegal 0x7E = false ∧ tenantLegal 0x7F = true ∧ (87#7).toNat < 88 ∧ die.asleep = false ∧
    tenantLegal (Word.f 0x4100#32 14 8) = false ∧
    (regs die [(Reg.SHF_BANK_CFG 0, 0x10500)]).shelfPage ⟨4, 6, 0, 0⟩ 1 false = some (stPermission, Bit.SHF_ERR_TENANT) := by
  decide +kernel

/-- Counter 65535 in no range, and an S.WAIT of tenant 63 on it. -/
theorem witness_EventOwners :
    (∀ t, t < 64 → die.evtInRange t 65535 = false) ∧
    (regs die [(Reg.QUE_TEN_EVT_BASE 63, 65535), (Reg.QUE_TEN_EVT_COUNT 63, 1)]).evtInRange 63 65535 = true ∧
    (∃ x : DescBits, 65535 ∈ (waitsOf x).map Prod.fst ∧ (unitOf (opcodeOf x)).isSome = true ∧
      (needsExt (opcodeOf x) = true → isExt x = true) ∧ nwait x ≤ 4 ∧ (opcodeOf x = 0 → nwait x = 0) ∧ nsig x ≤ 2) ∧
    (∃ x : DescBits, 65535 ∈ (signalsOf x).map Prod.fst ∧ (unitOf (opcodeOf x)).isSome = true ∧
      (needsExt (opcodeOf x) = true → isExt x = true) ∧ nwait x ≤ 4 ∧ (opcodeOf x = 0 → nwait x = 0) ∧ nsig x ≤ 2) :=
  ⟨by decide +kernel, by decide +kernel, ⟨waiting, by decide +kernel⟩, ⟨signalling, by decide +kernel⟩⟩

/-- The last cycle in which a source event merges. -/
theorem witness_TicksMerge :
    (∃ d : Die, sense.counts.length = 8 ∧ d.asleep = false ∧ Word.b 1#32 0 = true ∧ d.tickSource = 2 ∧ d.ticksRun = true ∧
      d.refclk + 1 = d.sched.lastTick + 384) ∧
    (∃ d : Die, d.tickSource = 3 ∧ d.ticksRun = true ∧ d.refclk + 1 = d.sched.lastTick + 384) ∧
    (∃ d : Die, d.tickSource = 1 ∧ d.rf Reg.SCH_TICK_CFG 3 2 = 3 ∧ d.refclk + 1 = d.sched.lastTick + 384) :=
  ⟨⟨justTicked 2, by decide +kernel⟩, ⟨justTicked 3, by decide +kernel⟩, ⟨justTicked 13, by decide +kernel⟩⟩

theorem witness_EventAdditions :
    Word.f 0x1FFFF#32 31 16 ≠ 0 ∧ die.asleep = false ∧ Word.f 0xFFFF#32 31 16 = 0 ∧
    0xFFFFFFFF < (die.setEvt 65535 0xFFFFFFFF).evt 65535 + 1 ∧ (die.setEvt 65535 0xFFFFFFFE).evt 65535 + 1 ≤ 0xFFFFFFFF := by
  decide +kernel

/-- Each pair of a base is named, on a waking die with the tier manager off. -/
theorem witness_RegisterPairs :
    die.asleep = false ∧ die.latch = [] ∧ (({ die with refclk := 10 ^ 13 } : Die).readOne false Reg.GLB_REFCLK_LO).2.latch ≠ [] ∧
    (regs die [(Reg.TIR_CTRL, 0)]).tierOn = false ∧ (regs die [(Reg.TIR_CTRL, 0)]).asleep = false ∧
    (∀ lo ∈ [Reg.IFE_ISP_BASE_LO, Reg.FWP_CMD_BASE_LO, Reg.FWP_RPL_BASE_LO, Reg.FWP_RECOVERY_LO, Reg.TIR_PT_BASE_LO, Reg.TIR_AREA_LO],
      (regRow lo).isSome = true ∧ (regRow (lo + 4)).isSome = true ∧ SMap.get die.reg die.heldLo lo = die.reg lo) := by
  decide +kernel

theorem witness_LinesReadBack :
    ∃ d d1 : Die, (2048#30).toNat < d.localLines ∧ d.lineHeld 2048 = false ∧ d.keyGen (0x40#7).toNat ≠ 0 ∧
      SMap.get (fun _ => 0) d.dmc.openRows (bankKey 2048) = Sys2Proof.Machine.rowOf 2048 + 1 ∧
      d.setLine 2048 ⟨7#512, 0x40, d.keyGen 0x40, d.lineEpoch 2048, 0, false⟩ = d1 ∧ 5#7 ≠ 0x40#7 ∧ d.keyGen (5#7).toNat ≠ 0 :=
  ⟨(die.drawKey 5).openRow 2048 0x40 0 false, _, by decide +kernel, by decide +kernel, by decide +kernel, by decide +kernel, rfl,
    by decide +kernel⟩

theorem witness_StorageKept :
    (leavesStorage .rngHealthFail = true ∧ ∃ t, exec .rngHealthFail on = .next t) ∧ on.die.dmc.waiting = [] ∧ on.die.camGoOn = on.die :=
  ⟨⟨by decide, _, rfl⟩, by decide +kernel, by decide +kernel⟩

/-! ### The hypotheses of the completion statements, clause by clause -/

/-- Each clause of Obligations.PowerAndPortComplete has a case. -/
theorem witness_PowerAndPortComplete :
    (∃ (s : State),
      s.porN = true ∧
      s.rails = true) ∧
    (∃ (s : State) (straps : Straps) (image : FlashImage) (d : Die),
      s.porN = false ∧
      s.rails = true ∧
      ((s.die.sampleStraps straps).bootSaggar straps.test).bootFrom straps.boot.toNat image = d) ∧
    (∃ (s : State),
      s.rails = true) ∧
    (∃ (s : State),
      s.rails = false) ∧
    (∃ (s : State) (site : BitVec 5),
      site.toNat < 24 ∧
      s.rails = true ∧
      s.tripped = false ∧
      s.porN = true) ∧
    (∃ (s : State) (site : BitVec 5),
      site.toNat < 24 ∧
      s.rails = true ∧
      s.tripped = false ∧
      s.porN = false) ∧
    (∃ (s : State),
      s.rails = true) ∧
    (∃ (s : State) (code : BitVec 8),
      s.rails = true) :=
  ⟨⟨on, by decide +kernel⟩,
    ⟨State.reset, ⟨1#2, 0#3, false⟩, ⟨⟨0#8, 0#5, 0#41⟩, [], 0#3⟩, _, by decide +kernel, by decide +kernel, rfl⟩,
    ⟨on, by decide +kernel⟩,
    ⟨{ on with rails := false }, by decide +kernel⟩,
    ⟨on, 0#5, by decide +kernel⟩,
    ⟨State.reset, 0#5, by decide +kernel⟩,
    ⟨on, by decide +kernel⟩,
    ⟨on, 0#8, by decide +kernel⟩⟩

/-- Each clause of Obligations.RegisterAccessesComplete has a case. -/
theorem witness_RegisterAccessesComplete :
    (∃ (d : Die) (bar2 : Bool) (off : BitVec 26) (data : BitVec 64),
      off.toNat % 4 = 0) ∧
    (∃ (d : Die) (bar2 : Bool) (off : BitVec 26) (data : BitVec 64),
      off.toNat % 4 = 0) ∧
    (∃ (d : Die) (off : BitVec 26) (v : Word) (r : RegRow),
      off.toNat % 4 = 0 ∧
      d.asleep = false ∧
      off.toNat < 0x100000 ∧
      wordAddr false off.toNat = some off.toNat ∧
      regRow off.toNat = some r ∧
      d.sched.late = none) ∧
    (∃ (d : Die) (bar2 : Bool) (off : BitVec 26) (a : Nat),
      off.toNat % 4 = 0 ∧
      d.asleep = false ∧
      wordAddr bar2 off.toNat = some a) ∧
    (∃ (d : Die),
      d.asleep = false) :=
  ⟨⟨die, false, 0#26, 0#64, by decide +kernel⟩,
    ⟨die, false, 0#26, 0#64, by decide +kernel⟩,
    ⟨die, 0x14#26, 0#32, _, by decide +kernel, by decide +kernel, by decide +kernel, by decide +kernel, (got (by decide +kernel)), by decide +kernel⟩,
    ⟨die, false, 0#26, _, by decide +kernel, by decide +kernel, (got (by decide +kernel))⟩,
    ⟨die, by decide +kernel⟩⟩

/-- Each clause of Obligations.ShelfRegistersComplete has a case. -/
theorem witness_ShelfRegistersComplete :
    (∃ (d : Die) (bank : BitVec 7) (w : Word),
      bank.toNat < 88 ∧
      d.asleep = false ∧
      d.bankBusy bank.toNat = false ∧
      w.f 3 0 ≤ 6 ∧
      (w.f 14 8 < 64 ∨ w.f 14 8 = 0x40 ∨ w.f 14 8 = 0x7F) ∧
      d.handoffHolds bank.toNat = false ∧
      w.b 4 = d.bankWeight bank.toNat) ∧
    (∃ (d : Die) (bank : BitVec 7) (w : Word),
      bank.toNat < 88 ∧
      d.asleep = false ∧
      d.bankBusy bank.toNat = false ∧
      w.f 3 0 ≤ 6 ∧
      (w.f 14 8 < 64 ∨ w.f 14 8 = 0x40 ∨ w.f 14 8 = 0x7F) ∧
      d.handoffHolds bank.toNat = false ∧
      w.b 4 ≠ d.bankWeight bank.toNat) ∧
    (∃ (d : Die) (n : BitVec 10) (w : Word),
      d.asleep = false ∧
      d.slotDeclared n.toNat = false) ∧
    (∃ (d : Die) (n : BitVec 10) (w : Word),
      d.asleep = false ∧
      w.b 0 = true ∧
      d.slotDeclared n.toNat = false ∧
      d.declareLegal n.toNat (w.f 11 8) = true) ∧
    (∃ (d : Die) (n : BitVec 10) (w : Word),
      d.asleep = false ∧
      w.b 0 = false ∧
      d.slotDeclared n.toNat = true) :=
  ⟨⟨die, 0#7, 0#32, by decide +kernel⟩,
    ⟨die, 0#7, 0x10#32, by decide +kernel⟩,
    ⟨die, 0#10, 0#32, by decide +kernel⟩,
    ⟨(regs die [(Reg.SHF_SLOT_RANGE 0, 0x20000)]), 0#10, 0x101#32, by decide +kernel⟩,
    ⟨(regs die [(Reg.SHF_SLOT_CTRL 0, 0x101)]), 0#10, 0#32, by decide +kernel⟩⟩

/-- Each clause of Obligations.ShelfUpkeepCompletes has a case. -/
theorem witness_ShelfUpkeepCompletes :
    (∃ (d : Die) (row : BitVec 17),
      row.toNat < 90112) ∧
    (∃ (d d1 : Die) (row : BitVec 17),
      row.toNat < 90112 ∧
      d.bankPowered (bankOf row.toNat) = true ∧
      d.rf Reg.SHF_SCRUB_CFG 15 0 ≠ 0 ∧
      d.scrubPass = d1 ∧
      d1.shelf.scrubbed.contains row.toNat = false ∧
      SMap.get (fun _ => 0) d1.shelf.damage row.toNat = 0) ∧
    (∃ (d d1 d2 : Die) (row : BitVec 17) (m : BitVec 32),
      row.toNat < 90112 ∧
      d.bankPowered (bankOf row.toNat) = true ∧
      d.rf Reg.SHF_SCRUB_CFG 15 0 ≠ 0 ∧
      d.scrubPass = d1 ∧
      d1.shelf.scrubbed.contains row.toNat = false ∧
      Die.upset { d1 with shelf := { d1.shelf with scrubbed := setInsert row.toNat d1.shelf.scrubbed } } ⟨false, BitVec.ofNat 32 row.toNat, BitVec.ofNat 576 m.toNat, false⟩ = d2 ∧
      SMap.get (fun _ => 0) d2.shelf.damage row.toNat ≠ 0) ∧
    (∃ (d d1 : Die) (bank : BitVec 7),
      bank.toNat < 88 ∧
      d.shelf.clearing.contains bank.toNat = true ∧
      d.bankInUse bank.toNat = false ∧
      (d.zeroBank bank.toNat).setRf (Reg.SHF_BANK_CFG bank.toNat) 17 17 0 = d1) ∧
    (∃ (d d1 : Die) (bank : BitVec 7),
      bank.toNat < 88 ∧
      d.shelf.closing.contains bank.toNat = true ∧
      d.sb = [] ∧
      (d.zeroBank bank.toNat).setRf (Reg.SHF_BANK_CFG bank.toNat) 16 16 0 = d1) ∧
    (∃ (d d1 : Die) (r n : Nat),
      d.firstWanted 3 = some r ∧
      d.rf (Reg.SHF_BANK_STAT (bankOf r)) 3 0 = n + 1 ∧
      (d.setRf (Reg.SHF_BANK_STAT (bankOf r)) 3 0 n).spareInService 3 r = d1) :=
  ⟨⟨die, 0#17, by decide +kernel⟩,
    ⟨die, _, 0x400#17, by decide +kernel, by decide +kernel, by decide +kernel, rfl, by decide +kernel⟩,
    ⟨die, _, _, 0x400#17, 3#32, by decide +kernel, by decide +kernel, by decide +kernel, rfl, by decide +kernel, rfl, by decide +kernel⟩,
    ⟨{ die with shelf := { die.shelf with clearing := [1] } }, _, 1#7, by decide +kernel, by decide +kernel, by decide +kernel, rfl⟩,
    ⟨{ die with shelf := { die.shelf with closing := [1] } }, _, 1#7, by decide +kernel, by decide +kernel, by decide +kernel, rfl⟩,
    ⟨{ regs die [(Reg.SHF_BANK_STAT 1, 4)] with track := [⟨3, 1024, [0], true, true⟩] }, _, 1024, 3, by decide +kernel, by decide +kernel, rfl⟩⟩

/-- Each clause of Obligations.EventRegistersComplete has a case. -/
theorem witness_EventRegistersComplete :
    (∃ (d : Die) (c : BitVec 16) (v : Word),
      d.asleep = false) ∧
    (∃ (d : Die) (w : Word),
      d.asleep = false ∧
      w.f 31 16 ≠ 0) ∧
    (∃ (d : Die) (i : BitVec 11) (w : Word),
      d.asleep = false) :=
  ⟨⟨die, 0#16, 0#32, by decide +kernel⟩,
    ⟨die, 0x10000#32, by decide +kernel⟩,
    ⟨die, 0#11, 0#32, by decide +kernel⟩⟩

/-- Each clause of Obligations.DoorbellsComplete has a case. -/
theorem witness_DoorbellsComplete :
    (∃ (d d1 : Die) (t : BitVec 6) (v : Word) (c : QCtx),
      d.pageLive t.toNat = true ∧
      d.wakeEvent 0 = d1 ∧
      v.f 31 20 ≠ 0 ∧
      v.f 19 0 < d1.qcount t.toNat ∧
      d1.cachedCtx (d1.qbase t.toNat + v.f 19 0) = some c ∧
      c.state ≠ 0 ∧
      c.state ≠ 3 ∧
      sub32 c.sqTail c.sqHead + v.f 31 20 ≤ 2 ^ c.sqLog2) ∧
    (∃ (d d1 : Die) (t : BitVec 6) (v : Word) (c : QCtx),
      d.pageLive t.toNat = true ∧
      d.wakeEvent 0 = d1 ∧
      v.f 31 20 ≠ 0 ∧
      v.f 19 0 < d1.qcount t.toNat ∧
      d1.cachedCtx (d1.qbase t.toNat + v.f 19 0) = some c ∧
      c.state ≠ 0 ∧
      c.state ≠ 3 ∧
      v.f 31 20 ≤ sub32 c.cqTail c.cqHead) ∧
    (∃ (d d1 d2 : Die) (t : BitVec 6) (v : Word) (q : Nat) (c : QCtx),
      d.pageLive t.toNat = true ∧
      d.wakeEvent 0 = d1 ∧
      v.f 19 0 < d1.qcount t.toNat ∧
      d1.qbase t.toNat + v.f 19 0 = q ∧
      d1.fetchCtx q = d2 ∧
      d2.ctxOf q = c ∧
      c.state ≠ 0 ∧
      c.state ≠ 3) ∧
    (∃ (d d1 : Die) (v : Word) (c : QCtx),
      d.wakeEvent 0 = d1 ∧
      v.f 31 20 ≠ 0 ∧
      v.f 19 0 < d1.qcount 64 ∧
      d1.cachedCtx (d1.qbase 64 + v.f 19 0) = some c ∧
      c.state ≠ 0 ∧
      c.state ≠ 3 ∧
      sub32 c.sqTail c.sqHead + v.f 31 20 ≤ 2 ^ c.sqLog2) ∧
    (∃ (d : Die) (v : Word) (c : QCtx),
      d.asleep = false ∧
      v.f 31 20 ≠ 0 ∧
      v.f 19 0 < d.qcount 64 ∧
      d.cachedCtx (d.qbase 64 + v.f 19 0) = some c ∧
      c.state ≠ 0 ∧
      c.state ≠ 3 ∧
      v.f 31 20 ≤ sub32 c.cqTail c.cqHead) ∧
    (∃ (d d2 : Die) (v : Word) (q : Nat) (c : QCtx),
      d.asleep = false ∧
      v.f 19 0 < d.qcount 64 ∧
      d.qbase 64 + v.f 19 0 = q ∧
      d.fetchCtx q = d2 ∧
      d2.ctxOf q = c ∧
      c.state ≠ 0 ∧
      c.state ≠ 3) ∧
    (∃ (d : Die) (q : BitVec 20),
      d.cachedCtx q.toNat = none) :=
  ⟨⟨{ regs die [(Reg.QUE_TEN_CFG 0, 2 ^ 31), (Reg.QUE_TEN_QBASE 0, 0), (Reg.QUE_TEN_QCOUNT 0, 4)] with queues := { die.queues with cache := [(0, ctx)] } }, _, 0#6, 0x100000#32, _, by decide +kernel, rfl, by decide +kernel, by decide +kernel, (got (by decide +kernel)), by decide +kernel⟩,
    ⟨{ regs die [(Reg.QUE_TEN_CFG 0, 2 ^ 31), (Reg.QUE_TEN_QBASE 0, 0), (Reg.QUE_TEN_QCOUNT 0, 4)] with queues := { die.queues with cache := [(0, { ctx with cqTail := 1 })] } }, _, 0#6, 0x100000#32, _, by decide +kernel, rfl, by decide +kernel, by decide +kernel, (got (by decide +kernel)), by decide +kernel⟩,
    ⟨{ regs die [(Reg.QUE_TEN_CFG 0, 2 ^ 31), (Reg.QUE_TEN_QBASE 0, 0), (Reg.QUE_TEN_QCOUNT 0, 4)] with queues := { die.queues with cache := [(0, ctx)] } }, _, _, 0#6, 0#32, _, _, by decide +kernel, rfl, by decide +kernel, rfl, rfl, rfl, by decide +kernel⟩,
    ⟨queued 0, _, 0x100000#32, _, rfl, by decide +kernel, by decide +kernel, (got (by decide +kernel)), by decide +kernel⟩,
    ⟨{ die with queues := { die.queues with cache := [(0, { ctx with cqTail := 1 })] } }, 0x100000#32, _, by decide +kernel, by decide +kernel, by decide +kernel, (got (by decide +kernel)), by decide +kernel⟩,
    ⟨{ die with queues := { die.queues with cache := [(0, ctx)] } }, _, 0#32, _, _, by decide +kernel, by decide +kernel, rfl, rfl, rfl, by decide +kernel⟩,
    ⟨die, 0#20, by decide +kernel⟩⟩

/-- Each clause of Obligations.ContextCommandsComplete has a case. -/
theorem witness_ContextCommandsComplete :
    (∃ (d d1 d2 : Die) (q : BitVec 20) (i : Nat) (x : QCtx),
      d.asleep = false ∧
      d.queues.busy = none ∧
      d.fetchCtx q.toNat = d1 ∧
      QCtx.ofBytes d1.ctxData = x ∧
      d1.queueRecord q.toNat = some i ∧
      (d1.ctxOf q.toNat).state = 0 ∧
      x.softLegal = true ∧
      x.ringLegal = true ∧
      d1.ringOk (tenantCode i) x.sqBase (128 * 2 ^ x.sqLog2) false = true ∧
      d1.ringOk (tenantCode i) x.cqBase (32 * 2 ^ x.cqLog2) true = true ∧
      (d1.unmark q.toNat).storeCtx q.toNat { x with sqTail := 0, sqHead := 0, cqTail := 0, cqHead := 0, nextSeq := 0, err := 0, inFlight := 0 } = d2) ∧
    (∃ (d d1 : Die) (q : BitVec 20) (c x : QCtx),
      d.asleep = false ∧
      d.queues.busy = none ∧
      d.fetchCtx q.toNat = d1 ∧
      d1.ctxOf q.toNat = c ∧
      QCtx.ofBytes d1.ctxData = x ∧
      (c.state = 1 ∨ c.state = 2 ∨ (c.state = 3 ∧ c.err ≠ 4)) ∧
      x.softLegal = true) ∧
    (∃ (d d1 : Die) (q : BitVec 20),
      d.asleep = false ∧
      d.queues.busy = none ∧
      d.fetchCtx q.toNat = d1) ∧
    (∃ (d d1 : Die) (q : BitVec 20),
      d.asleep = false ∧
      d.queues.busy = none ∧
      d.fetchCtx q.toNat = d1 ∧
      ((d1.ctxOf q.toNat).state = 2 ∨ (d1.ctxOf q.toNat).state = 3) ∧
      (d1.ctxOf q.toNat).inFlight = 0) :=
  ⟨⟨ctxRegs die ctx, _, _, 0#20, 64, _, by decide +kernel, by decide +kernel, rfl, rfl, by decide +kernel, by decide +kernel, by decide +kernel, by decide +kernel, (by decide +kernel), by decide +kernel, rfl⟩,
    ⟨ctxRegs (queued 0) ctx, _, 0#20, _, _, by decide +kernel, by decide +kernel, rfl, rfl, rfl, by decide +kernel⟩,
    ⟨die, _, 0#20, by decide +kernel, by decide +kernel, rfl⟩,
    ⟨{ die with queues := { die.queues with cache := [(0, { ctx with state := 2 })] } }, _, 0#20, by decide +kernel, by decide +kernel, rfl, by decide +kernel⟩⟩

/-- Each clause of Obligations.DescriptorLifeCompletes has a case. -/
theorem witness_DescriptorLifeCompletes :
    (∃ (d d1 : Die) (i q slots : Nat) (c : QCtx) (x : DescBits) (e : Entry),
      d.cqStalled = false ∧
      d.pickHead = some (i, q, c) ∧
      (d.workOf (admitSlot q)).readHead (tenantCode i) q c = (.ready x slots, d1) ∧
      opcodeOf x ≠ 0 ∧
      d1.flushing q c = false ∧
      d1.dispatchCause (tenantCode i) x = 0 ∧
      d1.newEntry i q c.nextSeq x 0 = e ∧
      AtHand (({ d1 with sb := d1.sb ++ [e] }).chargeAdmission i q slots c false).noteHigh) ∧
    (∃ (d d1 d2 : Die) (i q slots : Nat) (c : QCtx) (x : DescBits) (e : Entry),
      d.cqStalled = false ∧
      d.pickHead = some (i, q, c) ∧
      (d.workOf (admitSlot q)).readHead (tenantCode i) q c = (.ready x slots, d1) ∧
      opcodeOf x = 0 ∧
      d1.flushing q c = false ∧
      d1.dispatchCause (tenantCode i) x = 0 ∧
      d1.newEntry i q c.nextSeq x 0 = e ∧
      (({ d1 with sb := d1.sb ++ [e] }).chargeAdmission i q slots c false).noteHigh.shelfCheck e.tenant e.queue e.desc = (none, d2) ∧
      AtHand (d2.complete e)) ∧
    (∃ (d : Die) (slot : BitVec 12) (e : Entry),
      d.entry slot.toNat = some e ∧
      opcodeOf e.desc ≠ 0x63 ∧
      d.ctxHeld e = false ∧
      e.phase = .waiting ∧
      e.fail = 0 ∧
      d.waitsMet e.desc = true ∧
      d.slotsFree e = true ∧
      d.slotTurn e = true ∧
      d.unitAllows e = true ∧
      d.eventPoisoned e.desc = false ∧
      d.slotPoisoned e.desc = false) ∧
    (∃ (d : Die) (slot : BitVec 12) (e : Entry),
      d.entry slot.toNat = some e ∧
      e.phase = .executed ∧
      d.writesVisible e = true ∧
      AtHand ((d.workOf (recordSlot slot.toNat)).complete e)) ∧
    (∃ (d : Die) (slot : BitVec 12) (e : Entry) (l : Nat),
      d.entry slot.toNat = some e ∧
      e.phase = .executed ∧
      e.hostFlush = some ⟨l, false⟩ ∧
      d.hostUp = true) ∧
    (∃ (d : Die) (slot : BitVec 12) (e : Entry) (l : Nat),
      d.sb = [e] ∧
      e.slot = slot.toNat ∧
      e.hostFlush = some ⟨l, true⟩) :=
  ⟨⟨queued 0x60, _, 64, 0, 1, ctx, 0x60#2048, _, by decide +kernel, by decide +kernel, gotFirst (by decide +kernel), by decide +kernel, by decide +kernel, by decide +kernel, rfl, by decide +kernel⟩,
    ⟨queued 0, _, _, 64, 0, 1, ctx, 0#2048, _, by decide +kernel, by decide +kernel, gotFirst (by decide +kernel), by decide +kernel, by decide +kernel, by decide +kernel, rfl, (gotFirst (by decide +kernel)), by decide +kernel⟩,
    ⟨{ die with sb := [{ entry 0#2048 with phase := .waiting }] }, 0#12, _, (got (by decide +kernel)), by decide +kernel⟩,
    ⟨{ die with sb := [{ entry 0#2048 with phase := .executed }] }, 0#12, _, (got (by decide +kernel)), by decide +kernel⟩,
    ⟨{ die with sb := [{ entry 0#2048 with phase := .executed, hostFlush := some ⟨9, false⟩ }] }, 0#12, { entry 0#2048 with phase := .executed, hostFlush := some ⟨9, false⟩ }, 9, by decide +kernel⟩,
    ⟨{ die with sb := [{ entry 0#2048 with phase := .executed, hostFlush := some ⟨9, true⟩ }] }, 0#12, { entry 0#2048 with phase := .executed, hostFlush := some ⟨9, true⟩ }, 9, by decide +kernel⟩⟩

/-- Each clause of Obligations.TicksComplete has a case. -/
theorem witness_TicksComplete :
    (∃ (d : Die) (sense : Sense),
      sense.counts.length = 8 ∧
      d.ticksRun = true ∧
      d.tickDue = true) ∧
    (∃ (d : Die) (sense : Sense),
      sense.counts.length = 8 ∧
      d.ticksRun = true ∧
      d.fallbackDue = true) ∧
    (∃ (d : Die) (value : Word) (sense : Sense),
      sense.counts.length = 8 ∧
      d.asleep = false ∧
      value.b 0 = true ∧
      d.tickSource = 2 ∧
      d.ticksRun = true ∧
      d.tooSoon = false) ∧
    (∃ (d d1 : Die) (sense : Sense) (v : Word),
      d.asleep = false ∧
      v.b 0 = true ∧
      d.freeSense = (sense, d1) ∧
      d1.tickSource = 2 ∧
      d1.ticksRun = true ∧
      d1.tooSoon = false) :=
  ⟨⟨timed 0, sense, by decide +kernel⟩,
    ⟨timed 2, sense, by decide +kernel⟩,
    ⟨timed 2, 1#32, sense, by decide +kernel⟩,
    ⟨regs (timed 2) [(Reg.FWP_STAT, 3 + 32)], _, _, 1#32, by decide +kernel, by decide +kernel, rfl, by decide +kernel⟩⟩

/-- Each clause of Obligations.SyncCompletes has a case. -/
theorem witness_SyncCompletes :
    (∃ (d : Die) (slot : BitVec 12) (e : Entry),
      Starts 0x60 slot.toNat Run.clean freeStart anyLegal d e ∧
      AtHand ((d.checked e Run.clean).finish e.slot stOk 0 0 0 0)) ∧
    (∃ (d : Die) (slot : BitVec 12) (e : Entry),
      d.entry slot.toNat = some e ∧
      e.phase = .waiting ∧
      opcodeOf e.desc = 0x60 ∧
      e.fail = 0 ∧
      pF e.desc 15 0 ≠ 0 ∧
      pF e.desc 15 0 ≤ e.ticks) ∧
    (∃ (d : Die) (slot : BitVec 12) (e : Entry),
      Starts 0x61 slot.toNat Run.clean (fun e _ => pF e.desc 1 0 == 0) anyLegal d e ∧
      AtHand (signalBody e (d.checked e Run.clean))) ∧
    (∃ (d : Die) (slot : BitVec 12) (e : Entry),
      Starts 0x61 slot.toNat Run.clean (fun e _ => pF e.desc 1 0 == 1) anyLegal d e ∧
      AtHand (signalBody e (d.checked e Run.clean))) ∧
    (∃ (d : Die) (slot : BitVec 12) (e : Entry),
      Starts 0x61 slot.toNat Run.clean (fun e _ => pF e.desc 1 0 == 2) anyLegal d e ∧
      AtHand (signalBody e (d.checked e Run.clean))) ∧
    (∃ (d : Die) (slot : BitVec 12) (e : Entry),
      Starts 0x62 slot.toNat Run.clean freeStart (fun e d1 => (barMask e.desc).testBit d1.dieId) d e ∧
      AtHand (barrierBody e (d.checked e Run.clean))) ∧
    (∃ (d : Die) (r : Release),
      d.sched.releases = [r] ∧
      r.t0 + 250 * d.dieId ≤ d.ftime) ∧
    (∃ (d : Die) (slot : BitVec 12) (e : Entry),
      Starts 0x63 slot.toNat Run.clean freeStart anyLegal d e ∧
      AtHand ((d.checked e Run.clean).finish e.slot stOk 0 e.result0 0 0)) ∧
    (∃ (d : Die) (slot : BitVec 12) (e : Entry),
      d.entry slot.toNat = some e ∧
      opcodeOf e.desc = 0x63 ∧
      e.phase = .waiting ∧
      e.fail = 0 ∧
      d.waitsMet e.desc = true ∧
      d.slotsFree e = true ∧
      d.slotTurn e = true ∧
      d.eventPoisoned e.desc = false ∧
      d.slotPoisoned e.desc = false ∧
      (if tickAbs e.desc = true then d.firingReached (pF e.desc 63 32) = true else pF e.desc 31 16 ≤ e.ticks)) :=
  ⟨⟨ready (desc 0x60 [param 0 5]), 0#12, entry (desc 0x60 [param 0 5]), by unfold Starts Startable; decide +kernel, by decide +kernel⟩,
    ⟨{ die with sb := [{ entry (desc 0x60 [param 0 5]) with phase := .waiting, ticks := 5 }] }, 0#12, { entry (desc 0x60 [param 0 5]) with phase := .waiting, ticks := 5 }, by decide +kernel⟩,
    ⟨ready (desc 0x61 [param 0 0, param 16 7]), 0#12, entry (desc 0x61 [param 0 0, param 16 7]), by unfold Starts Startable; decide +kernel, by decide +kernel⟩,
    ⟨ready (desc 0x61 [param 0 1, param 16 7]), 0#12, entry (desc 0x61 [param 0 1, param 16 7]), by unfold Starts Startable; decide +kernel, by decide +kernel⟩,
    ⟨ready (desc 0x61 [param 0 2, param 16 7]), 0#12, entry (desc 0x61 [param 0 2, param 16 7]), by unfold Starts Startable; decide +kernel, by decide +kernel⟩,
    ⟨ready (desc 0x62 [param 8 1]), 0#12, entry (desc 0x62 [param 8 1]), by unfold Starts Startable; decide +kernel, by decide +kernel⟩,
    ⟨{ die with sched := { die.sched with releases := [⟨0, 1, 5, false⟩] } }, ⟨0, 1, 5, false⟩, by decide +kernel⟩,
    ⟨ready (desc 0x63 [param 0 1]), 0#12, entry (desc 0x63 [param 0 1]), by unfold Starts Startable; decide +kernel, by decide +kernel⟩,
    ⟨{ die with sb := [{ entry (desc 0x63 [param 0 1]) with phase := .waiting }] }, 0#12, { entry (desc 0x63 [param 0 1]) with phase := .waiting }, by decide +kernel⟩⟩

/-- Each clause of Obligations.MoversComplete has a case. -/
theorem witness_MoversComplete :
    (∃ (d : Die) (slot : BitVec 12) (run : Run) (e : Entry),
      Starts 0x40 slot.toNat run freeStart mCopyLegal d e ∧
      AtHand (mCopyBody run e (d.checked e run))) ∧
    (∃ (d : Die) (slot : BitVec 12) (run : Run) (e : Entry),
      Starts 0x41 slot.toNat run freeStart (indexedLegal 0 2) d e ∧
      AtHand (mGatherBody run e (d.checked e run))) ∧
    (∃ (d : Die) (slot : BitVec 12) (run : Run) (e : Entry),
      Starts 0x42 slot.toNat run freeStart (indexedLegal 2 0) d e ∧
      AtHand (mScatterBody run e (d.checked e run))) ∧
    (∃ (d : Die) (slot : BitVec 12) (run : Run) (e : Entry),
      Starts 0x43 slot.toNat run freeStart (fun _ _ => true) d e ∧
      AtHand (mFillBody run e (d.checked e run))) :=
  ⟨⟨ready (desc 0x40 [stream 0 6144 0 1 0 0, stream 1 6145 0 1 0 0]), 0#12, Run.clean, entry (desc 0x40 [stream 0 6144 0 1 0 0, stream 1 6145 0 1 0 0]), by unfold Starts Startable; decide +kernel, by decide +kernel⟩,
    ⟨ready (desc 0x41 [stream 0 6144 0 1 0 0, stream 1 6145 4 1 0 0, stream 2 6146 0 1 0 0, param 0 1, param 16 1, param 40 1, param 72 1]), 0#12, Run.clean, entry (desc 0x41 [stream 0 6144 0 1 0 0, stream 1 6145 4 1 0 0, stream 2 6146 0 1 0 0, param 0 1, param 16 1, param 40 1, param 72 1]), by unfold Starts Startable; decide +kernel, by decide +kernel⟩,
    ⟨ready (desc 0x42 [stream 0 6144 0 1 0 0, stream 1 6145 4 1 0 0, stream 2 6146 0 1 0 0, param 0 1, param 16 1, param 40 1, param 72 1]), 0#12, Run.clean, entry (desc 0x42 [stream 0 6144 0 1 0 0, stream 1 6145 4 1 0 0, stream 2 6146 0 1 0 0, param 0 1, param 16 1, param 40 1, param 72 1]), by unfold Starts Startable; decide +kernel, by decide +kernel⟩,
    ⟨ready (desc 0x43 [stream 0 6144 0 1 0 0]), 0#12, Run.clean, entry (desc 0x43 [stream 0 6144 0 1 0 0]), by unfold Starts Startable; decide +kernel, by decide +kernel⟩⟩

/-- Each clause of Obligations.GlazeCompletes has a case. -/
theorem witness_GlazeCompletes :
    (∃ (d : Die) (slot : BitVec 12) (run : Run) (e : Entry),
      Starts 0x30 slot.toNat run freeStart elemLegal d e ∧
      AtHand (gElemBody run e (d.checked e run))) ∧
    (∃ (d : Die) (slot : BitVec 12) (run : Run) (e : Entry),
      Starts 0x31 slot.toNat run freeStart normLegal d e ∧
      AtHand (gNormBody run e (d.checked e run))) ∧
    (∃ (d : Die) (slot : BitVec 12) (run : Run) (e : Entry),
      Starts 0x32 slot.toNat run freeStart softmaxLegal d e ∧
      AtHand (gSoftmaxBody run e (d.checked e run))) ∧
    (∃ (d : Die) (slot : BitVec 12) (run : Run) (e : Entry),
      Starts 0x33 slot.toNat run freeStart ropeLegal d e ∧
      AtHand (gRopeBody run e (d.checked e run))) ∧
    (∃ (d : Die) (slot : BitVec 12) (run : Run) (e : Entry),
      Starts 0x34 slot.toNat run freeStart requantLegal d e ∧
      AtHand (gRequantBody run e (d.checked e run))) ∧
    (∃ (d : Die) (slot : BitVec 12) (run : Run) (e : Entry),
      Starts 0x35 slot.toNat run freeStart topkLegal d e ∧
      AtHand (gTopkBody run e (d.checked e run))) :=
  ⟨⟨ready (desc 0x30 [stream 0 7168 1 1 0 0, stream 2 7169 1 1 0 0, param 0 1, param 18 1]), 0#12, Run.clean, entry (desc 0x30 [stream 0 7168 1 1 0 0, stream 2 7169 1 1 0 0, param 0 1, param 18 1]), by unfold Starts Startable; decide +kernel, by decide +kernel⟩,
    ⟨ready (desc 0x31 [stream 0 7168 1 1 0 0, stream 2 7169 1 1 0 0, param 0 1, param 18 1, param 64 1065353216]), 0#12, Run.clean, entry (desc 0x31 [stream 0 7168 1 1 0 0, stream 2 7169 1 1 0 0, param 0 1, param 18 1, param 64 1065353216]), by unfold Starts Startable; decide +kernel, by decide +kernel⟩,
    ⟨ready (desc 0x32 [stream 0 7168 1 1 0 0, stream 1 7169 1 1 0 0, param 0 1, param 18 1, param 32 1065353216]), 0#12, Run.clean, entry (desc 0x32 [stream 0 7168 1 1 0 0, stream 1 7169 1 1 0 0, param 0 1, param 18 1, param 32 1065353216]), by unfold Starts Startable; decide +kernel, by decide +kernel⟩,
    ⟨ready (desc 0x33 [stream 0 7168 1 1 1 0, stream 1 7170 11 1 0 0, stream 2 7171 1 1 1 0, level 0 2 1, param 0 2, param 18 1, param 28 2, param 64 1073741824]), 0#12, Run.clean, entry (desc 0x33 [stream 0 7168 1 1 1 0, stream 1 7170 11 1 0 0, stream 2 7171 1 1 1 0, level 0 2 1, param 0 2, param 18 1, param 28 2, param 64 1073741824]), by unfold Starts Startable; decide +kernel, by decide +kernel⟩,
    ⟨ready (desc 0x34 [stream 0 7168 4 1 0 0, stream 2 7169 1 1 0 0, param 0 1, param 18 1]), 0#12, Run.clean, entry (desc 0x34 [stream 0 7168 4 1 0 0, stream 2 7169 1 1 0 0, param 0 1, param 18 1]), by unfold Starts Startable; decide +kernel, by decide +kernel⟩,
    ⟨ready (desc 0x35 [stream 0 7168 1 1 0 0, stream 1 7169 1 1 0 0, stream 2 7170 4 1 0 0, param 0 1, param 18 1, param 28 1]), 0#12, Run.clean, entry (desc 0x35 [stream 0 7168 1 1 0 0, stream 1 7169 1 1 0 0, stream 2 7170 4 1 0 0, param 0 1, param 18 1, param 28 1]), by unfold Starts Startable; decide +kernel, by decide +kernel⟩⟩

/-- Each clause of Obligations.PugCompletes has a case. -/
theorem witness_PugCompletes :
    (∃ (d : Die) (slot : BitVec 12) (run : Run) (e : Entry),
      Starts 0x50 slot.toNat run freeStart pCompressLegal d e ∧
      AtHand (pCompressBody run e (d.checked e run))) ∧
    (∃ (d : Die) (slot : BitVec 12) (run : Run) (e : Entry),
      Starts 0x51 slot.toNat run freeStart pExpandLegal d e ∧
      AtHand (pExpandBody run e (d.checked e run))) :=
  ⟨⟨ready (desc 0x50 [stream 0 6144 0 1 0 0, stream 1 6145 0 1 0 0, param 0 64, param 32 1, param 49 1]), 0#12, Run.clean, entry (desc 0x50 [stream 0 6144 0 1 0 0, stream 1 6145 0 1 0 0, param 0 64, param 32 1, param 49 1]), by unfold Starts Startable; decide +kernel, by decide +kernel⟩,
    ⟨ready (desc 0x51 [stream 0 6144 0 1 0 0, stream 1 6145 0 1 0 0, param 0 64]), 0#12, Run.clean, entry (desc 0x51 [stream 0 6144 0 1 0 0, stream 1 6145 0 1 0 0, param 0 64]), by unfold Starts Startable; decide +kernel, by decide +kernel⟩⟩

/-- Each clause of Obligations.WheelCompletes has a case. -/
theorem witness_WheelCompletes :
    (∃ (d : Die) (slot : BitVec 12) (run : Run) (faults : List WheelUpset) (e : Entry),
      Starts 0x20 slot.toNat run freeStart gemvLegal d e ∧
      AtHand (gemvBody faults run e (d.checked e run))) ∧
    (∃ (d : Die) (slot : BitVec 12) (run : Run) (faults : List WheelUpset) (e : Entry),
      Starts 0x21 slot.toNat run freeStart attnLegal d e ∧
      AtHand (attnBody faults run e (d.checked e run))) ∧
    (∃ (d : Die) (slot : BitVec 12) (run : Run) (e : Entry),
      Starts 0x22 slot.toNat run freeStart appendLegal d e ∧
      AtHand (appendBody run e (d.checked e run))) ∧
    (∃ (d : Die) (slot : BitVec 12) (run : Run) (e : Entry),
      Starts 0x23 slot.toNat run freeStart evictLegal d e ∧
      AtHand (evictBody run e (d.checked e run))) ∧
    (∃ (d t : Die) (e : Entry),
      d.prefetchPick = some e ∧
      d.prefetchable e = true ∧
      prefetchRead e (Die.workOf { d with wheel := { d.wheel with prefetch := some e.slot } } e.slot) = t ∧
      AtHand t) ∧
    (∃ (d : Die) (p s : Nat) (more : List Nat),
      d.firstWanted 2 = some p ∧
      (d.inClass 101).isEmpty = true ∧
      d.prefetching = false ∧
      d.sharesRunBy p = s :: more ∧
      d.rf Reg.WHL_SPARE_STAT 4 0 ≠ 0x1F) :=
  ⟨⟨withRows (ready (desc 0x20 [stream 0 4096 1 1 0 0, stream 1 4097 1 1 1 0, stream 2 4099 4 1 0 0, level 0 2 1, param 0 2, param 16 1, param 35 1])) [(4096, 128 * 2 ^ 960 + 160 * 2 ^ 992 + pugStream * 2 ^ 1024), (4097, 5), (4098, 7)], 0#12, Run.clean, [], entry (desc 0x20 [stream 0 4096 1 1 0 0, stream 1 4097 1 1 1 0, stream 2 4099 4 1 0 0, level 0 2 1, param 0 2, param 16 1, param 35 1]), by unfold Starts Startable; decide +kernel, by decide +kernel⟩,
    ⟨kvDie (desc 0x21 [(8, 1), stream 0 4096 5 1 1 0, stream 1 4196 0 1 0 0, stream 2 4296 11 1 1 0, level 0 16 1, paramX 0 1, paramX 7 1, paramX 15 1, paramX 22 16, paramX 31 5, paramX 37 1, paramX 64 1065353216]) 4196, 0#12, Run.clean, [], entry (desc 0x21 [(8, 1), stream 0 4096 5 1 1 0, stream 1 4196 0 1 0 0, stream 2 4296 11 1 1 0, level 0 16 1, paramX 0 1, paramX 7 1, paramX 15 1, paramX 22 16, paramX 31 5, paramX 37 1, paramX 64 1065353216]), by unfold Starts Startable; decide +kernel, by decide +kernel⟩,
    ⟨kvDie (desc 0x22 [stream 0 4096 9 1 1 0, stream 1 4116 9 1 1 0, stream 2 4196 0 1 0 0, level 0 16 1, param 0 1, param 10 1, param 17 16, param 26 5]) 4196, 0#12, Run.clean, entry (desc 0x22 [stream 0 4096 9 1 1 0, stream 1 4116 9 1 1 0, stream 2 4196 0 1 0 0, level 0 16 1, param 0 1, param 10 1, param 17 16, param 26 5]), by unfold Starts Startable; decide +kernel, by decide +kernel⟩,
    ⟨kvDie (desc 0x23 [stream 0 4196 0 1 0 0, param 0 1, param 10 1, param 17 16, param 26 5, param 30 0]) 4196, 0#12, Run.clean, entry (desc 0x23 [stream 0 4196 0 1 0 0, param 0 1, param 10 1, param 17 16, param 26 5, param 30 0]), by unfold Starts Startable; decide +kernel, by decide +kernel⟩,
    ⟨ready (desc 0x20 [stream 0 4096 1 1 0 0, stream 1 4097 1 1 1 0, stream 2 4099 4 1 0 0, level 0 2 1, param 0 2, param 16 1, param 35 1]), _, entry (desc 0x20 [stream 0 4096 1 1 0 0, stream 1 4097 1 1 1 0, stream 2 4099 4 1 0 0, level 0 2 1, param 0 2, param 16 1, param 35 1]), by decide +kernel, by decide +kernel, rfl, by decide +kernel⟩,
    ⟨{ regs die (((List.range 16).map fun s => (Reg.WHL_SHARE_MAP s, s)) ++ [(Reg.WHL_SPARE_STAT, 16)]) with track := [⟨2, 3, [0], true, true⟩] }, 3, 3, [], by decide +kernel⟩⟩

/-- Each clause of Obligations.KilnWorkCompletes has a case. -/
theorem witness_KilnWorkCompletes :
    (∃ (d d2 : Die) (slot : BitVec 12) (run : Run) (e : Entry),
      (d.entry slot.toNat).map d.atStart = some e ∧
      opcodeOf e.desc = 0x10 ∧
      d.kiln.shadowState = .empty ∧
      d.mayStart e = true ∧
      d.slotTurn e = true ∧
      e.skipped = false ∧
      loadLegal e.desc = true ∧
      ((d.workOf slot.toNat).kilnStart e run).allStartChecks e = (none, d2) ∧
      AtHand ((d2.taintEntry e).loadPlane e run)) ∧
    (∃ (d d2 : Die) (slot : BitVec 12) (run : Run) (e : Entry),
      (d.entry slot.toNat).map d.atStart = some e ∧
      opcodeOf e.desc = 0x11 ∧
      d.mayPrime = true ∧
      d.startable e = true ∧
      d.oldest e = true ∧
      d.slotTurn e = true ∧
      e.skipped = false ∧
      chargeLegal e.desc = true ∧
      ((d.workOf slot.toNat).kilnStart e run).allStartChecks e = (none, d2) ∧
      AtHand (d2.primeCharge e)) ∧
    (∃ (d : Die) (c : Charge) (e : Entry),
      d.kiln.priming = some c ∧
      d.entry c.slot = some e ∧
      c.skip = false ∧
      d.kiln.issuing = none ∧
      chargeSwap e.desc = true ∧
      d.kiln.shadowState = .full ∧
      d.kiln.swapsOwed = 0 ∧
      d.owedNext e c = false ∧
      (c.vectors.length = 1 → d.kiln.finishing = [])) ∧
    (∃ (d : Die) (c : Charge) (e : Entry) (p : Plane) (v : WVec) (rest : List WVec),
      d.kiln.issuing = some c ∧
      d.kiln.active = some p ∧
      d.entry c.slot = some e ∧
      c.vectors = v :: rest ∧
      (chargeFmt e.desc = Fmt.E2M3 → c.cadence % 3 ≠ 2) ∧
      (c.cycles = 0 ∨ d.owedNext e c = false) ∧
      (rest = [] → d.kiln.finishing = [])) ∧
    (∃ (d : Die) (g : List InFlight) (rest : List (List InFlight)),
      d.kiln.pipe = g :: rest) ∧
    (∃ (d : Die) (c : Charge) (e : Entry) (p : Bool × Die),
      d.kiln.draining = some c ∧
      d.entry c.slot = some e ∧
      c.drained / kilnLanes (chargeFmt e.desc) < c.next ∧
      d.kiln.pipe = [] ∧
      d.drainWrite e (d.accRow (chargeBase e.desc + c.drained)) 0 (c.outRows.take (ceilDiv c.cols 256)) = p ∧
      p.1 = true) :=
  ⟨⟨ready (desc 0x10 [stream 0 2048 1 1 0 0, param 0 1, param 9 1]), _, 0#12, Run.clean, entry (desc 0x10 [stream 0 2048 1 1 0 0, param 0 1, param 9 1]), by decide +kernel, by decide +kernel, by decide +kernel, by decide +kernel, (by decide +kernel), by decide +kernel, by decide +kernel, (gotFirst (by decide +kernel)), by decide +kernel⟩,
    ⟨ready (desc 0x11 [stream 0 1024 1 1 0 0, param 0 1, param 12 2047]), _, 0#12, Run.clean, entry (desc 0x11 [stream 0 1024 1 1 0 0, param 0 1, param 12 2047]), by decide +kernel, by decide +kernel, by decide +kernel, by decide +kernel, (by decide +kernel), by decide +kernel, by decide +kernel, by decide +kernel, (gotFirst (by decide +kernel)), by decide +kernel⟩,
    ⟨{ ready (desc 0x11 [stream 0 1024 1 1 0 0, param 0 1, param 24 1]) with kiln := { Kiln.powerUp with priming := some ⟨0, [⟨0xFC03, false⟩], 0, 0, 0, 0, 0, 0, false, false, 0, false, false, 0, [], [], [], 1⟩, shadowState := .full, shadow := some ⟨false, 1, 2, 1, none, [5#4096, 7#4096], []⟩ } }, ⟨0, [⟨0xFC03, false⟩], 0, 0, 0, 0, 0, 0, false, false, 0, false, false, 0, [], [], [], 1⟩, entry (desc 0x11 [stream 0 1024 1 1 0 0, param 0 1, param 24 1]), rfl, by decide +kernel⟩,
    ⟨{ ready (desc 0x11 [stream 0 1024 1 1 0 0, param 0 1, param 12 2047]) with kiln := { Kiln.powerUp with issuing := some ⟨0, [⟨0xFC03, false⟩], 0, 0, 0, 0, 0, 0, false, false, 0, false, false, 0, [], [], [], 1⟩, active := some ⟨false, 1, 2, 1, none, [5#4096, 7#4096], []⟩ } }, ⟨0, [⟨0xFC03, false⟩], 0, 0, 0, 0, 0, 0, false, false, 0, false, false, 0, [], [], [], 1⟩, entry (desc 0x11 [stream 0 1024 1 1 0 0, param 0 1, param 12 2047]), ⟨false, 1, 2, 1, none, [5#4096, 7#4096], []⟩, ⟨0xFC03, false⟩, [], by decide +kernel⟩,
    ⟨{ ready (desc 0x11 [stream 0 1024 1 1 0 0, param 0 1, param 12 2047]) with kiln := { Kiln.powerUp with pipe := [[⟨0, [13], .s32, false, false, false, 0⟩]] } }, [⟨0, [13], .s32, false, false, false, 0⟩], [], by decide +kernel⟩,
    ⟨{ ready (desc 0x11 [stream 0 1024 1 1 0 0, stream 2 2048 0 1 0 0, param 0 1, param 26 1]) with kiln := { Kiln.powerUp with finishing := [⟨0, [], 0, 1, 0, 0, 0, 0, false, false, 0, false, false, 0, [], [2048], [], 1⟩] } }, ⟨0, [], 0, 1, 0, 0, 0, 0, false, false, 0, false, false, 0, [], [2048], [], 1⟩, entry (desc 0x11 [stream 0 1024 1 1 0 0, stream 2 2048 0 1 0 0, param 0 1, param 26 1]), _, by decide +kernel, by decide +kernel, by decide +kernel, by decide +kernel, rfl, by decide +kernel⟩⟩

/-- Each clause of Obligations.KilnUpkeepCompletes has a case. -/
theorem witness_KilnUpkeepCompletes :
    (∃ (d : Die),
      d.kiln.shadowState = .releasing) ∧
    (∃ (d : Die) (n : Nat),
      d.kiln.shadowState = .full ∧
      d.kiln.issuing = none ∧
      d.kiln.swapsOwed = n + 1) ∧
    (∃ (d : Die) (c : Charge),
      d.kiln.issuing = some c ∧
      (d.reg Reg.KLN_HOLD_LIMIT).toNat ≠ 0 ∧
      (d.reg Reg.KLN_HOLD_LIMIT).toNat ≤ c.held) ∧
    (∃ (d : Die),
      d.kiln.issuing = none ∧
      d.kiln.finishing = []) ∧
    (∃ (d : Die) (loc : Nat),
      d.firstWanted 1 = some loc ∧
      d.kilnIdle = true ∧
      (d.reg Reg.KLN_SPARE_STAT).b (8 + loc % 512 / 64) = true) ∧
    (∃ (d : Die) (loc : Nat),
      d.firstWanted 1 = some loc ∧
      d.kilnIdle = true) ∧
    (∃ (d : Die) (w : Word),
      d.asleep = false ∧
      w.b 0 = true) :=
  ⟨⟨{ die with kiln := { Kiln.powerUp with shadowState := .releasing } }, by decide +kernel⟩,
    ⟨{ die with kiln := { Kiln.powerUp with shadowState := .full, swapsOwed := 1 } }, 0, by decide +kernel⟩,
    ⟨{ regs die [(Reg.KLN_HOLD_LIMIT, 255)] with kiln := { Kiln.powerUp with issuing := some ⟨0, [⟨0, false⟩], 0, 0, 255, 0, 0, 0, false, false, 0, false, false, 0, [], [], [], 1⟩ } }, ⟨0, [⟨0, false⟩], 0, 0, 255, 0, 0, 0, false, false, 0, false, false, 0, [], [], [], 1⟩, by decide +kernel⟩,
    ⟨die, by decide +kernel⟩,
    ⟨{ regs die [(Reg.KLN_SPARE_STAT, 32768)] with track := [⟨1, 511, [0], true, true⟩] }, 511, by decide +kernel⟩,
    ⟨{ regs die [(Reg.KLN_SPARE_STAT, 1)] with track := [⟨1, 511, [0], true, true⟩] }, 511, by decide +kernel⟩,
    ⟨die, 1#32, by decide +kernel⟩⟩

/-- Each clause of Obligations.UnitResetsComplete has a case. -/
theorem witness_UnitResetsComplete :
    (∃ (d : Die),
      d.asleep = false) ∧
    (∃ (d : Die),
      d.asleep = false) ∧
    (∃ (d : Die),
      d.asleep = false) ∧
    (∃ (d : Die),
      d.asleep = false) ∧
    (∃ (d : Die),
      d.asleep = false) ∧
    (∃ (d d1 d2 : Die),
      d.asleep = false ∧
      d.tier.moves.foldl (fun acc m => acc.abandonMove m) d = d1 ∧
      (d.tier.parks.filter fun r => r.mgmt && r.expires.isNone).foldl (fun acc r => acc.parkDone r.id) d1 = d2) ∧
    (∃ (d d1 : Die),
      d.asleep = false ∧
      (List.range 4).foldl (fun acc c => let a := ((acc.sensor c).frames.foldl (fun a f => a.resetFrame c f) acc).dropHeld c stUnitReset; a.setSensor c { a.sensor c with frames := [] }) d = d1) ∧
    (∃ (d d1 d2 d3 d4 : Die),
      d.asleep = false ∧
      d.link.sends.foldl (fun acc s => acc.abortSend s.slot) d = d1 ∧
      d1.far.txns.foldl (fun acc t => acc.failTxn t) d1 = d2 ∧
      d2.failHost.dropFlushes = d3 ∧
      (d3.link.incoming.filter (·.own)).foldl (fun acc x => acc.done x stUnitReset) d3 = d4) ∧
    (∃ (d : Die) (u : ResetUnit),
      d.epochDue.contains (resetFence u).1 = true ∧
      (d.sb.any fun e => e.phase == .executed && (resetFence u).2 (opcodeOf e.desc) && (e.began && e.flags / 16 % 2 == 1 || e.status == stUnitReset)) = false) :=
  ⟨⟨die, by decide +kernel⟩,
    ⟨die, by decide +kernel⟩,
    ⟨die, by decide +kernel⟩,
    ⟨die, by decide +kernel⟩,
    ⟨die, by decide +kernel⟩,
    ⟨die, _, _, by decide +kernel, rfl, rfl⟩,
    ⟨die, _, by decide +kernel, rfl⟩,
    ⟨die, _, _, _, _, by decide +kernel, rfl, rfl, rfl, rfl⟩,
    ⟨{ die with epochDue := [Reg.KLN_FENCE] }, .kiln, by decide +kernel⟩⟩

/-- Each clause of Obligations.ServingCompletes has a case. -/
theorem witness_ServingCompletes :
    (∃ (d : Die) (slot : BitVec 12) (run : Run) (e : Entry),
      Starts 0x70 slot.toNat run freeStart sampleLegal d e ∧
      AtHand (vSampleBody run e (d.checked e run))) ∧
    (∃ (d : Die) (slot : BitVec 12) (run : Run) (e : Entry),
      Starts 0x72 slot.toNat run freeStart maskstepLegal d e ∧
      AtHand (vMaskstepBody run e (d.checked e run))) ∧
    (∃ (d t : Die) (slot : BitVec 12) (h : Hits) (e : Entry),
      Starts 0x71 slot.toNat (Run.hit h) (fun e _ => veKind e.desc == 0) (fun e d0 => unitCount e.desc (streamOf e.desc 0) == 1 && d0.stepNamed e) d e ∧
      e.phase = .ready ∧
      d.stepNamed e = true ∧
      emitStepBody e (d.checked e (Run.hit h)) = t ∧
      AtHand t) ∧
    (∃ (d : Die) (slot : BitVec 12) (h : Hits) (e : Entry),
      Starts 0x71 slot.toNat (Run.hit h) (fun e _ => veKind e.desc == 1) (fun e _ => unitCount e.desc (streamOf e.desc 0) == 2) d e ∧
      AtHand (emitSubmitBody e (d.checked e (Run.hit h)))) ∧
    (∃ (d : Die) (slot : BitVec 12) (e : Entry),
      Starts 0x71 slot.toNat Run.clean (fun e _ => veKind e.desc == 2) (fun _ _ => true) d e ∧
      AtHand ((d.checked e Run.clean).parkEntry e.slot)) ∧
    (∃ (d d1 : Die) (g : BitVec 4) (t : BitVec 7) (id : Word) (r : Nat) (q : Req),
      d.firing ≠ 0 ∧
      ((d.grp g.toNat).rows.find? fun p => p.2.tenant == t.toNat && p.2.id == id.toNat) = some (r, q) ∧
      (d.grp g.toNat).at_ r = some q ∧
      q.expired d.sched.closed = true ∧
      (d.grp g.toNat).rowInStep r = true ∧
      d.workOf serveSlot = d1 ∧
      AtHand (d1.setGrp g.toNat ((d1.grp g.toNat).setRow r { q with overdue := true }))) ∧
    (∃ (d d1 : Die) (g : BitVec 4) (t : BitVec 7) (id : Word) (r : Nat) (q : Req),
      d.firing ≠ 0 ∧
      ((d.grp g.toNat).rows.find? fun p => p.2.tenant == t.toNat && p.2.id == id.toNat) = some (r, q) ∧
      (d.grp g.toNat).at_ r = some q ∧
      q.expired d.sched.closed = true ∧
      (d.grp g.toNat).rowInStep r = false ∧
      (d.workOf serveSlot).endReq q g.toNat r stDeadline 5 = d1 ∧
      AtHand (d1.setGrp g.toNat ((d1.grp g.toNat).freeRow r))) ∧
    (∃ (d d1 : Die) (g : BitVec 4) (t : BitVec 7) (id : Word) (q : Req),
      d.firing ≠ 0 ∧
      ((d.grp g.toNat).rows.find? fun p => p.2.tenant == t.toNat && p.2.id == id.toNat) = none ∧
      ((d.grp g.toNat).wait.find? fun q => q.tenant == t.toNat && q.id == id.toNat) = some q ∧
      q.expired d.sched.closed = true ∧
      (d.workOf serveSlot).endReq q g.toNat q.waitPlace stDeadline 5 = d1 ∧
      AtHand (d1.setGrp g.toNat { d1.grp g.toNat with wait := (d1.grp g.toNat).wait.filter fun o => o != q })) ∧
    (∃ (d : Die) (g : BitVec 4),
      d.asleep = false) :=
  ⟨⟨ready (desc 0x70 [(8, 1), stream 0 7168 11 1 0 0, stream 1 7169 0 1 0 0, stream 2 7170 0 1 0 0, paramX 0 1, paramX 18 1]), 0#12, Run.clean, entry (desc 0x70 [(8, 1), stream 0 7168 11 1 0 0, stream 1 7169 0 1 0 0, stream 2 7170 0 1 0 0, paramX 0 1, paramX 18 1]), by unfold Starts Startable; decide +kernel, by decide +kernel⟩,
    ⟨ready (desc 0x72 [(8, 1), stream 0 7168 0 1 0 0, stream 1 7169 0 1 0 0, stream 2 7170 0 1 0 0, paramX 0 1]), 0#12, Run.clean, entry (desc 0x72 [(8, 1), stream 0 7168 0 1 0 0, stream 1 7169 0 1 0 0, stream 2 7170 0 1 0 0, paramX 0 1]), by unfold Starts Startable; decide +kernel, by decide +kernel⟩,
    ⟨{ ready (desc 0x71 [stream 0 6144 0 1 0 0, param 0 0]) with serving := { die.serving with groups := [(0, { Group.idle with inStep := true })] } }, _, 0#12, ⟨[], 0⟩, entry (desc 0x71 [stream 0 6144 0 1 0 0, param 0 0]), by unfold Starts Startable; decide +kernel, by decide +kernel, by decide +kernel, rfl, by decide +kernel⟩,
    ⟨{ arrive (ready (desc 0x71 [stream 0 65536 0 2 1 0, level 0 2 1, param 0 1])) [(1024, 0x10080 * 2 ^ 64), (1025, 0), (1026, 0x100C0), (1027, 0)] with serving := { die.serving with groups := [(0, { Group.idle with cfg := 0x100000#32 })] } }, 0#12, ⟨[], 0⟩, entry (desc 0x71 [stream 0 65536 0 2 1 0, level 0 2 1, param 0 1]), by unfold Starts Startable; decide +kernel, by decide +kernel⟩,
    ⟨ready (desc 0x71 [param 0 2]), 0#12, entry (desc 0x71 [param 0 2]), by unfold Starts Startable; decide +kernel, by decide +kernel⟩,
    ⟨{ die with firing := 1, serving := { die.serving with groups := [(0, { Group.idle with rows := [(5, ⟨3, 9, 0, 0, [], 0, 1, 1, 0, 0, 0, 0, 0, 0, 0, 0, [], 0, 0, 0, 0, 0, false, 0, some 0, false, [], 0, 0, 0, none⟩)], inStep := true, cols := [5] })] } }, _, 0#4, 3#7, 9#32, 5, ⟨3, 9, 0, 0, [], 0, 1, 1, 0, 0, 0, 0, 0, 0, 0, 0, [], 0, 0, 0, 0, 0, false, 0, some 0, false, [], 0, 0, 0, none⟩, by decide +kernel, by decide +kernel, by decide +kernel, by decide +kernel, (by decide +kernel), rfl, by decide +kernel⟩,
    ⟨{ die with firing := 1, serving := { die.serving with groups := [(0, { Group.idle with rows := [(5, ⟨3, 9, 0, 0, [], 0, 1, 1, 0, 0, 0, 0, 0, 0, 0, 0, [], 0, 0, 0, 0, 0, false, 0, some 0, false, [], 0, 0, 0, none⟩)] })] } }, _, 0#4, 3#7, 9#32, 5, ⟨3, 9, 0, 0, [], 0, 1, 1, 0, 0, 0, 0, 0, 0, 0, 0, [], 0, 0, 0, 0, 0, false, 0, some 0, false, [], 0, 0, 0, none⟩, by decide +kernel, by decide +kernel, by decide +kernel, by decide +kernel, (by decide +kernel), rfl, by decide +kernel⟩,
    ⟨{ die with firing := 1, serving := { die.serving with groups := [(0, { Group.idle with wait := [⟨3, 9, 0, 0, [], 0, 1, 1, 0, 0, 0, 0, 0, 0, 0, 0, [], 0, 0, 0, 0, 0, false, 0, some 0, false, [], 0, 0, 0, none⟩] })] } }, _, 0#4, 3#7, 9#32, ⟨3, 9, 0, 0, [], 0, 1, 1, 0, 0, 0, 0, 0, 0, 0, 0, [], 0, 0, 0, 0, 0, false, 0, some 0, false, [], 0, 0, 0, none⟩, by decide +kernel, by decide +kernel, by decide +kernel, by decide +kernel, rfl, by decide +kernel⟩,
    ⟨die, 0#4, by decide +kernel⟩⟩

/-- Each clause of Obligations.TierCompletes has a case. -/
theorem witness_TierCompletes :
    (∃ (d : Die) (slot : BitVec 12) (h : Hits) (e : Entry),
      Starts 0x80 slot.toNat (Run.hit h) freeStart prefetchLegal d e ∧
      AtHand (prefetchBody e (d.checked e (Run.hit h)))) ∧
    (∃ (d : Die) (slot : BitVec 12) (h : Hits) (e : Entry),
      Starts 0x81 slot.toNat (Run.hit h) migrateMay migrateLegal d e ∧
      AtHand (migrateBody e (d.checked e (Run.hit h)))) ∧
    (∃ (d : Die) (slot : BitVec 12) (h : Hits) (e : Entry),
      Starts 0x82 slot.toNat (Run.hit h) (fun e d0 => !d0.ctxHeld e) parkLegal d e ∧
      AtHand (parkBody e (d.checked e (Run.hit h)))) ∧
    (∃ (d : Die) (slot : BitVec 12) (h : Hits) (e : Entry),
      Starts 0x83 slot.toNat (Run.hit h) (fun e d0 => !d0.ctxHeld e) (fun e _ => pkCtxOk e.desc) d e ∧
      AtHand (restoreBody e (d.checked e (Run.hit h)))) ∧
    (∃ (d : Die) (id : BitVec 16) (r : ParkRec) (t : Nat),
      (d.tier.parks.find? fun r => r.id == id.toNat) = some r ∧
      r.expires = some t ∧
      t ≤ d.sched.lastTick ∧
      r.restoring = false) ∧
    (∃ (d d1 d2 : Die) (copy : PageCopy) (m m1 : Move) (f : Nat),
      d.moveOf copy.page.toNat = some m ∧
      (m.kind = .fill → m.badUnits = []) ∧
      m.nandDone = true ∧
      (if m.hasFrame then some (m.dstFrame, d) else d.fillFrame (pteGroup (d.pte m.page))) = some (f, d1) ∧
      { m with dstFrame := f, hasFrame := true } = m1 ∧
      (Die.count { d1 with far := (d.workOf (moveSlot m.page)).far } Reg.SHF_CONFLICT copy.lost).copyTo m1 = d2 ∧
      AtHand ((d2.setPte m.page (switchedPte (d2.pte m.page) m1)).endMove m1)) ∧
    (∃ (d d2 d3 : Die) (page : BitVec 32) (x : Nat × Nat) (f : Nat),
      (d.tier.demanded.find? fun x => x.1 == page.toNat) = some x ∧
      d.moveOf page.toNat = none ∧
      cacheable (d.pte page.toNat) = true ∧
      pteTier (d.pte page.toNat) = 5 ∧
      d.fillFrame (pteGroup (d.pte page.toNat)) = some (f, d2) ∧
      d2.startFill page.toNat x.2 (some f) true = d3) ∧
    (∃ (d : Die) (page : BitVec 32) (m : Move) (t : Nat),
      d.moveOf page.toNat = some m ∧
      m.since = some t ∧
      m.kind = .fill ∧
      m.hasFrame = false ∧
      t + msCycles 1 ≤ d.refclk ∧
      d.fillFrame (pteGroup (d.pte m.page)) = none) :=
  ⟨⟨arrive (ready (desc 0x80 [stream 0 65536 0 2 0 0, param 0 0])) [(1024, fields [(0, 0x5C4ED0F1), (32, 1), (64, 1), (128, 64), (192, 128)]), (1025, fields [(32, 1)]), (1026, fields [(0, 0x20000), (64, 1)])], 0#12, ⟨[], 0⟩, entry (desc 0x80 [stream 0 65536 0 2 0 0, param 0 0]), by unfold Starts Startable; decide +kernel, by decide +kernel⟩,
    ⟨ready (desc 0x81 [stream 0 65536 0 2 0 0, param 0 3]), 0#12, ⟨[], 0⟩, entry (desc 0x81 [stream 0 65536 0 2 0 0, param 0 3]), by unfold Starts Startable; decide +kernel, by decide +kernel⟩,
    ⟨ready (desc 0x82 [stream 0 6144 0 1 0 0, param 0 1, param 7 3, param 32 1]), 0#12, ⟨[], 0⟩, entry (desc 0x82 [stream 0 6144 0 1 0 0, param 0 1, param 7 3, param 32 1]), by unfold Starts Startable; decide +kernel, by decide +kernel⟩,
    ⟨ready (desc 0x83 [stream 0 6144 0 1 0 0, param 0 1]), 0#12, ⟨[], 0⟩, entry (desc 0x83 [stream 0 6144 0 1 0 0, param 0 1]), by unfold Starts Startable; decide +kernel, by decide +kernel⟩,
    ⟨{ die with tier := { die.tier with parks := [⟨7, 3, [], 1, some 5, false, false⟩] }, sched := { die.sched with lastTick := 5 } }, 7#16, ⟨7, 3, [], 1, some 5, false, false⟩, 5, by decide +kernel⟩,
    ⟨{ die with tier := { die.tier with moves := [⟨1, .move, 1, 384, 5, 3, true, none, false, [], List.range 16, []⟩] } }, _, _, ⟨1#32, 0⟩, ⟨1, .move, 1, 384, 5, 3, true, none, false, [], List.range 16, []⟩, _, _, by decide +kernel, by decide +kernel, by decide +kernel, (gotPair (by decide +kernel)), rfl, rfl, by decide +kernel⟩,
    ⟨{ regs die [(Reg.TIR_POOL_COUNT 0, 1)] with tier := { die.tier with pages := [(1, page 21 1)], demanded := [(1, 0)] } }, _, _, 1#32, (1, 0), _, by decide +kernel, by decide +kernel, by decide +kernel, by decide +kernel, gotPair (fillFrame_isSome (by decide +kernel) (by decide +kernel)), rfl⟩,
    ⟨{ die with tier := { die.tier with moves := [⟨1, .fill, 5, 1, 2, 0, false, some 0, true, [], [], []⟩] } }, 1#32, ⟨1, .fill, 5, 1, 2, 0, false, some 0, true, [], [], []⟩, 0, by decide +kernel⟩⟩

/-- Each clause of Obligations.PageTableCommandsComplete has a case. -/
theorem witness_PageTableCommandsComplete :
    (∃ (d : Die),
      d.asleep = false ∧
      d.tier.busy = none ∧
      d.tirData % 2 ^ 64 % 2 ^ 20 = 0 ∧
      d.dirValid (65536 * (d.tirFirst / 65536)) = false) ∧
    (∃ (d : Die) (t : BitVec 128),
      d.asleep = false ∧
      d.tier.busy = none ∧
      mapTemplate d.tirData = t ∧
      d.tirRangeOk = true ∧
      (pteTier t < 5 ∨ (pteTier t = 5 ∧ pteRo t = true)) ∧
      d.tirRefusal = 0) ∧
    (∃ (d : Die),
      d.asleep = false ∧
      d.tier.busy = none ∧
      d.tirRangeOk = true ∧
      d.tirRefusal = 0) ∧
    (∃ (d : Die),
      d.asleep = false ∧
      d.tier.busy = none) :=
  ⟨⟨regs die [(Reg.TIR_CMD_FIRST, 65536)], by decide +kernel⟩,
    ⟨regs die [(Reg.TIR_CMD_FIRST, 3), (Reg.TIR_CMD_COUNT, 1), (Reg.TIR_CMD_DATA 0, 2)], 2#128, by decide +kernel⟩,
    ⟨regs die [(Reg.TIR_CMD_FIRST, 3), (Reg.TIR_CMD_COUNT, 1)], by decide +kernel⟩,
    ⟨die, by decide +kernel⟩⟩

/-- Each clause of Obligations.DramCompletes has a case. -/
theorem witness_DramCompletes :
    (∃ (d d0 : Die) (key tenant : BitVec 7) (line : BitVec 30) (queue : BitVec 20) (act : Bool) (c : LineCell),
      line.toNat < d.localLines ∧
      d.lineHeld line.toNat = false ∧
      d.openRow line.toNat tenant.toNat queue.toNat act = d0 ∧
      d0.lineCell line.toNat = c ∧
      d0.keyGen key.toNat ≠ 0 ∧
      d0.macOk key.toNat line.toNat c = true) ∧
    (∃ (d d0 : Die) (key tenant : BitVec 7) (line : BitVec 30) (queue : BitVec 20) (act : Bool),
      line.toNat < d.localLines ∧
      d.lineHeld line.toNat = false ∧
      d.openRow line.toNat tenant.toNat queue.toNat act = d0 ∧
      (d0.lineCell line.toNat).poison = true) ∧
    (∃ (d d0 : Die) (key tenant : BitVec 7) (line : BitVec 30) (queue : BitVec 20) (act : Bool) (p : UnitRd × Die),
      line.toNat < d.localLines ∧
      d.lineHeld line.toNat = false ∧
      d.openRow line.toNat tenant.toNat queue.toNat act = d0 ∧
      (d0.lineCell line.toNat).poison = false ∧
      d0.readLocal key.toNat line.toNat = p ∧
      p.1.bad = true) ∧
    (∃ (d d0 : Die) (key tenant : BitVec 7) (line : BitVec 30) (v : Line) (queue : BitVec 20) (act : Bool),
      line.toNat < d.localLines ∧
      d.lineHeld line.toNat = false ∧
      d.openRow line.toNat tenant.toNat queue.toNat act = d0 ∧
      d0.keyGen key.toNat ≠ 0) ∧
    (∃ (d d0 : Die) (key tenant : BitVec 7) (line : BitVec 30) (mask : BitVec 64) (v : Line) (queue : BitVec 20) (act : Bool) (p : UnitRd × Die),
      line.toNat < d.localLines ∧
      d.lineHeld line.toNat = false ∧
      d.openRow line.toNat tenant.toNat queue.toNat act = d0 ∧
      d0.keyGen key.toNat ≠ 0 ∧
      d0.readLocal key.toNat line.toNat = p ∧
      p.1.bad = false ∧
      p.2.keyGen key.toNat ≠ 0) ∧
    (∃ (d : Die) (line : BitVec 30),
      d.dmc.rewrites.contains line.toNat = true ∧
      d.lineHeld line.toNat = false) ∧
    (∃ (d d1 d2 : Die) (n page : Nat),
      d.rf Reg.DMC_SCRUB_CFG 7 0 ≠ 0 ∧
      d.dmc.scrub = n ∧
      n < d.localLines ∧
      d.lineHeld n = false ∧
      { d with dmc := { d.dmc with scrub := n + 1 } } = d1 ∧
      (d1.putLine n (d1.lineCell n)).openRow n mgmtCode 0 false = d2 ∧
      d2.pageIn (n / 1024) = some page) ∧
    (∃ (d : Die) (warm : Bool),
      (d.reg Reg.DMC_STAT).b d.dmc.trainNext = true ∧
      d.trainDue warm = true ∧
      d.rf Reg.DMP_STAT 2 0 < 2) ∧
    (∃ (d : Die) (key row tenant queue : Nat) (rest : List (Nat × Nat × Nat × Nat)),
      d.dmc.rhDue = (key, row, tenant, queue) :: rest ∧
      d.dmc.throttles.contains (key, tenant, queue) = false) ∧
    (∃ (d : Die),
      d.dmc.rhStart + d.rf Reg.DMC_RH_WINDOW 9 0 * 3840 ≤ d.refclk) ∧
    (∃ (d d1 d2 : Die) (loc : Nat),
      d.firstWanted 4 = some loc ∧
      d.rf Reg.DMP_STAT 2 0 < 2 ∧
      d.sparesIn (loc / 2 ^ 20) ≠ 0 ∧
      ((d.dmc.lines.filter fun kv => dramLocation kv.1 == loc).map (·.1)).foldl (fun (acc : Die) n => if acc.dmc.rewrites.contains n then acc else acc.checkLine n) d = d1 ∧
      (d1.dmc.rewrites.filter fun x => dramLocation x == loc).foldl (fun (acc : Die) n => acc.setLine n (acc.lineCell n).corrected) d1 = d2) ∧
    (∃ (d : Die) (seg : BitVec 3),
      d.segClearing seg.toNat = true) :=
  ⟨⟨{ die with dmc := { die.dmc with lines := [(29360127, ⟨7#512, 0x40, 1, 0, 0, false⟩)] } }, _, 0x40#7, 0#7, 29360127#30, 0#20, false, _, by decide +kernel, by decide +kernel, rfl, rfl, by decide +kernel⟩,
    ⟨{ die with dmc := { die.dmc with lines := [(29360127, LineCell.poisoned)] } }, _, 0x40#7, 0#7, 29360127#30, 0#20, false, by decide +kernel, by decide +kernel, rfl, by decide +kernel⟩,
    ⟨{ die with dmc := { die.dmc with lines := [(29360127, ⟨7#512, 5, 1, 0, 0, false⟩)] } }, _, 0x40#7, 0#7, 29360127#30, 0#20, false, _, by decide +kernel, by decide +kernel, rfl, by decide +kernel, rfl, by decide +kernel⟩,
    ⟨die, _, 0x40#7, 0#7, 29360127#30, 0#512, 0#20, false, by decide +kernel, by decide +kernel, rfl, by decide +kernel⟩,
    ⟨{ die with dmc := { die.dmc with lines := [(29360127, ⟨7#512, 0x40, 1, 0, 0, false⟩)] } }, _, 0x40#7, 0#7, 29360127#30, 1#64, 0#512, 0#20, false, _, by decide +kernel, by decide +kernel, rfl, by decide +kernel, rfl, by decide +kernel⟩,
    ⟨{ die with dmc := { die.dmc with lines := [(29360127, ⟨7#512, 0x40, 1, 0, 1, false⟩)], rewrites := [29360127] } }, 29360127#30, by decide +kernel⟩,
    ⟨{ regs die [(Reg.DMC_SCRUB_CFG, 24)] with dmc := { die.dmc with scrub := 2048 } }, _, _, _, _, by decide +kernel, rfl, by decide +kernel, by decide +kernel, rfl, rfl, (got (by decide +kernel))⟩,
    ⟨{ regs die [(Reg.DMC_STAT, 0x8000)] with dmc := { die.dmc with trainNext := 15 } }, true, by decide +kernel⟩,
    ⟨{ die with dmc := { die.dmc with rhDue := [(255, 65535, 64, 0)] } }, 255, 65535, 64, 0, [], by decide +kernel⟩,
    ⟨die, by decide +kernel⟩,
    ⟨{ die with dmc := { die.dmc with bankSpares := [(240, 1)] }, track := [⟨4, 15 * 2 ^ 24, [0], true, true⟩] }, _, _, 251658240, by decide +kernel, by decide +kernel, by decide +kernel, rfl, rfl⟩,
    ⟨regs die [(Reg.DMC_STAT, 0x40000000)], 6#3, by decide +kernel⟩⟩

/-- Each clause of Obligations.NandCompletes has a case. -/
theorem witness_NandCompletes :
    (∃ (d d1 : Die) (page : BitVec 32) (unit : BitVec 4) (how : NandHow) (m : Move),
      d.moveOf page.toNat = some m ∧
      m.srcTier = 5 ∧
      m.demand = true ∧
      m.units.contains unit.toNat = false ∧
      m.units.length < 15 ∧
      d.readCodeword (16 * m.srcFrame + unit.toNat) how = (false, d1)) ∧
    (∃ (d d1 : Die) (page : BitVec 32) (unit : BitVec 4) (how : NandHow) (m : Move),
      d.moveOf page.toNat = some m ∧
      m.srcTier = 5 ∧
      m.demand = true ∧
      m.units.contains unit.toNat = false ∧
      m.units.length = 15 ∧
      d.readCodeword (16 * m.srcFrame + unit.toNat) how = (false, d1)) ∧
    (∃ (d d1 : Die) (page : BitVec 32) (unit : BitVec 4) (how : NandHow) (m : Move),
      d.moveOf page.toNat = some m ∧
      m.srcTier = 5 ∧
      m.demand = true ∧
      m.units.contains unit.toNat = false ∧
      m.units.length < 15 ∧
      d.readCodeword (16 * m.srcFrame + unit.toNat) how = (true, d1)) ∧
    (∃ (d d1 : Die) (page : BitVec 32) (unit : BitVec 4) (m : Move) (u : (BitVec 32768 × Bool) × Die) (q : Nat × Die),
      d.moveOf page.toNat = some m ∧
      m.dstTier = 5 ∧
      m.units.contains unit.toNat = false ∧
      m.units.length < 15 ∧
      (d.workOf (moveSlot m.page)).unitOfMove m unit.toNat = u ∧
      u.2.writeBlock = some q ∧
      q.2.placeUnit (16 * m.dstFrame + unit.toNat) = some d1 ∧
      AtHand ((d1.writtenUnit (16 * m.dstFrame + unit.toNat) u.1.1 u.1.2).setMove { m with units := m.units ++ [unit.toNat] })) ∧
    (∃ (d d1 : Die) (block : BitVec 25),
      d.nand.used.contains block.toNat = true ∧
      d.rf Reg.NFC_RD_LIMIT 23 0 ≤ (d.nblk block.toNat).reads ∧
      d.fillsReading = false ∧
      d.moveUnits block.toNat = some d1) ∧
    (∃ (d d1 : Die) (b : Nat),
      d.leastWorn d.nand.used = some b ∧
      d.rf Reg.NFC_WL_SPREAD 15 0 < d.eraseSpread.1 - d.eraseSpread.2 ∧
      d.fillsReading = false ∧
      d.moveUnits b = some d1) ∧
    (∃ (d d1 : Die) (block : BitVec 25),
      d.nand.used.contains block.toNat = true ∧
      d.nand.current ≠ some block.toNat ∧
      d.fillsReading = false ∧
      d.moveUnits block.toNat = some d1) ∧
    (∃ (d d1 d2 : Die) (block : BitVec 25),
      d.nand.used.contains block.toNat = true ∧
      d.grownBad block.toNat = true ∧
      d.nand.spare ≠ [] ∧
      (d.takeSpare.spareInService 5 (blockLoc block.toNat)).moveUnits block.toNat = some d1 ∧
      { d1 with nand := { d1.nand with used := d1.nand.used.filter (· != block.toNat), bad := d1.nand.bad ++ [block.toNat], grown := d1.nand.grown + 1 } } = d2) :=
  ⟨⟨{ die with tier := { die.tier with moves := [⟨1, .fill, 5, 4, 2, 3, true, none, true, [], [], []⟩] }, nand := { die.nand with perBlock := 256, used := [8], free := [9], current := none, place := [(79, 9)] } }, _, 1#32, 15#4, .clean, ⟨1, .fill, 5, 4, 2, 3, true, none, true, [], [], []⟩, by decide +kernel, by decide +kernel, by decide +kernel, by decide +kernel, (by decide +kernel), (gotFirst (by decide +kernel))⟩,
    ⟨{ die with tier := { die.tier with moves := [⟨1, .fill, 5, 4, 2, 3, true, none, true, [], List.range 15, []⟩] }, nand := { die.nand with perBlock := 256, used := [8], free := [9], current := none, place := [(79, 9)] } }, _, 1#32, 15#4, .retried false, ⟨1, .fill, 5, 4, 2, 3, true, none, true, [], List.range 15, []⟩, by decide +kernel, by decide +kernel, by decide +kernel, by decide +kernel, (by decide +kernel), (gotFirst (by decide +kernel))⟩,
    ⟨{ die with tier := { die.tier with moves := [⟨1, .fill, 5, 4, 2, 3, true, none, true, [], [], []⟩] }, nand := { die.nand with perBlock := 256, used := [8], free := [9], current := none, place := [(79, 9)] } }, _, 1#32, 15#4, .failed, ⟨1, .fill, 5, 4, 2, 3, true, none, true, [], [], []⟩, by decide +kernel, by decide +kernel, by decide +kernel, by decide +kernel, (by decide +kernel), (gotFirst (by decide +kernel))⟩,
    ⟨{ die with tier := { die.tier with moves := [⟨1, .move, 1, 384, 5, 4, true, none, false, [], [], []⟩] }, nand := { die.nand with perBlock := 256, used := [], free := [9], current := none } }, _, 1#32, 15#4, ⟨1, .move, 1, 384, 5, 4, true, none, false, [], [], []⟩, _, _, by decide +kernel, by decide +kernel, by decide +kernel, by decide +kernel, rfl, (got (by decide +kernel)), (got (by decide +kernel)), by decide +kernel⟩,
    ⟨{ regs die [(Reg.NFC_RD_LIMIT, 5)] with nand := { die.nand with perBlock := 256, used := [8], free := [9], current := none, blocks := [(8, { NandBlock.fresh with reads := 5 })] } }, _, 8#25, by decide +kernel, by decide +kernel, by decide +kernel, (got (by decide +kernel))⟩,
    ⟨{ die with nand := { die.nand with perBlock := 256, used := [8], free := [9, 10], current := none, blocks := [(10, { NandBlock.fresh with erases := 60000 })] } }, _, 8, by decide +kernel, by decide +kernel, by decide +kernel, (got (by decide +kernel))⟩,
    ⟨{ die with nand := { die.nand with perBlock := 256, used := [8], free := [9], current := none } }, _, 8#25, by decide +kernel, by decide +kernel, by decide +kernel, (got (by decide +kernel))⟩,
    ⟨{ die with nand := { die.nand with perBlock := 256, used := [8], free := [9], current := none, blocks := [(8, { NandBlock.fresh with failed := true })], spare := [11] } }, _, _, 8#25, by decide +kernel, by decide +kernel, by decide +kernel, (got (by decide +kernel)), rfl⟩⟩

/-- Each clause of Obligations.CameraFramesComplete has a case. -/
theorem witness_CameraFramesComplete :
    (∃ (d d1 d2 d3 : Die) (port : Bool) (vc : BitVec 4) (c : Nat) (s : Sensor) (late : Bool) (k id : Nat),
      d.asleep = false ∧
      d.damper.entry = none ∧
      d.camOf port vc = some c ∧
      d.fixFirings.closeFrame c = d1 ∧
      d1.sensor c = s ∧
      d1.freeCtr = k ∧
      (if s.started then (d1.rf (Reg.IFE_CTX_FRAME c) 31 0 + 1) % 2 ^ 32 else 0) = id ∧
      (d1.rf (Reg.IFE_CTX_PERIOD c) 25 0 != 0 && s.lastStart.any fun t => decide (384 * d1.rf Reg.IFE_LATE_US 15 0 < 10 * (d1.refclk - t - d1.rf (Reg.IFE_CTX_PERIOD c) 25 0))) = late ∧
      ((({ d1 with freeCtr := k + 1 } : Die).setReg (Reg.IFE_CTX_FRAME c) (BitVec.ofNat 32 id)).setSensor c { s with frames := s.frames ++ [⟨id, k, s.bindings.head?, (if late then 4 else 0) + (if s.fallback && s.lastStart.isSome then 8 else 0) + (if s.badHeader then 16 else 0) + (if s.bindings.head?.isNone then 256 else 0), 0, 0, none, d1.refclk, d1.refclk, [], 0, 0, 0, 0, 0, [], true, false, false, false, [], 0, d1.reg (Reg.IFE_CTX_CFG c), d1.camW c, d1.camH c, d1.reg (Reg.IFE_CTX_BLACK c), [], d1.ife.block, if d1.camInline c then some (d1.rf Reg.IFE_ISP_BASE_HI 15 0 * 2 ^ 32 + (d1.reg Reg.IFE_ISP_BASE_LO).toNat / 64 * 64) else none, d1.reg Reg.IFE_DN_CFG, d1.reg Reg.IFE_DN_SLOTS, [], false, false⟩], bindings := s.bindings.drop 1, started := true, lastStart := some d1.refclk, fallback := false, badHeader := false, latchDue := s.latchDue ++ [(id, d1.settingsAddr c / 64, d1.camTenant c)] }) = d2 ∧
      (if late then d2.camCount c cntLate else d2) = d3) ∧
    (∃ (d d1 : Die) (port : Bool) (vc : BitVec 4) (dt : BitVec 6) (bytes : List (BitVec 8)) (eccCorr crcBad : Bool) (c : Nat) (f : Frame) (line : List Nat),
      d.asleep = false ∧
      d.camOf port vc = some c ∧
      d.openFrame c = some f ∧
      dt.toNat = d.camF c 23 18 ∧
      unpackLine dt.toNat (bytes.map (·.toNat)) = line ∧
      line.length = lineSamples f.dt f.width ∧
      f.lines.length < f.height ∧
      d.packetErrors c f eccCorr crcBad true = d1) ∧
    (∃ (d d1 : Die) (port : Bool) (vc : BitVec 4) (dt : BitVec 6) (bytes : List (BitVec 8)) (eccCorr crcBad : Bool) (c : Nat) (f : Frame) (line : List Nat),
      d.asleep = false ∧
      d.camOf port vc = some c ∧
      d.openFrame c = some f ∧
      dt.toNat = d.camF c 23 18 ∧
      unpackLine dt.toNat (bytes.map (·.toNat)) = line ∧
      f.height ≤ f.lines.length ∧
      (if line.length = lineSamples f.dt f.width then d.packetErrors c f eccCorr crcBad true else (d.packetErrors c f eccCorr crcBad true).markFrame c f 6 none) = d1) ∧
    (∃ (d : Die) (port : Bool) (vc : BitVec 4) (bytes : List (BitVec 8)) (eccCorr crcBad : Bool) (c : Nat) (f : Frame),
      d.asleep = false ∧
      d.camOf port vc = some c ∧
      d.openFrame c = some f ∧
      d.camF c 0 0 = 1) ∧
    (∃ (d : Die) (port : Bool) (vc : BitVec 4) (bytes : List (BitVec 8)) (eccCorr crcBad : Bool) (c : Nat) (f : Frame),
      d.asleep = false ∧
      d.camOf port vc = some c ∧
      d.openFrame c = some f ∧
      d.camF c 0 0 ≠ 1) ∧
    (∃ (d d1 : Die) (port : Bool) (vc : BitVec 4) (c : Nat),
      d.asleep = false ∧
      d.camOf port vc = some c ∧
      (d.openFrame c).isSome = true ∧
      d.fixFirings.closeFrame c = d1) ∧
    (∃ (d d1 : Die) (ctx : BitVec 2) (f : Frame),
      d.openFrame ctx.toNat = some f ∧
      (d.rf (Reg.IFE_CTX_PERIOD ctx.toNat) 25 0 = 0 → f.tStart + 3840000 ≤ d.refclk) ∧
      (d.rf (Reg.IFE_CTX_PERIOD ctx.toNat) 25 0 ≠ 0 → 2 * f.tStart + 3 * d.rf (Reg.IFE_CTX_PERIOD ctx.toNat) 25 0 ≤ 2 * d.refclk) ∧
      d.fixFirings.closeFrame ctx.toNat = d1) ∧
    (∃ (d : Die) (ctx : BitVec 2) (w : Word) (s : Sensor),
      d.asleep = false ∧
      w.b 31 = true ∧
      d.camOn ctx.toNat = false ∧
      d.camLimits ctx.toNat w = true ∧
      d.sensor ctx.toNat = s) ∧
    (∃ (d d1 : Die) (ctx : BitVec 2) (w : Word),
      d.asleep = false ∧
      w.b 31 = false ∧
      d.camOn ctx.toNat = true ∧
      ((d.fixFirings.closeFrame ctx.toNat).setRf (Reg.IFE_CTX_CFG ctx.toNat) 31 31 0).errIf ((w ^^^ d.reg (Reg.IFE_CTX_CFG ctx.toNat)) &&& 0x7FFFE7F1#32 != 0#32) Reg.IFE_ERR Bit.IFE_ERR_CONFIG = d1) ∧
    (∃ (d d1 : Die) (ctx : BitVec 2) (f : Frame),
      d.camGoOn.fixFirings = d1 ∧
      ((d1.sensor ctx.toNat).held.find? fun f => !f.ready && f.blockAt.isNone) = some f) ∧
    (∃ (d d1 : Die) (ctx : BitVec 2) (f : Frame),
      d.asleep = false ∧
      d.camOn ctx.toNat = true ∧
      (d.camCount ctx.toNat cntEccUncorr).err Reg.IFE_ERR Bit.IFE_ERR_PACKET = d1 ∧
      d1.openFrame ctx.toNat = some f) ∧
    (∃ (d d1 : Die) (ctx : BitVec 2),
      d.asleep = false ∧
      d.camOn ctx.toNat = true ∧
      (d.camCount ctx.toNat cntEccUncorr).err Reg.IFE_ERR Bit.IFE_ERR_PACKET = d1 ∧
      d1.openFrame ctx.toNat = none) :=
  ⟨⟨cam die [frame], _, _, _, false, 0#4, 0, _, false, _, _, by decide +kernel, by decide +kernel, by decide +kernel, rfl, rfl, rfl, rfl, by decide +kernel, rfl, rfl⟩,
    ⟨cam die [frame], _, false, 0#4, 0x2B#6, (List.replicate 20 0x55#8), false, false, 0, frame, _, by decide +kernel, by decide +kernel, by decide +kernel, by decide +kernel, rfl, by decide +kernel, by decide +kernel, rfl⟩,
    ⟨cam die [{ frame with height := 0 }], _, false, 0#4, 0x2B#6, (List.replicate 20 0x55#8), false, false, 0, { frame with height := 0 }, _, by decide +kernel, by decide +kernel, by decide +kernel, by decide +kernel, rfl, by decide +kernel, rfl⟩,
    ⟨cam die [frame], false, 0#4, (List.replicate 20 0x55#8), false, false, 0, frame, by decide +kernel⟩,
    ⟨regs (cam die [frame]) [(Reg.IFE_CTX_CFG 0, 2 ^ 31 + 0x2B * 2 ^ 18 + 2 ^ 13 + 0x40 * 2 ^ 4)], false, 0#4, (List.replicate 20 0x55#8), false, false, 0, frame, by decide +kernel⟩,
    ⟨cam die [frame], _, false, 0#4, 0, by decide +kernel, by decide +kernel, by decide +kernel, rfl⟩,
    ⟨cam die [frame], _, 0#2, frame, by decide +kernel, by decide +kernel, by decide +kernel, rfl⟩,
    ⟨regs die [(Reg.IFE_CTX_SIZE 3, 0x100010)], 3#2, 0x80AC2400#32, _, by decide +kernel, by decide +kernel, by decide +kernel, by decide +kernel, rfl⟩,
    ⟨cam die [frame], _, 0#2, 0#32, by decide +kernel, by decide +kernel, by decide +kernel, rfl⟩,
    ⟨cam die [{ frame with isOpen := false, firing := some 0 }], _, 0#2, _, rfl, (got (by decide +kernel))⟩,
    ⟨cam die [frame], _, 0#2, frame, by decide +kernel, by decide +kernel, rfl, by decide +kernel⟩,
    ⟨cam die [], _, 0#2, by decide +kernel, by decide +kernel, rfl, by decide +kernel⟩⟩

/-- Each clause of Obligations.CameraWorkCompletes has a case. -/
theorem witness_CameraWorkCompletes :
    (∃ (d d1 : Die) (slot : BitVec 12) (e : Entry),
      Starts 0x90 slot.toNat Run.clean freeStart (fun e d0 => d0.bindLegal e.desc && d0.camMine e) d e ∧
      d.checked e Run.clean = d1 ∧
      AtHand ((d1.setSensor (camCtx e.desc) { d1.sensor (camCtx e.desc) with bindings := (d1.sensor (camCtx e.desc)).bindings ++ [⟨e.desc, e.tenant, e.queue, ((d1.slotUses8 e.desc).filter fun u => u.2 == .writer).map (·.1)⟩] }).finish e.slot stOk 0 0 0 0)) ∧
    (∃ (d : Die) (slot : BitVec 12) (bufferError : Bool) (e : Entry),
      Starts 0x91 slot.toNat Run.clean (fun e d0 => e.phase == .loading || d0.statsComes e.desc) (fun e d0 => d0.statsLegal e.desc && d0.camMine e) d.camGoOn e ∧
      AtHand (statsBody bufferError e (d.camGoOn.checked e Run.clean))) ∧
    (∃ (d : Die) (j : DnJob) (n : Nat) (byp : Bool),
      d.fillJob = some j ∧
      j.nextFill = some n ∧
      d.slotAllows n .writer = true ∧
      (d.tileRefusal n j.tenant true).isNone = true ∧
      j.bypassed.contains j.filled = byp) ∧
    (∃ (d : Die) (j : DnJob) (n : Nat) (r : List Nat × Die),
      d.readJob = some j ∧
      j.nextRead = some n ∧
      d.slotAllows n .reader = true ∧
      (d.tileRefusal n j.tenant false).isNone = true ∧
      j.bypassed.contains j.read = true ∧
      (d.jobOf j.key).getD j = j ∧
      d.readTile j.tenant (d.slotRange n).1 (d.slotRange n).2 = r) ∧
    (∃ (d : Die) (j : DnJob) (n : Nat) (r : List Nat × Die),
      d.readJob = some j ∧
      j.nextRead = some n ∧
      d.slotAllows n .reader = true ∧
      (d.tileRefusal n j.tenant false).isNone = true ∧
      j.bypassed.contains j.read = false ∧
      d.slotPoison n = false ∧
      (d.jobOf j.key).getD j = j ∧
      d.readTile j.tenant (d.slotRange n).1 (d.slotRange n).2 = r) ∧
    (∃ (d : Die) (j : DnJob) (t a : Nat),
      d.ife.dn = [j] ∧
      j.oldest = some t ∧
      j.arrived t = some a ∧
      d.elapsed a j.limit = true) ∧
    (∃ (d : Die) (ctx : BitVec 2) (t : Transfer),
      (d.sensor ctx.toNat).underWay.head? = some t ∧
      d.refclk ≤ t.due) ∧
    (∃ (d : Die) (ctx : BitVec 2) (t : Transfer) (s : Sensor),
      d.sensor ctx.toNat = s ∧
      (s.underWay.find? fun t => decide (t.due < d.refclk)) = some t) ∧
    (∃ (d : Die) (port : Bool) (addr : BitVec 7) (payload : List (BitVec 8)),
      d.damper.entry = none) :=
  ⟨⟨cam (ready (desc 0x90 [stream 0 131072 0 2 1 0, level 0 16 1, param 0 0])) [], _, 0#12, entry (desc 0x90 [stream 0 131072 0 2 1 0, level 0 16 1, param 0 0]), by unfold Starts Startable; decide +kernel, rfl, by decide +kernel⟩,
    ⟨cam (ready (desc 0x91 [stream 0 5120 0 1 1 0, level 0 33 1, param 0 0])) [{ frame with isOpen := false, ready := true }], 0#12, false, entry (desc 0x91 [stream 0 5120 0 1 1 0, level 0 33 1, param 0 0]), by unfold Starts Startable; decide +kernel, by decide +kernel⟩,
    ⟨denoising dnJob 1, dnJob, 0, false, by decide +kernel⟩,
    ⟨denoising { dnJob with filled := 1, bypassed := [0] } 0x10011, { dnJob with filled := 1, bypassed := [0] }, 0, _, by decide +kernel, by decide +kernel, by decide +kernel, by decide +kernel, (by decide +kernel), by decide +kernel, rfl⟩,
    ⟨denoising { dnJob with filled := 1 } 0x10011, { dnJob with filled := 1 }, 0, _, by decide +kernel, by decide +kernel, by decide +kernel, by decide +kernel, (by decide +kernel), by decide +kernel, by decide +kernel, rfl⟩,
    ⟨denoising dnJob 1, dnJob, 0, 5, by decide +kernel⟩,
    ⟨{ die with ife := { die.ife with sensors := [(3, { Sensor.fresh with transfers := [⟨1, 1, 0, 10 ^ 9, 0, none⟩] })] } }, 3#2, ⟨1, 1, 0, 10 ^ 9, 0, none⟩, by decide +kernel⟩,
    ⟨{ die with ife := { die.ife with sensors := [(3, { Sensor.fresh with transfers := [⟨1, 1, 0, 5, 0, none⟩] })] } }, 3#2, ⟨1, 1, 0, 5, 0, none⟩, _, rfl, by decide +kernel⟩,
    ⟨die, false, 0#7, [], by decide +kernel⟩⟩

/-- Each clause of Obligations.HostLinkCompletes has a case. -/
theorem witness_HostLinkCompletes :
    (∃ (d : Die) (line : BitVec 42) (data : Line) (a : FarAsk),
      d.confMode = false ∧
      (d.far.asked.find? fun a => d.askLine a == some line.toNat) = some a ∧
      a.key < rawKey 0) ∧
    (∃ (d : Die) (line : BitVec 42) (data : Line) (a : FarAsk) (n : Nat),
      d.confMode = true ∧
      (d.far.asked.find? fun a => d.askLine a == some line.toNat) = some a ∧
      a.key = rawKey n ∧
      n < 2 ^ 42) ∧
    (∃ (d : Die) (line : BitVec 42) (a : FarAsk),
      (d.far.asked.find? fun a => d.askLine a == some line.toNat && d.elapsed a.since (d.rf Reg.LNK_HOST_CFG 15 0)) = some a ∧
      a.key < rawKey 0) ∧
    (∃ (d d2 : Die),
      d.portState 0 ≠ 0 ∧
      (((d.setPortState 0 0).setRf (Reg.LNK_PORT_STAT 0) 6 4 0).err Reg.LNK_ERR Bit.LNK_ERR_HOST_DOWN).failHost.dropFlushes = d2) :=
  ⟨⟨{ die with far := { die.far with asked := [⟨0, 4398046511103, 0, 5⟩] } }, 4398046511103#42, 0#512, _, by decide +kernel, (got (by decide +kernel)), by decide +kernel⟩,
    ⟨{ regs die [(Reg.LNK_STAT, 0x2000)] with far := { die.far with asked := [⟨0, 2 ^ 44 + 4398046511103, 0, 5⟩] } }, 4398046511103#42, 0#512, ⟨0, 2 ^ 44 + 4398046511103, 0, 5⟩, 4398046511103, by decide +kernel⟩,
    ⟨{ die with far := { die.far with asked := [⟨0, 4398046511103, 0, 5⟩] } }, 4398046511103#42, _, (got (by decide +kernel)), by decide +kernel⟩,
    ⟨die, _, by decide +kernel, rfl⟩⟩

/-- Each clause of Obligations.PeerPortsComplete has a case. -/
theorem witness_PeerPortsComplete :
    (∃ (d : Die) (port : Bool) (rate : BitVec 3) (repaired : BitVec 4) (p : Nat),
      (if port then 2 else 1) = p ∧
      (d.port p).enabled = true ∧
      d.portState p ≤ 1 ∧
      1 ≤ rate.toNat ∧
      rate.toNat ≤ 4 ∧
      rate.toNat ≤ (d.port p).cap) ∧
    (∃ (d d1 d2 : Die) (h : Hdr) (nsId : Word),
      (d.heard h).portState (portOf h) = 2 ∧
      (d.heard h).received (portOf h) 3 (laneOf h) 0 = d1 ∧
      h.src.toNat ≠ (d.heard h).dieId ∧
      nsId.f 15 8 = (d.heard h).rf Reg.NS_ID 15 8 ∧
      (((d1.setRf (Reg.LNK_PORT_STAT (portOf h)) 14 12 h.src.toNat).setRf (Reg.LNK_PORT_STAT (portOf h)) 15 15 1).setPortState (portOf h) 3).sendTopo = d2) ∧
    (∃ (d d1 : Die) (h : Hdr) (die1 die2 : BitVec 8) (latency : BitVec 32),
      (d.heard h).portOpen (portOf h) = true ∧
      (d.heard h).received (portOf h) 3 (laneOf h) 0 = d1 ∧
      d1.link.topos.contains (h.src.toNat, die1.toNat, die2.toNat) = false ∧
      h.src.toNat ≠ (d.heard h).dieId ∧
      d1.portState (3 - portOf h) ≠ 3 ∧
      d1.rf Reg.LNK_STAT 12 12 ≠ 1) ∧
    (∃ (d d1 : Die) (f : FlitWords) (p v : Nat),
      (if f.port then 2 else 1) = p ∧
      f.bits.toNat = v ∧
      d.dueRetrains = d ∧
      d.portState p = 3 ∧
      crc32c (toBytes 252 v) = fld v 2047 2016 ∧
      fld v 26 25 = 1 ∧
      fld v 11 0 = (d.port p).rxSeq ∧
      v.testBit 24 = false ∧
      badMessages 15 15 (fld v 2015 96) = 0 ∧
      (d.setPort p { d.port p with rxSeq := ((d.port p).rxSeq + 1) % 4096, replay := ackReplay (fld v 23 12) (d.port p).replay, credits := creditAdd (d.port p).credits (BitVec.ofNat 32 (fld v 63 32)) }).pump p = d1) ∧
    (∃ (d : Die) (port : Bool) (p : Nat) (u : Unacked) (us : List Unacked),
      (if port then 2 else 1) = p ∧
      d.dueRetrains = d ∧
      (d.port p).replay = u :: us ∧
      d.elapsed u.since 2 = true ∧
      d.portState p = 3 ∧
      u.sent < 8) ∧
    (∃ (d d3 : Die) (port : BitVec 2) (t : Trained),
      port.toNat ≤ 2 ∧
      d.portState port.toNat = 4 ∧
      t.rate.toNat ≠ 0 ∧
      ((((d.count (Reg.LNK_PORT_RETRAIN port.toNat) 1).setRf (Reg.LNK_PORT_STAT port.toNat) 6 4 (min (d.port port.toNat).cap (min 4 t.rate.toNat))).setRf (Reg.LNK_PORT_STAT port.toNat) 11 8 t.repaired.toNat).setPortState port.toNat (if port.toNat = 0 ∨ (d.peerOn port.toNat).isSome then 3 else 2)) = d3) ∧
    (∃ (d d1 : Die) (port : Bool) (p : Nat),
      (if port then 2 else 1) = p ∧
      d.portState p = 4 ∧
      3 ≤ (d.port p).fails ∧
      (((d.setPortState p 0).setRf (Reg.LNK_PORT_STAT p) 6 4 0).setRf (Reg.LNK_PORT_STAT p) 15 12 0).setPort p { Port.fresh with cap := (d.port p).cap, enabled := (d.port p).enabled, shut := (d.port p).shut } = d1) :=
  ⟨⟨die, true, 4#3, 0#4, 2, by decide +kernel⟩,
    ⟨(let d := regs (fabric die) [(Reg.LNK_PORT_STAT 1, 2)]; { d with regs := (Reg.NS_ID, 0#32) :: d.regs }), _, _, hdr, 0#32, by decide +kernel, rfl, by decide +kernel, by decide +kernel, rfl⟩,
    ⟨regs (fabric die) [(Reg.LNK_STAT, 0x30000)], _, hdr, 0#8, 0xFF#8, 0#32, by decide +kernel, rfl, by decide +kernel⟩,
    ⟨fabric die, _, flit (2 ^ 25), 1, _, by decide +kernel, rfl, by decide +kernel, by decide +kernel, flit_crc, by decide +kernel, by decide +kernel, by decide +kernel, by decide +kernel, rfl⟩,
    ⟨(let d := regs die [(Reg.LNK_PORT_STAT 2, 3)]; d.setPort 2 { d.port 2 with replay := [⟨0, 1, 5, ⟨0, 0, 0, 0, false, false, 0, [], []⟩⟩] }), true, 2, ⟨0, 1, 5, ⟨0, 0, 0, 0, false, false, 0, [], []⟩⟩, [], by decide +kernel⟩,
    ⟨regs die [(Reg.LNK_PORT_STAT 2, 4)], _, 2#2, ⟨4#3, 0#4⟩, by decide +kernel, by decide +kernel, by decide +kernel, rfl⟩,
    ⟨(let d := regs die [(Reg.LNK_PORT_STAT 2, 4)]; d.setPort 2 { d.port 2 with fails := 3 }), _, true, 2, by decide +kernel, by decide +kernel, by decide +kernel, rfl⟩⟩

/-- Each clause of Obligations.RemoteAccessCompletes has a case. -/
theorem witness_RemoteAccessCompletes :
    (∃ (d d1 : Die) (h : Hdr) (addr : BitVec 36) (key tenant : BitVec 7) (queue : BitVec 20) (p : UnitRd × Die),
      Delivers h 1 0 [addr.toNat, key.toNat, tenant.toNat, queue.toNat] [] ((d.heard h).workOf serveSlot) d1 ∧
      d1.exportRefused addr.toNat = false ∧
      d1.readFrame ⟨4, tenant.toNat, queue.toNat, serveSlot⟩ key.toNat (addr.toNat / 64 / 1024) (addr.toNat / 64 % 1024) = p ∧
      p.1.bad = false ∧
      AtHand (p.2.answer h 4 false stOk (linePayload p.1.data))) ∧
    (∃ (d d1 : Die) (h : Hdr) (addr : BitVec 36) (key tenant : BitVec 7) (queue : BitVec 20) (v : Line) (p : Bool × Die),
      Delivers h 2 64 [addr.toNat, key.toNat, tenant.toNat, queue.toNat] (linePayload v.toNat) ((d.heard h).workOf serveSlot) d1 ∧
      d1.exportRefused addr.toNat = false ∧
      d1.writeFrame ⟨4, tenant.toNat, queue.toNat, serveSlot⟩ key.toNat (addr.toNat / 65536) (addr.toNat / 64 % 1024) v h.poison = p ∧
      p.1 = true ∧
      AtHand (p.2.answer h 5 false stOk [])) ∧
    (∃ (d d1 : Die) (h : Hdr) (addr : BitVec 36) (key tenant : BitVec 7) (queue : BitVec 20) (mask : BitVec 64) (v : Line) (p : Bool × Die),
      Delivers h 3 64 [addr.toNat, key.toNat, tenant.toNat, queue.toNat, mask.toNat] (linePayload v.toNat) ((d.heard h).workOf serveSlot) d1 ∧
      d1.exportRefused addr.toNat = false ∧
      d1.mergeFrame ⟨4, tenant.toNat, queue.toNat, serveSlot⟩ key.toNat (addr.toNat / 65536) (addr.toNat / 64 % 1024) mask v = p ∧
      p.1 = true ∧
      AtHand (p.2.answer h 5 false stOk [])) ∧
    (∃ (d d1 : Die) (h : Hdr) (v : Line) (t : Txn),
      Delivers h 4 64 [0] (linePayload v.toNat) (d.heard h) d1 ∧
      d1.txnOf h.tag false = some t ∧
      h.poison = false) ∧
    (∃ (d d1 : Die) (h : Hdr) (t : Txn),
      Delivers h 5 0 [0] [] (d.heard h) d1 ∧
      d1.txnOf h.tag true = some t) ∧
    (∃ (d : Die) (idx : BitVec 12) (t : Txn),
      d.far.txns = [t] ∧
      t.idx = idx.toNat ∧
      d.elapsed t.since (d.rf Reg.LNK_FAB_CFG 15 0) = true) :=
  ⟨⟨{ fabric die with dmc := { die.dmc with lines := [(2048, ⟨7#512, 0x40, 1, 0, 0, false⟩)] } }, _, hdr, 0x20000#36, 0x40#7, 0#7, 0#20, _, ⟨by decide +kernel, rfl, by decide +kernel, by decide +kernel⟩, by decide +kernel, rfl, by decide +kernel⟩,
    ⟨{ fabric die with dmc := { die.dmc with lines := [(2048, ⟨7#512, 0x40, 1, 0, 0, false⟩)] } }, _, hdr, 0x20000#36, 0x40#7, 0#7, 0#20, 0#512, _, ⟨by decide +kernel, rfl, by decide +kernel, by decide +kernel⟩, by decide +kernel, rfl, by decide +kernel⟩,
    ⟨{ fabric die with dmc := { die.dmc with lines := [(2048, ⟨7#512, 0x40, 1, 0, 0, false⟩)] } }, _, hdr, 0x20000#36, 0x40#7, 0#7, 0#20, 1#64, 0#512, _, ⟨by decide +kernel, rfl, by decide +kernel, by decide +kernel⟩, by decide +kernel, rfl, by decide +kernel⟩,
    ⟨{ fabric die with far := { die.far with txns := [⟨4095, 2 ^ 48, false, 0, 0, 0, 5⟩] } }, _, { hdr with tag := 4095#16 }, 0#512, _, ⟨by decide +kernel, rfl, by decide +kernel, by decide +kernel⟩, (got (by decide +kernel)), by decide +kernel⟩,
    ⟨{ fabric die with far := { die.far with txns := [⟨4095, 2 ^ 48, true, 0, 0, 0, 5⟩] } }, _, { hdr with tag := 4095#16 }, _, ⟨by decide +kernel, rfl, by decide +kernel, by decide +kernel⟩, (got (by decide +kernel))⟩,
    ⟨{ fabric die with far := { die.far with txns := [⟨4095, 2 ^ 48, false, 0, 0, 0, 5⟩] } }, 4095#12, ⟨4095, 2 ^ 48, false, 0, 0, 0, 5⟩, by decide +kernel⟩⟩

/-- Each clause of Obligations.TransfersComplete has a case. -/
theorem witness_TransfersComplete :
    (∃ (d : Die) (slot : BitVec 12) (run : Run) (e : Entry),
      Starts 0xA0 slot.toNat run fMay fLegal d e ∧
      AtHand (fBody run e (d.checked e run))) ∧
    (∃ (d : Die) (slot : BitVec 12) (run : Run) (e : Entry),
      Starts 0xA1 slot.toNat run fMay fLegal d e ∧
      AtHand (fBody run e (d.checked e run))) ∧
    (∃ (d d1 d2 : Die) (h : Hdr) (dst : BitVec 48) (len : Word) (mask : BitVec 8) (sig : Bool) (counter inc : BitVec 16) (tenant : BitVec 7) (queue : BitVec 20),
      (d.heard h).portOpen (portOf h) = true ∧
      len ≠ 0#32 ∧
      len.toNat % 64 = 0 ∧
      ((d.heard h).received (portOf h) 0 (laneOf h) 0).dropMembers (portOf h) mask.toNat = d1 ∧
      d1.maskVia (portOf h) 1 mask.toNat = 0 ∧
      d1.maskVia (portOf h) 2 mask.toNat = 0 ∧
      mask.toNat.testBit (d.heard h).dieId = true ∧
      (d.heard h).shardAt dst.toNat len.toNat tenant.toNat = none ∧
      d1.transferOk tenant.toNat dst.toNat len.toNat sig counter.toNat = (true, d2)) ∧
    (∃ (d d1 : Die) (f : BulkFlit) (p ln : Nat) (x : Incoming),
      (if f.port then 2 else 1) = p ∧
      (if f.lane then 1 else 0) = ln ∧
      d.portOpen p = true ∧
      (d.link.incoming.find? fun x => x.port == p && x.lane == ln && x.bulk == f.bulk.toNat && !x.ended) = some x ∧
      x.forward = [] ∧
      x.own = true ∧
      f.abort = false ∧
      f.last = true ∧
      (d.workOf serveSlot).received p 2 ln (min 240 f.bytes.toNat) = d1 ∧
      AtHand (((d1.takeBulk x f).modIncoming x.id fun o => { o with ended := true }).settleTransfers)) ∧
    (∃ (d d1 : Die) (h : Hdr) (st : BitVec 8) (s : Sending),
      Delivers h 7 0 [st.toNat] [] (d.heard h) d1 ∧
      (d1.link.sends.find? fun s => s.tag == h.tag.toNat && s.left.contains h.src.toNat) = some s ∧
      s.left.filter (· != h.src.toNat) = []) ∧
    (∃ (d : Die) (slot : BitVec 12) (s : Sending),
      (d.link.sends.find? fun s => s.slot == slot.toNat) = some s ∧
      s.sent = true ∧
      d.elapsed s.since (d.rf Reg.LNK_FAB_CFG 15 0) = true) :=
  ⟨⟨fabric (ready (desc 0xA0 [stream 0 6144 0 1 0 0, param 0 131072, param 48 1])), 0#12, Run.clean, entry (desc 0xA0 [stream 0 6144 0 1 0 0, param 0 131072, param 48 1]), by unfold Starts Startable; decide +kernel, by decide +kernel⟩,
    ⟨fabric (ready (desc 0xA1 [stream 0 6144 0 1 0 0, param 0 131072, param 48 2])), 0#12, Run.clean, entry (desc 0xA1 [stream 0 6144 0 1 0 0, param 0 131072, param 48 2]), by unfold Starts Startable; decide +kernel, by decide +kernel⟩,
    ⟨fabric die, _, _, hdr, 0x20000#48, 64#32, 1#8, true, 0#16, 1#16, 0x40#7, 0#20, by decide +kernel, by decide +kernel, by decide +kernel, rfl, by decide +kernel, by decide +kernel, by decide +kernel, by decide +kernel, (gotFirst (by decide +kernel))⟩,
    ⟨(let d := fabric die; { d with link := { d.link with incoming := [transfer] } }), _, ⟨false, false, 0#4, 64#8, true, false, 0#5, 7#1920⟩, 1, 0, transfer, by decide +kernel, by decide +kernel, by decide +kernel, by decide +kernel, (by decide +kernel), by decide +kernel, by decide +kernel, by decide +kernel, rfl, by decide +kernel⟩,
    ⟨(let d := fabric die; { d with link := { d.link with sends := [⟨0, 0, [1], 0, false, true, [1], 5, [], []⟩] } }), _, hdr, 0#8, ⟨0, 0, [1], 0, false, true, [1], 5, [], []⟩, ⟨by decide +kernel, rfl, by decide +kernel, by decide +kernel⟩, by decide +kernel⟩,
    ⟨(let d := fabric die; { d with link := { d.link with sends := [⟨0, 0, [1], 0, false, true, [1], 5, [], []⟩] } }), 0#12, ⟨0, 0, [1], 0, false, true, [1], 5, [], []⟩, by decide +kernel⟩⟩

/-- Each clause of Obligations.FabricTimeCompletes has a case. -/
theorem witness_FabricTimeCompletes :
    (∃ (d d1 : Die) (h : Hdr) (firing : BitVec 64) (mask : BitVec 8) (sense : Sense),
      sense.counts.length = 8 ∧
      (d.heard h).portOpen (portOf h) = true ∧
      ((d.heard h).received (portOf h) 3 (laneOf h) 0).sendAll (some h) 8 h.src.toNat firing.toNat mask.toNat = d1 ∧
      mask.toNat.testBit d1.dieId = true ∧
      d1.tickSource = 3 ∧
      d1.ticksRun = true ∧
      d1.tooSoon = false ∧
      d1.firing < firing.toNat) ∧
    (∃ (d : Die),
      d.dieId = 0 ∧
      d.rf Reg.LNK_STAT 12 12 = 1 ∧
      d.elapsed d.link.timeSent 1000 = true) ∧
    (∃ (d d1 : Die) (h : Hdr) (value : BitVec 64) (mask : BitVec 8),
      (d.heard h).portOpen (portOf h) = true ∧
      ((d.heard h).received (portOf h) 3 (laneOf h) 0).sendAll (some h) 9 h.src.toNat value.toNat mask.toNat = d1 ∧
      mask.toNat.testBit (d.heard h).dieId = true) ∧
    (∃ (d d1 : Die) (h : Hdr) (id : BitVec 8) (k : BitVec 24) (mask : BitVec 8),
      Delivers h 0xA 0 [id.toNat, k.toNat, mask.toNat] [] (d.heard h) d1) ∧
    (∃ (d d1 : Die) (h : Hdr) (id : BitVec 8) (k : BitVec 24) (t0 : BitVec 64),
      (d.heard h).portOpen (portOf h) = true ∧
      Delivers h 0xB 0 [id.toNat, k.toNat, t0.toNat] [] { d.heard h with link := { (d.heard h).link with quietUntil := max (d.heard h).link.quietUntil (t0.toNat + 1750) } } d1 ∧
      d1.ftime ≤ t0.toNat + 250 * d1.dieId) :=
  ⟨⟨fabric (timed 3), _, hdr, 1#64, 1#8, sense, by decide +kernel, by decide +kernel, rfl, by decide +kernel⟩,
    ⟨fabric die, by decide +kernel⟩,
    ⟨fabric die, _, hdr, 0xFFFFFFFFFFFFFFFF#64, 1#8, by decide +kernel, rfl, by decide +kernel⟩,
    ⟨fabric die, _, hdr, 0#8, 0#24, 0#8, ⟨by decide +kernel, rfl, by decide +kernel, by decide +kernel⟩⟩,
    ⟨fabric die, _, hdr, 0#8, 0#24, 0xFFFFFFFFFFFFFFFF#64, by decide +kernel, ⟨by decide +kernel, rfl, by decide +kernel, by decide +kernel⟩, by decide +kernel⟩⟩

/-- Each clause of Obligations.PowerEventsComplete has a case. -/
theorem witness_PowerEventsComplete :
    (∃ (d : Die) (drop : BitVec 8) (steps : BitVec 3),
      d.rf Reg.DMP_DROOP_CFG 7 0 < drop.toNat ∧
      1 ≤ steps.toNat ∧
      steps.toNat < 4) ∧
    (∃ (d : Die) (cycles : Word),
      d.damper.stretch ≠ 0 ∧
      d.rf Reg.DMP_DROOP_CFG 15 8 ≤ cycles.toNat) ∧
    (∃ (d d1 d2 : Die) (e : Estimate) (ratios : List Nat),
      e.domains.length = 4 ∧
      e.rails.length = 4 ∧
      e.held.length = 3 ∧
      d.pstate ≠ 3 ∧
      d.elapsed d.damper.estimated 2 = true ∧
      (if d.railMode then d.railRatios e else d.capRatios e) = ratios ∧
      (List.range 4).foldl (fun acc k => acc.setRf (Reg.DMP_DOM_EST k) 15 0 (e.domains.getD k 0#16).toNat) (d.setRf Reg.DMP_EST 15 0 e.die.toNat) = d1 ∧
      ((List.range 3).filter d1.limited).foldl (fun acc k => acc.domainHeld k (e.held.getD k 0#12).toNat) d1 = d2) ∧
    (∃ (d d1 d2 : Die) (temps : List (BitVec 16)) (h : Int × Nat),
      temps.length = 24 ∧
      d.pstate ≠ 3 ∧
      d.elapsed d.damper.sampled 10 = true ∧
      hottest temps.zipIdx = some h ∧
      temps.zipIdx.foldl (fun acc t => acc.setRf (Reg.DMP_TEMP t.2) 15 0 t.1.toNat) d = d1 ∧
      ({ d1 with damper := { d1.damper with sampled := d.refclk } } : Die).setReg Reg.DMP_TEMP_MAX (BitVec.ofNat 32 (ofSigned 16 h.1 + h.2 * 2 ^ 16)) = d2) ∧
    (∃ (d : Die),
      d.pstate = 0 ∧
      d.sb = [] ∧
      d.queues.recorded = [] ∧
      d.elapsed d.sched.idleSince (d.rf Reg.DMP_IDLE_CFG 15 0) = true) ∧
    (∃ (d d1 d2 d3 d4 : Die) (e : PowerEntry),
      d.damper.entry = some e ∧
      d.entering = true ∧
      d.sb = [] ∧
      d.owed = [] ∧
      d.serving.late = [] ∧
      d.dmc.waiting = [] ∧
      (List.range 4).foldl (fun acc c => if acc.camOn c then acc.closeFrame c else acc) d = d1 ∧
      ((List.range 88).filter fun b => !d.retained b).foldl (fun acc b => (acc.powerBankDown b).bankGateClose (BitVec.ofNat 7 b)) d1 = d2 ∧
      (match d2.runningCmd 0x0105 with | some c => d2.dramRest.reply c stOk 0 (c.aux.headD 0) [] | none => d2.dramRest) = d3 ∧
      { d3 with sched := { d3.sched with camTick := none }, kiln := Kiln.powerUp, wheel := ⟨none, false⟩, damper := { d3.damper with timer := if e.timer = 0 then none else some (d.refclk + msCycles e.timer) } } = d4) ∧
    (∃ (d d2 : Die) (e : PowerEntry),
      d.damper.entry = some e ∧
      d.entering = true ∧
      d.drained = false ∧
      e.since + msCycles e.limit ≤ d.refclk ∧
      (Die.setRf { d with damper := { d.damper with entry := none, wake := none } } Reg.DMP_STAT 3 3 0).err Reg.DMP_ERR Bit.DMP_ERR_ENTRY_TIMEOUT = d2) ∧
    (∃ (d : Die) (t : Nat) (e : PowerEntry),
      d.damper.timer = some t ∧
      t ≤ d.refclk ∧
      d.damper.entry = some e ∧
      e.mask.testBit 2 = true ∧
      d.damper.wake = none ∧
      (d.entering || d.asleep) = true) ∧
    (∃ (d : Die) (w : Word) (e : PowerEntry),
      w.b 0 = true ∧
      d.damper.entry = some e ∧
      d.damper.wake = none ∧
      (d.entering || d.asleep) = true) ∧
    (∃ (d d1 d2 : Die) (k : Nat),
      d.damper.wake = some k ∧
      d.asleep = true ∧
      ((List.range 88).filter fun b => !d.retained b).foldl (fun acc b => acc.bankBack b) d = d1 ∧
      (if d.pstate = 3 then ((List.range 8).filter fun s => !d.segKept s).foldl (fun acc s => acc.setRf Reg.DMC_STAT (24 + s) (24 + s) 1) d1.clearCounters.areaLost else d1) = d2) :=
  ⟨⟨regs die [(Reg.DMP_DROOP_CFG, 254)], 255#8, 3#3, by decide +kernel⟩,
    ⟨{ die with damper := { die.damper with stretch := 3 } }, 0xFFFFFFFF#32, by decide +kernel⟩,
    ⟨die.setRailMode false, _, _, ⟨7#16, List.replicate 4 1#16, List.replicate 4 1#16, List.replicate 3 1#12⟩, _, by decide +kernel, by decide +kernel, by decide +kernel, by decide +kernel, (by decide +kernel), rfl, rfl, rfl⟩,
    ⟨die, _, _, (List.replicate 24 0x8000#16), (-32768, 0), by decide +kernel, by decide +kernel, by decide +kernel, by decide +kernel, rfl, rfl⟩,
    ⟨die, by decide +kernel⟩,
    ⟨(let d := regs die [(Reg.DMP_STAT, 8)]; { d with damper := { d.damper with entry := some ⟨2, 0, 0, 0, 0⟩ } }), _, _, _, _, ⟨2, 0, 0, 0, 0⟩, by decide +kernel, by decide +kernel, by decide +kernel, by decide +kernel, (by decide +kernel), by decide +kernel, rfl, rfl, rfl, rfl⟩,
    ⟨(let d := regs (ready 0#2048) [(Reg.DMP_STAT, 8)]; { d with damper := { d.damper with entry := some ⟨2, 0, 0, 10000, 0⟩ } }), _, ⟨2, 0, 0, 10000, 0⟩, by decide +kernel, by decide +kernel, by decide +kernel, by decide +kernel, rfl⟩,
    ⟨(let d := regs die [(Reg.DMP_STAT, 2)]; { d with damper := { d.damper with timer := some 5, entry := some ⟨2, 4, 0, 0, 0⟩ } }), 5, ⟨2, 4, 0, 0, 0⟩, by decide +kernel⟩,
    ⟨(let d := regs die [(Reg.DMP_STAT, 2)]; { d with damper := { d.damper with entry := some ⟨2, 0, 0, 0, 0⟩ } }), 1#32, ⟨2, 0, 0, 0, 0⟩, by decide +kernel⟩,
    ⟨(let d := regs die [(Reg.DMP_STAT, 2)]; { d with damper := { d.damper with wake := some 5 } }), _, _, 5, by decide +kernel, by decide +kernel, rfl, rfl⟩⟩

/-- Each clause of Obligations.FirmwareEventsComplete has a case. -/
theorem witness_FirmwareEventsComplete :
    (∃ (d d0 d1 d2 d4 d5 : Die) (b : BootFind) (i : Image),
      d.fwState = fwBoot ∧
      d.fw.running = some i ∧
      ((d.bootDram b).bootNand b).setPortState 0 3 = d0 ∧
      d0.setRf (Reg.LNK_PORT_STAT 0) 6 4 (min (d0.port 0).cap (max 1 b.hostRate.toNat)) = d1 ∧
      (d1.setRf Reg.LNK_STAT 23 16 (2 ^ d1.dieId)).selfTest (some b.kiln) (some b.wheel) = d2 ∧
      (List.range (b.wheel.headD []).length).foldl (fun acc _ => acc.wheelSpareSwap) ((List.range (b.kiln.headD []).length).foldl (fun acc _ => acc.kilnSpareSwap .cell) d2) = d4 ∧
      (d4.setRf Reg.FWP_BOOT_STAT 23 8 (min 65535 (d4.refclk / 38400))).setFwState fwWaitDriver = d5) ∧
    (∃ (d d0 d2 : Die) (len : Word) (hits : Hits) (p : UnitRd × Die) (n x : Nat),
      d.struck hits = d0 ∧
      d0.fwState = fwHostWait ∧
      (d0.setReg Reg.FWP_RECOVERY_LEN (len &&& 0x003FFFFF#32)).workOf imageSlot = d2 ∧
      d2.readHostLines ((d2.rf Reg.FWP_RECOVERY_HI 15 0 * 2 ^ 32 + d2.rf Reg.FWP_RECOVERY_LO 31 12 * 4096) / 64) (ceilDiv (len.toNat % 2 ^ 22) 64) = p ∧
      p.1.data % 2 ^ (8 * (len.toNat % 2 ^ 22)) = n ∧
      (if p.1.bad then 1 else p.2.imageError n (some (len.toNat % 2 ^ 22)) (imageProof n)) = x ∧
      AtHand (if x = 0 then ((p.2.startImage (imageOf n (imageProof n).digest) false).setRf Reg.FWP_BOOT_STAT 2 2 1).setRf Reg.FWP_BOOT_STAT 7 4 0 else p.2.bootFailed x true)) ∧
    (∃ (d d1 d2 : Die) (p : BitVec 2) (recent : List Nat),
      d.procUp p.toNat = true ∧
      d.watchdogDue p.toNat = true ∧
      d.update ≠ 2 ∧
      (d.refclk :: SMap.get (fun _ => []) d.fw.expiries p.toNat).filter (fun t => !d.elapsed t 10000001) = recent ∧
      recent.length < 3 ∧
      { d with fw := { d.fw with expiries := SMap.put (fun _ => []) d.fw.expiries p.toNat recent } } = d1 ∧
      (((d1.setRf (Reg.FWP_WDT p.toNat) 31 16 (min 65535 (d1.rf (Reg.FWP_WDT p.toNat) 31 16 + 1))).setDown p.toNat true).dump p.toNat).err Reg.FWP_ERR p.toNat = d2 ∧
      d2.update ≠ 2) ∧
    (∃ (d : Die) (p : BitVec 2),
      d.procDown p.toNat = true ∧
      d.fw.stuck.contains p.toNat = false ∧
      p.toNat ≠ 0) ∧
    (∃ (d : Die),
      d.procDown 0 = true ∧
      d.fw.stuck.contains 0 = false) ∧
    (∃ (d : Die),
      d.fw.restarting = true) ∧
    (∃ (d : Die) (w : Word),
      (w.b 31 = false ∨ (4 ≤ w.f 3 0 ∧ w.f 3 0 ≤ 12))) ∧
    (∃ (d d0 : Die) (v : Word),
      (d.setReg Reg.FWP_CMD_TAIL v).workOf mgmtSlot = d0 ∧
      d0.mayTake = false ∧
      AtHand d0) ∧
    (∃ (d d0 d1 : Die) (v : Word) (p : UnitRd × Die) (n k : Nat),
      (d.setReg Reg.FWP_CMD_TAIL v).workOf mgmtSlot = d0 ∧
      d0.mayTake = true ∧
      d0.readHost 0 (d0.ringSlot Reg.FWP_CMD_BASE_LO (d0.reg Reg.FWP_CMD_HEAD).toNat / 64) Who.die = p ∧
      p.1.bad = false ∧
      p.2.setReg Reg.FWP_CMD_HEAD (d0.reg Reg.FWP_CMD_HEAD + 1#32) = d1 ∧
      p.1.data = n ∧
      d1.fw.lastSeq = none ∧
      cmdLength (bytesAt n 0 2) = some k ∧
      bytesAt n 2 2 = k ∧
      d1.fw.stuck = [] ∧
      Die.mayTake { d1 with fw := { d1.fw with lastSeq := some (bytesAt n 4 4), cmds := d1.fw.cmds ++ [⟨bytesAt n 0 2, bytesAt n 4 4, bytesAt n 8 56, .queued, []⟩] } } = false ∧
      AtHand { d1 with fw := { d1.fw with lastSeq := some (bytesAt n 4 4), cmds := d1.fw.cmds ++ [⟨bytesAt n 0 2, bytesAt n 4 4, bytesAt n 8 56, .queued, []⟩] } }) ∧
    (∃ (d : Die) (c : Cmd),
      d.runningCmd 0x030B = some c ∧
      1 < d.fw.cmds.length ∧
      d.elapsed (c.aux.headD 0) 1000000 = true ∧
      AtHand ((Die.workOf { d with fw := { d.fw with paused := false } } mgmtSlot).reply c stTimeout 0 0 [])) ∧
    (∃ (d : Die),
      d.update = 2 ∧
      d.elapsed d.fw.probation 10000000 = true) ∧
    (∃ (d : Die) (i : Image),
      d.fw.running = some i ∧
      d.update = 3) ∧
    (∃ (d d1 : Die) (p : BitVec 2) (word : BitVec 20),
      (d.countError 6 (4 * 2 ^ 24 + word.toNat)).err Reg.RAS_ERR Bit.RAS_ERR_CTRL_UE = d1 ∧
      d1.procUp p.toNat = true) :=
  ⟨⟨owing (regs die [(Reg.FWP_STAT, 0)]) [], _, _, _, _, _, ⟨0xFFFF#16, 0#2, 0#2, true, 0#16, [], 0#2, 0#2, 0#20, 0#16, 0#2, 0#3, [], []⟩, image, by decide +kernel, by decide +kernel, rfl, rfl, rfl, rfl, rfl⟩,
    ⟨regs die [(Reg.FWP_STAT, 1)], _, _, 0#32, ⟨[], 0⟩, _, _, _, rfl, by decide +kernel, rfl, rfl, rfl, rfl, by decide +kernel⟩,
    ⟨die, _, _, 3#2, _, by decide +kernel, by decide +kernel, by decide +kernel, rfl, by decide +kernel, rfl, rfl, by decide +kernel⟩,
    ⟨regs die [(Reg.FWP_STAT, 3 + 128)], 3#2, by decide +kernel⟩,
    ⟨regs die [(Reg.FWP_STAT, 3 + 16)], by decide +kernel⟩,
    ⟨{ die with fw := { die.fw with restarting := true } }, by decide +kernel⟩,
    ⟨die, 0x8000000C#32, by decide +kernel⟩,
    ⟨die, _, 0#32, rfl, by decide +kernel⟩,
    ⟨arriveAt mgmtSlot (owing (regs die [(Reg.FWP_RING_CFG, 2 ^ 31 + 4), (Reg.FWP_CMD_BASE_LO, 0x10000)]) []) [(1024, fields [(0, 0x0301), (32, 7)])], _, _, 1#32, _, _, 0, rfl, by decide +kernel, rfl, by decide +kernel, rfl, rfl, by decide +kernel⟩,
    ⟨{ owing die [{ cmd 0x030B [] with stage := .running, aux := [5] }, cmd 0x0101 []] with refclk := 10 ^ 12 }, { cmd 0x030B [] with stage := .running, aux := [5] }, by decide +kernel⟩,
    ⟨regs die [(Reg.FWP_STAT, 3 + 512)], by decide +kernel⟩,
    ⟨owing (regs die [(Reg.FWP_STAT, 3 + 768)]) [], image, by decide +kernel⟩,
    ⟨die, _, 3#2, 0#20, rfl, by decide +kernel⟩⟩

/-- Each clause of Obligations.SecurityEventsComplete has a case. -/
theorem witness_SecurityEventsComplete :
    (∃ (d : Die) (num : BitVec 16) (a b : List KeySession) (x : KeySession),
      d.saggar.sessions = a ++ x :: b ∧
      x.num = num.toNat ∧
      d.elapsed x.since 60000000 = true ∧
      (∀ o ∈ a ++ b, o.num ≠ num.toNat)) ∧
    (∃ (d : Die) (t pair : Nat),
      d.saggar.offer = some (t, pair) ∧
      d.elapsed t 10000000 = true) ∧
    (∃ (d : Die),
      d.confMode = true ∧
      d.elapsed d.saggar.traffic 86400000000 = true) ∧
    (∃ (d : Die),
      d.rngOk = true) :=
  ⟨⟨{ die with refclk := 10 ^ 13, saggar := { die.saggar with sessions := [⟨6, 10 ^ 13, 0, 0, 0⟩, ⟨7, 0, 0, 0, 0⟩] } }, 7#16, [⟨6, 10 ^ 13, 0, 0, 0⟩], [], ⟨7, 0, 0, 0, 0⟩, by decide +kernel⟩,
    ⟨{ die with saggar := { die.saggar with offer := some (5, 0) } }, 5, 0, by decide +kernel⟩,
    ⟨(let d := regs die [(Reg.LNK_STAT, 0x2000)]; { d with refclk := 10 ^ 13 }), by decide +kernel⟩,
    ⟨regs die [(Reg.SGR_STAT, 0x80)], by decide +kernel⟩⟩

/-- Each clause of Obligations.ReliabilityEventsComplete has a case. -/
theorem witness_ReliabilityEventsComplete :
    (∃ (d : Die) (a b : List TrackEntry) (x : TrackEntry),
      d.track = a ++ x :: b ∧
      d.trackLive x = false ∧
      (∀ o ∈ a ++ b, d.trackLive o = true)) ∧
    (∃ (d : Die) (kiln : List (List (BitVec 12))) (wheel : List (List (BitVec 5))) (k w : Bool),
      d.testDue d.ras.kilnTested d.kilnIdle = k ∧
      d.testDue d.ras.wheelTested d.wheelIdle = w ∧
      (k || w) = true) :=
  ⟨⟨{ die with refclk := 10 ^ 16, track := [⟨1, 5, [10 ^ 16], false, false⟩, ⟨1, 6, [0], false, false⟩] }, [⟨1, 5, [10 ^ 16], false, false⟩], [], ⟨1, 6, [0], false, false⟩, by decide +kernel⟩,
    ⟨{ regs die [(Reg.RAS_SELFTEST_CFG, 1)] with refclk := 10 ^ 13 }, [], [], true, true, by decide +kernel⟩⟩

/-- Each clause of Obligations.PowerCommandsComplete has a case. -/
theorem witness_PowerCommandsComplete :
    (∃ (d d1 : Die) (c : Cmd),
      Handles 0x0101 d d1 c ∧
      2000 ≤ c.arg 0 2 ∧
      c.arg 0 2 ≤ 38000 ∧
      AtHand (d1.toTick c [])) ∧
    (∃ (d d1 : Die) (c : Cmd),
      Handles 0x0102 d d1 c ∧
      (c.arg 0 1).testBit 1 = false ∧
      AtHand (d1.toTick c [])) ∧
    (∃ (d d1 : Die) (c : Cmd) (p : UnitRd × Die) (t : List (List Nat × List Nat)),
      Handles 0x0102 d d1 c ∧
      (c.arg 0 1).testBit 1 = true ∧
      d1.readBytes Who.die (c.arg 8 8) 512 = p ∧
      p.1.bad = false ∧
      (List.range 16).map (phaseEntry p.1.data) = t ∧
      (t.any fun x => x.2.foldl (· + ·) 0 != 256) = false ∧
      AtHand (p.2.toTick c (t.flatMap fun x => x.1 ++ x.2))) ∧
    (∃ (d d1 : Die) (c : Cmd),
      Handles 0x0103 d d1 c ∧
      AtHand (d1.toTick c [])) ∧
    (∃ (d d1 : Die) (c : Cmd),
      Handles 0x0104 d d1 c ∧
      c.arg 0 1 ≤ 3 ∧
      100 ≤ c.arg 2 2 ∧
      c.arg 2 2 ≤ 20000 ∧
      1 ≤ c.arg 4 1 ∧
      c.arg 4 1 ≤ 10 ∧
      AtHand (Die.reply { d1 with damper := { d1.damper with rails := d1.damper.rails.zipIdx.map fun (p : (Nat × Nat) × Nat) => if p.2 = c.arg 0 1 then (c.arg 2 2, c.arg 4 1) else p.1 } } c stOk 0 0 [])) ∧
    (∃ (d d1 : Die) (c : Cmd),
      Handles 0x0105 d d1 c ∧
      d1.stateRefused c = false ∧
      AtHand (d1.toTick c [])) ∧
    (∃ (d d1 : Die) (c : Cmd),
      Handles 0x0106 d d1 c ∧
      AtHand (d1.toTick c [])) ∧
    (∃ (d d1 : Die) (c : Cmd),
      Handles 0x0107 d d1 c ∧
      AtHand (d1.reply c stOk 0 0 ([(2, d1.rf Reg.DMP_EST 15 0)] ++ ((List.range 4).map fun k => (2, d1.rf (Reg.DMP_DOM_EST k) 15 0)) ++ ((List.range 4).map fun k => (2, d1.grant k)) ++ [(2, d1.rf Reg.DMP_FLOORS 15 0), (2, d1.rf Reg.DMP_FLOORS 31 16), (1, d1.rf Reg.DMP_STAT 19 16), (2, d1.rf Reg.DMP_SPLIT 8 0), (2, d1.rf Reg.DMP_SPLIT 17 9), (2, d1.rf Reg.DMP_SPLIT 26 18), (1, d1.rf Reg.DMP_DUTY 3 0), (1, d1.rf Reg.DMP_STAT 9 9)]))) ∧
    (∃ (d d1 : Die) (c : Cmd),
      Handles 0x0108 d d1 c ∧
      85 ≤ c.arg 0 1 ∧
      c.arg 0 1 ≤ 100 ∧
      AtHand (d1.toTick c [])) :=
  ⟨⟨owing (die) [cmd 0x0101 [(0, 2000)]], _, cmd 0x0101 [(0, 2000)], ⟨rfl, by decide +kernel⟩, by decide +kernel⟩,
    ⟨owing (die) [cmd 0x0102 []], _, cmd 0x0102 [], ⟨rfl, by decide +kernel⟩, by decide +kernel⟩,
    ⟨owing (arriveAt mgmtSlot die ((List.range 8).map fun i => (1024 + i, 256 * 2 ^ 128 + 256 * 2 ^ 384))) [cmd 0x0102 [(0, 2), (8, 65536)]], _, cmd 0x0102 [(0, 2), (8, 65536)], _, _, ⟨rfl, by decide +kernel⟩, by decide +kernel, rfl, by decide +kernel, rfl, by decide +kernel⟩,
    ⟨owing (die) [cmd 0x0103 []], _, cmd 0x0103 [], ⟨rfl, by decide +kernel⟩, by decide +kernel⟩,
    ⟨owing (die) [cmd 0x0104 [(0, 3), (2, 100), (4, 10)]], _, cmd 0x0104 [(0, 3), (2, 100), (4, 10)], ⟨rfl, by decide +kernel⟩, by decide +kernel⟩,
    ⟨owing (die) [cmd 0x0105 [(0, 2)]], _, cmd 0x0105 [(0, 2)], ⟨rfl, by decide +kernel⟩, by decide +kernel⟩,
    ⟨owing (die) [cmd 0x0106 []], _, cmd 0x0106 [], ⟨rfl, by decide +kernel⟩, by decide +kernel⟩,
    ⟨owing (die) [cmd 0x0107 []], _, cmd 0x0107 [], ⟨rfl, by decide +kernel⟩, by decide +kernel⟩,
    ⟨owing (die) [cmd 0x0108 [(0, 100)]], _, cmd 0x0108 [(0, 100)], ⟨rfl, by decide +kernel⟩, by decide +kernel⟩⟩

/-- Each clause of Obligations.SecurityCommandsComplete has a case. -/
theorem witness_SecurityCommandsComplete :
    (∃ (d d1 : Die) (c : Cmd) (n : Nat) (p : Bool × Die),
      Handles 0x0201 d d1 c ∧
      Config.crypto 3 0 % 8193 = n ∧
      d1.bufferOk (c.arg 0 8) (max 9985 (1797 + n)) = true ∧
      d1.writeBytes Who.die (c.arg 0 8) (1797 + n) (layout [(0, 1793, Config.crypto 1 0), (1793, 4, n), (1797, n, Config.crypto 2 0)]) = p ∧
      p.1 = true ∧
      AtHand (p.2.reply c stOk 0 0 [])) ∧
    (∃ (d d1 : Die) (c : Cmd) (p : Bool × Die),
      Handles 0x0202 d d1 c ∧
      d1.reportRefused false = none ∧
      d1.bufferOk (c.arg 0 8) 4352 = true ∧
      d1.writeReport (c.arg 0 8) (c.arg 8 32) none = p ∧
      p.1 = true ∧
      AtHand (p.2.reply c stOk 0 0 [(8, d1.firing)])) ∧
    (∃ (d d1 : Die) (c : Cmd) (p : Bool × Die),
      Handles 0x0203 d d1 c ∧
      d1.reportRefused true = none ∧
      d1.openSessions.length < 8 ∧
      d1.bufferOk (c.arg 0 8) 5920 = true ∧
      d1.fresh.2.writeReport (c.arg 0 8) (c.arg 8 32) (some d1.fresh.1) = p ∧
      p.1 = true ∧
      AtHand (Die.reply { p.2 with saggar := { p.2.saggar with sessions := p.2.openSessions ++ [⟨d1.saggar.nextSession, d1.refclk, d1.fresh.1, digest32 (toBytes 1568 (Config.crypto 4 d1.fresh.1)), c.arg 8 32⟩], nextSession := if d1.saggar.nextSession = 65535 then 1 else d1.saggar.nextSession + 1 } } c stOk 0 0 [(2, d1.saggar.nextSession)])) ∧
    (∃ (d d1 : Die) (c : Cmd) (upsets : List Upset) (lost : Nat) (s : KeySession) (p : UnitRd × Die),
      Handles 0x0204 d d1 c ∧
      d1.testMode = false ∧
      (d1.openSessions.find? fun s => s.num == c.arg 0 2) = some s ∧
      modelCode (c.arg 2 1) = true ∧
      (Die.struck { d1 with saggar := { d1.saggar with sessions := d1.openSessions.filter fun s => s.num != c.arg 0 2 } } ⟨upsets, lost⟩).readBytes Who.die (c.arg 8 8) 1648 = p ∧
      p.1.bad = false ∧
      (p.2.awaitsTick 0x0205 fun o => o.arg 0 1 == c.arg 2 1 && o.aux.headD 0 == bytesAt p.1.data 1568 32) = false ∧
      p.2.keySlot (bytesAt p.1.data 1568 32) (c.arg 2 1) = none ∧
      p.2.freeKeySlot.isSome = true ∧
      AtHand (match s.unwrap p.1.data (c.arg 2 1) with | some key => p.2.toTick c [bytesAt p.1.data 1568 32, key] | none => (p.2.err Reg.SGR_ERR Bit.SGR_ERR_RELEASE).reply c stIntegrity 0 0 [])) ∧
    (∃ (d d1 : Die) (c : Cmd) (p : UnitRd × Die),
      Handles 0x0205 d d1 c ∧
      d1.readBytes Who.die (c.arg 8 8) 32 = p ∧
      p.1.bad = false ∧
      (p.2.keySlot (bytesAt p.1.data 0 32) (c.arg 0 1)).isSome = true ∧
      AtHand (p.2.toTick c [bytesAt p.1.data 0 32])) ∧
    (∃ (d d1 : Die) (c : Cmd) (p : Bool × Die),
      Handles 0x0206 d d1 c ∧
      d1.reportRefused true = none ∧
      d1.offerOpen = false ∧
      d1.sessionOpen = false ∧
      d1.bufferOk (c.arg 0 8) 5920 = true ∧
      d1.fresh.2.writeReport (c.arg 0 8) (c.arg 8 32) (some d1.fresh.1) = p ∧
      p.1 = true ∧
      AtHand (Die.reply { p.2 with saggar := { p.2.saggar with offer := some (d1.refclk, d1.fresh.1) } } c stOk 0 0 [])) ∧
    (∃ (d d1 : Die) (c : Cmd) (p : UnitRd × Die) (n t pair : Nat),
      Handles 0x0207 d d1 c ∧
      d1.saggar.offer = some (t, pair) ∧
      d1.elapsed t 10000000 = false ∧
      d1.readBytes Who.die (c.arg 8 8) 1568 = p ∧
      p.1.bad = false ∧
      (if (p.2.saggar.session + 1) % 2 ^ 32 = 0 then 1 else (p.2.saggar.session + 1) % 2 ^ 32) = n ∧
      AtHand (Die.toTick { p.2 with saggar := { p.2.saggar with offer := none, session := n, traffic := p.2.refclk, opening := true, confKeys := some (sessionKeys pair p.1.data) } } c [])) ∧
    (∃ (d d1 : Die) (c : Cmd),
      Handles 0x0208 d d1 c ∧
      d1.sessionOpen = true ∧
      AtHand (Die.toTick { d1 with saggar := { d1.saggar with closing := true } } c [])) ∧
    (∃ (d d1 : Die) (c : Cmd) (good : BitVec 7),
      Handles 0x0209 d d1 c ∧
      d1.update ≠ 1 ∧
      d1.fw.inFlash = true ∧
      d1.runningSvn - d1.nv.rollback ≤ good.toNat ∧
      AtHand (Die.reply { d1 with nv := { d1.nv with rollback := d1.nv.rollback + (d1.runningSvn - d1.nv.rollback) } } c stOk 0 0 [(1, d1.nv.rollback + (d1.runningSvn - d1.nv.rollback))])) :=
  ⟨⟨owing (die) [cmd 0x0201 [(0, 65536)]], _, cmd 0x0201 [(0, 65536)], _, _, ⟨rfl, by decide +kernel⟩, rfl, paged_buffer ⟨⟨by decide +kernel, by decide +kernel, by decide +kernel⟩, by decide +kernel, by decide +kernel, by decide +kernel⟩ (by decide +kernel) (by omega) (Nat.max_le.mpr ⟨by omega, identity_fits⟩), rfl, (paged_written ⟨⟨by decide +kernel, by decide +kernel, by decide +kernel⟩, by decide +kernel, by decide +kernel, by decide +kernel⟩ (by decide +kernel) identity_fits).1, atHand_reply _ _ _ _ _ (paged_written ⟨⟨by decide +kernel, by decide +kernel, by decide +kernel⟩, by decide +kernel, by decide +kernel, by decide +kernel⟩ (by decide +kernel) identity_fits).2.posting⟩,
    ⟨owing (regs die [(Reg.SGR_STAT, 0xC0)]) [cmd 0x0202 [(0, 65536)]], _, cmd 0x0202 [(0, 65536)], _, ⟨rfl, by decide +kernel⟩, by decide +kernel, by decide +kernel, rfl, (paged_report ⟨⟨by decide +kernel, by decide +kernel, by decide +kernel⟩, by decide +kernel, by decide +kernel, by decide +kernel⟩ (by decide +kernel) (by decide +kernel) _ _).1, atHand_reply _ _ _ _ _ (paged_report ⟨⟨by decide +kernel, by decide +kernel, by decide +kernel⟩, by decide +kernel, by decide +kernel, by decide +kernel⟩ (by decide +kernel) (by decide +kernel) _ _).2.posting⟩,
    ⟨owing (regs die [(Reg.SGR_STAT, 0xC0)]) [cmd 0x0203 [(0, 65536)]], _, cmd 0x0203 [(0, 65536)], _, ⟨rfl, by decide +kernel⟩, by decide +kernel, by decide +kernel, by decide +kernel, rfl, (paged_report (paged_fresh ⟨⟨by decide +kernel, by decide +kernel, by decide +kernel⟩, by decide +kernel, by decide +kernel, by decide +kernel⟩) (by decide +kernel) (by decide +kernel) _ _).1, atHand_reply _ _ _ _ _ (posting_saggar (paged_report (paged_fresh ⟨⟨by decide +kernel, by decide +kernel, by decide +kernel⟩, by decide +kernel, by decide +kernel, by decide +kernel⟩) (by decide +kernel) (by decide +kernel) _ _).2.posting _)⟩,
    ⟨owing ((let d := arriveAt mgmtSlot die ((List.range 26).map fun i => (1024 + i, 0)); { d with saggar := { d.saggar with sessions := [⟨1, 0, 0, 0, 0⟩] } })) [cmd 0x0204 [(0, 1), (8, 65536)]], _, cmd 0x0204 [(0, 1), (8, 65536)], [], 0, _, _, ⟨rfl, by decide +kernel⟩, by decide +kernel, (got (by decide +kernel)), by decide +kernel, rfl, by decide +kernel, by decide +kernel, by decide +kernel, by decide +kernel, by generalize KeySession.unwrap _ _ _ = o; cases o with | none => decide +kernel | some k => exact atHand_toTick _ _ (by decide +kernel)⟩,
    ⟨owing ((let d := arriveAt mgmtSlot die ((List.range 1).map fun i => (1024 + i, 0)); d.setModelKey 31 (some ⟨0, 0, 1⟩))) [cmd 0x0205 [(8, 65536)]], _, cmd 0x0205 [(8, 65536)], _, ⟨rfl, by decide +kernel⟩, rfl, by decide +kernel⟩,
    ⟨owing (regs die [(Reg.SGR_STAT, 0xC0)]) [cmd 0x0206 [(0, 65536)]], _, cmd 0x0206 [(0, 65536)], _, ⟨rfl, by decide +kernel⟩, by decide +kernel, by decide +kernel, by decide +kernel, by decide +kernel, rfl, (paged_report (paged_fresh ⟨⟨by decide +kernel, by decide +kernel, by decide +kernel⟩, by decide +kernel, by decide +kernel, by decide +kernel⟩) (by decide +kernel) (by decide +kernel) _ _).1, atHand_reply _ _ _ _ _ (posting_saggar (paged_report (paged_fresh ⟨⟨by decide +kernel, by decide +kernel, by decide +kernel⟩, by decide +kernel, by decide +kernel, by decide +kernel⟩) (by decide +kernel) (by decide +kernel) _ _).2.posting _)⟩,
    ⟨owing ((let d := arriveAt mgmtSlot die ((List.range 25).map fun i => (1024 + i, 0)); { d with saggar := { d.saggar with offer := some (10 ^ 9) } })) [cmd 0x0207 [(8, 65536)]], _, cmd 0x0207 [(8, 65536)], _, _, _, _, ⟨rfl, by decide +kernel⟩, (gotPair (by decide +kernel)), by decide +kernel, rfl, by decide +kernel, rfl, by decide +kernel⟩,
    ⟨owing ({ die with saggar := { die.saggar with opening := true } }) [cmd 0x0208 []], _, cmd 0x0208 [], ⟨rfl, by decide +kernel⟩, by decide +kernel⟩,
    ⟨(let d := owing die [cmd 0x0209 []]; { d with fw := { d.fw with inFlash := true, running := some { image with svn := 1 } } }), _, cmd 0x0209 [], 1#7, ⟨rfl, by decide +kernel⟩, by decide +kernel⟩⟩

/-- Each clause of Obligations.SupervisorCommandsComplete has a case. -/
theorem witness_SupervisorCommandsComplete :
    (∃ (d d1 : Die) (c : Cmd),
      Handles 0x0301 d d1 c ∧
      AtHand (d1.reply c stOk 0 0 [(4, d1.imageField (·.version)), (1, d1.imageField (·.svn)), (1, d1.imageField (·.ifMajor)), (1, d1.imageField (·.ifMinor)), (1, d1.fwState), (1, d1.rf Reg.FWP_BOOT_STAT 1 0), (2, d1.rf Reg.FWP_BOOT_STAT 23 8), (1, d1.update)])) ∧
    (∃ (d d1 : Die) (c : Cmd),
      Handles 0x0302 d d1 c ∧
      c.arg 0 1 = d1.imageField (·.ifMajor) ∧
      d1.fwState ≠ fwRefused ∧
      AtHand (Die.reply { d1 with fw := { d1.fw with hello := true } } c stOk 0 0 [(1, d1.imageField (·.ifMajor)), (1, d1.imageField (·.ifMinor))])) ∧
    (∃ (d d1 : Die) (c : Cmd),
      Handles 0x0303 d d1 c ∧
      d1.fwState = fwWaitDriver ∧
      d1.fw.hello = true ∧
      d1.allTrained = true ∧
      AtHand (d1.toTick c [])) ∧
    (∃ (d d1 : Die) (c : Cmd),
      Handles 0x0304 d d1 c ∧
      d1.fwState = fwRunning ∧
      (d1.fw.cmds.any fun o => o.op == 0x0304 && o.stage != .queued) = false ∧
      AtHand (d1.toTick c [])) ∧
    (∃ (d d1 : Die) (c : Cmd),
      Handles 0x0305 d d1 c ∧
      c.arg 0 1 ≤ 3 ∧
      c.arg 1 1 ≤ 3 ∧
      384 ≤ c.arg 4 4 ∧
      c.arg 4 4 ≤ 38400000 ∧
      (c.arg 0 1 = 3 → d1.dieId ≠ 0) ∧
      AtHand (d1.toTick c [])) ∧
    (∃ (d d1 : Die) (c : Cmd),
      Handles 0x0306 d d1 c ∧
      d1.tenantRefused (tenantRec c) (d1.awaitsTick 0x0308 fun o => o.arg 0 1 == c.arg 0 1) = none ∧
      AtHand (d1.toTick c [])) ∧
    (∃ (d d1 : Die) (c : Cmd),
      Handles 0x0307 d d1 c ∧
      c.arg 0 1 < 64 ∧
      c.arg 1 1 < 8 ∧
      d1.windowLegal (c.arg 0 1) (d1.awaitsTick 0x0306 fun o => o.arg 0 1 == c.arg 0 1) (d1.awaitsTick 0x0308 fun o => o.arg 0 1 == c.arg 0 1) = true ∧
      AtHand (d1.toTick c [])) ∧
    (∃ (d d1 : Die) (c : Cmd),
      Handles 0x0308 d d1 c ∧
      c.arg 0 1 < 64 ∧
      d1.tenantValid (c.arg 0 1) = true ∧
      d1.tenantDraining (c.arg 0 1) = false ∧
      (d1.awaitsTick 0x0308 fun o => o.arg 0 1 == c.arg 0 1) = false ∧
      AtHand (d1.toTick c [])) ∧
    (∃ (d d1 : Die) (c : Cmd),
      Handles 0x0309 d d1 c ∧
      c.arg 0 1 ≤ 3 ∧
      1 ≤ c.arg 2 2 ∧
      c.arg 2 2 ≤ 1000 ∧
      AtHand ((d1.setRf (Reg.FWP_WDT (c.arg 0 1)) 9 0 (c.arg 2 2)).reply c stOk 0 0 [])) ∧
    (∃ (d d1 : Die) (c : Cmd) (hits : Hits) (p : UnitRd × Die),
      Handles 0x030A (d.struck hits) d1 c ∧
      d1.update ≠ 2 ∧
      d1.update ≠ 3 ∧
      d1.readBytes Who.die (c.arg 0 8) (max 64 (min (c.arg 8 4) (2 ^ 22))) = p ∧
      p.1.bad = false ∧
      AtHand (if p.2.imageError p.1.data (some (c.arg 8 4)) (imageProof p.1.data) = 0 then (Die.setUpdate { p.2 with fw := { p.2.fw with other := some (imageOf p.1.data (imageProof p.1.data).digest) } } 1).reply c stOk 0 0 [] else p.2.reply c stIntegrity 0 0 [])) ∧
    (∃ (d d1 : Die) (c : Cmd) (accepts : Bool),
      d.runningCmd 0x030B = none ∧
      Handles 0x030B d d1 c ∧
      d1.update = 1 ∧
      AtHand (d1.toTick c [])) ∧
    (∃ (d d1 : Die) (c : Cmd) (i : Image) (d2 : Die),
      d.runningCmd 0x030B = some c ∧
      d.fw.cmds.length = 1 ∧
      d.procDown 0 = false ∧
      d.fw.other = some i ∧
      (List.range 4).foldl (fun acc p => acc.procStarts p) (d.workOf mgmtSlot).failSettings = d2 ∧
      AtHand (((Die.setUpdate { d2 with fw := { d2.fw with running := some i, other := (d.workOf mgmtSlot).fw.running, slot := 1 - (d.workOf mgmtSlot).fw.slot, inFlash := false, oldInFlash := (d.workOf mgmtSlot).fw.inFlash, paused := false, probation := (d.workOf mgmtSlot).refclk } } 2).countMeasure 1).reply c stOk 0 0 [(4, i.version)])) ∧
    (∃ (d d1 : Die) (c : Cmd) (i : Image) (d2 : Die),
      d.runningCmd 0x030B = some c ∧
      d.fw.cmds.length = 1 ∧
      d.procDown 0 = false ∧
      d.fw.other = some i ∧
      (List.range 4).foldl (fun acc p => acc.procStarts p) (d.workOf mgmtSlot).failSettings = d2 ∧
      AtHand (Die.reply { d2 with fw := { d2.fw with paused := false } } c stIllegal 1 0 [])) ∧
    (∃ (d d1 : Die) (c : Cmd),
      Handles 0x030C d d1 c ∧
      d1.update ≠ 4 ∧
      d1.fw.slot = 0 ∧
      AtHand (d1.reply c stOk 0 0 [(1, d1.update), (4, d1.imageField (·.version)), (4, match d1.fw.other with | some i => i.version | none => 0)])) :=
  ⟨⟨owing (die) [cmd 0x0301 []], _, cmd 0x0301 [], ⟨rfl, by decide +kernel⟩, by decide +kernel⟩,
    ⟨owing (die) [cmd 0x0302 [(0, 1)]], _, cmd 0x0302 [(0, 1)], ⟨rfl, by decide +kernel⟩, by decide +kernel⟩,
    ⟨owing ((let d := regs die [(Reg.FWP_STAT, 2), (Reg.DMC_STAT, 0xFFFF)]; { d with fw := { d.fw with hello := true } })) [cmd 0x0303 []], _, cmd 0x0303 [], ⟨rfl, by decide +kernel⟩, by decide +kernel⟩,
    ⟨owing (die) [cmd 0x0304 []], _, cmd 0x0304 [], ⟨rfl, by decide +kernel⟩, by decide +kernel⟩,
    ⟨owing (die) [cmd 0x0305 [(0, 2), (1, 3), (4, 38400000)]], _, cmd 0x0305 [(0, 2), (1, 3), (4, 38400000)], ⟨rfl, by decide +kernel⟩, by decide +kernel⟩,
    ⟨owing (regs die [(Reg.SGR_STAT, 0x80)]) [cmd 0x0306 [(0, 63), (1, 1), (2, 1), (4, 1048575), (8, 1), (12, 65535), (16, 1)]], _, cmd 0x0306 [(0, 63), (1, 1), (2, 1), (4, 1048575), (8, 1), (12, 65535), (16, 1)], ⟨rfl, by decide +kernel⟩, by decide +kernel⟩,
    ⟨owing (regs die [(Reg.QUE_TEN_CFG 63, 2 ^ 31)]) [cmd 0x0307 [(0, 63), (1, 7)]], _, cmd 0x0307 [(0, 63), (1, 7)], ⟨rfl, by decide +kernel⟩, by decide +kernel⟩,
    ⟨owing (regs die [(Reg.QUE_TEN_CFG 63, 2 ^ 31)]) [cmd 0x0308 [(0, 63)]], _, cmd 0x0308 [(0, 63)], ⟨rfl, by decide +kernel⟩, by decide +kernel⟩,
    ⟨owing (die) [cmd 0x0309 [(0, 3), (2, 1000)]], _, cmd 0x0309 [(0, 3), (2, 1000)], ⟨rfl, by decide +kernel⟩, by decide +kernel⟩,
    ⟨owing (arriveAt mgmtSlot die [(1024, 0)]) [cmd 0x030A [(0, 65536)]], _, cmd 0x030A [(0, 65536)], ⟨[], 0⟩, _, ⟨rfl, by decide +kernel⟩, by decide +kernel, by decide +kernel, rfl, by decide +kernel⟩,
    ⟨owing (regs die [(Reg.FWP_STAT, 3 + 256)]) [cmd 0x030B []], _, cmd 0x030B [], false, by decide +kernel, ⟨rfl, by decide +kernel⟩, by decide +kernel⟩,
    ⟨(let d := owing die [{ cmd 0x030B [] with stage := .running }]; { d with fw := { d.fw with other := some image } }), die, { cmd 0x030B [] with stage := .running }, image, _, by decide +kernel, by decide +kernel, by decide +kernel, by decide +kernel, rfl, by decide +kernel⟩,
    ⟨(let d := owing die [{ cmd 0x030B [] with stage := .running }]; { d with fw := { d.fw with other := some image } }), die, { cmd 0x030B [] with stage := .running }, image, _, by decide +kernel, by decide +kernel, by decide +kernel, by decide +kernel, rfl, by decide +kernel⟩,
    ⟨owing (die) [cmd 0x030C []], _, cmd 0x030C [], ⟨rfl, by decide +kernel⟩, by decide +kernel⟩⟩

/-- Each clause of Obligations.MemoryCommandsComplete has a case. -/
theorem witness_MemoryCommandsComplete :
    (∃ (d d1 : Die) (c : Cmd),
      Handles 0x0401 d d1 c ∧
      AtHand (d1.reply c stOk 0 0 ([(4, (d1.reg Reg.DMC_CAP).toNat / 14336), (4, (d1.reg Reg.DMC_CAP).toNat), (4, rateOf d1.dmc.rate), (2, d1.rf Reg.DMC_STAT 15 0)] ++ ((List.range 16).map fun i => (1, d1.rf (Reg.DMC_CH_STAT i) 7 0)) ++ [(4, d1.dmc.outside.length)] ++ ((d1.dmc.outside.take 3).map fun f => (4, f))))) ∧
    (∃ (d d1 : Die) (c : Cmd),
      Handles 0x0402 d d1 c ∧
      10 ≤ c.arg 0 2 ∧
      c.arg 0 2 ≤ 10000 ∧
      1 ≤ c.arg 2 1 ∧
      c.arg 2 1 ≤ 4 ∧
      AtHand (d1.toTick c [])) ∧
    (∃ (d d1 : Die) (c : Cmd),
      Handles 0x0403 d d1 c ∧
      d1.inUse = false ∧
      AtHand (Die.reply { d1 with repairLog := (d1.repairLog.map (fun r => if (!r.2 && (c.arg 0 2).testBit (r.1 / 2 ^ 24)) = true then (r.1, true) else r)) } c stOk 0 0 [(4, (d1.repairLog.filter fun r => !r.2 && (c.arg 0 2).testBit (r.1 / 2 ^ 24)).length)])) ∧
    (∃ (d d1 : Die) (c : Cmd) (marks : List (BitVec 25)) (n : Nand),
      Handles 0x0410 d d1 c ∧
      d1.rf (Reg.TIR_POOL_COUNT 2) 25 0 = 0 ∧
      1 ≤ c.arg 0 1 ∧
      c.arg 0 1 ≤ 20 ∧
      4 ≤ c.arg 1 1 ∧
      c.arg 1 1 ≤ 28 ∧
      d1.nand.format (marks.map (·.toNat)) (c.arg 0 1) (c.arg 1 1) = n ∧
      AtHand (((((Die.setRf { d1 with nand := n } Reg.NFC_STAT 3 2 2).setReg Reg.TIR_FLASH_CAP (BitVec.ofNat 32 n.logical)).setRf Reg.NFC_SPARES 15 0 n.spare.length).setRf Reg.NFC_BAD_GROWN 15 0 n.grown).reply c stOk 0 0 [(4, n.logical)])) ∧
    (∃ (d d1 : Die) (c : Cmd) (es : List Nat),
      Handles 0x0411 d d1 c ∧
      ((d1.nand.used ++ d1.nand.free).map fun b => (d1.nblk b).erases) = es ∧
      AtHand (d1.reply c stOk 0 0 [(2, d1.eraseSpread.2), (2, d1.eraseSpread.1), (2, es.foldl (· + ·) 0 / max 1 es.length), (2, d1.rf Reg.NFC_SPARES 15 0), (2, d1.rf Reg.NFC_BAD_GROWN 15 0), (4, (d1.reg Reg.TIR_FLASH_CAP).toNat)])) :=
  ⟨⟨owing (die) [cmd 0x0401 []], _, cmd 0x0401 [], ⟨rfl, by decide +kernel⟩, by decide +kernel⟩,
    ⟨owing (die) [cmd 0x0402 [(0, 10000), (2, 4)]], _, cmd 0x0402 [(0, 10000), (2, 4)], ⟨rfl, by decide +kernel⟩, by decide +kernel⟩,
    ⟨owing ({ die with repairLog := [(15 * 2 ^ 24, false)] }) [cmd 0x0403 [(0, 32768)]], _, cmd 0x0403 [(0, 32768)], ⟨rfl, by decide +kernel⟩, by decide +kernel⟩,
    ⟨owing (die) [cmd 0x0410 [(0, 20), (1, 28)]], _, cmd 0x0410 [(0, 20), (1, 28)], [], _, ⟨rfl, by decide +kernel⟩, by decide +kernel, by decide +kernel, by decide +kernel, by decide +kernel, (by decide +kernel), rfl, by decide +kernel⟩,
    ⟨owing (die) [cmd 0x0411 []], _, cmd 0x0411 [], _, ⟨rfl, by decide +kernel⟩, rfl, by decide +kernel⟩⟩

/-- Each clause of Obligations.PortCommandsComplete has a case. -/
theorem witness_PortCommandsComplete :
    (∃ (d d1 : Die) (c : Cmd),
      Handles 0x0501 d d1 c ∧
      c.arg 0 1 ≤ 1 ∧
      phyLegal (c.arg 1 1) (c.arg 2 1) (c.arg 4 2) = true ∧
      d1.camPortBusy (c.arg 0 1) = false ∧
      AtHand (d1.toTick c [])) ∧
    (∃ (d d1 : Die) (c : Cmd) (r : BusReply),
      Handles 0x0502 d d1 c ∧
      c.arg 0 1 ≤ 1 ∧
      c.arg 3 1 ≤ 40 ∧
      c.arg 4 1 ≤ 40 ∧
      r.ok = true ∧
      d1.settingsOn (c.arg 0 1) = false ∧
      AtHand ((d1.emit (.camera (c.arg 0 1) (c.arg 1 1 :: c.arg 2 1 :: toBytes (c.arg 3 1) (c.arg 8 40)))).reply c stOk 0 0 ((List.range (c.arg 4 1)).map fun i => (1, (r.bytes.getD i 0#8).toNat)))) ∧
    (∃ (d d1 : Die) (c : Cmd) (targets : List (BitVec 7)),
      Handles 0x0503 d d1 c ∧
      c.arg 0 1 ≤ 1 ∧
      d1.settingsOn (c.arg 0 1) = false ∧
      AtHand (Die.reply { d1 with ife := { d1.ife with addrs := SMap.put (fun _ => []) d1.ife.addrs (c.arg 0 1) (targets.map (·.toNat)) } } c stOk 0 0 ((4, targets.length) :: ((targets.map (·.toNat)).take 44).map fun a => (1, a)))) ∧
    (∃ (d d1 : Die) (c : Cmd) (bus : Word) (ibi : Nat × List Nat),
      Handles 0x0504 d d1 c ∧
      c.arg 0 1 ≤ 1 ∧
      SMap.get (fun _ => (0, [])) d1.ife.ibis (c.arg 0 1) = ibi ∧
      AtHand (d1.reply c stOk 0 0 ([(4, bus.toNat), (1, ibi.1)] ++ (List.range 8).map fun i => (1, ibi.2.getD i 0)))) ∧
    (∃ (d d1 : Die) (c : Cmd),
      Handles 0x0601 d d1 c ∧
      AtHand (d1.reply c stOk 0 0 ([(1, d1.dieId), (1, d1.rf Reg.LNK_STAT 3 3), (1, d1.members), (1, d1.topology)] ++ ((List.range 3).flatMap fun p => [(1, d1.portState p), (1, d1.rf (Reg.LNK_PORT_STAT p) 6 4), (1, (d1.peerOn p).getD 0xFF)]) ++ ((List.range 3).map fun p => (2, (d1.reg (Reg.LNK_ROUTE p)).toNat))))) ∧
    (∃ (d d1 : Die) (c : Cmd),
      Handles 0x0602 d d1 c ∧
      c.arg 0 1 ≤ 7 ∧
      d1.alone = true ∧
      AtHand (d1.toTick c [])) ∧
    (∃ (d d1 : Die) (c : Cmd),
      Handles 0x0603 d d1 c ∧
      d1.routesLegal c = true ∧
      AtHand (d1.toTick c [])) ∧
    (∃ (d d1 : Die) (c : Cmd),
      Handles 0x0604 d d1 c ∧
      portIllegal c = false ∧
      c.arg 1 1 = 0 ∧
      AtHand (d1.toTick c [])) ∧
    (∃ (d d1 : Die) (c : Cmd),
      Handles 0x0604 d d1 c ∧
      portIllegal c = false ∧
      c.arg 1 1 = 1 ∧
      c.arg 0 1 ≠ 0 ∧
      d1.portState (c.arg 0 1) = 0 ∧
      AtHand (((d1.setPort (c.arg 0 1) { d1.port (c.arg 0 1) with enabled := true, cap := c.arg 2 1 }).setPortState (c.arg 0 1) 1).reply c stOk 0 0 [])) ∧
    (∃ (d d1 : Die) (c : Cmd),
      Handles 0x0604 d d1 c ∧
      portIllegal c = false ∧
      c.arg 1 1 = 2 ∧
      (d1.portState (c.arg 0 1) = 3 → d1.link.quietUntil ≤ d1.ftime) ∧
      AtHand (((d1.setPort (c.arg 0 1) { d1.port (c.arg 0 1) with cap := c.arg 2 1 }).startRetrain (c.arg 0 1)).reply c stOk 0 0 [])) :=
  ⟨⟨owing (die) [cmd 0x0501 [(0, 1), (1, 0), (2, 4), (4, 4500)]], _, cmd 0x0501 [(0, 1), (1, 0), (2, 4), (4, 4500)], ⟨rfl, by decide +kernel⟩, by decide +kernel⟩,
    ⟨owing (die) [cmd 0x0502 [(0, 1), (3, 40), (4, 40)]], _, cmd 0x0502 [(0, 1), (3, 40), (4, 40)], ⟨true, []⟩, ⟨rfl, by decide +kernel⟩, by decide +kernel⟩,
    ⟨owing (die) [cmd 0x0503 [(0, 1)]], _, cmd 0x0503 [(0, 1)], [0x7F#7], ⟨rfl, by decide +kernel⟩, by decide +kernel⟩,
    ⟨owing (die) [cmd 0x0504 [(0, 1)]], _, cmd 0x0504 [(0, 1)], 0#32, _, ⟨rfl, by decide +kernel⟩, by decide +kernel, rfl, by decide +kernel⟩,
    ⟨owing (die) [cmd 0x0601 []], _, cmd 0x0601 [], ⟨rfl, by decide +kernel⟩, by decide +kernel⟩,
    ⟨owing (die) [cmd 0x0602 [(0, 7)]], _, cmd 0x0602 [(0, 7)], ⟨rfl, by decide +kernel⟩, by decide +kernel⟩,
    ⟨owing (die) [cmd 0x0603 []], _, cmd 0x0603 [], ⟨rfl, by decide +kernel⟩, by decide +kernel⟩,
    ⟨owing (die) [cmd 0x0604 [(0, 2)]], _, cmd 0x0604 [(0, 2)], ⟨rfl, by decide +kernel⟩, by decide +kernel⟩,
    ⟨owing (die) [cmd 0x0604 [(0, 2), (1, 1), (2, 4)]], _, cmd 0x0604 [(0, 2), (1, 1), (2, 4)], ⟨rfl, by decide +kernel⟩, by decide +kernel⟩,
    ⟨owing (die) [cmd 0x0604 [(0, 2), (1, 2), (2, 4)]], _, cmd 0x0604 [(0, 2), (1, 2), (2, 4)], ⟨rfl, by decide +kernel⟩, by decide +kernel⟩⟩

/-- Each clause of Obligations.ReliabilityCommandsComplete has a case. -/
theorem witness_ReliabilityCommandsComplete :
    (∃ (d d1 : Die) (c : Cmd),
      Handles 0x0701 d d1 c ∧
      AtHand (d1.reply c stOk 0 0 [(2, d1.trackUsed.length), (4, d1.ras.lasting), (1, d1.rf Reg.KLN_SPARE_STAT 2 0), (1, d1.rf Reg.KLN_SPARE_STAT 15 8), (1, d1.rf Reg.WHL_SPARE_STAT 4 0), (1, d1.lowSpares.1), (1, d1.lowSpares.2)])) ∧
    (∃ (d d1 : Die) (c : Cmd),
      Handles 0x0702 d d1 c ∧
      d1.bufferOk (c.arg 0 8) 4096 = true ∧
      d1.trackUsed = [] ∧
      AtHand (d1.reply c stOk 0 0 [(4, 0)])) ∧
    (∃ (d d1 : Die) (c : Cmd) (bs : List Nat) (p : Bool × Die),
      Handles 0x0702 d d1 c ∧
      d1.bufferOk (c.arg 0 8) 4096 = true ∧
      d1.trackUsed.flatMap d1.logEntry = bs ∧
      bs ≠ [] ∧
      d1.writeBytes Who.die (c.arg 0 8) bs.length (ofBytes bs) = p ∧
      p.1 = true ∧
      AtHand (p.2.reply c stOk 0 0 [(4, d1.trackUsed.length)])) ∧
    (∃ (d d1 : Die) (c : Cmd) (kiln : List (List (BitVec 12))) (wheel : List (List (BitVec 5))),
      d.runningCmd 0x0703 = none ∧
      Handles 0x0703 d d1 c ∧
      AtHand ((d1.setCmd c .running [d1.refclk]).tryTest { c with stage := .running, aux := [d1.refclk] } kiln wheel)) ∧
    (∃ (d d1 : Die) (c : Cmd) (kiln : List (List (BitVec 12))) (wheel : List (List (BitVec 5))) (k w : Bool),
      d.runningCmd 0x0703 = some c ∧
      d.procDown 0 = false ∧
      d.asleep = false ∧
      (c.arg 0 1).testBit 0 = k ∧
      (c.arg 0 1).testBit 1 = w ∧
      (k = true → d.kilnIdle = true) ∧
      (w = true → d.wheelIdle = true) ∧
      AtHand (((d.workOf mgmtSlot).selfTest (if k then some kiln else none) (if w then some wheel else none)).reply c stOk 0 0 [(4, (if k then failing (kiln.map fun r => r.map (·.toNat)) else 0) + (if w then failing (wheel.map fun r => r.map (·.toNat)) else 0))])) :=
  ⟨⟨owing (die) [cmd 0x0701 []], _, cmd 0x0701 [], ⟨rfl, by decide +kernel⟩, by decide +kernel⟩,
    ⟨owing (die) [cmd 0x0702 [(0, 65536)]], _, cmd 0x0702 [(0, 65536)], ⟨rfl, by decide +kernel⟩, by decide +kernel⟩,
    ⟨owing ({ die with track := [⟨1, 5, [0], true, true⟩] }) [cmd 0x0702 [(0, 65536)]], _, cmd 0x0702 [(0, 65536)], _, _, ⟨rfl, by decide +kernel⟩, by decide +kernel, rfl, by decide +kernel, rfl, by decide +kernel⟩,
    ⟨owing (die) [cmd 0x0703 [(0, 1)]], _, cmd 0x0703 [(0, 1)], [[]], [], by decide +kernel, ⟨rfl, by decide +kernel⟩, by decide +kernel⟩,
    ⟨owing die [{ cmd 0x0703 [(0, 1)] with stage := .running }], die, { cmd 0x0703 [(0, 1)] with stage := .running }, [[]], [], true, false, by decide +kernel⟩⟩

/-- Clause 1 of Obligations.ModelsComplete has a case. -/
theorem witness_ModelsComplete_1 :
    (∃ (d d1 t : Die) (c : Cmd) (hits : Hits) (s : Nat) (m : Model),
      (d.struck hits).ownPlan = none ∧
      Handles 0x0420 (d.struck hits) d1 c ∧
      (c.arg 18 1).testBit d1.dieId = true ∧
      ((diesOf (c.arg 18 1)).all fun k => d1.members.testBit k || k == d1.dieId) = true ∧
      d1.freeModel = some s ∧
      m = { Model.empty with base := c.arg 8 8 / 65536, refs := 1, home := c.arg 16 1, key := c.arg 17 1, dies := c.arg 18 1, keep := c.arg 19 1 % 2 == 1, src := c.arg 0 8, source := d1.dieId, left := diesOf (c.arg 18 1) } ∧
      ((d1.setPlan s (some ⟨s, m, false, d1.otherDies (c.arg 18 1), none⟩)).setCmd c .running [s]).tellAll (d1.otherDies (c.arg 18 1)) (.probe (BitVec.ofNat 32 m.base)) = t ∧
      AtHand t ∧
      t.spend.planGoOn = t.spend) :=
  ⟨owing (fabric die) [cmd 0x0420 [(0, 65536), (8, 196608), (16, 3), (17, 127), (18, 3)]], _, _, cmd 0x0420 [(0, 65536), (8, 196608), (16, 3), (17, 127), (18, 3)], ⟨[], 0⟩, _, _, by decide +kernel, ⟨rfl, by decide +kernel⟩, by decide +kernel, by decide +kernel, (got (by decide +kernel)), rfl, rfl, by decide +kernel, plan_waits (by decide +kernel) (got (by decide +kernel)) (got (by decide +kernel)) (by decide +kernel) (by decide +kernel)⟩

/-- Clause 2 of Obligations.ModelsComplete has a case. -/
theorem witness_ModelsComplete_2 :
    (∃ (d d1 t d2 r d4 : Die) (c c2 : Cmd) (hits : Hits) (s : Nat) (m : Model) (f : Manifest),
      (d.struck hits).ownPlan = none ∧
      Handles 0x0420 (d.struck hits) d1 c ∧
      c.arg 18 1 = 2 ^ d1.dieId ∧
      (c.arg 18 1).testBit d1.dieId = true ∧
      ((diesOf (c.arg 18 1)).all fun k => d1.members.testBit k || k == d1.dieId) = true ∧
      d1.freeModel = some s ∧
      d1.otherDies (c.arg 18 1) = [] ∧
      m = { Model.empty with base := c.arg 8 8 / 65536, refs := 1, home := c.arg 16 1, key := c.arg 17 1, dies := c.arg 18 1, keep := c.arg 19 1 % 2 == 1, src := c.arg 0 8, source := d1.dieId, left := diesOf (c.arg 18 1) } ∧
      (d1.setPlan s (some ⟨s, m, false, [], none⟩)).setCmd c .running [s] = t ∧
      AtHand t ∧
      t.spend = d2 ∧
      d2.procDown 0 = false ∧
      d2.asleep = false ∧
      d2.ownPlan = some ⟨s, m, false, [], none⟩ ∧
      d2.planCmd s = some c2 ∧
      modelCode m.key = true ∧
      (d2.workOf (modelSlot s)).readManifest m.src = (.inr f, r) ∧
      f.authentic = true ∧
      r.loaded f.digest m.key = none ∧
      r.otherDies m.dies = [] ∧
      AtHand (r.setPlan s (some ⟨s, m.withManifest f, true, [], none⟩)) ∧
      (r.setPlan s (some ⟨s, m.withManifest f, true, [], none⟩)).spend = d4 ∧
      d4.procDown 0 = false ∧
      d4.asleep = false ∧
      d4.ownPlan = some ⟨s, m.withManifest f, true, [], none⟩ ∧
      d4.planCmd s = some c2 ∧
      c2.arg 8 8 % 65536 = 0 ∧
      c2.arg 8 8 < 2 ^ 48 ∧
      d4.placeRefused f.digest f.isSealed m.home m.key m.base f.pages = none ∧
      d4.otherDies m.dies = []) :=
  ⟨owing (arriveAt (modelSlot 0) (regs die [(Reg.TIR_POOL_COUNT 0, 1)]) modelImage) [cmd 0x0420 [(0, 65536), (8, 196608), (16, 2), (17, 127), (18, 1)]], _, _, _, _, _, cmd 0x0420 [(0, 65536), (8, 196608), (16, 2), (17, 127), (18, 1)], _, ⟨[], 0⟩, _, _, _, by decide +kernel, ⟨rfl, by decide +kernel⟩, by decide +kernel, by decide +kernel, by decide +kernel, (got (by decide +kernel)), by decide +kernel, rfl, rfl, by decide +kernel, rfl, by decide +kernel, by decide +kernel, by decide +kernel, (got (by decide +kernel)), by decide +kernel, (gotRight (by decide +kernel)), by decide +kernel, by decide +kernel, by decide +kernel, by decide +kernel, rfl, by decide +kernel⟩

/-- Clause 3 of Obligations.ModelsComplete has a case. -/
theorem witness_ModelsComplete_3 :
    (∃ (d d0 d2 : Die) (slot : BitVec 5) (hits : Hits) (m : Model) (sh : Shard) (b : ShardBytes) (p : Option ShardBytes × Die) (w : Bool × Die),
      (d.struck hits).workOf (modelSlot slot.toNat) = d0 ∧
      d0.model slot.toNat = m ∧
      m.shards[m.next]? = some sh ∧
      m.state = mdlLoading ∧
      d0.procDown 0 = false ∧
      d0.asleep = false ∧
      (m.isSealed = true → (d0.keySlot m.digest m.key).isNone = false) ∧
      d0.fetchShard m m.next sh = p ∧
      p.1 = some b ∧
      shardGood sh b = true ∧
      p.2.writeShard m ((m.frames.drop sh.page).take sh.pages) b.plain = w ∧
      w.1 = true ∧
      (w.2.passShard m sh b.wire).setModel slot.toNat { m with next := m.next + 1, resent := false, sent := if w.2.nextDies m = [] then m.sent else m.sent ++ [(m.next, b.wire)], inbox := m.inbox.filter fun x => x.1 != m.next } = d2 ∧
      AtHand (if m.next + 1 = m.shards.length then d2.dieVerified slot.toNat else d2)) :=
  ⟨((arriveAt (modelSlot 31) die [(1024, 7)]).setModel 31 { Model.empty with state := 1, base := 3, pages := 2, refs := 1, home := 3, key := 0x7F, dies := 1, src := 65536, shards := [⟨0, 0, 1, 0, digest32 [7], 0⟩, ⟨64, 1, 1, 0, digest32 [7], 0⟩], frames := [5, 6] }), _, _, 31#5, ⟨[], 0⟩, _, ⟨0, 0, 1, 0, digest32 [7], 0⟩, _, _, _, rfl, rfl, by decide +kernel, by decide +kernel, by decide +kernel, by decide +kernel, (by decide +kernel), rfl, (got (by decide +kernel)), by decide +kernel, rfl, (posting_shard ⟨by decide +kernel, by decide +kernel, by decide +kernel⟩ _ (by decide +kernel) (by decide +kernel) _ _).1, rfl, by rw [if_neg (by decide +kernel)]; exact atHand_pass _ _ _ _ _ (posting_shard ⟨by decide +kernel, by decide +kernel, by decide +kernel⟩ _ (by decide +kernel) (by decide +kernel) _ _).2.1.hand (alone ⟨by decide +kernel, by decide +kernel, by decide +kernel⟩ _ (by decide +kernel) (by decide +kernel) (by decide +kernel) (by decide +kernel) _ _)⟩

/-- Clause 4 of Obligations.ModelsComplete has a case. -/
theorem witness_ModelsComplete_4 :
    (∃ (d d1 : Die) (c : Cmd) (m : Model),
      Handles 0x0421 d d1 c ∧
      c.arg 0 1 < 32 ∧
      d1.model (c.arg 0 1) = m ∧
      m.state ≠ mdlEmpty ∧
      m.state ≠ mdlUnloading ∧
      d1.otherDies (c.arg 1 1) = [] ∧
      (c.arg 1 1).testBit d1.dieId = true ∧
      m.state ≠ mdlLoading ∧
      m.refs ≤ 1 ∧
      AtHand ((d1.setModel (c.arg 0 1) { m with refs := 0, state := mdlUnloading, pass := none }).setCmd c .running [c.arg 0 1])) :=
  ⟨owing (die.setModel 31 { Model.empty with state := 2, base := 3, pages := 2, refs := 1, home := 3, key := 0x7F, dies := 1, src := 65536, shards := [⟨0, 0, 1, 0, digest32 [7], 0⟩, ⟨64, 1, 1, 0, digest32 [7], 0⟩] }) [cmd 0x0421 [(0, 31), (1, 1)]], _, cmd 0x0421 [(0, 31), (1, 1)], _, ⟨rfl, by decide +kernel⟩, by decide +kernel, rfl, by decide +kernel⟩

/-- Clause 5 of Obligations.ModelsComplete has a case. -/
theorem witness_ModelsComplete_5 :
    (∃ (d d1 : Die) (c : Cmd),
      Handles 0x0422 d d1 c ∧
      c.arg 0 1 < 32 ∧
      AtHand (d1.reply c stOk 0 0 [(1, (d1.model (c.arg 0 1)).state), (2, (d1.model (c.arg 0 1)).refs), (1, min 255 (d1.model (c.arg 0 1)).damaged.length)])) :=
  ⟨owing (die) [cmd 0x0422 [(0, 31)]], _, cmd 0x0422 [(0, 31)], ⟨rfl, by decide +kernel⟩, by decide +kernel⟩

/-- Clause 6 of Obligations.ModelsComplete has a case. -/
theorem witness_ModelsComplete_6 :
    (∃ (d d1 : Die) (c : Cmd),
      Handles 0x0423 d d1 c ∧
      c.arg 0 2 ≤ 10080 ∧
      16 ≤ c.arg 2 2 ∧
      c.arg 2 2 ≤ 2048 ∧
      AtHand (Die.reply { d1 with scrubEvery := c.arg 0 2, scrubRate := c.arg 2 2 } c stOk 0 0 [])) :=
  ⟨owing (die) [cmd 0x0423 [(0, 10080), (2, 2048)]], _, cmd 0x0423 [(0, 10080), (2, 2048)], ⟨rfl, by decide +kernel⟩, by decide +kernel⟩

/-- Clause 7 of Obligations.ModelsComplete has a case. -/
theorem witness_ModelsComplete_7 :
    (∃ (d d0 : Die) (slot : BitVec 5) (m : Model) (sh : Shard) (p q : UnitRd × Die),
      d.model slot.toNat = m ∧
      m.state = mdlReady ∧
      d.procDown 0 = false ∧
      d.asleep = false ∧
      m.pass = none ∧
      d.passDue m = true ∧
      m.shards[0]? = some sh ∧
      (d.setModel slot.toNat { m with pass := some 0, since := m.since + d.scrubEvery * 60000 * 38400 }).workOf (modelSlot slot.toNat) = d0 ∧
      (d0.model slot.toNat).shardSpan sh = m.shardSpan sh ∧
      (d0.model slot.toNat).shards[0]? = some sh ∧
      d0.readSpan false (m.shardSpan sh) = p ∧
      spanGood sh p.1 = true ∧
      p.2.readSpan true (m.shardSpan sh) = q ∧
      spanGood sh q.1 = true ∧
      AtHand (q.2.passNext slot.toNat 0)) :=
  ⟨(let d := die.setModel 31 { Model.empty with state := 2, base := 3, pages := 1, home := 5, shards := [⟨0, 0, 1, 0, digest32 [0], 0⟩] }; { d with refclk := 10 ^ 16, scrubEvery := 1440, tier := { d.tier with pages := [(3, page 5 1)] } }), _, 31#5, _, _, _, _, rfl, by decide +kernel, by decide +kernel, by decide +kernel, by decide +kernel, (by decide +kernel), (got (by decide +kernel)), rfl, by decide +kernel, by decide +kernel, rfl, by decide +kernel, rfl, by decide +kernel⟩

/-- Clause 8 of Obligations.ModelsComplete has a case. -/
theorem witness_ModelsComplete_8 :
    (∃ (d d0 : Die) (slot : BitVec 5) (hits : Hits) (m : Model) (i : Nat) (is : List Nat) (sh : Shard) (b : ShardBytes) (p : Option ShardBytes × Die) (q : List Nat × Die) (w : Bool × Die),
      ((d.struck hits).startRepair slot.toNat).workOf (modelSlot slot.toNat) = d0 ∧
      d0.model slot.toNat = m ∧
      m.damaged = i :: is ∧
      m.shards[i]? = some sh ∧
      m.state = mdlRepairing ∧
      d0.procDown 0 = false ∧
      d0.asleep = false ∧
      ((m.shardSpan sh).any fun p => pteMoving (d0.pte p)) = false ∧
      (m.isSealed = true → (d0.keySlot m.digest m.key).isNone = false) ∧
      d0.fetchShard m i sh = p ∧
      p.1 = some b ∧
      shardGood sh b = true ∧
      p.2.model slot.toNat = m ∧
      sh.pages ≤ (p.2.freeFrames m.home).length ∧
      (m.home = 5 → p.2.flashLocked = false) ∧
      p.2.claimFrames m.home sh.pages = q ∧
      q.2.writeShard m q.1 b.plain = w ∧
      w.1 = true ∧
      AtHand ((((m.shardSpan sh).zip q.1).foldl (fun acc x => acc.switchRepaired x.1 x.2) w.2).repairEnd slot.toNat i true)) :=
  ⟨((arriveAt (modelSlot 31) (regs die [(Reg.TIR_POOL_COUNT 1, 1)]) [(1024, 7)]).setModel 31 { Model.empty with state := 4, base := 3, pages := 2, refs := 1, home := 3, key := 0x7F, dies := 1, src := 65536, shards := [⟨0, 0, 1, 0, digest32 [7], 0⟩, ⟨64, 1, 1, 0, digest32 [7], 0⟩], damaged := [0, 1] }), _, 31#5, ⟨[], 0⟩, _, 0, [1], ⟨0, 0, 1, 0, digest32 [7], 0⟩, _, _, _, _, rfl, rfl, by decide +kernel, by decide +kernel, by decide +kernel, by decide +kernel, (by decide +kernel), by decide +kernel, by decide +kernel, rfl, (got (by decide +kernel)), by decide +kernel, by decide +kernel, by decide +kernel, by decide +kernel, rfl, rfl, (posting_shard (posting_of ⟨by decide +kernel, by decide +kernel, by decide +kernel⟩ (far_claimFrames _ _ _).1 (far_claimFrames _ _ _).2) _ (by decide +kernel) (by decide +kernel) _ _).1, atHand_repaired _ _ _ _ (posting_shard (posting_of ⟨by decide +kernel, by decide +kernel, by decide +kernel⟩ (far_claimFrames _ _ _).1 (far_claimFrames _ _ _).2) _ (by decide +kernel) (by decide +kernel) _ _).2.1.hand⟩

/-- Clause 9 of Obligations.ModelsComplete has a case. -/
theorem witness_ModelsComplete_9 :
    (∃ (d d1 : Die) (h : Hdr) (base : BitVec 32) (s : Nat),
      (d.heard h).procDown 0 = false ∧
      (d.heard h).asleep = false ∧
      Delivers h 0xE 0 [2, base.toNat] [] (d.heard h) d1 ∧
      (d1.modelAt base.toNat fun m => m.state == mdlLoading) = some s) :=
  ⟨((fabric die).setModel 31 { Model.empty with state := 1, base := 3, pages := 2, refs := 1, home := 3, key := 0x7F, dies := 1, src := 65536, shards := [⟨0, 0, 1, 0, digest32 [7], 0⟩, ⟨64, 1, 1, 0, digest32 [7], 0⟩], left := [0, 1] }), _, hdr, 3#32, _, by decide +kernel, by decide +kernel, ⟨by decide +kernel, rfl, by decide +kernel, by decide +kernel⟩, (got (by decide +kernel))⟩

/-- Clause 10 of Obligations.ModelsComplete has a case. -/
theorem witness_ModelsComplete_10 :
    (∃ (d d1 : Die) (h : Hdr) (o : LoadOffer) (s : Nat) (m : Model),
      (d.heard h).procDown 0 = false ∧
      (d.heard h).asleep = false ∧
      Delivers h 0xE 0 (mgmtBody (.load o)) [] (d.heard h) d1 ∧
      d1.judgeOffer o h.src.toNat = .inr (s, m)) :=
  ⟨fabric (regs die [(Reg.TIR_POOL_COUNT 0, 1)]), _, hdr, offer, _, _, by decide +kernel, by decide +kernel, ⟨by decide +kernel, rfl, by decide +kernel, by decide +kernel⟩, gotSum (by decide +kernel)⟩

/-- Clause 11 of Obligations.ModelsComplete has a case. -/
theorem witness_ModelsComplete_11 :
    (∃ (d d1 : Die) (h : Hdr) (base : BitVec 32) (s : Nat),
      (d.heard h).procDown 0 = false ∧
      (d.heard h).asleep = false ∧
      Delivers h 0xE 0 [7, base.toNat] [] (d.heard h) d1 ∧
      (d1.modelAt base.toNat fun m => m.state == mdlLoading && m.next == m.shards.length && m.source == h.src.toNat) = some s) :=
  ⟨((fabric die).setModel 31 { Model.empty with state := 1, base := 3, pages := 2, refs := 1, home := 3, key := 0x7F, dies := 1, src := 65536, shards := [⟨0, 0, 1, 0, digest32 [7], 0⟩, ⟨64, 1, 1, 0, digest32 [7], 0⟩], left := [0, 1], next := 2, source := 1 }), _, hdr, 3#32, _, by decide +kernel, by decide +kernel, ⟨by decide +kernel, rfl, by decide +kernel, by decide +kernel⟩, (got (by decide +kernel))⟩

end Sys2Proof.Tests
end

section
/-! PROOFS. Host accesses to registers: what one word of an access does, how an access is made of its words, and the
completion of register writes and reads (R6, R201, R484, R486, R487). -/

namespace Sys2Proof.Machine

/-! ### One word (R6, R419, R485) -/

/-- An awake die takes a write to a named word into the block that holds it. -/
theorem Die.writeOne_awake {d : Die} {bar2 : Bool} {off a : Nat} (v : Word) (h : d.asleep = false)
    (ha : wordAddr bar2 off = some a) : d.writeOne bar2 off v = d.writeWord a v := by
  simp only [Die.writeOne, h, ha, Bool.false_and, Bool.false_eq_true, if_false]

/-- An awake die shows a named word and does what reading it does. -/
theorem Die.readOne_awake {d : Die} {bar2 : Bool} {off a : Nat} (h : d.asleep = false)
    (ha : wordAddr bar2 off = some a) : d.readOne bar2 off = (d.viewReg a, d.afterRead a) := by
  simp only [Die.readOne, h, ha, Bool.false_and, Bool.false_eq_true, if_false]

theorem Die.plain_of_row {d : Die} {a : Nat} {r : RegRow} (v : Word) (hr : regRow a = some r) :
    d.plain a v = d.setReg a (writtenWord r (d.reg a) v) := by
  simp only [Die.plain, hr]

/-- No word of the GLOBAL block has an effect beyond itself. -/
theorem Die.writeWord_global (d : Die) {a : Nat} (v : Word) (ha : a < 0x100000) : d.writeWord a v = d.plain a v := by
  have hbar : ¬ 0x4000000 ≤ a := by omega
  have hblock : a / 0x100000 = 0 := Nat.div_eq_of_lt ha
  simp only [Die.writeWord, if_neg hbar, hblock]

/-- The _LO word of a pair in BAR0 with no RC field only latches its _HI word (R487). -/
theorem Die.afterRead_latching {d : Die} {a hi n : Nat} {r : RegRow} (hl : d.latchOf a = some (hi, n))
    (hbar : a < 0x4000000) (hhigh : a ≠ Reg.SCH_SB_HIGH) (hr : regRow a = some r) (hrc : r.rc = 0#32) :
    d.afterRead a = { d with latch := SMap.put (fun _ => 0#32) d.latch hi (BitVec.ofNat 32 (n / 2 ^ 32)) } := by
  have hpage : ¬ (0x4000000 ≤ a ∧ d.pageLive ((a - 0x4000000) / 65536) = false) := by omega
  simp only [Die.afterRead, hl, if_neg hpage, if_neg hhigh, hr, hrc, if_true]

/-! ### An access (R484) -/

theorem accessLegal_four {off : Nat} (h : off % 4 = 0) : accessLegal off 4 = true := by simp [accessLegal, h]

theorem accessLegal_eight {off : Nat} (h : off % 4 = 0) : accessLegal off 8 = true := by simp [accessLegal, h]

theorem Die.hostWrite_four (d : Die) (bar2 : Bool) {off : Nat} (data : BitVec 64) (h : off % 4 = 0) :
    d.hostWrite bar2 off 4 data = d.writeOne bar2 off (data.setWidth 32) := by
  simp [Die.hostWrite, accessLegal_four h]

theorem Die.hostWrite_eight (d : Die) (bar2 : Bool) {off : Nat} (data : BitVec 64) (h : off % 4 = 0) :
    d.hostWrite bar2 off 8 data =
      (d.writeOne bar2 off (data.setWidth 32)).writeOne bar2 (off + 4) ((data >>> 32).setWidth 32) := by
  simp [Die.hostWrite, accessLegal_eight h]

theorem Die.hostRead_four (d : Die) (bar2 : Bool) {off : Nat} (h : off % 4 = 0) :
    d.hostRead bar2 off 4 =
      { (d.readOne bar2 off).2 with bus := BitVec.ofNat 64 (d.readOne bar2 off).1.toNat } := by
  simp [Die.hostRead, accessLegal_four h]

theorem Die.hostRead_four_awake {d : Die} {bar2 : Bool} {off a : Nat} (h : off % 4 = 0) (hs : d.asleep = false)
    (ha : wordAddr bar2 off = some a) :
    d.hostRead bar2 off 4 = { d.afterRead a with bus := BitVec.ofNat 64 (d.viewReg a).toNat } := by
  rw [Die.hostRead_four d bar2 h, Die.readOne_awake hs ha]

/-- With no tick fallen, none takes effect. -/
theorem Die.lateTick_of_none {d : Die} (h : d.sched.late = none) : d.lateTick = d := by
  simp only [Die.lateTick, h]

/-! ### The commands -/

theorem does_registerWrite {bar2 : Bool} {off : BitVec 26} {size : BitVec 4} {data : BitVec 64} {d t : Die}
    (h : d.hostWrite bar2 off.toNat size.toNat data = t) : Does (.registerWrite bar2 off size data) d t.lateTick :=
  does_onDieIf (exec_is_registerWrite bar2 off size data) rfl (congrArg Die.lateTick h)

theorem does_counterReadClear {bar2 : Bool} {off : BitVec 26} {size : BitVec 4} {d t : Die}
    (h : d.hostRead bar2 off.toNat size.toNat = t) : Does (.counterReadClear bar2 off size) d t :=
  does_onDieIf (exec_is_counterReadClear bar2 off size) rfl h

theorem does_latchedPairRead {pair : LatchPair} {wide : Bool} {d t : Die}
    (h : d.hostRead false (pairLo pair) (if wide then 8 else 4) = t) : Does (.latchedPairRead pair wide) d t :=
  does_onDieIf (exec_is_latchedPairRead pair wide) rfl h

/-- A write to a word of the GLOBAL block stores its RW bits and clears its W1C bits, and nothing else when no tick has
fallen. -/
theorem does_registerWrite_global {d : Die} {off : BitVec 26} {v : Word} {r : RegRow} (h4 : off.toNat % 4 = 0)
    (hs : d.asleep = false) (hlt : off.toNat < 0x100000) (ha : wordAddr false off.toNat = some off.toNat)
    (hr : regRow off.toNat = some r) (hl : d.sched.late = none) :
    Does (.registerWrite false off 4#4 (v.setWidth 64)) d (d.setReg off.toNat (writtenWord r (d.reg off.toNat) v)) := by
  have hv : (v.setWidth 64).setWidth 32 = v := BitVec.setWidth_setWidth_of_le v (by decide)
  have hw : d.hostWrite false off.toNat 4 (v.setWidth 64) = d.setReg off.toNat (writtenWord r (d.reg off.toNat) v) := by
    rw [Die.hostWrite_four d false _ h4, hv, Die.writeOne_awake v hs ha, Die.writeWord_global d v hlt,
      Die.plain_of_row v hr]
  have hx := does_registerWrite (size := 4#4) hw
  rwa [Die.lateTick_of_none (by rw [Die.sched_setReg, hl])] at hx

/-- A read of GLB_REFCLK_LO shows the low half of the count and latches the high half. -/
theorem Die.hostRead_refclkLo {d : Die} (hs : d.asleep = false) :
    d.hostRead false Reg.GLB_REFCLK_LO 4 = { d with
      latch := SMap.put (fun _ => 0#32) d.latch Reg.GLB_REFCLK_HI (BitVec.ofNat 32 (d.refclk / 2 ^ 32))
      bus := BitVec.ofNat 64 (d.refclk % 2 ^ 32) } := by
  have ha : wordAddr false Reg.GLB_REFCLK_LO = some Reg.GLB_REFCLK_LO := by decide
  obtain ⟨r, hr, hrc⟩ : ∃ r, regRow Reg.GLB_REFCLK_LO = some r ∧ r.rc = 0#32 := ⟨_, rfl, rfl⟩
  have hview : d.viewReg Reg.GLB_REFCLK_LO = BitVec.ofNat 32 d.refclk := rfl
  have hlatch : d.latchOf Reg.GLB_REFCLK_LO = some (Reg.GLB_REFCLK_HI, d.refclk) := rfl
  rw [Die.hostRead_four_awake (by decide) hs ha, Die.afterRead_latching hlatch (by decide) (by decide) hr hrc, hview,
    BitVec.toNat_ofNat]

/-- Settles O12: an access is its words taken in order, lower address first, and an awake die answers each named
word from the block that holds it. -/
theorem registerAccessesComplete : Obligations.RegisterAccessesComplete := by
  unfold Obligations.RegisterAccessesComplete
  refine ⟨?write4, ?write8, ?writeGlobal, ?read4, ?pair⟩
  case write4 => exact fun d bar2 _ data h4 => does_registerWrite (d.hostWrite_four bar2 data h4)
  case write8 => exact fun d bar2 _ data h4 => does_registerWrite (d.hostWrite_eight bar2 data h4)
  case writeGlobal => exact fun _ _ _ _ h4 hs hlt ha hr hl => does_registerWrite_global h4 hs hlt ha hr hl
  case read4 => exact fun _ _ _ _ h4 hs ha => does_counterReadClear (Die.hostRead_four_awake h4 hs ha)
  case pair => exact fun _ hs => does_latchedPairRead (Die.hostRead_refclkLo hs)

end Sys2Proof.Machine
end

section
/-! PROOFS. The step with no command waiting: a cycle of a running die, what of a cycle does nothing when nothing is left to
do, and the die that does not run (R17, log entries 2 and 50). -/

namespace Sys2Proof.Machine

/-! ### The step -/

theorem step_of_pending_nil {s : State} (h : s.pending = []) : step s = .next s.pass := by
  simp only [step, h]

theorem State.pass_live {s : State} (h : s.live = true) : s.pass = { s with die := s.die.idleCycle } := if_pos h

theorem State.pass_dead {s : State} (h : s.live = false) : s.pass = s := if_neg (ne_true_of_eq_false h)

/-! ### A cycle that finds nothing to do -/

/-- With no context command waiting for its RESULT, none is set (R230). -/
theorem Die.queDone_of_not_busy {d : Die} (h : d.queues.busy = none) : d.queDone = d := by
  simp only [Die.queDone, h]

/-- With no page-table command waiting for its RESULT, none is set. -/
theorem Die.tirDone_of_not_busy {d : Die} (h : d.tier.busy = none) : d.tirDone = d := by
  simp only [Die.tirDone, h]

theorem Die.payAll_of_owed_nil {d : Die} (h : d.owed = []) : d.payAll = d := by
  rw [Die.payAll, h, List.foldl_nil]

/-- No serving work of earlier ticks, and no record or reply owed: ticks have left nothing undone (R194, R247). -/
theorem Die.tickGoesOn_of_nothing_left {d : Die} (hlate : d.serving.late = []) (howed : d.owed = []) : d.tickGoesOn = d := by
  rw [Die.tickGoesOn, hlate, List.isEmpty_nil, if_pos rfl, Die.payAll_of_owed_nil howed]

/-- When every part of the cycle finds nothing to do, the cycle only counts. -/
theorem Die.idleCycle_of_nothing_to_do {d d1 : Die} (hcount : { d with refclk := d.refclk + 1 } = d1)
    (hque : d1.queues.busy = none) (htir : d1.tier.busy = none) (hcam : d1.camGoOn = d1) (hmodels : d1.modelsGoOn = d1)
    (hlate : d1.serving.late = []) (howed : d1.owed = []) : d.idleCycle = d1 := by
  rw [Die.idleCycle, hcount, Die.queDone_of_not_busy hque, Die.tirDone_of_not_busy htir, hcam, hmodels,
    Die.tickGoesOn_of_nothing_left hlate howed]

/-- Settles O2: with no command waiting, a running die takes its cycle, which only counts when nothing is left to do, and a
die that does not run keeps its state. -/
theorem idleStepCounts : Obligations.IdleStepCounts := by
  unfold Obligations.IdleStepCounts
  intro s hpending
  rw [step_of_pending_nil hpending]
  refine ⟨?cycle, ?onlyCounts, ?dead⟩
  case cycle =>
    intro hlive
    rw [State.pass_live hlive, Die.idleCycle]
  case onlyCounts =>
    intro d hlive hcount hque htir hcam hmodels hlate howed
    rw [State.pass_live hlive, Die.idleCycle_of_nothing_to_do hcount hque htir hcam hmodels hlate howed]
  case dead =>
    intro hlive
    rw [State.pass_dead hlive]

end Sys2Proof.Machine
end

section
/-! PROOFS. The descriptors of the Glaze unit: each of its commands is a descriptor's start with the unit's own legality and
body, so a lawful start leaves exactly the body's effect (R43, R126 to R132). -/

namespace Sys2Proof.Machine

/-! ### A command that starts a descriptor -/

/-- A command whose operation of the die is a descriptor's start settles on the unit's body, when the descriptor comes through
its start. -/
theorem settles_runOpIf {c : Instr} {ok : Bool} {f : Die → Die} {op slot : Nat} {run : Run} {may legal : Entry → Die → Bool}
    {body : Entry → Die → Die} {d : Die} {e : Entry} (hx : ∀ s, exec c s = onDieIf ok f s) (hok : ok = true)
    (hf : ∀ x, f x = x.runOp op slot run may legal body) (h : Starts op slot run may legal d e) :
    Settles c d (body e (d.checked e run)) := by
  subst hok
  obtain rfl := funext hf
  exact settles_runOp h hx

/-! ### The Glaze unit (chapter 06) -/

/-- Settles O22: each Glaze command is a descriptor's start under its opcode, and a lawful start leaves the body's effect. -/
theorem glazeCompletes : Obligations.GlazeCompletes := by
  unfold Obligations.GlazeCompletes
  intro d slot run e
  refine ⟨?elem, ?norm, ?softmax, ?rope, ?requant, ?topk⟩
  case elem => exact settles_runOpIf (exec_is_gElem slot run) rfl fun _ => rfl
  case norm => exact settles_runOpIf (exec_is_gNorm slot run) rfl fun _ => rfl
  case softmax => exact settles_runOpIf (exec_is_gSoftmax slot run) rfl fun _ => rfl
  case rope => exact settles_runOpIf (exec_is_gRope slot run) rfl fun _ => rfl
  case requant => exact settles_runOpIf (exec_is_gRequant slot run) rfl fun _ => rfl
  case topk => exact settles_runOpIf (exec_is_gTopk slot run) rfl fun _ => rfl

end Sys2Proof.Machine
end

section
/-! PROOFS. The commands that store nothing: each is an operation of the die that leaves the rows of the Shelves, the lines of
LOCAL, the units of NAND and the rows of the accumulator as they were (R59, R62, R174, R175, R326, R398, R487). -/

namespace Sys2Proof.Machine

/-! ### Shared operations -/

/-- Changes that store nothing, made in turn, store nothing. -/
theorem stored_foldl {α : Type} {f : Die → α → Die} (hf : ∀ d x, Die.stored (f d x) = Die.stored d) (l : List α) (d : Die) :
    Die.stored (l.foldl f d) = Die.stored d := by
  induction l generalizing d with
  | nil => rfl
  | cons x l ih => rw [List.foldl_cons, ih, hf]

theorem stored_awake {d : Die} {f : Die → Die} (hf : Die.stored (f d) = Die.stored d) : Die.stored (d.awake f) = Die.stored d := by
  unfold Die.awake
  split
  · exact stored_err _ _ _
  · exact hf

theorem stored_wakeEvent (d : Die) (kind : Nat) : Die.stored (d.wakeEvent kind) = Die.stored d := by
  unfold Die.wakeEvent
  cases d.damper.entry with
  | none => rfl
  | some e => dsimp only; split <;> rfl

@[simp] theorem stored_spareInService (d : Die) (src loc : Nat) : Die.stored (d.spareInService src loc) = Die.stored d := rfl

@[simp] theorem stored_noSpare (d : Die) (src loc : Nat) : Die.stored (d.noSpare src loc) = Die.stored d := rfl

theorem stored_track (d : Die) (l : List TrackEntry) : Die.stored { d with track := l } = Die.stored d := rfl

theorem stored_takeTrack (d : Die) (t : TrackEntry) : Die.stored (d.takeTrack t) = Die.stored d := by
  unfold Die.takeTrack
  split
  · exact stored_track _ _
  · split
    · exact stored_track _ _
    · rw [stored_err, stored_count, stored_track]

theorem stored_ras (d : Die) (r : Ras) : Die.stored { d with ras := r } = Die.stored d := rfl

theorem stored_lastingFault (d : Die) (src loc : Nat) : Die.stored (d.lastingFault src loc) = Die.stored d := by
  rw [Die.lastingFault, stored_err, stored_count, stored_setReg, stored_ras]

theorem stored_markLasting (d : Die) (src loc : Nat) : Die.stored (d.markLasting src loc) = Die.stored d := by
  rw [Die.markLasting, stored_lastingFault, stored_takeTrack, stored_spareInService]

/-! ### The DRAM controller under flags and the error tracker (R474, R479) -/

@[simp] theorem Die.dmc_sendMsix (d : Die) (v : Nat) : (d.sendMsix v).dmc = d.dmc := by
  unfold Die.sendMsix
  split <;> rfl

@[simp] theorem Die.dmc_msix (d : Die) (v : Nat) : (d.msix v).dmc = d.dmc := by
  unfold Die.msix
  split
  · rfl
  · exact Die.dmc_sendMsix d v

@[simp] theorem Die.dmc_err (d : Die) (a bit : Nat) : (d.err a bit).dmc = d.dmc := by
  unfold Die.err
  cases srcOf a with
  | none => rfl
  | some s =>
    dsimp only
    split
    · rw [Die.dmc_msix, Die.dmc_count, Die.dmc_setReg]
    · rfl

@[simp] theorem Die.dmc_errIf (d : Die) (c : Bool) (a bit : Nat) : (d.errIf c a bit).dmc = d.dmc := by
  unfold Die.errIf
  split
  · exact Die.dmc_err d a bit
  · rfl

@[simp] theorem Die.dmc_takeTrack (d : Die) (t : TrackEntry) : (d.takeTrack t).dmc = d.dmc := by
  unfold Die.takeTrack
  split
  · rfl
  · split
    · rfl
    · rw [Die.dmc_err, Die.dmc_count]

@[simp] theorem Die.dmc_markLasting (d : Die) (src loc : Nat) : (d.markLasting src loc).dmc = d.dmc := by
  rw [Die.markLasting, Die.lastingFault, Die.dmc_err, Die.dmc_count, Die.dmc_setReg, Die.dmc_takeTrack, Die.spareInService]

/-! ### Descriptors and event counters (R173, R174, R187, R190) -/

theorem stored_sWaitTimeout (d : Die) (slot : BitVec 12) : Die.stored (d.sWaitTimeout slot) = Die.stored d := by
  unfold Die.sWaitTimeout
  cases d.entry slot.toNat with
  | none => rfl
  | some e => simp only [apply_ite Die.stored, stored_finish, ite_self]

theorem stored_sTickwaitReady (d : Die) (slot : BitVec 12) : Die.stored (d.sTickwaitReady slot) = Die.stored d := by
  unfold Die.sTickwaitReady
  cases d.entry slot.toNat with
  | none => rfl
  | some e => simp only [apply_ite Die.stored, stored_tickwaitReady, ite_self]

theorem stored_descriptorReady (d : Die) (slot : BitVec 12) : Die.stored (d.descriptorReady slot) = Die.stored d := by
  unfold Die.descriptorReady
  cases d.entry slot.toNat with
  | none => rfl
  | some e => simp only [apply_ite Die.stored, stored_tickwaitReady, stored_becomeReady, stored_count, ite_self]

theorem stored_epochAdvance (d : Die) (fence : Nat) (mine : Nat → Bool) : Die.stored (d.epochAdvance fence mine) = Die.stored d := by
  unfold Die.epochAdvance
  split <;> rfl

theorem stored_putEvt (d : Die) (c v : Nat) : Die.stored (d.putEvt c v) = Die.stored d := rfl

theorem stored_schEventInc (d : Die) (w : Word) : Die.stored (d.schEventInc w) = Die.stored d := by
  simp only [Die.schEventInc, apply_ite Die.stored, stored_addEvt, ite_self]

/-! ### Flits and the ends of transfers (R368, R379 to R382, R387) -/

theorem stored_noteSent (d : Die) (p : Nat) (f : Flit) : Die.stored (d.noteSent p f) = Die.stored d := by
  unfold Die.noteSent
  dsimp only
  split <;> rfl

theorem stored_emitFlit (d : Die) (p : Nat) (f : Flit) : Die.stored (d.emitFlit p f) = Die.stored d :=
  (stored_emit _ _).trans (stored_noteSent _ _ _)

theorem stored_drainPort (d : Die) (p n : Nat) : Die.stored (d.drainPort p n) = Die.stored d := by
  induction n generalizing d with
  | zero => rfl
  | succ n ih =>
    unfold Die.drainPort
    dsimp only
    split
    · cases (d.port p).pick with
      | none => rfl
      | some f => exact (ih _).trans (stored_emitFlit _ _ _)
    · rfl

theorem stored_sendFlit (d : Die) (p : Nat) (f : Flit) : Die.stored (d.sendFlit p f) = Die.stored d := stored_drainPort _ _ _

theorem stored_sendMsg (d : Die) (op dst : Nat) (poison : Bool) (bulk tag : Nat) (body payload : List Nat) :
    Die.stored (d.sendMsg op dst poison bulk tag body payload) = Die.stored d := by
  unfold Die.sendMsg
  cases d.egress dst with
  | none => exact stored_err _ _ _
  | some p =>
    dsimp only
    split
    · rfl
    · exact stored_sendFlit _ _ _

theorem stored_done (d : Die) (x : Incoming) (st : Nat) : Die.stored (d.done x st) = Die.stored d := stored_sendMsg _ _ _ _ _ _ _ _

theorem stored_transferSignal (d : Die) (x : Incoming) : Die.stored (d.transferSignal x) = Die.stored d := by
  unfold Die.transferSignal
  cases x.signal with
  | none => rfl
  | some s => simp only [apply_ite Die.stored, stored_poisonEvt, stored_addEvt, ite_self]

theorem stored_transferEnd (d : Die) (x : Incoming) : Die.stored (d.transferEnd x) = Die.stored d := by
  unfold Die.transferEnd
  split
  · exact stored_done _ _ _
  · cases x.shard with
    | none => exact (stored_done _ _ _).trans (stored_transferSignal _ _)
    | some s => exact stored_done _ _ _

theorem stored_flushTransfer (d : Die) (x : Incoming) : Die.stored (d.flushTransfer x) = Die.stored d := by
  unfold Die.flushTransfer
  split
  · split <;> rfl
  · rfl

theorem stored_settleTransfers (d : Die) : Die.stored d.settleTransfers = Die.stored d :=
  (stored_foldl stored_transferEnd _ _).trans (stored_foldl stored_flushTransfer _ _)

theorem stored_hostWriteFlushDone (d : Die) (flush : FlushOf) : Die.stored (d.hostWriteFlushDone flush) = Die.stored d := by
  cases flush with
  | descriptor slot => rfl
  | transfer id => exact stored_settleTransfers _

/-! ### Reads that come back over the host link (R277, R369, R374) -/

theorem stored_deliverFar (d : Die) (slot key via : Nat) (c : FarCell) : Die.stored (d.deliverFar slot key via c) = Die.stored d := by
  unfold Die.deliverFar
  split <;> rfl

theorem stored_returnFrame (d : Die) (tier frame : Nat) : Die.stored (d.returnFrame tier frame) = Die.stored d := by
  unfold Die.returnFrame
  dsimp only
  split
  · split <;> rfl
  · rfl

theorem stored_settleLeaving (d : Die) : Die.stored d.settleLeaving = Die.stored d :=
  stored_foldl (fun d _ => stored_returnFrame d _ _) _ _

theorem stored_landReads (d : Die) (l : List FarAsk) (c : FarCell) : Die.stored (d.landReads l c) = Die.stored d :=
  (stored_settleLeaving _).trans (stored_foldl (fun d _ => stored_deliverFar d _ _ _ _) _ _)

theorem stored_landUnit (d : Die) (slot n : Nat) (cell : Nat → FarCell) : Die.stored (d.landUnit slot n cell) = Die.stored d :=
  (stored_settleLeaving _).trans (stored_foldl (fun d _ => stored_deliverFar d _ _ _ _) _ _)

theorem stored_verifyUnit (d : Die) (slot n : Nat) (r : FarLine) (lines : List FarLine) :
    Die.stored (d.verifyUnit slot n r lines) = Die.stored d := by
  unfold Die.verifyUnit
  dsimp only
  split
  · exact (stored_foldl (fun d _ => stored_deliverFar d _ _ _ _) _ _).trans (stored_landUnit _ _ _ _)
  · exact (stored_err _ _ _).trans (stored_landUnit _ _ _ _)

theorem stored_settleUnit (d : Die) (slot n : Nat) : Die.stored (d.settleUnit slot n) = Die.stored d := by
  unfold Die.settleUnit
  split
  · rfl
  · cases d.gathered slot n with
    | none => rfl
    | some p =>
      obtain ⟨r, lines⟩ := p
      dsimp only
      split
      · exact stored_landUnit _ _ _ _
      · split
        · exact stored_landUnit _ _ _ _
        · exact stored_verifyUnit _ _ _ _ _

theorem stored_landRead (d : Die) (a : FarAsk) (c : FarCell) : Die.stored (d.landRead a c) = Die.stored d := by
  unfold Die.landRead
  dsimp only
  split
  · exact stored_landReads _ _ _
  · exact (stored_settleUnit _ _ _).trans (stored_landReads _ _ _)

theorem stored_hostReadTimeout (d : Die) (line : BitVec 42) : Die.stored (d.hostReadTimeout line) = Die.stored d := by
  unfold Die.hostReadTimeout
  split
  · rfl
  · exact (stored_err _ _ _).trans (stored_landRead _ _ _)

/-! ### Units -/

theorem stored_kilnClockGate (d : Die) : Die.stored d.kilnClockGate = Die.stored d := by
  unfold Die.kilnClockGate
  split <;> rfl

theorem stored_kilnShadowReleased (d : Die) : Die.stored d.kilnShadowReleased = Die.stored d := by
  unfold Die.kilnShadowReleased
  split <;> rfl

theorem stored_klnOwedRelease (d : Die) (w : Word) : Die.stored (d.klnOwedRelease w) = Die.stored d := by
  unfold Die.klnOwedRelease
  split
  · exact stored_err _ _ _
  · rfl

theorem stored_remap (d : Die) (ss : List Nat) (pick : Die → Nat → Nat) : Die.stored (d.remap ss pick) = Die.stored d :=
  stored_foldl (fun d _ => stored_setRf d _ _ _ _) _ _

theorem stored_wheelSpareSwap (d : Die) : Die.stored d.wheelSpareSwap = Die.stored d := by
  unfold Die.wheelSpareSwap
  cases d.firstWanted 2 with
  | none => rfl
  | some p =>
    simp only [apply_ite Die.stored, stored_spareInService, stored_noSpare, stored_err, stored_setRf, stored_remap, ite_self]

theorem stored_servingAbort (d : Die) (group : BitVec 4) (abort : Bool) : Die.stored (d.servingAbort group abort) = Die.stored d := by
  unfold Die.servingAbort
  split <;> rfl

/-! ### The Shelves' registers (R59, R62) -/

theorem stored_shfSlotRangeWrite (d : Die) (n : BitVec 10) (w : Word) : Die.stored (d.shfSlotRangeWrite n w) = Die.stored d := by
  simp only [Die.shfSlotRangeWrite, apply_ite Die.stored, stored_err, stored_setReg, ite_self]

theorem stored_slotDeclare (d : Die) (n : BitVec 10) (w : Word) : Die.stored (d.slotDeclare n w) = Die.stored d := by
  unfold Die.slotDeclare
  split
  · rfl
  · split
    · rfl
    · exact stored_err _ _ _

theorem stored_slotRelease (d : Die) (n : BitVec 10) (w : Word) : Die.stored (d.slotRelease n w) = Die.stored d := by
  unfold Die.slotRelease
  split <;> rfl

/-! ### The DRAM controller (R322, R326, R327) -/

theorem stored_rowHammerAction (d : Die) : Die.stored d.rowHammerAction = Die.stored d := by
  unfold Die.rowHammerAction
  cases d.dmc.rhDue with
  | nil => rfl
  | cons a rest => dsimp only; rw [stored_err, stored_count, stored_setReg, stored_setReg, stored_emit]; rfl

theorem stored_rowHammerWindowEnd (d : Die) : Die.stored d.rowHammerWindowEnd = Die.stored d := by
  unfold Die.rowHammerWindowEnd
  split <;> rfl

/-- Accesses served when none waits store nothing. -/
theorem stored_serveWaiting_of_none {d : Die} (h : d.dmc.waiting = []) : Die.stored d.serveWaiting = Die.stored d := by
  unfold Die.serveWaiting
  rw [h]
  rfl

/-- A retraining that no access waits for stores nothing. -/
theorem stored_dramRetrain_of_none {d : Die} (h : d.dmc.waiting = []) (warm ok : Bool) :
    Die.stored (d.dramRetrain warm ok) = Die.stored d := by
  unfold Die.dramRetrain
  dsimp only
  split
  · rfl
  · rw [stored_serveWaiting_of_none]
    · simp only [apply_ite Die.stored, stored_markLasting, stored_errIf, stored_setRf, ite_self]
      rfl
    · simp only [apply_ite Die.dmc, Die.dmc_markLasting, Die.dmc_errIf, Die.dmc_setRf, ite_self, h]

/-! ### Power, security and reliability (R407, R410, R416, R426) -/

theorem stored_droopDetect (d : Die) (drop : BitVec 8) (steps : BitVec 3) : Die.stored (d.droopDetect drop steps) = Die.stored d := by
  unfold Die.droopDetect
  split
  · rfl
  · exact stored_errIf _ _ _ _

theorem stored_droopRelax (d : Die) (cycles : Word) : Die.stored (d.droopRelax cycles) = Die.stored d := by
  unfold Die.droopRelax
  split <;> rfl

theorem stored_idleEnter (d : Die) : Die.stored d.idleEnter = Die.stored d := by
  unfold Die.idleEnter
  split <;> rfl

theorem stored_dmpWake (d : Die) (w : Word) : Die.stored (d.dmpWake w) = Die.stored d := by
  unfold Die.dmpWake
  split
  · exact stored_wakeEvent _ _
  · rfl

theorem stored_confOfferLapse (d : Die) : Die.stored d.confOfferLapse = Die.stored d := by
  unfold Die.confOfferLapse
  cases d.saggar.offer with
  | none => rfl
  | some t => dsimp only; split <;> rfl

theorem stored_rngHealthFail (d : Die) : Die.stored d.rngHealthFail = Die.stored d := by
  unfold Die.rngHealthFail
  split
  · exact stored_err _ _ _
  · rfl

/-! ### Statistics (R343) -/

theorem stored_setSensor (d : Die) (c : Nat) (x : Sensor) : Die.stored (d.setSensor c x) = Die.stored d := rfl

theorem stored_fixFirings (d : Die) : Die.stored d.fixFirings = Die.stored d :=
  stored_foldl (fun d _ => stored_setSensor d _ _) _ _

theorem stored_modFrame (d : Die) (c key : Nat) (f : Frame → Frame) : Die.stored (d.modFrame c key f) = Die.stored d :=
  stored_setSensor _ _ _

/-- With nothing of the frames left to write, statistics that become ready store nothing. -/
theorem stored_statsReady_of_camGoOn {d : Die} (h : d.camGoOn = d) (ctx : BitVec 2) :
    Die.stored (d.statsReady ctx) = Die.stored d := by
  unfold Die.statsReady
  dsimp only
  rw [h]
  split
  · exact stored_fixFirings d
  · exact (stored_modFrame _ _ _ _).trans (stored_fixFirings d)

/-! ### The commands -/

/-- In the state of the die `d`, the command is an operation of the die that stores nothing. -/
def KeepsStorage (c : Instr) (d : Die) : Prop :=
  ∃ (ok : Bool) (f : Die → Die), (∀ s, exec c s = onDieIf ok f s) ∧ Die.stored (f d) = Die.stored d

theorem keepsStorage_of_stored {c : Instr} {ok : Bool} {f : Die → Die} {d : Die} (hx : ∀ s, exec c s = onDieIf ok f s)
    (hf : Die.stored (f d) = Die.stored d) : KeepsStorage c d := ⟨ok, f, hx, hf⟩

theorem leavesStorage_keepsStorage {c : Instr} (h : leavesStorage c = true) (d : Die) : KeepsStorage c d := by
  cases c with
  | sWaitTimeout slot => exact keepsStorage_of_stored (exec_is_sWaitTimeout slot) (stored_sWaitTimeout d slot)
  | sTickwaitReady slot => exact keepsStorage_of_stored (exec_is_sTickwaitReady slot) (stored_sTickwaitReady d slot)
  | descriptorReady slot => exact keepsStorage_of_stored (exec_is_descriptorReady slot) (stored_descriptorReady d slot)
  | hostWriteFlushDone flush => exact keepsStorage_of_stored (exec_is_hostWriteFlushDone flush) (stored_hostWriteFlushDone d flush)
  | kilnClockGate => exact keepsStorage_of_stored exec_is_kilnClockGate (stored_kilnClockGate d)
  | kilnShadowReleased => exact keepsStorage_of_stored exec_is_kilnShadowReleased (stored_kilnShadowReleased d)
  | klnOwedRelease w => exact keepsStorage_of_stored (exec_is_klnOwedRelease w) (stored_awake (stored_klnOwedRelease d w))
  | epochAdvance u => exact keepsStorage_of_stored (exec_is_epochAdvance u) (stored_epochAdvance d _ _)
  | shfSlotRangeWrite n w =>
    exact keepsStorage_of_stored (exec_is_shfSlotRangeWrite n w) (stored_awake (stored_shfSlotRangeWrite d n w))
  | slotDeclare n w => exact keepsStorage_of_stored (exec_is_slotDeclare n w) (stored_awake (stored_slotDeclare d n w))
  | slotRelease n w => exact keepsStorage_of_stored (exec_is_slotRelease n w) (stored_awake (stored_slotRelease d n w))
  | shelfRowRewrite row => exact keepsStorage_of_stored (exec_is_shelfRowRewrite row) rfl
  | schEventWrite n v => exact keepsStorage_of_stored (exec_is_schEventWrite n v) (stored_awake (stored_putEvt d _ _))
  | schEventInc w => exact keepsStorage_of_stored (exec_is_schEventInc w) (stored_awake (stored_schEventInc d w))
  | schEvtPoisonClear i w => exact keepsStorage_of_stored (exec_is_schEvtPoisonClear i w) (stored_awake (stored_setReg _ _ _))
  | counterReadClear bar2 off size => exact keepsStorage_of_stored (exec_is_counterReadClear bar2 off size) (stored_hostRead d _ _ _)
  | latchedPairRead pair wide => exact keepsStorage_of_stored (exec_is_latchedPairRead pair wide) (stored_hostRead d _ _ _)
  | servingAbort group abort =>
    exact keepsStorage_of_stored (exec_is_servingAbort group abort) (stored_awake (stored_servingAbort d group abort))
  | rowHammerAction => exact keepsStorage_of_stored exec_is_rowHammerAction (stored_rowHammerAction d)
  | rowHammerWindowEnd => exact keepsStorage_of_stored exec_is_rowHammerWindowEnd (stored_rowHammerWindowEnd d)
  | i3cIbi port addr payload => exact keepsStorage_of_stored (exec_is_i3cIbi port addr payload) (stored_wakeEvent d 4)
  | hostReadTimeout line => exact keepsStorage_of_stored (exec_is_hostReadTimeout line) (stored_hostReadTimeout d line)
  | hostSnoop line => exact keepsStorage_of_stored (exec_is_hostSnoop line) (stored_emit _ _)
  | droopDetect drop steps => exact keepsStorage_of_stored (exec_is_droopDetect drop steps) (stored_droopDetect d drop steps)
  | droopRelax cycles => exact keepsStorage_of_stored (exec_is_droopRelax cycles) (stored_droopRelax d cycles)
  | idleEnter => exact keepsStorage_of_stored exec_is_idleEnter (stored_idleEnter d)
  | dmpWake w => exact keepsStorage_of_stored (exec_is_dmpWake w) (stored_dmpWake d w)
  | keySessionLapse num => exact keepsStorage_of_stored (exec_is_keySessionLapse num) rfl
  | confOfferLapse => exact keepsStorage_of_stored exec_is_confOfferLapse (stored_confOfferLapse d)
  | rngHealthFail => exact keepsStorage_of_stored exec_is_rngHealthFail (stored_rngHealthFail d)
  | trackerEntryExpire => exact keepsStorage_of_stored exec_is_trackerEntryExpire (stored_track d _)
  | wheelSpareSwap => exact keepsStorage_of_stored exec_is_wheelSpareSwap (stored_wheelSpareSwap d)
  | _ => exact Bool.noConfusion h

/-- Whether the die runs or not, and whether the hardware can carry the command or not, such a command leaves the storages. -/
theorem KeepsStorage.stored_next {c : Instr} {s t : State} (h : KeepsStorage c s.die) (ht : exec c s = .next t) :
    Die.stored t.die = Die.stored s.die := by
  obtain ⟨ok, f, hx, hf⟩ := h
  rw [hx] at ht
  cases ok with
  | false => cases ht
  | true =>
    rw [onDieIf_true] at ht
    cases hlive : s.live with
    | false =>
      rw [onDie_dead hlive] at ht
      cases ht
      rfl
    | true =>
      rw [onDie_live hlive] at ht
      cases ht
      exact hf

/-- Settles O60: every command named keeps the storages whole, so every place in them reads as before. -/
theorem storageKept : Obligations.StorageKept := by
  unfold Obligations.StorageKept
  intro c s t hc ht
  have hkeeps : KeepsStorage c s.die := by
    obtain hleaves | ⟨warm, ok, rfl, hnone⟩ | ⟨ctx, rfl, hdone⟩ := hc
    · exact leavesStorage_keepsStorage hleaves s.die
    · exact keepsStorage_of_stored (exec_is_dramRetrain warm ok) (stored_dramRetrain_of_none hnone warm ok)
    · exact keepsStorage_of_stored (exec_is_statsReady ctx) (stored_statsReady_of_camGoOn hdone ctx)
  have hstored := hkeeps.stored_next ht
  simp only [Die.stored, Prod.mk.injEq] at hstored
  obtain ⟨hrows, hlines, hunits, hacc⟩ := hstored
  exact ⟨fun _ => by rw [hrows], fun _ => by rw [hlines, Die.lineCell], fun _ => by rw [hunits], fun _ => by rw [hacc]⟩

end Sys2Proof.Machine
end

section
/-! PROOFS. The registers of the Shelves: which tenant codes a bank takes and whom its tenant field lets read and write, what a
legal and an illegal write of a bank's configuration do, and how slots are declared and released (R55, R58, R59, R62, R65,
Table 3.3). -/

namespace Sys2Proof.Machine

/-! ### A host write to a block that sleeps with the die (R419) -/

theorem Die.awake_of_not_asleep {d : Die} {f : Die → Die} (h : d.asleep = false) : d.awake f = f d :=
  if_neg (ne_true_of_eq_false h)

/-- An awake die takes a host write into the block it names. -/
theorem does_awake {c : Instr} {ok : Bool} {f : Die → Die} {d t : Die} (hx : ∀ s, exec c s = onDieIf ok (fun d => d.awake f) s)
    (hok : ok = true) (hs : d.asleep = false) (hf : f d = t) : Does c d t :=
  does_onDieIf hx hok ((Die.awake_of_not_asleep hs).trans hf)

/-! ### Tenant codes (R55) -/

theorem tenantLegal_iff (n : Nat) : tenantLegal n = true ↔ n ≤ 63 ∨ n = 0x40 ∨ n = 0x7F := by
  simp only [tenantLegal, Bool.or_eq_true, decide_eq_true_eq, beq_iff_eq]
  omega

theorem tenantLegal_between {n : Nat} (hlo : 0x41 ≤ n) (hhi : n ≤ 0x7E) : tenantLegal n = false := by
  rw [← Bool.not_eq_true, tenantLegal_iff]
  omega

theorem tenantAllows_iff (field code : Nat) (write : Bool) :
    tenantAllows field code write = true ↔ code = 0x40 ∨ field = code ∨ (field = 0x7F ∧ write = false) := by
  simp only [tenantAllows, Bool.or_eq_true, Bool.and_eq_true, beq_iff_eq, Bool.not_eq_true', or_assoc]

/-! ### A SHELF page under checks 1 and 2 of Table 3.3 (R47, R54, R271) -/

/-- Check 1 decides first, then check 2: their flags are those of no later check. -/
theorem Die.shelfPage_eq (d : Die) (w : Who) (page : Nat) (write : Bool) :
    d.shelfPage w page write =
      if d.pageFails w page write 1 then some (stIllegal, Bit.SHF_ERR_RANGE)
      else if d.pageFails w page write 2 then some (stPermission, Bit.SHF_ERR_TENANT)
      else if d.pageFails w page write 3 then some (stIllegal, Bit.SHF_ERR_FOREIGN_PORT)
      else if d.pageFails w page write 4 then some (stBankOff, Bit.SHF_ERR_BANK_OFF)
      else none := by
  split_ifs <;> simp [Die.shelfPage, pageChecks, *]

theorem Die.pageFails_range (d : Die) (w : Who) (page : Nat) (write : Bool) :
    d.pageFails w page write 1 = true ↔ 88 ≤ pteFrame (d.pte page) / 8 := decide_eq_true_iff

theorem Die.pageFails_tenant (d : Die) (w : Who) (page : Nat) (write : Bool) :
    d.pageFails w page write 2 = true ↔ ¬ (w.tenant = 0x40 ∨ d.bankTenant (pteFrame (d.pte page) / 8) = w.tenant ∨
      (d.bankTenant (pteFrame (d.pte page) / 8) = 0x7F ∧ write = false)) := by
  rw [← tenantAllows_iff, Bool.not_eq_true, ← Bool.not_eq_true']
  rfl

theorem Die.shelfPage_range_iff (d : Die) (w : Who) (page : Nat) (write : Bool) :
    d.shelfPage w page write = some (stIllegal, Bit.SHF_ERR_RANGE) ↔ d.pageFails w page write 1 = true := by
  rw [Die.shelfPage_eq]
  split_ifs <;> simp [*]

theorem Die.shelfPage_tenant_iff (d : Die) (w : Who) (page : Nat) (write : Bool) :
    d.shelfPage w page write = some (stPermission, Bit.SHF_ERR_TENANT) ↔
      ¬ d.pageFails w page write 1 = true ∧ d.pageFails w page write 2 = true := by
  rw [Die.shelfPage_eq]
  split_ifs <;> simp [*]

/-! ### A bank's configuration (R55, R58, R65) -/

/-- The die with owner, class and tenant of a bank as a write of SHF_BANK_CFG gives them. -/
def Die.setBankCfg (d : Die) (b : Nat) (w : Word) : Die :=
  d.setReg (Reg.SHF_BANK_CFG b)
    ((((d.reg (Reg.SHF_BANK_CFG b)).setF 3 0 (w.f 3 0)).setF 4 4 (w.f 4 4)).setF 14 8 (w.f 14 8))

/-- A write with an illegal tenant code only sets the flag. -/
theorem Die.shfBankCfgWrite_tenant_illegal {d : Die} {bank : BitVec 7} {w : Word} (hb : bank.toNat < 88)
    (ht : tenantLegal (w.f 14 8) = false) : d.shfBankCfgWrite bank w = d.err Reg.SHF_ERR Bit.SHF_ERR_CONFIG := by
  simp only [Die.shfBankCfgWrite, if_neg (Nat.not_le.mpr hb), ht, Bool.not_false, Bool.or_true, if_true]

/-- A legal write that no handoff holds up is taken, and a change of class asks for the bank's clear. -/
theorem Die.shfBankCfgWrite_legal {d : Die} {bank : BitVec 7} {w : Word} (hb : bank.toNat < 88)
    (hbusy : d.bankBusy bank.toNat = false) (howner : w.f 3 0 ≤ 6) (ht : tenantLegal (w.f 14 8) = true)
    (hhand : d.handoffHolds bank.toNat = false) :
    d.shfBankCfgWrite bank w =
      if w.b 4 ≠ d.bankWeight bank.toNat then (d.setBankCfg bank.toNat w).requestClear bank.toNat
      else d.setBankCfg bank.toNat w := by
  have ho : ownerLegal (w.f 3 0) = true := decide_eq_true howner
  simp only [Die.shfBankCfgWrite, if_neg (Nat.not_le.mpr hb), hbusy, ho, ht, hhand, Bool.not_true, Bool.or_self, Bool.false_and,
    Bool.false_eq_true, if_false, bne_iff_ne, Die.setBankCfg]

theorem does_shfBankCfgWrite {d t : Die} {bank : BitVec 7} {w : Word} (hb : bank.toNat < 88) (hs : d.asleep = false)
    (h : d.shfBankCfgWrite bank w = t) : Does (.shfBankCfgWrite bank w) d t :=
  does_awake (exec_is_shfBankCfgWrite bank w) (decide_eq_true hb) hs h

/-! ### Slots (R59, R62) -/

theorem Die.shfSlotRangeWrite_undeclared {d : Die} {n : BitVec 10} (w : Word) (h : d.slotDeclared n.toNat = false) :
    d.shfSlotRangeWrite n w = d.setReg (Reg.SHF_SLOT_RANGE n.toNat) (w &&& 0x0FFFFFFF#32) :=
  if_neg (ne_true_of_eq_false h)

theorem Die.slotDeclare_legal {d : Die} {n : BitVec 10} {w : Word} (hw : w.b 0 = true) (h : d.slotDeclared n.toNat = false)
    (hl : d.declareLegal n.toNat (w.f 11 8) = true) :
    d.slotDeclare n w =
      (d.setReg (Reg.SHF_SLOT_CTRL n.toNat) (BitVec.ofNat 32 (w.f 11 8 * 256 + 1))).noReaders n.toNat := by
  simp only [Die.slotDeclare, hw, h, hl, Bool.not_true, Bool.or_self, Bool.false_eq_true, if_false, if_true]

theorem Die.slotRelease_declared {d : Die} {n : BitVec 10} {w : Word} (hw : w.b 0 = false) (h : d.slotDeclared n.toNat = true) :
    d.slotRelease n w = d.setReg (Reg.SHF_SLOT_CTRL n.toNat)
      (((d.reg (Reg.SHF_SLOT_CTRL n.toNat)).setF 0 0 0).setF 11 8 (w.f 11 8)) := by
  simp only [Die.slotRelease, hw, h, Bool.not_true, Bool.or_self, Bool.false_eq_true, if_false]

/-! ### The obligations -/

/-- Settles O54: the codes by arithmetic, and the page checks by the order of Table 3.3, in which checks 1 and 2 come
first. -/
theorem bankTenants : Obligations.BankTenants := by
  unfold Obligations.BankTenants
  refine ⟨tenantLegal_iff, fun _ => tenantLegal_between, ?ignored, tenantAllows_iff, ?page⟩
  case ignored =>
    exact fun _ _ _ hb hs ht => does_shfBankCfgWrite hb hs (Die.shfBankCfgWrite_tenant_illegal hb ht)
  case page =>
    intro d w page write
    constructor
    · rw [Die.shelfPage_tenant_iff, Die.pageFails_range, Die.pageFails_tenant, Nat.not_le]
    · rw [Die.shelfPage_range_iff, Die.pageFails_range]

/-- Settles O13: each register's legal write passes the checks before it. -/
theorem shelfRegistersComplete : Obligations.ShelfRegistersComplete := by
  unfold Obligations.ShelfRegistersComplete
  have tenant {n : Nat} (h : n < 64 ∨ n = 0x40 ∨ n = 0x7F) : tenantLegal n = true := (tenantLegal_iff n).mpr (by omega)
  refine ⟨?sameClass, ?newClass, ?range, ?declare, ?release⟩
  case sameClass =>
    intro d bank w hb hs hbusy ho ht hhand hclass
    refine does_shfBankCfgWrite hb hs ?_
    rw [Die.shfBankCfgWrite_legal hb hbusy ho (tenant ht) hhand, if_neg (not_not.mpr hclass), Die.setBankCfg]
  case newClass =>
    intro d bank w hb hs hbusy ho ht hhand hclass
    refine does_shfBankCfgWrite hb hs ?_
    rw [Die.shfBankCfgWrite_legal hb hbusy ho (tenant ht) hhand, if_pos hclass, Die.setBankCfg]
  case range =>
    exact fun _ n w hs h => does_awake (exec_is_shfSlotRangeWrite n w) rfl hs (Die.shfSlotRangeWrite_undeclared w h)
  case declare =>
    exact fun _ n w hs hw h hl => does_awake (exec_is_slotDeclare n w) rfl hs (Die.slotDeclare_legal hw h hl)
  case release =>
    exact fun _ n w hs hw h => does_awake (exec_is_slotRelease n w) rfl hs (Die.slotRelease_declared hw h)

end Sys2Proof.Machine
end

section
/-! PROOFS. The upkeep of the Shelves: the rewrite, the scrub, a bank's clear, the closing of its gate and a spare row, each in
a state in which it has its effect (R64 to R67, R69). -/

namespace Sys2Proof.Machine

/-! ### The scrub (R66) -/

section

variable {d d1 : Die} {row : BitVec 17}

/-- Nothing holds a scrub up: its row exists in a powered bank, scrubbing is on, and the pass has yet to read the row. -/
theorem Die.scrub_not_held (hr : row.toNat < 90112) (hp : d.bankPowered (bankOf row.toNat) = true)
    (hcfg : d.rf Reg.SHF_SCRUB_CFG 15 0 ≠ 0) (hnew : d1.shelf.scrubbed.contains row.toNat = false) :
    (decide (shelfRows ≤ row.toNat) || !d.bankPowered (bankOf row.toNat) || d.rf Reg.SHF_SCRUB_CFG 15 0 == 0 ||
      d1.shelf.scrubbed.contains row.toNat) = false := by
  rw [decide_eq_false (Nat.not_le.mpr hr), hp, beq_eq_false_iff_ne.mpr hcfg, hnew]
  rfl

/-- A read that finds nothing, in a row without damage, only notes the row as read. -/
theorem Die.shelfScrub_clean (hr : row.toNat < 90112) (hp : d.bankPowered (bankOf row.toNat) = true)
    (hcfg : d.rf Reg.SHF_SCRUB_CFG 15 0 ≠ 0) (hpass : d.scrubPass = d1) (hnew : d1.shelf.scrubbed.contains row.toNat = false)
    (hd : SMap.get (fun _ => 0) d1.shelf.damage row.toNat = 0) :
    d.shelfScrub row none = { d1 with shelf := { d1.shelf with scrubbed := setInsert row.toNat d1.shelf.scrubbed } } := by
  simp only [Die.shelfScrub, hpass, Die.scrub_not_held hr hp hcfg hnew, Bool.false_eq_true, if_false, hd, if_true]

/-- A row the read finds, or an earlier upset has left, uncorrectable takes the poison mark; the fault is logged and counted. -/
theorem Die.shelfScrub_uncorrectable {d2 : Die} {m : BitVec 32} (hr : row.toNat < 90112)
    (hp : d.bankPowered (bankOf row.toNat) = true) (hcfg : d.rf Reg.SHF_SCRUB_CFG 15 0 ≠ 0) (hpass : d.scrubPass = d1)
    (hnew : d1.shelf.scrubbed.contains row.toNat = false)
    (hup : Die.upset { d1 with shelf := { d1.shelf with scrubbed := setInsert row.toNat d1.shelf.scrubbed } }
      ⟨false, BitVec.ofNat 32 row.toNat, BitVec.ofNat 576 m.toNat, false⟩ = d2)
    (hd : SMap.get (fun _ => 0) d2.shelf.damage row.toNat ≠ 0) :
    d.shelfScrub row (some m) =
      (({ d2 with shelf := { d2.shelf with
        marks := SMap.put (fun _ => 0) d2.shelf.marks row.toNat 0xFF } }).shelfFault Bit.SHF_ERR_UNCORRECTABLE (bankOf row.toNat)
          7 none).countError 3 row.toNat := by
  simp only [Die.shelfScrub, hpass, Die.scrub_not_held hr hp hcfg hnew, Bool.false_eq_true, if_false, hup, hd]

end

/-! ### Clears and gates (R65, R67) -/

/-- A clear that waits comes once no started descriptor reaches the bank. -/
theorem Die.bankClear_waiting {d d1 : Die} {bank : BitVec 7} (hc : d.shelf.clearing.contains bank.toNat = true)
    (hu : d.bankInUse bank.toNat = false) (h1 : (d.zeroBank bank.toNat).setRf (Reg.SHF_BANK_CFG bank.toNat) 17 17 0 = d1) :
    d.bankClear bank = { d1 with shelf := { d1.shelf with clearing := setErase bank.toNat d1.shelf.clearing } } := by
  simp only [Die.bankClear, hc, hu, and_self, if_true, h1]

/-- With an empty scoreboard no descriptor loses an access to the bank whose gate closes. -/
theorem Die.bankGateClose_idle {d d1 : Die} {bank : BitVec 7} (hc : d.shelf.closing.contains bank.toNat = true) (hsb : d.sb = [])
    (h1 : (d.zeroBank bank.toNat).setRf (Reg.SHF_BANK_CFG bank.toNat) 16 16 0 = d1) :
    d.bankGateClose bank = Die.setRf { d1 with shelf := { d1.shelf with
        closing := setErase bank.toNat d1.shelf.closing,
        clearing := setErase bank.toNat d1.shelf.clearing } } (Reg.SHF_BANK_CFG bank.toNat) 17 17 0 := by
  have hsb1 : d1.sb = [] := by rw [← h1, Die.sb_setRf, Die.sb_zeroBank, hsb]
  simp only [Die.bankGateClose, hc, Bool.not_true, Bool.false_eq_true, if_false, h1, Die.sb_setRf, hsb1, List.filter_nil,
    List.foldl_nil]

/-! ### Spare rows (R69) -/

/-- A wanted spare is taken from those its bank has left. -/
theorem Die.shelfSpareRow_left {d d1 : Die} {r n : Nat} (hw : d.firstWanted 3 = some r)
    (hn : d.rf (Reg.SHF_BANK_STAT (bankOf r)) 3 0 = n + 1)
    (h1 : (d.setRf (Reg.SHF_BANK_STAT (bankOf r)) 3 0 n).spareInService 3 r = d1) :
    d.shelfSpareRow = { d1 with shelf := { d1.shelf with
      spared := setInsert r d1.shelf.spared,
      rewrites := d1.shelf.rewrites.filter (· != r) } } := by
  simp only [Die.shelfSpareRow, hw, hn, Nat.succ_ne_zero, if_false, Nat.add_sub_cancel, h1]

/-- Settles O14: each command's guard holds in the state named, and its one branch is the effect. -/
theorem shelfUpkeepCompletes : Obligations.ShelfUpkeepCompletes := by
  unfold Obligations.ShelfUpkeepCompletes
  refine ⟨?rewrite, ?scrubClean, ?scrubLost, ?clear, ?gate, ?spare⟩
  case rewrite => exact fun _ row hr => does_onDieIf (exec_is_shelfRowRewrite row) (decide_eq_true hr) rfl
  case scrubClean =>
    exact fun _ _ row hr hp hcfg hpass hnew hd =>
      does_onDieIf (exec_is_shelfScrub row none) (decide_eq_true hr) (Die.shelfScrub_clean hr hp hcfg hpass hnew hd)
  case scrubLost =>
    exact fun _ _ _ row m hr hp hcfg hpass hnew hup hd =>
      does_onDieIf (exec_is_shelfScrub row (some m)) (decide_eq_true hr)
        (Die.shelfScrub_uncorrectable hr hp hcfg hpass hnew hup hd)
  case clear =>
    exact fun _ _ bank hb hc hu h1 =>
      does_onDieIf (exec_is_bankClear bank) (decide_eq_true hb) (Die.bankClear_waiting hc hu h1)
  case gate =>
    exact fun _ _ bank hb hc hsb h1 =>
      does_onDieIf (exec_is_bankGateClose bank) (decide_eq_true hb) (Die.bankGateClose_idle hc hsb h1)
  case spare =>
    exact fun _ _ _ _ hw hn h1 => does_onDieIf exec_is_shelfSpareRow rfl (Die.shelfSpareRow_left hw hn h1)

end Sys2Proof.Machine
end

section
/-! PROOFS. The life of a descriptor: the admission of a queue head, a NOP's completion with it, the instant a descriptor
becomes ready, its completion, and the flush of its HOST writes (R57, R173, R187, R208, R368). -/

namespace Sys2Proof.Machine

/-! ### Admission (R187, R208) -/

/-- The die once a queue head that passes its dispatch checks has its entry and its admission is charged. -/
def Die.admitted (d : Die) (i q slots : Nat) (c : QCtx) (e : Entry) : Die :=
  (({ d with sb := d.sb ++ [e] }).chargeAdmission i q slots c false).noteHigh

/-- A head that is read, wanted, not flushed and passes every dispatch check enters the scoreboard; a NOP completes at
once. -/
theorem Die.admitHead_ready {d d1 : Die} {want : Nat → Bool} {i q slots : Nat} {c : QCtx} {x : DescBits} {e : Entry}
    (hcq : d.cqStalled = false) (hpick : d.pickHead = some (i, q, c))
    (hread : (d.workOf (admitSlot q)).readHead (tenantCode i) q c = (.ready x slots, d1)) (hwant : want (opcodeOf x) = true)
    (hflush : d1.flushing q c = false) (hcause : d1.dispatchCause (tenantCode i) x = 0) (he : d1.newEntry i q c.nextSeq x 0 = e)
    {t : Die} (ht : (if opcodeOf x = 0 then (d1.admitted i q slots c e).completeNop e else d1.admitted i q slots c e) = t)
    (hh : AtHand t) : d.admitHead want = t.spend := by
  simp only [Die.admitHead, hcq, Bool.false_eq_true, if_false, hpick]
  refine attempt_of_eq ?_ hh
  simp only [hread, hwant, hflush, hcause, he, Bool.not_true, Bool.false_eq_true, if_false, if_true, and_true, ← ht, Die.admitted]

/-- A NOP whose handoff passes check 5 of Table 3.3 completes. -/
theorem Die.completeNop_passing {d d2 : Die} {e : Entry} (h : d.shelfCheck e.tenant e.queue e.desc = (none, d2)) :
    d.completeNop e = d2.complete e := by
  simp only [Die.completeNop, h]

/-! ### Readiness (R173, R192, R193) -/

/-- Without a dispatch failure the waits count. -/
theorem Die.waitsVoid_of_no_failure {d : Die} {e : Entry} (h : e.fail = 0) : d.waitsVoid e = false := by
  simp [Die.waitsVoid, h]

/-- A waiting descriptor whose conditions hold, none of them poisoned, is ready. -/
theorem Die.becomeReady_clean {d : Die} {e : Entry} {more : Bool} (hphase : e.phase = .waiting) (hfail : e.fail = 0)
    (hwaits : d.waitsMet e.desc = true) (hslots : d.slotsFree e = true) (hturn : d.slotTurn e = true) (hmore : more = true)
    (hevt : d.eventPoisoned e.desc = false) (hslot : d.slotPoisoned e.desc = false) :
    d.becomeReady e more =
      d.modEntry e.slot fun o => { o with phase := .ready, tainted := false, proceeds := d.proceeds e.queue } := by
  simp only [Die.becomeReady, Die.waitsVoid_of_no_failure hfail, hphase, hwaits, hslots, hturn, hmore, hfail, hevt, hslot,
    Bool.true_or, Bool.and_false, Bool.or_self, Bool.false_and, Bool.false_eq_true, and_self, ne_eq, not_true_eq_false,
    if_true, if_false]

/-- But for S.TICKWAIT and a held KV context, a descriptor becomes ready as its unit allows. -/
theorem Die.descriptorReady_free {d : Die} {slot : BitVec 12} {e : Entry} (he : d.entry slot.toNat = some e)
    (hop : opcodeOf e.desc ≠ 0x63) (hctx : d.ctxHeld e = false) :
    d.descriptorReady slot = d.becomeReady e (d.unitAllows e) := by
  simp only [Die.descriptorReady, he, if_neg hop, hctx, Bool.false_eq_true, if_false]

/-! ### Completion (R15, R57, R368) -/

theorem Die.descriptorComplete_visible {d : Die} {slot : BitVec 12} {e : Entry} (he : d.entry slot.toNat = some e)
    (hphase : e.phase = .executed) (hvis : d.writesVisible e = true)
    (hh : AtHand ((d.workOf (recordSlot slot.toNat)).complete e)) :
    d.descriptorComplete slot = ((d.workOf (recordSlot slot.toNat)).complete e).spend := by
  simp only [Die.descriptorComplete, he, hphase, hvis, if_true]
  exact attempt_of_eq rfl hh

/-- The writes of a descriptor that owes a flush are not visible. -/
theorem Die.writesVisible_of_flush {d : Die} {e : Entry} {f : Flush} (h : e.hostFlush = some f) : d.writesVisible e = false := by
  simp [Die.writesVisible, h]

/-- A descriptor that owes a flush issues it, once the host port carries traffic. -/
theorem Die.descriptorComplete_flush {d : Die} {slot : BitVec 12} {e : Entry} {l : Nat} (he : d.entry slot.toNat = some e)
    (hphase : e.phase = .executed) (hf : e.hostFlush = some ⟨l, false⟩) (hup : d.hostUp = true) :
    d.descriptorComplete slot =
      (d.modEntry e.slot fun o => { o with hostFlush := some ⟨l, true⟩ }).emit (.hostFlush (64 * l)) := by
  simp only [Die.descriptorComplete, he, hphase, Die.writesVisible_of_flush hf, Die.issueFlush, hf, hup, Bool.false_eq_true,
    if_true, if_false]

theorem does_descriptorComplete {d t : Die} {slot : BitVec 12} (h : d.descriptorComplete slot = t) :
    Does (.descriptorComplete slot) d t.settleStop :=
  does_onDieIf (exec_is_descriptorComplete slot) rfl (congrArg Die.settleStop h)

/-- The flush of the only descriptor comes back, and nothing of it is owed. -/
theorem Die.hostWriteFlushDone_only {d : Die} {slot : BitVec 12} {e : Entry} {l : Nat} (hsb : d.sb = [e])
    (hslot : e.slot = slot.toNat) (hf : e.hostFlush = some ⟨l, true⟩) :
    d.hostWriteFlushDone (.descriptor slot) = { d with sb := [{ e with hostFlush := none }] } := by
  simp only [Die.hostWriteFlushDone, Die.modEntry, hsb, List.map_cons, List.map_nil, hslot, if_true, hf, Option.filter_some,
    Bool.not_true, Bool.false_eq_true, if_false]

/-- Settles O18: each command finds its descriptor past the guards before its effect. -/
theorem descriptorLifeCompletes : Obligations.DescriptorLifeCompletes := by
  unfold Obligations.DescriptorLifeCompletes
  refine ⟨?head, ?nop, ?ready, ?complete, ?flush, ?flushed⟩
  case head =>
    intro d d1 i q slots c x e hcq hpick hread hop hflush hcause he hh
    have hwant : (opcodeOf x != 0x00) = true := bne_iff_ne.mpr hop
    exact does_onDieIf (exec_is_descriptorAdmit none) rfl
      (Die.admitHead_ready (want := fun op => op != 0x00) hcq hpick hread hwant hflush hcause he (if_neg hop) hh)
  case nop =>
    intro d d1 d2 i q slots c x e hcq hpick hread hop hflush hcause he hcheck hh
    have ht : (if opcodeOf x = 0 then (d1.admitted i q slots c e).completeNop e else d1.admitted i q slots c e) = d2.complete e :=
      (if_pos hop).trans (Die.completeNop_passing hcheck)
    have hwant : (opcodeOf x == 0x00) = true := beq_iff_eq.mpr hop
    exact does_onDieIf exec_is_nop rfl
      (Die.admitHead_ready (want := fun op => op == 0x00) hcq hpick hread hwant hflush hcause he ht hh)
  case ready =>
    intro d slot e he hop hctx hphase hfail hwaits hslots hturn hunit hevt hslot
    exact does_onDieIf (exec_is_descriptorReady slot) rfl ((Die.descriptorReady_free he hop hctx).trans
      (Die.becomeReady_clean hphase hfail hwaits hslots hturn hunit hevt hslot))
  case complete =>
    exact fun _ _ _ he hphase hvis hh => does_descriptorComplete (Die.descriptorComplete_visible he hphase hvis hh)
  case flush =>
    exact fun _ _ _ _ he hphase hf hup => does_descriptorComplete (Die.descriptorComplete_flush he hphase hf hup)
  case flushed =>
    exact fun _ slot _ _ hsb hslot hf => does_onDieIf (exec_is_hostWriteFlushDone (.descriptor slot)) rfl
      (Die.hostWriteFlushDone_only hsb hslot hf)

end Sys2Proof.Machine
end

section
/-! PROOFS. The Kiln at work: a load, a charge, its first issue with a swap, an issued vector, a landing update and a drained
row, each in a state in which it has its effect (R76, R79, R82, R84, R88, R91). -/

namespace Sys2Proof.Machine

/-! ### Starts (R75, R76, R79, R83) -/

/-- An unskipped K.LOAD_IN with legal parameters, every start check passed, loads its plane into an EMPTY shadow. -/
theorem Die.kLoadIn_lawful {d d2 : Die} {slot : BitVec 12} {run : Run} {e : Entry}
    (he : (d.entry slot.toNat).map d.atStart = some e) (hop : opcodeOf e.desc = 0x10) (hshadow : d.kiln.shadowState = .empty)
    (hmay : d.mayStart e = true) (hturn : d.slotTurn e = true) (hskip : e.skipped = false) (hlegal : loadLegal e.desc = true)
    (hchecks : ((d.workOf slot.toNat).kilnStart e run).allStartChecks e = (none, d2))
    (hh : AtHand ((d2.taintEntry e).loadPlane e run)) :
    d.kLoadIn slot run = ((d2.taintEntry e).loadPlane e run).spend := by
  obtain ⟨e0, h0, h1⟩ := Option.map_eq_some_iff.mp he
  simp only [Die.kLoadIn, h0, h1, hop, hshadow, hmay, hturn, Bool.and_self, and_self, if_true]
  refine attempt_of_eq ?_ hh
  simp only [hskip, hlegal, hchecks, Bool.not_true, Bool.false_eq_true, if_false]

/-- The oldest unskipped K.CHARGE that can start, its parameters legal and every start check passed, primes. -/
theorem Die.kCharge_lawful {d d2 : Die} {slot : BitVec 12} {run : Run} {e : Entry}
    (he : (d.entry slot.toNat).map d.atStart = some e) (hop : opcodeOf e.desc = 0x11) (hprime : d.mayPrime = true)
    (hstart : d.startable e = true) (hold : d.oldest e = true) (hturn : d.slotTurn e = true) (hskip : e.skipped = false)
    (hlegal : chargeLegal e.desc = true)
    (hchecks : ((d.workOf slot.toNat).kilnStart e run).allStartChecks e = (none, d2)) (hh : AtHand (d2.primeCharge e)) :
    d.kCharge slot run = (d2.primeCharge e).spend := by
  obtain ⟨e0, h0, h1⟩ := Option.map_eq_some_iff.mp he
  simp only [Die.kCharge, h0, h1, hop, hprime, hstart, hold, hturn, Bool.and_self, and_self, if_true]
  refine attempt_of_eq ?_ hh
  simp only [hskip, hlegal, hchecks, Bool.not_true, Bool.false_eq_true, if_false]

/-! ### Issue (R82, R84, R86) -/

/-- The only vector left waits while another charge finishes; any other vector, or the last with none finishing, does not
(log entry 14). -/
theorem lastVector_not_kept {last : Bool} {finishing : List Charge} (h : last = true → finishing = []) :
    (last && !finishing.isEmpty) = false := by
  cases last with
  | false => rfl
  | true => rw [h rfl, List.isEmpty_nil, Bool.not_true, Bool.and_false]

/-- A priming charge that asks for a swap and has nothing to hold its first vector swaps a FULL shadow in and begins to
issue. -/
theorem Die.kilnFirstIssueSwap_full {d : Die} {c : Charge} {e : Entry} (hc : d.kiln.priming = some c)
    (he : d.entry c.slot = some e) (hskip : c.skip = false) (hissuing : d.kiln.issuing = none)
    (hswap : chargeSwap e.desc = true) (hfull : d.kiln.shadowState = .full) (hnoswap : d.kiln.swapsOwed = 0)
    (howed : d.owedNext e c = false) (hlast : c.vectors.length = 1 → d.kiln.finishing = []) :
    d.kilnFirstIssueSwap = d.kilnSwap.beginIssue c e := by
  have hkept := lastVector_not_kept fun h => hlast (of_decide_eq_true h)
  simp only [Die.kilnFirstIssueSwap, hc, he, hskip, hissuing, howed, hkept, hswap, hfull, hnoswap, Option.isSome_none,
    Bool.or_self, Bool.false_eq_true, if_false, if_true]

/-- A vector in the feeder, not in an empty third cycle of PAIR6 nor held on OWED rows or for the Damper, issues. -/
theorem Die.kilnVectorIssue_free {d : Die} {c : Charge} {e : Entry} {p : Plane} {v : WVec} {rest : List WVec}
    (hc : d.kiln.issuing = some c) (hp : d.kiln.active = some p) (he : d.entry c.slot = some e) (hv : c.vectors = v :: rest)
    (hpair6 : chargeFmt e.desc = Fmt.E2M3 → c.cadence % 3 ≠ 2) (hfree : c.cycles = 0 ∨ d.owedNext e c = false)
    (hlast : rest = [] → d.kiln.finishing = []) :
    d.kilnVectorIssue .ready false none = d.issueVector c e p v rest none := by
  have hheld : (!decide (c.cycles = 0) && d.owedNext e c) = false := by
    rcases hfree with h | h <;> simp [h]
  have hkept := lastVector_not_kept fun h => hlast (List.isEmpty_iff.mp h)
  have hcadence : ¬ (chargeFmt e.desc = Fmt.E2M3 ∧ c.cadence % 3 = 2) := fun h => hpair6 h.1 h.2
  simp only [Die.kilnVectorIssue, hc, hp, he, hv, hcadence, hheld, hkept, Bool.false_and, Bool.or_false, Bool.false_eq_true,
    reduceCtorEq, ne_eq, not_true_eq_false, if_false]

/-! ### The accumulator and the drain (R88, R91) -/

/-- Without an accumulator error the oldest update lands part by part. -/
theorem Die.accUpdateLand_clean {d : Die} {g : List InFlight} {rest : List (List InFlight)} (h : d.kiln.pipe = g :: rest) :
    d.accUpdateLand none = (g.foldl Die.landOne { d with kiln := { d.kiln with pipe := rest } }).settleCharges := by
  simp only [Die.accUpdateLand, h]

/-- A row that has been issued, with no update under way, is written to the Shelves and owed no longer. -/
theorem Die.kilnDrainRow_landed {d : Die} {c : Charge} {e : Entry} {p : Bool × Die} (hc : d.kiln.draining = some c)
    (he : d.entry c.slot = some e) (hnext : c.drained / kilnLanes (chargeFmt e.desc) < c.next) (hpipe : d.kiln.pipe = [])
    (hp : d.drainWrite e (d.accRow (chargeBase e.desc + c.drained)) 0 (c.outRows.take (ceilDiv c.cols 256)) = p)
    (hok : p.1 = true) :
    d.kilnDrainRow =
      ((({ p.2 with kiln := p.2.kiln.setCharge { c with
        drained := c.drained + 1, outRows := c.outRows.drop (ceilDiv c.cols 256) } }).unowe
          [chargeBase e.desc + c.drained]).modEntry c.slot fun o => { o with
            flags := o.flags ||| (if (d.accRow (chargeBase e.desc + c.drained)).poison then flPoisonOut else 0) }).settleCharges := by
  simp only [Die.kilnDrainRow, hc, he, decide_eq_true hnext, hpipe, List.any_nil, Bool.not_false, Bool.and_self, hp, hok, if_true]

/-- Settles O25: a start passes its checks, and a charge, a landing or a drain meets nothing that holds it. -/
theorem kilnWorkCompletes : Obligations.KilnWorkCompletes := by
  unfold Obligations.KilnWorkCompletes
  refine ⟨?load, ?charge, ?swap, ?issue, ?land, ?drain⟩
  case load =>
    exact fun _ _ slot run _ he hop hshadow hmay hturn hskip hlegal hchecks hh =>
      does_onDieIf (exec_is_kLoadIn slot run) rfl (Die.kLoadIn_lawful he hop hshadow hmay hturn hskip hlegal hchecks hh)
  case charge =>
    exact fun _ _ slot run _ he hop hprime hstart hold hturn hskip hlegal hchecks hh =>
      does_onDieIf (exec_is_kCharge slot run) rfl
        (Die.kCharge_lawful he hop hprime hstart hold hturn hskip hlegal hchecks hh)
  case swap =>
    exact fun _ _ _ hc he hskip hissuing hswap hfull hnoswap howed hlast =>
      does_onDieIf exec_is_kilnFirstIssueSwap rfl
        (Die.kilnFirstIssueSwap_full hc he hskip hissuing hswap hfull hnoswap howed hlast)
  case issue =>
    exact fun _ _ _ _ _ _ hc hp he hv hpair6 hfree hlast =>
      does_onDieIf (exec_is_kilnVectorIssue .ready false none) rfl
        (Die.kilnVectorIssue_free hc hp he hv hpair6 hfree hlast)
  case land => exact fun _ _ _ h => does_onDieIf (exec_is_accUpdateLand none) rfl (Die.accUpdateLand_clean h)
  case drain =>
    exact fun _ _ _ _ hc he hnext hpipe hp hok =>
      does_onDieIf exec_is_kilnDrainRow rfl (Die.kilnDrainRow_landed hc he hnext hpipe hp hok)

end Sys2Proof.Machine
end

section
/-! PROOFS. The upkeep of the Kiln: its shadow is released, an owed swap taken, a hold ended, its clocks gated, its spares
brought in and its OWED bits cleared (R75, R89, R90, R93, R98, R511). -/

namespace Sys2Proof.Machine

/-! ### Planes, holds and clocks (R75, R90, R93, R511) -/

theorem Die.kilnShadowReleased_releasing {d : Die} (h : d.kiln.shadowState = .releasing) :
    d.kilnShadowReleased = { d with kiln := { d.kiln with shadow := none, shadowState := .empty } } := if_pos h

/-- A swap that is owed takes place on a FULL shadow while no charge issues. -/
theorem Die.kilnOwedSwap_owed {d : Die} {n : Nat} (hfull : d.kiln.shadowState = .full) (hissuing : d.kiln.issuing = none)
    (hn : d.kiln.swapsOwed = n + 1) :
    d.kilnOwedSwap = { d.kilnSwap with kiln := { d.kilnSwap.kiln with swapsOwed := n } } := by
  have hkept : d.kilnSwap.kiln.swapsOwed = n + 1 := hn
  simp only [Die.kilnOwedSwap, hfull, hissuing, hn, hkept, and_self, Nat.succ_pos, Nat.add_sub_cancel, if_true]

/-- An issuing charge held for as long as the limit allows ends early with TIMEOUT. -/
theorem Die.kilnHoldTimeout_reached {d : Die} {c : Charge} (hc : d.kiln.issuing = some c)
    (hset : (d.reg Reg.KLN_HOLD_LIMIT).toNat ≠ 0) (hheld : (d.reg Reg.KLN_HOLD_LIMIT).toNat ≤ c.held) :
    d.kilnHoldTimeout = (d.err Reg.KLN_ERR Bit.KLN_ERR_HOLD_TIMEOUT).chargeEarlyEnd c.slot stTimeout := by
  simp only [Die.kilnHoldTimeout, hc, Option.orElse_some, if_pos (And.intro hset hheld)]

theorem Die.kilnClockGate_idle {d : Die} (hissuing : d.kiln.issuing = none) (hfinishing : d.kiln.finishing = []) :
    d.kilnClockGate = { d with kiln := { d.kiln with gated := true } } := if_pos ⟨hissuing, hfinishing⟩

/-! ### Spares (R98) -/

/-- At the idle point a column found bad takes its group's free spare column. -/
theorem Die.kilnSpareSwap_column {d : Die} {loc : Nat} (hw : d.firstWanted 1 = some loc) (hidle : d.kilnIdle = true)
    (hfree : (d.reg Reg.KLN_SPARE_STAT).b (8 + loc % 512 / 64) = true) :
    d.kilnSpareSwap .column =
      (d.setRf Reg.KLN_SPARE_STAT (8 + loc % 512 / 64) (8 + loc % 512 / 64) 0).spareInService 1 loc := by
  simp only [Die.kilnSpareSwap, hw, hidle, hfree, Bool.not_true, Bool.false_eq_true, if_false, if_true]

/-- At the idle point a row found bad asks for a spare row. -/
theorem Die.kilnSpareSwap_row {d : Die} {loc : Nat} (hw : d.firstWanted 1 = some loc) (hidle : d.kilnIdle = true) :
    d.kilnSpareSwap .row = d.kilnSpareRow loc := by
  simp only [Die.kilnSpareSwap, hw, hidle, Bool.not_true, Bool.false_eq_true, if_false]

/-! ### OWED bits (R89) -/

theorem Die.klnOwedRelease_all {d : Die} {w : Word} (h : w.b 0 = true) :
    d.klnOwedRelease w =
      ({ d with kiln := { d.kiln with owed := [] } }).err Reg.KLN_ERR Bit.KLN_ERR_OWED_RELEASE := if_pos h

/-- Settles O26: each state named is the one its command waits for, and the write of ALL comes to an awake die. -/
theorem kilnUpkeepCompletes : Obligations.KilnUpkeepCompletes := by
  unfold Obligations.KilnUpkeepCompletes
  refine ⟨?released, ?owedSwap, ?hold, ?gate, ?column, ?row, ?owed⟩
  case released => exact fun _ h => does_onDieIf exec_is_kilnShadowReleased rfl (Die.kilnShadowReleased_releasing h)
  case owedSwap =>
    exact fun _ _ hfull hissuing hn => does_onDieIf exec_is_kilnOwedSwap rfl (Die.kilnOwedSwap_owed hfull hissuing hn)
  case hold =>
    exact fun _ _ hc hset hheld => does_onDieIf exec_is_kilnHoldTimeout rfl (Die.kilnHoldTimeout_reached hc hset hheld)
  case gate =>
    exact fun _ hissuing hfinishing =>
      does_onDieIf exec_is_kilnClockGate rfl (Die.kilnClockGate_idle hissuing hfinishing)
  case column =>
    exact fun _ _ hw hidle hfree =>
      does_onDieIf (exec_is_kilnSpareSwap .column) rfl (Die.kilnSpareSwap_column hw hidle hfree)
  case row => exact fun _ _ hw hidle => does_onDieIf (exec_is_kilnSpareSwap .row) rfl (Die.kilnSpareSwap_row hw hidle)
  case owed => exact fun _ w hs hw => does_awake (exec_is_klnOwedRelease w) rfl hs (Die.klnOwedRelease_all hw)

end Sys2Proof.Machine
end

section
/-! PROOFS. The unit resets and the epochs they owe: what each unit drops besides its descriptors, and the advance of a fence
(R95, R117, R135, R168, R199, R292, R395, R476, R477). -/

namespace Sys2Proof.Machine

/-! ### What a unit drops besides its descriptors -/

/-- The Kiln drops its charges, planes, updates and accumulator; its clocks and a barrier's soft start stay (R95). -/
theorem Die.kilnReset_eq (d : Die) :
    d.kilnReset = { d.resetUnit Reg.KLN_FENCE isKiln with
      kiln := { Kiln.powerUp with gated := d.kiln.gated, afterBarrier := d.kiln.afterBarrier } } := rfl

/-- The tier manager abandons its moves, and the parks made for a preemption, which have no descriptor to end, end with them
(R290, R292). -/
theorem Die.tierReset_of_dropped {d d1 d2 : Die} (hmoves : d.tier.moves.foldl (fun acc m => acc.abandonMove m) d = d1)
    (hparks : (d.tier.parks.filter fun r => r.mgmt && r.expires.isNone).foldl (fun acc r => acc.parkDone r.id) d1 = d2) :
    d.tierReset = d2.resetUnit Reg.TIR_FENCE isTier := by
  simp only [Die.tierReset, hmoves, hparks]

/-- A context the reset ends: its frames close, its bindings go with UNIT_RESET, and no frame is left (R364). -/
def Die.resetSensor (d : Die) (c : Nat) : Die :=
  let a := ((d.sensor c).frames.foldl (fun a f => a.resetFrame c f) d).dropHeld c stUnitReset
  a.setSensor c { a.sensor c with frames := [] }

/-- The image front end ends its four contexts, its denoise work and the C.* that wait (R364). -/
theorem Die.ifeReset_of_dropped {d d1 : Die} (hsensors : (List.range 4).foldl (fun acc c => acc.resetSensor c) d = d1) :
    d.ifeReset = (({ d1 with ife := { d1.ife with dn := [], writes := [] } }).endWaiting (fun _ => true)
      stUnitReset).resetUnit Reg.IFE_FENCE fun op => op == 0x90 || op == 0x91 := by
  subst hsensors
  simp only [Die.ifeReset, Die.resetSensor]

/-- The fabric engine aborts what it sends, fails its requests to peers and the host with the flushing reads under way, and
answers DONE UNIT_RESET to the transfers it was taking (R395, log entry 86). -/
theorem Die.linkReset_of_dropped {d d1 d2 d3 d4 : Die} (hsends : d.link.sends.foldl (fun acc s => acc.abortSend s.slot) d = d1)
    (htxns : d1.far.txns.foldl (fun acc t => acc.failTxn t) d1 = d2) (hhost : d2.failHost.dropFlushes = d3)
    (hincoming : (d3.link.incoming.filter (·.own)).foldl (fun acc x => acc.done x stUnitReset) d3 = d4) :
    d.linkReset = Die.resetUnit
      { d4 with link := { d4.link with
        incoming := (d4.link.incoming.filter fun x => !x.ended).map fun x => { x with own := false } } }
      Reg.LNK_FENCE fun op => unitOf op == some ExecUnit.link := by
  simp only [Die.linkReset, hsends, htxns, hhost, hincoming]

/-! ### Epochs (R477) -/

/-- An owed epoch comes once no descriptor the reset ended is left to complete. -/
theorem Die.epochAdvance_due {d : Die} {fence : Nat} {mine : Nat → Bool} (hdue : d.epochDue.contains fence = true)
    (hleft : (d.sb.any fun e => e.phase == .executed && mine (opcodeOf e.desc) &&
      (e.began && e.flags / 16 % 2 == 1 || e.status == stUnitReset)) = false) :
    d.epochAdvance fence mine = { d with epochDue := setErase fence d.epochDue }.bumpEpoch fence := by
  simp only [Die.epochAdvance, hdue, hleft, Bool.not_false, and_self, if_true]

/-- Settles O27: an awake die takes each reset into its unit, which drops what it holds and then ends what it executes; an
epoch that is due comes. -/
theorem unitResetsComplete : Obligations.UnitResetsComplete := by
  unfold Obligations.UnitResetsComplete
  refine ⟨?mover, ?glaze, ?pug, ?wheel, ?kiln, ?tier, ?ife, ?link, ?epoch⟩
  case mover => exact fun _ hs => does_awake exec_is_dmReset rfl hs rfl
  case glaze => exact fun _ hs => does_awake exec_is_glazeReset rfl hs rfl
  case pug => exact fun _ hs => does_awake exec_is_pugReset rfl hs rfl
  case wheel => exact fun _ hs => does_awake exec_is_wheelReset rfl hs rfl
  case kiln => exact fun d hs => does_awake exec_is_kilnReset rfl hs d.kilnReset_eq
  case tier =>
    exact fun _ _ _ hs hmoves hparks => does_awake exec_is_tierReset rfl hs (Die.tierReset_of_dropped hmoves hparks)
  case ife => exact fun _ _ hs hsensors => does_awake exec_is_ifeReset rfl hs (Die.ifeReset_of_dropped hsensors)
  case link =>
    exact fun _ _ _ _ _ hs hsends htxns hhost hincoming =>
      does_awake exec_is_linkReset rfl hs (Die.linkReset_of_dropped hsends htxns hhost hincoming)
  case epoch => exact fun _ u hdue hleft => does_onDieIf (exec_is_epochAdvance u) rfl (Die.epochAdvance_due hdue hleft)

end Sys2Proof.Machine
end

section
/-! PROOFS. The descriptors of the Pug codec: P.COMPRESS and P.EXPAND are descriptors' starts with the codec's own legality and
body, so a lawful start leaves exactly the body's effect (R106, R109). -/

namespace Sys2Proof.Machine

/-- Settles O23: each Pug command is a descriptor's start under its opcode, and a lawful start codes or expands by the body. -/
theorem pugCompletes : Obligations.PugCompletes := by
  unfold Obligations.PugCompletes
  intro d slot run e
  refine ⟨?compress, ?expand⟩
  case compress => exact settles_runOpIf (exec_is_pCompress slot run) rfl fun _ => rfl
  case expand => exact settles_runOpIf (exec_is_pExpand slot run) rfl fun _ => rfl

end Sys2Proof.Machine
end

section
/-! PROOFS. The Wheel at work: its descriptors are starts with the Wheel's own legality and body, a W.GEMV is prefetched for,
and the spare slice takes over a failing one (R141, R146, R153, R157, R158, R167). -/

namespace Sys2Proof.Machine

/-! ### Prefetch (R146) -/

/-- A prefetch whose lines are all at hand holds them for its W.GEMV. -/
theorem Die.prefetchFor_at_hand {d t : Die} {e : Entry}
    (ht : prefetchRead e (Die.workOf { d with wheel := { d.wheel with prefetch := some e.slot } } e.slot) = t) (hh : AtHand t) :
    d.prefetchFor e = t.holdRead := by
  subst ht
  exact if_pos hh

/-- The Wheel prefetches for the W.GEMV it picks, when that one may be prefetched for. -/
theorem Die.wheelPrefetchStart_picked {d : Die} {e : Entry} (hpick : d.prefetchPick = some e) (hmay : d.prefetchable e = true) :
    d.wheelPrefetchStart = d.prefetchFor e := by
  simp only [Die.wheelPrefetchStart, hpick, hmay, if_true]

/-! ### The spare slice (R167) -/

/-- At an idle point a free spare slice takes over the shares a failing slice runs. -/
theorem Die.wheelSpareSwap_spare {d : Die} {p s : Nat} {more : List Nat} (hw : d.firstWanted 2 = some p)
    (hidle : (d.inClass 101).isEmpty = true) (hfetch : d.prefetching = false) (hruns : d.sharesRunBy p = s :: more)
    (hspare : d.rf Reg.WHL_SPARE_STAT 4 0 ≠ 0x1F) :
    d.wheelSpareSwap =
      ((d.remap (s :: more) fun _ _ => d.rf Reg.WHL_SPARE_STAT 4 0).setRf Reg.WHL_SPARE_STAT 4 0 0x1F).spareInService 2 p := by
  have hfree : (!(d.inClass 101).isEmpty || d.prefetching) = false := by rw [hidle, hfetch]; rfl
  simp only [Die.wheelSpareSwap, hw, hfree, hruns, List.isEmpty_cons, Bool.false_eq_true, if_false, if_pos hspare]

/-- Settles O24: each Wheel descriptor is a start under its opcode, whose lawful start leaves the body's effect; the prefetch
has the lines it reads, and the swap comes at an idle point with the spare free. -/
theorem wheelCompletes : Obligations.WheelCompletes := by
  unfold Obligations.WheelCompletes
  refine ⟨?gemv, ?attn, ?append, ?evict, ?prefetch, ?spare⟩
  case gemv => exact fun _ slot run faults _ => settles_runOpIf (exec_is_wGemv slot run faults) rfl fun _ => rfl
  case attn => exact fun _ slot run faults _ => settles_runOpIf (exec_is_wAttn slot run faults) rfl fun _ => rfl
  case append => exact fun _ slot run _ => settles_runOpIf (exec_is_wKvappend slot run) rfl fun _ => rfl
  case evict => exact fun _ slot run _ => settles_runOpIf (exec_is_wKvevict slot run) rfl fun _ => rfl
  case prefetch =>
    exact fun _ _ _ hpick hmay ht hh => does_onDieIf exec_is_wheelPrefetchStart rfl
      ((Die.wheelPrefetchStart_picked hpick hmay).trans (Die.prefetchFor_at_hand ht hh))
  case spare =>
    exact fun _ _ _ _ hw hidle hfetch hruns hspare => does_onDieIf exec_is_wheelSpareSwap rfl
      (Die.wheelSpareSwap_spare hw hidle hfetch hruns hspare)

end Sys2Proof.Machine
end

section
/-! PROOFS. Event counters: what setting one, poisoning one and flagging saturation do to the value and the POISON bit of every
counter, hence what an addition does, and the registers that set, add and clear (R174, R175). -/

namespace Sys2Proof.Machine

/-! ### Words and addresses -/

theorem b_or_oneBit (w : Word) {i j : Nat} (hj : j < 32) :
    Word.b (w ||| Word.oneBit i) j = (w.b j || decide (j = i)) := by
  simp only [Word.b, Word.oneBit, BitVec.getLsbD_or, BitVec.getLsbD_ofNat, hj, decide_true, Bool.true_and, Nat.one_shiftLeft,
    Nat.testBit_two_pow, eq_comm (a := i)]

/-- The POISON words lie below the counters (Table 8.12). -/
theorem poisonWord_ne_event {k c : Nat} (hk : k < 65536) : Reg.SCH_EVT_POISON (k / 32) ≠ Reg.SCH_EVENT c := by
  simp only [Reg.SCH_EVT_POISON, Reg.SCH_EVENT]
  omega

/-! ### The value and the POISON bit of a counter -/

section

variable (d : Die) {c k : Nat}

theorem Die.evt_setEvt (v : Nat) : (d.setEvt c v).evt k = if k = c then v % 2 ^ 32 else d.evt k := by
  have haddr : Reg.SCH_EVENT k = Reg.SCH_EVENT c ↔ k = c := by simp only [Reg.SCH_EVENT]; omega
  simp only [Die.evt, Die.setEvt, Die.reg_setReg, haddr, apply_ite BitVec.toNat, BitVec.toNat_ofNat]

theorem Die.evtPoison_setEvt (v : Nat) (hk : k < 65536) : (d.setEvt c v).evtPoison k = d.evtPoison k := by
  rw [Die.evtPoison, Die.setEvt, Die.reg_setReg_other d _ (poisonWord_ne_event hk), Die.evtPoison]

theorem Die.evt_poisonEvt (hc : c < 65536) : (d.poisonEvt c).evt k = d.evt k := by
  rw [Die.evt, Die.poisonEvt, Die.reg_setReg_other d _ (poisonWord_ne_event hc).symm, Die.evt]

/-- Of the 32 counters of a POISON word, only the one named is poisoned. -/
theorem Die.evtPoison_poisonEvt : (d.poisonEvt c).evtPoison k = (d.evtPoison k || decide (k = c)) := by
  have haddr : Reg.SCH_EVT_POISON (k / 32) = Reg.SCH_EVT_POISON (c / 32) ↔ k / 32 = c / 32 := by
    simp only [Reg.SCH_EVT_POISON]
    omega
  simp only [Die.evtPoison, Die.poisonEvt, Die.reg_setReg, haddr]
  by_cases hword : k / 32 = c / 32
  · have hbit : k % 32 = c % 32 ↔ k = c := by omega
    rw [if_pos hword, b_or_oneBit _ (Nat.mod_lt k (by decide)), hword, decide_eq_decide.mpr hbit]
  · have hne : k ≠ c := fun h => hword (by rw [h])
    rw [if_neg hword, decide_eq_false hne, Bool.or_false]

/-- A flag of SCH_EVT_ERR changes no word of the counters. -/
theorem Die.reg_err_evtErr {a : Nat} (bit : Nat) (ha : 0x140000 ≤ a ∧ a < 0x1C0000) :
    (d.err Reg.SCH_EVT_ERR bit).reg a = d.reg a := by
  have hevents : ∀ s, s < 18 → a ≠ Reg.RAS_SRC_EVENTS s := by
    intro s _
    simp only [Reg.RAS_SRC_EVENTS]
    omega
  have hpba : a ≠ Reg.MSIX_PBA 64 := by simp only [Reg.MSIX_PBA]; omega
  have hflag : a ≠ Reg.SCH_EVT_ERR := by simp only [Reg.SCH_EVT_ERR]; omega
  rw [Die.reg_err d _ bit a hevents hpba, if_neg hflag]

theorem Die.evt_err_evtErr (bit : Nat) (hk : k < 65536) : (d.err Reg.SCH_EVT_ERR bit).evt k = d.evt k := by
  have hword : 0x140000 ≤ Reg.SCH_EVENT k ∧ Reg.SCH_EVENT k < 0x1C0000 := by simp only [Reg.SCH_EVENT]; omega
  rw [Die.evt, Die.reg_err_evtErr d bit hword, Die.evt]

theorem Die.evtPoison_err_evtErr (bit : Nat) (hk : k < 65536) :
    (d.err Reg.SCH_EVT_ERR bit).evtPoison k = d.evtPoison k := by
  have hword : 0x140000 ≤ Reg.SCH_EVT_POISON (k / 32) ∧ Reg.SCH_EVT_POISON (k / 32) < 0x1C0000 := by
    simp only [Reg.SCH_EVT_POISON]
    omega
  rw [Die.evtPoison, Die.reg_err_evtErr d bit hword, Die.evtPoison]

end

/-- Setting a flag of SCH_EVT_ERR leaves it set. -/
theorem Die.b_err_evtErr (d : Die) {bit : Nat} (hbit : bit < 32) :
    ((d.err Reg.SCH_EVT_ERR bit).reg Reg.SCH_EVT_ERR).b bit = true := by
  have hevents : ∀ s, s < 18 → Reg.SCH_EVT_ERR ≠ Reg.RAS_SRC_EVENTS s := by
    intro s _
    simp only [Reg.SCH_EVT_ERR, Reg.RAS_SRC_EVENTS]
    omega
  rw [Die.reg_err d _ bit _ hevents (by decide), if_pos rfl, b_or_oneBit _ hbit, decide_eq_true rfl, Bool.or_true]

/-! ### An addition (R174) -/

section

variable {d : Die} {c k n : Nat}

theorem Die.addEvt_fits (h : d.evt c + n ≤ 0xFFFFFFFF) : d.addEvt c n = d.setEvt c (d.evt c + n) := if_pos h

theorem Die.addEvt_saturates (h : 0xFFFFFFFF < d.evt c + n) :
    d.addEvt c n = ((d.setEvt c 0xFFFFFFFF).poisonEvt c).err Reg.SCH_EVT_ERR Bit.SCH_EVT_ERR_SATURATED :=
  if_neg (Nat.not_le.mpr h)

/-- Only the counter added to changes, and it stops at the top. -/
theorem Die.evt_addEvt (hc : c < 65536) (hk : k < 65536) :
    (d.addEvt c n).evt k = if k = c then min (d.evt c + n) 0xFFFFFFFF else d.evt k := by
  rcases Nat.lt_or_ge 0xFFFFFFFF (d.evt c + n) with h | h
  · rw [Die.addEvt_saturates h, Die.evt_err_evtErr _ _ hk, Die.evt_poisonEvt _ hc, Die.evt_setEvt, Nat.min_eq_right h.le,
      Nat.mod_eq_of_lt (by decide)]
  · have hword : d.evt c + n < 2 ^ 32 := Nat.lt_succ_of_le h
    rw [Die.addEvt_fits h, Die.evt_setEvt, Nat.min_eq_left h, Nat.mod_eq_of_lt hword]

/-- Only the counter added to is poisoned, and only past the top. -/
theorem Die.evtPoison_addEvt (hk : k < 65536) :
    (d.addEvt c n).evtPoison k = (d.evtPoison k || decide (k = c ∧ 0xFFFFFFFF < d.evt c + n)) := by
  rcases Nat.lt_or_ge 0xFFFFFFFF (d.evt c + n) with h | h
  · simp only [Die.addEvt_saturates h, Die.evtPoison_err_evtErr _ _ hk, Die.evtPoison_poisonEvt, Die.evtPoison_setEvt _ _ hk, h,
      and_true]
  · simp only [Die.addEvt_fits h, Die.evtPoison_setEvt _ _ hk, Nat.not_lt.mpr h, and_false, decide_false, Bool.or_false]

theorem Die.saturated_addEvt (h : 0xFFFFFFFF < d.evt c + n) :
    ((d.addEvt c n).reg Reg.SCH_EVT_ERR).b Bit.SCH_EVT_ERR_SATURATED = true := by
  rw [Die.addEvt_saturates h]
  exact Die.b_err_evtErr _ (by decide)

theorem Die.evtErr_addEvt (h : d.evt c + n ≤ 0xFFFFFFFF) : (d.addEvt c n).reg Reg.SCH_EVT_ERR = d.reg Reg.SCH_EVT_ERR := by
  have haddr : Reg.SCH_EVT_ERR ≠ Reg.SCH_EVENT c := by simp only [Reg.SCH_EVT_ERR, Reg.SCH_EVENT]; omega
  rw [Die.addEvt_fits h, Die.setEvt, Die.reg_setReg_other d _ haddr]

end

/-! ### The registers (R174, R198) -/

theorem Die.schEventInc_zero {d : Die} {w : Word} (h : w.f 31 16 = 0) : d.schEventInc w = d := if_pos h

theorem Die.schEventInc_amount {d : Die} {w : Word} (h : w.f 31 16 ≠ 0) :
    d.schEventInc w = d.addEvt (w.f 15 0) (w.f 31 16) := if_neg h

theorem does_schEventInc {d t : Die} {w : Word} (hs : d.asleep = false) (h : d.schEventInc w = t) : Does (.schEventInc w) d t :=
  does_awake (exec_is_schEventInc w) rfl hs h

/-- Settles O57: an addition that fits sets its counter alone, and one past the top sets the counter to the top, its POISON bit
and the flag. -/
theorem eventAdditions : Obligations.EventAdditions := by
  unfold Obligations.EventAdditions
  refine ⟨?adds, ?nothing, ?effect⟩
  case adds => exact fun _ _ _ hs hn ht => does_schEventInc hs ((Die.schEventInc_amount hn).trans ht)
  case nothing => exact fun _ _ hs hn => does_schEventInc hs (Die.schEventInc_zero hn)
  case effect =>
    rintro d _ c n hc rfl
    refine ⟨?value, ?poison, Die.saturated_addEvt, Die.evtErr_addEvt, ?others⟩
    case value => rw [Die.evt_addEvt hc hc, if_pos rfl]
    case poison => simp only [Die.evtPoison_addEvt hc, true_and]
    case others =>
      intro k hk hne
      constructor
      · rw [Die.evt_addEvt hc hk, if_neg hne]
      · simp only [Die.evtPoison_addEvt hk, hne, false_and, decide_false, Bool.or_false]

/-- Settles O15: an awake die takes each of the three writes, and an AMOUNT other than 0 is added. -/
theorem eventRegistersComplete : Obligations.EventRegistersComplete := by
  unfold Obligations.EventRegistersComplete
  refine ⟨?set, ?add, ?clear⟩
  case set => exact fun _ c v hs => does_awake (exec_is_schEventWrite c v) rfl hs rfl
  case add => exact fun _ _ hs hn => does_schEventInc hs (Die.schEventInc_amount hn)
  case clear => exact fun _ i w hs => does_awake (exec_is_schEvtPoisonClear i w) rfl hs rfl

end Sys2Proof.Machine
end

section
/-! PROOFS. The synchronising descriptors: S.WAIT with its timeout, S.SIGNAL, S.BARRIER with its release, and S.TICKWAIT with the
tick that makes it ready (R187 to R190, R216, R391). -/

namespace Sys2Proof.Machine

/-! ### Entries of the scoreboard -/

theorem Die.slot_of_entry {d : Die} {slot : Nat} {e : Entry} (h : d.entry slot = some e) : e.slot = slot := by
  simpa using List.find?_some h

/-- A slot reads back as changed, by a change that keeps slots. -/
theorem Die.entry_modEntry (d : Die) (slot : Nat) {f : Entry → Entry} (hf : ∀ o, (f o).slot = o.slot) :
    (d.modEntry slot f).entry slot = (d.entry slot).map f := by
  simp only [Die.entry, Die.modEntry]
  induction d.sb with
  | nil => rfl
  | cons o sb ih =>
    by_cases ho : o.slot = slot
    · simp [ho, hf]
    · simpa [ho] using ih

/-- What replaces an entry hides an earlier change to it that kept its slot. -/
theorem Die.setEntry_modEntry (d : Die) {slot : Nat} {e : Entry} {f : Entry → Entry} (he : e.slot = slot)
    (hf : ∀ o, (f o).slot = o.slot) : (d.modEntry slot f).setEntry e = d.setEntry e := by
  subst he
  simp only [Die.setEntry, Die.modEntry, List.map_map]
  congr 2
  funext o
  by_cases ho : o.slot = e.slot <;> simp [ho, hf]

/-! ### Timeouts and releases (R187, R216) -/

/-- An S.WAIT that has seen its last tick in waiting ends with TIMEOUT. -/
theorem Die.sWaitTimeout_over {d : Die} {slot : BitVec 12} {e : Entry} (he : d.entry slot.toNat = some e)
    (hphase : e.phase = .waiting) (hop : opcodeOf e.desc = 0x60) (hfail : e.fail = 0) (hset : pF e.desc 15 0 ≠ 0)
    (hover : pF e.desc 15 0 ≤ e.ticks) : d.sWaitTimeout slot = d.finish e.slot stTimeout 0 0 0 0 := by
  have hwait : e.waitOver = true := by
    rw [Entry.waitOver, hop, bne_iff_ne.mpr hset, decide_eq_true hover]
    rfl
  simp only [Die.sWaitTimeout, he, if_pos (And.intro hphase (And.intro hfail hwait))]

/-- The one release there is completes its barriers once FTIME has reached this die's instant. -/
theorem Die.barrierReleaseInstant_one {d : Die} {r : Release} (hr : d.sched.releases = [r])
    (hcome : r.t0 + 250 * d.dieId ≤ d.ftime) : d.barrierReleaseInstant = d.releaseBarrier r := by
  have hinstant : d.instantCome r = true := decide_eq_true hcome
  rw [Die.barrierReleaseInstant, hr, List.filter_cons_of_pos hinstant, List.filter_nil, List.foldl_cons, List.foldl_nil]

/-! ### S.TICKWAIT (R190) -/

theorem Die.tickCome_of {d : Die} {e : Entry}
    (h : if tickAbs e.desc = true then d.firingReached (pF e.desc 63 32) = true else pF e.desc 31 16 ≤ e.ticks) :
    d.tickCome e = true := by
  unfold Die.tickCome
  split_ifs at h ⊢
  · exact h
  · exact decide_eq_true h

/-- An entry as it becomes ready with nothing poisoned. -/
def Entry.readied (e : Entry) (proceeds : Bool) : Entry := { e with phase := .ready, tainted := false, proceeds := proceeds }

@[simp] theorem Entry.slot_readied (e : Entry) (proceeds : Bool) : (e.readied proceeds).slot = e.slot := rfl

@[simp] theorem Entry.phase_readied (e : Entry) (proceeds : Bool) : (e.readied proceeds).phase = .ready := rfl

/-- An S.TICKWAIT that comes ready with nothing poisoned notes its firing, and LATE past its own. -/
theorem Die.sTickwaitReady_clean {d : Die} {slot : BitVec 12} {e : Entry} (he : d.entry slot.toNat = some e)
    (hop : opcodeOf e.desc = 0x63) (hphase : e.phase = .waiting) (hfail : e.fail = 0) (hwaits : d.waitsMet e.desc = true)
    (hslots : d.slotsFree e = true) (hturn : d.slotTurn e = true) (hevt : d.eventPoisoned e.desc = false)
    (hslot : d.slotPoisoned e.desc = false) (hcome : d.tickCome e = true) :
    d.sTickwaitReady slot = d.setEntry { e.readied (d.proceeds e.queue) with
      flags := if tickAbs e.desc && pF e.desc 63 32 != d.firing % 2 ^ 32 then e.flags ||| flLate else e.flags,
      result0 := d.firing % 2 ^ 32 } := by
  have hready : d.becomeReady e (d.tickCome e) = d.modEntry e.slot fun o => o.readied (d.proceeds e.queue) :=
    Die.becomeReady_clean hphase hfail hwaits hslots hturn hcome hevt hslot
  have hentry : (d.modEntry e.slot fun o => o.readied (d.proceeds e.queue)).entry e.slot =
      some (e.readied (d.proceeds e.queue)) := by
    rw [Die.entry_modEntry d e.slot fun o => o.slot_readied _, Die.slot_of_entry he, he, Option.map_some]
  simp only [Die.sTickwaitReady, he, hop, if_true, Die.tickwaitReady, hready, hentry, Entry.phase_readied]
  exact Die.setEntry_modEntry d rfl fun o => o.slot_readied _

/-- Settles O20: the descriptors are starts under their opcodes, S.SIGNAL in its mode; a timeout, a release and a tick come in
the states that wait for them. -/
theorem syncCompletes : Obligations.SyncCompletes := by
  unfold Obligations.SyncCompletes
  refine ⟨?wait, ?timeout, ?add, ?set, ?clear, ?barrier, ?release, ?tickwait, ?tick⟩
  case wait => exact fun _ slot _ => settles_runOpIf (exec_is_sWait slot) rfl fun _ => rfl
  case timeout =>
    exact fun _ slot _ he hphase hop hfail hset hover => does_onDieIf (exec_is_sWaitTimeout slot) rfl
      (Die.sWaitTimeout_over he hphase hop hfail hset hover)
  case add => exact fun _ slot _ => settles_runOpIf (exec_is_sSignalAdd slot) rfl fun _ => rfl
  case set => exact fun _ slot _ => settles_runOpIf (exec_is_sSignalSet slot) rfl fun _ => rfl
  case clear => exact fun _ slot _ => settles_runOpIf (exec_is_sSignalClear slot) rfl fun _ => rfl
  case barrier => exact fun _ slot _ => settles_runOpIf (exec_is_sBarrier slot) rfl fun _ => rfl
  case release =>
    exact fun _ _ hr hcome => does_onDieIf exec_is_barrierReleaseInstant rfl (Die.barrierReleaseInstant_one hr hcome)
  case tickwait =>
    exact fun _ slot e => settles_runOpIf (body := fun e d1 => d1.finish e.slot stOk 0 e.result0 0 0)
      (exec_is_sTickwait slot) rfl fun _ => rfl
  case tick =>
    exact fun _ slot _ he hop hphase hfail hwaits hslots hturn hevt hslot hcome =>
      does_onDieIf (exec_is_sTickwaitReady slot) rfl
        (Die.sTickwaitReady_clean he hop hphase hfail hwaits hslots hturn hevt hslot (Die.tickCome_of hcome))

end Sys2Proof.Machine
end

section
/-! PROOFS. The data movers: each of their commands is a descriptor's start with the mover's own legality and body, so a lawful
start leaves exactly the body's effect (R183 to R186). -/

namespace Sys2Proof.Machine

/-- Settles O21: each mover's command is a descriptor's start under its opcode, and a lawful start moves by its body. -/
theorem moversComplete : Obligations.MoversComplete := by
  unfold Obligations.MoversComplete
  intro d slot run e
  refine ⟨?copy, ?gather, ?scatter, ?fill⟩
  case copy => exact settles_runOpIf (exec_is_mCopy slot run) rfl fun _ => rfl
  case gather => exact settles_runOpIf (exec_is_mGather slot run) rfl fun _ => rfl
  case scatter => exact settles_runOpIf (exec_is_mScatter slot run) rfl fun _ => rfl
  case fill => exact settles_runOpIf (exec_is_mFill slot run) rfl fun _ => rfl

end Sys2Proof.Machine
end

section
/-! PROOFS. The firing tick: a tick that falls takes effect at once as the tick cycle of its firing, whether the timer, the
fallback timer or the host makes it, and a source event that follows too soon only counts (R201, R203, R204, R207). -/

namespace Sys2Proof.Machine

theorem senseLegal_of_length {sense : Sense} (h : sense.counts.length = 8) : senseLegal sense = true := beq_iff_eq.mpr h

section
variable {d : Die} {sense : Sense} {value : Word}

/-! ### A tick that falls (R207) -/

theorem Die.lateTick_askTick (d : Die) (n source : Nat) (fallback : Bool) (sense : Sense) (instant : Nat) :
    (d.askTick n source fallback sense instant).lateTick =
      Die.tickCycle ⟨n, source, fallback, sense, instant⟩ (d.askTick n source fallback sense instant) := rfl

theorem Die.tick_due (hrun : d.ticksRun = true) (hdue : d.tickDue = true) :
    d.tick sense = (d.askTick (d.firing + 1) (if d.tickSource = 1 then 1 else 0) false sense d.tickInstant).lateTick := by
  simp only [Die.tick, hrun, hdue, Bool.and_self, if_true]

theorem Die.tickFallback_due (hrun : d.ticksRun = true) (hdue : d.fallbackDue = true) :
    d.tickFallback sense =
      ((d.count Reg.SCH_TICK_FALLBACKS 1).askTick (d.firing + 1) 0 true sense (d.timerInstant d.fallbackAfter)).lateTick := by
  simp only [Die.tickFallback, hrun, hdue, Bool.and_self, if_true]

/-! ### Too soon after the last tick (R203) -/

theorem Die.tooSoon_of_lt (h : d.refclk < d.sched.lastTick + 384) : d.tooSoon = true :=
  decide_eq_true (by unfold Die.sinceTick; omega)

/-! ### The host (R201, R203) -/

theorem Die.hostTick_falls (hsource : d.tickSource = 2) (hrun : d.ticksRun = true) (hsoon : d.tooSoon = false) :
    d.hostTick sense = d.askTick (d.firing + 1) 2 false sense d.refclk := by
  simp [Die.hostTick, hsource, hrun, hsoon]

theorem Die.hostTick_merges (hsource : d.tickSource = 2) (hrun : d.ticksRun = true) (hsoon : d.tooSoon = true) :
    d.hostTick sense = d.count Reg.SCH_TICK_MERGED 1 := by
  simp [Die.hostTick, hsource, hrun, hsoon]

/-- An awake die takes a write of 1 to TICK as the host's tick, and a tick that has fallen takes effect with it. -/
theorem does_hostTickWrite {t : Die} (hsense : sense.counts.length = 8) (hs : d.asleep = false) (hv : value.b 0 = true)
    (h : d.hostTick sense = t) : Does (.hostTickWrite value sense) d t.lateTick :=
  does_onDieIf (exec_is_hostTickWrite value sense) (senseLegal_of_length hsense) (by
    rw [Die.hostTickWrite, Die.awake_of_not_asleep hs, if_pos hv, h])

/-- SCH_TICK_NOW is a word of SCHED that makes the host's tick with free quantities. -/
theorem Die.writeWord_tickNow (hv : value.b 0 = true) :
    d.writeWord Reg.SCH_TICK_NOW value = d.freeSense.2.hostTick d.freeSense.1 :=
  show (if value.b 0 then d.freeSense.2.hostTick d.freeSense.1 else d) = _ from if_pos hv

theorem Die.hostWrite_tickNow (hs : d.asleep = false) (hv : value.b 0 = true) :
    d.hostWrite false Reg.SCH_TICK_NOW 4 (value.setWidth 64) = d.freeSense.2.hostTick d.freeSense.1 := by
  have hword : wordAddr false Reg.SCH_TICK_NOW = some Reg.SCH_TICK_NOW := by decide
  have hvalue : (value.setWidth 64).setWidth 32 = value := BitVec.setWidth_setWidth_of_le value (by decide)
  rw [Die.hostWrite_four d false _ (by decide), hvalue, Die.writeOne_awake value hs hword, Die.writeWord_tickNow hv]

/-! ### The fabric and the camera (R203, R206) -/

theorem Die.fabricTick_falls {n : Nat} (hsource : d.tickSource = 3) (hrun : d.ticksRun = true) (hsoon : d.tooSoon = false)
    (hn : d.firing < n) : d.fabricTick n sense = (d.askTick n 3 false sense d.refclk).lateTick := by
  simp [Die.fabricTick, hsource, hrun, hsoon, hn]

theorem Die.fabricTick_merges {n : Nat} (hsource : d.tickSource = 3) (hrun : d.ticksRun = true) (hsoon : d.tooSoon = true) :
    d.fabricTick n sense = d.count Reg.SCH_TICK_MERGED 1 := by
  simp [Die.fabricTick, hsource, hrun, hsoon]

theorem Die.camTickSource_merges {c : Nat} (hsource : d.tickSource = 1) (hctx : d.rf Reg.SCH_TICK_CFG 3 2 = c)
    (hsoon : d.refclk < d.sched.lastTick + 384) : d.camTickSource c = d.count Reg.SCH_TICK_MERGED 1 := by
  rw [Die.camTickSource, if_pos ⟨hsource, hctx⟩, if_pos (Or.inl hsoon)]

end

/-! ### The obligations -/

/-- Settles O19: each source's tick falls under its conditions, and one that has fallen takes effect as its tick cycle. -/
theorem ticksComplete : Obligations.TicksComplete := by
  unfold Obligations.TicksComplete
  refine ⟨?timer, ?fallback, ?host, ?register⟩
  case timer =>
    exact fun _ sense hsense hrun hdue => does_onDieIf (exec_is_tick sense) (senseLegal_of_length hsense) (Die.tick_due hrun hdue)
  case fallback =>
    exact fun _ sense hsense hrun hdue =>
      does_onDieIf (exec_is_tickFallback sense) (senseLegal_of_length hsense) (Die.tickFallback_due hrun hdue)
  case host =>
    exact fun _ _ _ hsense hs hv hsource hrun hsoon => does_hostTickWrite hsense hs hv (Die.hostTick_falls hsource hrun hsoon)
  case register =>
    intro d d1 sense v hs hv hfree hsource hrun hsoon
    have hfalls : d.freeSense.2.hostTick d.freeSense.1 = d1.askTick (d1.firing + 1) 2 false sense d1.refclk := by
      rw [hfree, Die.hostTick_falls hsource hrun hsoon]
    exact does_registerWrite (off := BitVec.ofNat 26 Reg.SCH_TICK_NOW) (size := 4#4)
      ((Die.hostWrite_tickNow hs hv).trans hfalls)

/-- Settles O56: within 384 cycles of the last tick each source's event only counts, and the count is one more, saturated. -/
theorem ticksMerge : Obligations.TicksMerge := by
  unfold Obligations.TicksMerge
  refine ⟨?host, ?fabric, ?camera, ?counts⟩
  case host =>
    exact fun _ _ _ hsense hs hv hsource hrun hsoon =>
      does_hostTickWrite hsense hs hv (Die.hostTick_merges hsource hrun (Die.tooSoon_of_lt hsoon))
  case fabric => exact fun _ _ _ hsource hrun hsoon => Die.fabricTick_merges hsource hrun (Die.tooSoon_of_lt hsoon)
  case camera => exact fun _ _ hsource hctx hsoon => Die.camTickSource_merges hsource hctx hsoon
  case counts => exact fun d => ⟨Die.firing_count d _ 1, Die.reg_setReg_same d _ _⟩

end Sys2Proof.Machine
end

section
/-! PROOFS. The fabric's ticks, time and barriers: a message from an open port goes on its way and takes effect here, and die 0
sends TIME (R206, R216, R390 to R392). -/

namespace Sys2Proof.Machine

section
variable {d d1 : Die} {h : Hdr}

/-! ### Ticks (R206, R390) -/

theorem Die.eslisTick_falls {firing : BitVec 64} {mask : BitVec 8} {sense : Sense} (hopen : d.portOpen (portOf h) = true)
    (hsent : (d.received (portOf h) 3 (laneOf h) 0).sendAll (some h) 8 h.src.toNat firing.toNat mask.toNat = d1)
    (hmask : mask.toNat.testBit d1.dieId = true) (hsource : d1.tickSource = 3) (hrun : d1.ticksRun = true)
    (hsoon : d1.tooSoon = false) (hn : d1.firing < firing.toNat) :
    d.eslisTick h firing mask sense = (d1.askTick firing.toNat 3 false sense d1.refclk).lateTick := by
  simp only [Die.eslisTick, hopen, hsent, hmask, Bool.not_true, Bool.false_eq_true, if_false, if_true,
    Die.fabricTick_falls hsource hrun hsoon hn]

/-! ### Time (R391) -/

theorem Die.eslisTimeSend_due (hid : d.dieId = 0) (hready : d.rf Reg.LNK_STAT 12 12 = 1)
    (hdue : d.elapsed d.link.timeSent 1000 = true) :
    d.eslisTimeSend = ({ d with link := { d.link with timeSent := d.refclk } }).sendAll none 9 0 d.ftime d.members :=
  if_pos ⟨hid, hready, hdue⟩

theorem Die.eslisTime_member {value : BitVec 64} {mask : BitVec 8} (hopen : d.portOpen (portOf h) = true)
    (hsent : (d.received (portOf h) 3 (laneOf h) 0).sendAll (some h) 9 h.src.toNat value.toNat mask.toNat = d1)
    (hmask : mask.toNat.testBit d.dieId = true) :
    d.eslisTime h value mask = { d1 with link := { d1.link with
      ftOffset := (value.toNat + d.link.latency + 2 ^ 64 - d.refclk * 625 / 24 % 2 ^ 64) % 2 ^ 64 } } := by
  simp only [Die.eslisTime, hopen, hsent, hmask, Bool.not_true, Bool.false_eq_true, if_false, if_true]

/-! ### Barriers (R216, R392) -/

/-- A RELEASE that comes before the die's instant waits for it, and keeps retraining off until the barrier is past (R393). -/
theorem Die.eslisRelease_in_time {id : BitVec 8} {k : BitVec 24} {t0 : BitVec 64} (hopen : d.portOpen (portOf h) = true)
    (hd : Delivers h 0xB 0 [id.toNat, k.toNat, t0.toNat] []
      { d with link := { d.link with quietUntil := max d.link.quietUntil (t0.toNat + 1750) } } d1)
    (htime : d1.ftime ≤ t0.toNat + 250 * d1.dieId) :
    d.eslisRelease h id k t0 = { d1 with
      sched := { d1.sched with releases := d1.sched.releases ++ [⟨id.toNat, k.toNat, t0.toNat, h.poison⟩] } } := by
  simp only [Die.eslisRelease, hopen, if_true]
  rw [routed_delivers hd, if_pos htime]

end

/-! ### The obligation -/

/-- Settles O39: each message of an open port is forwarded or taken off it and has its own effect on what is left. -/
theorem fabricTimeCompletes : Obligations.FabricTimeCompletes := by
  unfold Obligations.FabricTimeCompletes
  refine ⟨?tick, ?timeSend, ?time, ?arrive, ?release⟩
  case tick =>
    exact fun _ _ h firing mask sense hsense hopen hsent hmask hsource hrun hsoon hn =>
      does_onDieIf (exec_is_eslisTick h firing mask sense) (senseLegal_of_length hsense)
        (Die.eslisTick_falls hopen hsent hmask hsource hrun hsoon hn)
  case timeSend =>
    exact fun _ hid hready hdue => does_onDieIf exec_is_eslisTimeSend rfl (Die.eslisTimeSend_due hid hready hdue)
  case time =>
    exact fun _ _ h value mask hopen hsent hmask =>
      does_onDieIf (exec_is_eslisTime h value mask) rfl (Die.eslisTime_member hopen hsent hmask)
  case arrive =>
    exact fun _ _ h id k mask hd => does_onDieIf (exec_is_eslisArrive h id k mask) rfl (routed_delivers hd)
  case release =>
    exact fun _ _ h id k t0 hopen hd htime =>
      does_onDieIf (exec_is_eslisRelease h id k t0) rfl (Die.eslisRelease_in_time hopen hd htime)

end Sys2Proof.Machine
end

section
/-! PROOFS. The Supervisor's commands: each is handled as the management plane comes to it, so what is left is the branch its
handler takes for legal arguments; a takeover goes on once every other command has been answered (R459 to R461, R465, R466). -/

namespace Sys2Proof.Machine

/-! ### A management command -/

/-- A command whose operation of the die is a management handler settles on what the handler makes of the command that is
handled. -/
theorem settles_mgmtIf {i : Instr} {ok : Bool} {f : Die → Die} {op : Nat} {g : Cmd → Die → Die} {d d0 d1 t : Die} {c : Cmd}
    (hx : ∀ s, exec i s = onDieIf ok f s) (hok : ok = true) (hf : f d = d0.mgmt op g) (h : Handles op d0 d1 c)
    (hg : g c d1 = t) : Settles i d t :=
  fun hh => does_onDieIf hx hok (hf.trans (mgmt_handles h hg hh))

/-! ### A takeover (R466) -/

section
variable {d : Die} {c : Cmd} {i : Image}

/-- A takeover under way goes on once it is the only command left, the Supervisor is up and an image is staged. -/
theorem Die.fwActivate_running {accepts : Bool} (hc : d.runningCmd 0x030B = some c) (honly : d.fw.cmds.length = 1)
    (hup : d.procDown 0 = false) (hother : d.fw.other = some i) :
    d.fwActivate accepts = d.attempt mgmtSlot fun d1 =>
      if accepts then d1.takeOver c i
      else Die.reply { d1.restartAll with fw := { d1.restartAll.fw with paused := false } } c stIllegal 1 0 [] := by
  simp [Die.fwActivate, hc, honly, hup, hother]

theorem Die.fwActivate_idle {accepts : Bool} (hc : d.runningCmd 0x030B = none) :
    d.fwActivate accepts = d.mgmt 0x030B fun c d1 =>
      if d1.update ≠ 1 then d1.reply c stIllegal 0xFE 0 [] else d1.toTick c [] := by
  simp only [Die.fwActivate, hc]

/-- The takeover's effect is that of the image's answer to the handoff record. -/
theorem settles_fwActivate_running {accepts : Bool} {t : Die} (hc : d.runningCmd 0x030B = some c)
    (honly : d.fw.cmds.length = 1) (hup : d.procDown 0 = false) (hother : d.fw.other = some i)
    (ht : (if accepts then (d.workOf mgmtSlot).takeOver c i
      else Die.reply { (d.workOf mgmtSlot).restartAll with
        fw := { (d.workOf mgmtSlot).restartAll.fw with paused := false } } c stIllegal 1 0 []) = t) :
    Settles (.fwActivate accepts) d t :=
  fun hh => does_onDieIf (exec_is_fwActivate accepts) rfl
    ((Die.fwActivate_running hc honly hup hother).trans (attempt_of_eq ht hh))

end

/-! ### The obligation -/

/-- Settles O46: every command is its handler's branch for legal arguments, and a takeover is its own attempt. -/
theorem supervisorCommandsComplete : Obligations.SupervisorCommandsComplete := by
  unfold Obligations.SupervisorCommandsComplete
  intro d d1 c
  refine ⟨?info, ?hello, ?start, ?stop, ?tickConfig, ?tenantConfig, ?window, ?teardown, ?watchdog, ?stage, ?activate,
    ?takeOver, ?declined, ?status⟩
  case info => exact fun h => settles_mgmtIf exec_is_fwInfo rfl rfl h rfl
  case hello =>
    intro h hmajor hstate
    exact settles_mgmtIf exec_is_drvHello rfl rfl h (by rw [if_pos hmajor, if_neg hstate])
  case start =>
    intro h hstate hhello htrained
    exact settles_mgmtIf exec_is_dataStart rfl rfl h (if_neg (by simp [hstate, hhello, htrained]))
  case stop =>
    intro h hstate hnone hhand
    exact does_onDieIf exec_is_dataStop rfl
      (congrArg Die.settleStop (mgmt_handles h (if_neg (by simp [hstate, hnone])) hhand))
  case tickConfig =>
    intro h hsource hctx hmin hmax hdie
    exact settles_mgmtIf exec_is_tickConfig rfl rfl h (if_neg (by omega))
  case tenantConfig =>
    intro h hlegal
    exact settles_mgmtIf exec_is_tenantConfig rfl rfl h (by rw [hlegal])
  case window =>
    intro h htenant hwindow hlegal
    exact settles_mgmtIf exec_is_tenantWindow rfl rfl h (if_pos ⟨htenant, hwindow, hlegal⟩)
  case teardown =>
    intro h htenant hvalid hdraining hfirst
    exact settles_mgmtIf exec_is_tenantTeardown rfl rfl h (if_neg (by simp [htenant, hvalid, hdraining, hfirst]))
  case watchdog =>
    intro h hproc hmin hmax
    exact settles_mgmtIf exec_is_watchdog rfl rfl h (if_neg (by omega))
  case stage =>
    rintro hits p h hactive hcommitting rfl hgood
    exact settles_mgmtIf (exec_is_fwStage hits) rfl rfl h
      (by simp only [hactive, hcommitting, hgood, or_self, Bool.false_eq_true, if_false, ite_not])
  case activate =>
    intro accepts hidle h hstaged
    exact settles_mgmtIf (exec_is_fwActivate accepts) rfl (Die.fwActivate_idle hidle) h (if_neg (not_not.mpr hstaged))
  case takeOver =>
    rintro i _ hc honly hup hother rfl
    exact settles_fwActivate_running hc honly hup hother (if_pos rfl)
  case declined =>
    rintro i _ hc honly hup hother rfl
    exact settles_fwActivate_running hc honly hup hother (if_neg Bool.false_ne_true)
  case status =>
    intro h hkept hslot
    exact settles_mgmtIf exec_is_fwStatus rfl rfl h
      (congrArg₂ (fun t slots => Die.reply t c stOk 0 0 ((1, d1.update) :: slots)) (if_neg hkept) (if_pos hslot))

end Sys2Proof.Machine
end

section
/-! PROOFS. Queues: the doorbells that a live page and the management context take, and the context commands that an idle
command port takes (R230, R232, R233, R235, R236). -/

namespace Sys2Proof.Machine

/-! ### Doorbells (R232, R233, R235, R236) -/

section
variable {d : Die} {i q lq n : Nat} {c : QCtx}

/-- A live page passes its doorbell on after the wake event. -/
theorem Die.doorbell_live {t : BitVec 6} {always : Bool} {f : Die → Die} (hlive : d.pageLive t.toNat = true) :
    d.doorbell (dbIndex (.page t)) always f = f (d.wakeEvent 0) := by
  have ht : dbIndex (.page t) < 64 := t.isLt
  rw [Die.doorbell, if_pos ht, dbIndex, if_pos hlive]

/-- QUE_MGMT_ADD answers in every power state. -/
theorem Die.doorbell_mgmt_always {f : Die → Die} : d.doorbell (dbIndex .mgmt) true f = f (d.wakeEvent 0) := rfl

theorem Die.doorbell_mgmt_awake {f : Die → Die} (hs : d.asleep = false) : d.doorbell (dbIndex .mgmt) false f = f d :=
  if_neg (ne_true_of_eq_false hs)

/-- A cached queue that takes doorbells adds the slots that its ring has room for. -/
theorem Die.addSlots_room (hc : d.cachedCtx q = some c) (hfree : c.state ≠ 0) (herr : c.state ≠ 3)
    (hroom : sub32 c.sqTail c.sqHead + n ≤ 2 ^ c.sqLog2) :
    d.addSlots i q n = d.setCtx q { c with sqTail := (c.sqTail + n) % 2 ^ 32 } := by
  simp only [Die.addSlots, hc, hfree, herr, or_self, if_false, if_neg (Nat.not_lt.mpr hroom)]

/-- A cached queue that takes doorbells releases records that are written and not yet released. -/
theorem Die.releaseRecords_written (hc : d.cachedCtx q = some c) (hfree : c.state ≠ 0) (herr : c.state ≠ 3)
    (hwritten : n ≤ sub32 c.cqTail c.cqHead) :
    d.releaseRecords i q n = d.setCtx q { c with cqHead := (c.cqHead + n) % 2 ^ 32 } := by
  simp only [Die.releaseRecords, hc, hfree, herr, or_self, if_false, if_neg (Nat.not_lt.mpr hwritten)]

/-- The die with its idle time started again, as a doorbell on a queue of its record starts it (R414). -/
def Die.restartIdle (d : Die) : Die := { d with sched := { d.sched with idleSince := d.refclk } }

theorem Die.cachedCtx_restartIdle (d : Die) (q : Nat) : d.restartIdle.cachedCtx q = d.cachedCtx q := rfl

/-- A doorbell on a cached queue acts at once. -/
theorem Die.ringBell_cached {rel : Bool} (hc : d.cachedCtx q = some c) :
    d.ringBell i q n rel = if rel then d.restartIdle.releaseRecords i q n else d.restartIdle.addSlots i q n := by
  rw [← d.cachedCtx_restartIdle] at hc
  rw [Die.ringBell, ← Die.restartIdle]
  simp only [hc]

theorem Die.dbAdd_room (hn : n ≠ 0) (hlq : lq < d.qcount i) (hc : d.cachedCtx (d.qbase i + lq) = some c) (hfree : c.state ≠ 0)
    (herr : c.state ≠ 3) (hroom : sub32 c.sqTail c.sqHead + n ≤ 2 ^ c.sqLog2) :
    d.dbAdd i lq n = d.restartIdle.setCtx (d.qbase i + lq) { c with sqTail := (c.sqTail + n) % 2 ^ 32 } := by
  rw [Die.dbAdd, if_neg hn, if_neg (Nat.not_le.mpr hlq), Die.ringBell_cached hc, if_neg Bool.false_ne_true,
    Die.addSlots_room (d.cachedCtx_restartIdle _ ▸ hc) hfree herr hroom]

theorem Die.dbRelease_written (hn : n ≠ 0) (hlq : lq < d.qcount i) (hc : d.cachedCtx (d.qbase i + lq) = some c)
    (hfree : c.state ≠ 0) (herr : c.state ≠ 3) (hwritten : n ≤ sub32 c.cqTail c.cqHead) :
    d.dbRelease i lq n = d.restartIdle.setCtx (d.qbase i + lq) { c with cqHead := (c.cqHead + n) % 2 ^ 32 } := by
  rw [Die.dbRelease, if_neg hn, if_neg (Nat.not_le.mpr hlq), Die.ringBell_cached hc, if_pos rfl,
    Die.releaseRecords_written (d.cachedCtx_restartIdle _ ▸ hc) hfree herr hwritten]

/-- The queue of a flush that is neither FREE nor in ERROR once its context is fetched is flushed. -/
theorem Die.dbFlush_taken (hlq : lq < d.qcount i) (hfree : ((d.fetchCtx (d.qbase i + lq)).ctxOf (d.qbase i + lq)).state ≠ 0)
    (herr : ((d.fetchCtx (d.qbase i + lq)).ctxOf (d.qbase i + lq)).state ≠ 3) :
    d.dbFlush i lq = (d.fetchCtx (d.qbase i + lq)).flushQueue (d.qbase i + lq) := by
  rw [Die.dbFlush, if_neg (Nat.not_le.mpr hlq), if_neg (not_or_intro hfree herr)]

/-- A flush ends the queue's descriptors CANCELLED and leaves one mark for the queue, at its SQ_TAIL. -/
theorem Die.flushQueue_eq (d : Die) (q : Nat) :
    d.flushQueue q = (d.sb.filter fun e => e.queue == q).foldl (fun acc e => acc.endEarly e stCancelled)
      { d with queues := { d.queues with
        flushMarks := (d.queues.flushMarks.filter fun (m : Nat × Nat) => m.1 != q) ++ [(q, (d.ctxOf q).sqTail)] } } := rfl

theorem Die.queueContextFetch_missing {q : BitVec 20} (h : d.cachedCtx q.toNat = none) :
    d.queueContextFetch q none = d.fetchCtx q.toNat := by
  simp only [Die.queueContextFetch, h, Option.isSome_none, Bool.false_eq_true, if_false]

end

/-! ### Context commands (R230, Table 10.4) -/

section
variable {d d1 : Die} {q : BitVec 20}

/-- A port that is not BUSY takes a context command. -/
theorem Die.queTake_idle {f : Die → Die} (h : d.queues.busy = none) : d.queTake f = f d := by
  rw [Die.queTake, h, Option.isSome_none, if_neg Bool.false_ne_true]

/-- CREATE of a FREE queue of some tenant, with legal fields and rings in that tenant's windows, stores the context with
its indices, SEQ, ERR and count of descriptors at 0. -/
theorem Die.queCreate_legal {d2 : Die} {i : Nat} {x : QCtx} (hb : d.queues.busy = none) (hfetch : d.fetchCtx q.toNat = d1)
    (hx : QCtx.ofBytes d1.ctxData = x) (hrecord : d1.queueRecord q.toNat = some i) (hfree : (d1.ctxOf q.toNat).state = 0)
    (hsoft : x.softLegal = true) (hring : x.ringLegal = true)
    (hsq : d1.ringOk (tenantCode i) x.sqBase (128 * 2 ^ x.sqLog2) false = true)
    (hcq : d1.ringOk (tenantCode i) x.cqBase (32 * 2 ^ x.cqLog2) true = true)
    (hstore : (d1.unmark q.toNat).storeCtx q.toNat
      { x with sqTail := 0, sqHead := 0, cqTail := 0, cqHead := 0, nextSeq := 0, err := 0, inFlight := 0 } = d2) :
    d.queCreate q = Die.queResult
      { d2 with queues := { d2.queues with lastWb := SMap.put (fun _ => 0) d2.queues.lastWb q.toNat 0 } } 0 := by
  subst hstore
  simp only [Die.queCreate, Die.queTake_idle hb, hfetch, hx, hrecord, hfree, hsoft, hring, hsq, hcq, ne_eq, not_true_eq_false,
    Bool.and_self, Bool.not_true, Bool.false_eq_true, if_false]

/-- MODIFY of an ACTIVE or PAUSED queue, or of one in ERROR for a cause it can leave, with legal fields. -/
theorem Die.queModify_legal {c x : QCtx} (hb : d.queues.busy = none) (hfetch : d.fetchCtx q.toNat = d1)
    (hc : d1.ctxOf q.toNat = c) (hx : QCtx.ofBytes d1.ctxData = x)
    (hstate : c.state = 1 ∨ c.state = 2 ∨ (c.state = 3 ∧ c.err ≠ 4)) (hsoft : x.softLegal = true) :
    d.queModify q = (d1.storeCtx q.toNat { c with
      headWb := x.headWb, quota := x.quota, vector := x.vector, flags := x.flags, state := x.state, err := 0 }).queResult 0 := by
  have hok : (c.state == 1 || c.state == 2 || (c.state == 3 && c.err != 4)) = true := by simpa [or_assoc] using hstate
  simp only [Die.queModify, Die.queTake_idle hb, hfetch, hc, hx, hok, hsoft, Bool.not_true, Bool.false_eq_true, if_false]

theorem Die.queRead_idle (hb : d.queues.busy = none) (hfetch : d.fetchCtx q.toNat = d1) :
    d.queRead q = d1.queAnswer 0 (some (d1.ctxOf q.toNat).toNat) := by
  simp only [Die.queRead, Die.queTake_idle hb, hfetch]

/-- DESTROY of a PAUSED queue, or of one in ERROR, with no descriptor in flight. -/
theorem Die.queDestroy_quiet (hb : d.queues.busy = none) (hfetch : d.fetchCtx q.toNat = d1)
    (hstate : (d1.ctxOf q.toNat).state = 2 ∨ (d1.ctxOf q.toNat).state = 3) (hnone : (d1.ctxOf q.toNat).inFlight = 0) :
    d.queDestroy q =
      (((d1.storeCtx q.toNat { d1.ctxOf q.toNat with state := 0 }).unmark q.toNat).forget (admitSlot q.toNat)).queResult 0 := by
  have hok : ¬ ((d1.ctxOf q.toNat).state ≠ 2 ∧ (d1.ctxOf q.toNat).state ≠ 3) := by omega
  simp only [Die.queDestroy, Die.queTake_idle hb, hfetch, if_neg hok, hnone, ne_eq, not_true_eq_false, if_false]

end

/-! ### The obligations -/

/-- Settles O16: a doorbell reaches its record and, on a queue that takes it, passes each check before its effect. -/
theorem doorbellsComplete : Obligations.DoorbellsComplete := by
  unfold Obligations.DoorbellsComplete
  refine ⟨?pageAdd, ?pageRelease, ?pageFlush, ?mgmtAdd, ?mgmtRelease, ?mgmtFlush, ?fetch⟩
  case pageAdd =>
    rintro d _ t v c hlive rfl hn hlq hc hfree herr hroom
    exact does_onDieIf (exec_is_dbAdd (.page t) v) rfl
      ((Die.doorbell_live hlive).trans (Die.dbAdd_room hn hlq hc hfree herr hroom))
  case pageRelease =>
    rintro d _ t v c hlive rfl hn hlq hc hfree herr hwritten
    exact does_onDieIf (exec_is_dbRelease (.page t) v) rfl
      ((Die.doorbell_live hlive).trans (Die.dbRelease_written hn hlq hc hfree herr hwritten))
  case pageFlush =>
    rintro d _ _ t v _ _ hlive rfl hlq rfl rfl rfl hfree herr
    exact does_onDieIf (exec_is_dbFlush (.page t) v) rfl
      ((Die.doorbell_live hlive).trans ((Die.dbFlush_taken hlq hfree herr).trans (Die.flushQueue_eq _ _)))
  case mgmtAdd =>
    rintro d _ v c rfl hn hlq hc hfree herr hroom
    exact does_onDieIf (exec_is_dbAdd .mgmt v) rfl
      (Die.doorbell_mgmt_always.trans (Die.dbAdd_room hn hlq hc hfree herr hroom))
  case mgmtRelease =>
    intro d v c hs hn hlq hc hfree herr hwritten
    exact does_onDieIf (exec_is_dbRelease .mgmt v) rfl
      ((Die.doorbell_mgmt_awake hs).trans (Die.dbRelease_written hn hlq hc hfree herr hwritten))
  case mgmtFlush =>
    rintro d _ v _ _ hs hlq rfl rfl rfl hfree herr
    exact does_onDieIf (exec_is_dbFlush .mgmt v) rfl
      ((Die.doorbell_mgmt_awake hs).trans ((Die.dbFlush_taken hlq hfree herr).trans (Die.flushQueue_eq _ _)))
  case fetch =>
    exact fun _ q h => does_onDieIf (exec_is_queueContextFetch q none) rfl (Die.queueContextFetch_missing h)

/-- Settles O17: an awake die whose port is not BUSY takes the command, which passes each check of Table 10.4 before its
effect. -/
theorem contextCommandsComplete : Obligations.ContextCommandsComplete := by
  unfold Obligations.ContextCommandsComplete
  refine ⟨?create, ?modify, ?read, ?destroy⟩
  case create =>
    exact fun _ _ _ q _ _ hs hb hfetch hx hrecord hfree hsoft hring hsq hcq hstore =>
      does_awake (exec_is_queCmdCreate q) rfl hs
        (Die.queCreate_legal hb hfetch hx hrecord hfree hsoft hring hsq hcq hstore)
  case modify =>
    exact fun _ _ q _ _ hs hb hfetch hc hx hstate hsoft =>
      does_awake (exec_is_queCmdModify q) rfl hs (Die.queModify_legal hb hfetch hc hx hstate hsoft)
  case read =>
    exact fun _ _ q hs hb hfetch => does_awake (exec_is_queCmdRead q) rfl hs (Die.queRead_idle hb hfetch)
  case destroy =>
    exact fun _ _ q hs hb hfetch hstate hnone =>
      does_awake (exec_is_queCmdDestroy q) rfl hs (Die.queDestroy_quiet hb hfetch hstate hnone)

end Sys2Proof.Machine
end

section
/-! PROOFS. Serving: the sampling, mask and emission descriptors run, a request's deadline is applied to the row or the waiting
list it stands in, and the host's abort is recorded (R243, R251, R255, R259, R264). -/

namespace Sys2Proof.Machine

/-! ### V.EMIT STEP (R255) -/

/-- A V.EMIT STEP that comes through its start while its step is open copies the RES row, and posts that step whatever its
status. -/
theorem Die.vEmitStep_named {d t : Die} {slot : BitVec 12} {h : Hits} {e : Entry}
    (hs : Starts 0x71 slot.toNat (Run.hit h) (fun e _ => veKind e.desc == 0)
      (fun e d0 => unitCount e.desc (streamOf e.desc 0) == 1 && d0.stepNamed e) d e)
    (hphase : e.phase = .ready) (hnamed : d.stepNamed e = true) (ht : emitStepBody e (d.checked e (Run.hit h)) = t)
    (hh : AtHand t) :
    d.vEmitStep slot h = t.spend.modEntry slot.toNat fun o => { o with lawful := o.lawful || o.began } := by
  subst ht
  have hrun := runOp_starts emitStepBody hs hh
  obtain ⟨⟨hentry, -⟩, -⟩ := hs
  obtain ⟨e0, h0, rfl⟩ := Option.map_eq_some_iff.mp hentry
  have hopen : e0.phase = .ready ∧ d.stepNamed e0 = true := ⟨hphase, hnamed⟩
  simp only [Die.vEmitStep, hrun, h0, if_pos hopen]

/-! ### Deadlines (R251) -/

/-- A request past its deadline whose row is in the step in progress is marked overdue. -/
theorem Die.deadlineRow_in_step {d : Die} {g closing r : Nat} {q : Req} (hrow : (d.grp g).at_ r = some q)
    (hover : q.expired closing = true) (hstep : (d.grp g).rowInStep r = true) :
    d.deadlineRow g closing r = d.setGrp g ((d.grp g).setRow r { q with overdue := true }) := by
  simp only [Die.deadlineRow, hrow, hover, hstep, Bool.not_true, Bool.false_eq_true, if_false, if_true]

/-- A request past its deadline whose row is in no step ends with DEADLINE and frees its row. -/
theorem Die.deadlineRow_out_of_step {d d1 : Die} {g closing r : Nat} {q : Req} (hrow : (d.grp g).at_ r = some q)
    (hover : q.expired closing = true) (hstep : (d.grp g).rowInStep r = false) (hend : d.endReq q g r stDeadline 5 = d1) :
    d.deadlineRow g closing r = d1.setGrp g ((d1.grp g).freeRow r) := by
  simp only [Die.deadlineRow, hrow, hover, hstep, hend, Bool.not_true, Bool.false_eq_true, if_false]

/-- A waiting request past its deadline ends with DEADLINE and leaves the waiting list. -/
theorem Die.deadlineWait_expired {d d1 : Die} {g closing : Nat} {q : Req} (hover : q.expired closing = true)
    (hend : d.endReq q g q.waitPlace stDeadline 5 = d1) :
    d.deadlineWait g closing q = d1.setGrp g { d1.grp g with wait := (d1.grp g).wait.filter fun o => o != q } := by
  simp only [Die.deadlineWait, hover, hend, Bool.not_true, Bool.false_eq_true, if_false]

section
variable {d t : Die} {g : BitVec 4} {tenant : BitVec 7} {id : Word}

theorem Die.grp_workOf (d : Die) (who g : Nat) : (d.workOf who).grp g = d.grp g := rfl

/-- The deadline of a request with a row is that row's. -/
theorem settles_servingDeadline_row {r : Nat} {q : Req} (hfiring : d.firing ≠ 0)
    (hfind : ((d.grp g.toNat).rows.find? fun p => p.2.tenant == tenant.toNat && p.2.id == id.toNat) = some (r, q))
    (ht : (d.workOf serveSlot).deadlineRow g.toNat d.sched.closed r = t) : Settles (.servingDeadline g tenant id) d t := by
  refine fun hh => does_onDieIf (exec_is_servingDeadline g tenant id) rfl ?_
  rw [Die.servingDeadline, if_neg hfiring]
  refine attempt_of_eq ?_ hh
  simp only [Die.grp_workOf, hfind, ht]

/-- The deadline of a request with no row is that of its place in the waiting list. -/
theorem settles_servingDeadline_wait {q : Req} (hfiring : d.firing ≠ 0)
    (hnone : ((d.grp g.toNat).rows.find? fun p => p.2.tenant == tenant.toNat && p.2.id == id.toNat) = none)
    (hfind : ((d.grp g.toNat).wait.find? fun q => q.tenant == tenant.toNat && q.id == id.toNat) = some q)
    (ht : (d.workOf serveSlot).deadlineWait g.toNat d.sched.closed q = t) : Settles (.servingDeadline g tenant id) d t := by
  refine fun hh => does_onDieIf (exec_is_servingDeadline g tenant id) rfl ?_
  rw [Die.servingDeadline, if_neg hfiring]
  refine attempt_of_eq ?_ hh
  simp only [Die.grp_workOf, hnone, hfind, ht]

end

/-! ### The obligation -/

/-- Settles O28: each serving descriptor is a start under its opcode and kind; a deadline finds the row or the waiting place of
its request; an awake die takes the abort. -/
theorem servingCompletes : Obligations.ServingCompletes := by
  unfold Obligations.ServingCompletes
  refine ⟨?sample, ?maskstep, ?step, ?submit, ?cancel, ?inStep, ?outOfStep, ?waiting, ?abort⟩
  case sample => exact fun _ slot run _ => settles_runOpIf (exec_is_vSample slot run) rfl fun _ => rfl
  case maskstep => exact fun _ slot run _ => settles_runOpIf (exec_is_vMaskstep slot run) rfl fun _ => rfl
  case step =>
    exact fun _ _ slot h _ hs hphase hnamed ht hh => does_onDieIf (exec_is_vEmitStep slot h) rfl
      (Die.vEmitStep_named hs hphase hnamed ht hh)
  case submit => exact fun _ slot h _ => settles_runOpIf (exec_is_vEmitSubmit slot h) rfl fun _ => rfl
  case cancel =>
    exact fun _ slot _ => settles_runOpIf (body := fun e d0 => d0.parkEntry e.slot) (exec_is_vEmitCancel slot) rfl fun _ => rfl
  case inStep =>
    rintro d _ g t id r q hfiring hfind hrow hover hstep rfl
    exact settles_servingDeadline_row hfiring hfind (Die.deadlineRow_in_step hrow hover hstep)
  case outOfStep =>
    exact fun _ _ _ _ _ _ _ hfiring hfind hrow hover hstep hend =>
      settles_servingDeadline_row hfiring hfind (Die.deadlineRow_out_of_step hrow hover hstep hend)
  case waiting =>
    exact fun _ _ _ _ _ _ hfiring hnone hfind hover hend =>
      settles_servingDeadline_wait hfiring hnone hfind (Die.deadlineWait_expired hover hend)
  case abort => exact fun _ g hs => does_awake (exec_is_servingAbort g true) rfl hs rfl

end Sys2Proof.Machine
end

section
/-! PROOFS. The step and the queue: a step runs the command at the front, a carried command answers in every state, only the
commands of the pins change a pin, and a die that does not run hears nothing else (R412, R486, R497, R498, R507, R508, log
entry 4). -/

namespace Sys2Proof.Machine

/-! ### Commands to the die -/

/-- A command that does not act on the pins changes the die alone. -/
theorem exec_next_die {c : Instr} {s t : State} (hc : actsOnPins c = false) (ht : exec c s = .next t) :
    ∃ d, t = { s with die := d } := by
  obtain ⟨f, hf⟩ := exec_shape c hc s
  rw [hf] at ht
  cases hw : wellFormed c with
  | false =>
    rw [hw, onDieIf_false] at ht
    cases ht
  | true =>
    obtain ⟨d, hd⟩ := onDie_next f s
    rw [hw, onDieIf_true, hd] at ht
    cases ht
    exact ⟨d, rfl⟩

/-- A die that does not run hears no command that is carried and does not act on the pins. -/
theorem exec_of_dead {c : Instr} {s : State} (hdead : s.live = false) (hw : wellFormed c = true) (hc : actsOnPins c = false) :
    exec c s = .next s := by
  obtain ⟨f, hf⟩ := exec_shape c hc s
  rw [hf, hw, onDieIf_true, onDie_dead hdead]

/-! ### The commands of the pins -/

/-- What a command of the pins does to the block. -/
def State.pinAct (s : State) (c : Instr) : State :=
  match c with
  | .porAssert => s.porAssert
  | .porRelease straps image => s.porRelease straps image
  | .powerLoss => s.powerLoss
  | .powerUp => s.powerUp
  | .coneTrip site => s.coneTrip site
  | .jtagTapReset => s.jtagTapReset
  | .jtagInstruction code => s.jtagInstruction code
  | _ => s

theorem actsOnPins_cases {c : Instr} (h : actsOnPins c = true) :
    c = .porAssert ∨ (∃ straps image, c = .porRelease straps image) ∨ c = .powerLoss ∨ c = .powerUp ∨
      (∃ site, c = .coneTrip site) ∨ c = .jtagTapReset ∨ ∃ code, c = .jtagInstruction code := by
  unfold actsOnPins at h
  split at h
  case h_8 => exact absurd h Bool.false_ne_true
  all_goals simp

/-- Every command of the pins is an act on the block, under its well-formedness. -/
theorem exec_pinAct {c : Instr} (h : actsOnPins c = true) (s : State) :
    exec c s = if wellFormed c = true then .next (s.pinAct c) else .fault .illFormed := by
  obtain rfl | ⟨_, _, rfl⟩ | rfl | rfl | ⟨_, rfl⟩ | rfl | ⟨_, rfl⟩ := actsOnPins_cases h <;> rfl

theorem State.pending_porAssert (s : State) : s.porAssert.pending = s.pending := by
  unfold State.porAssert
  split <;> rfl

theorem State.pending_porRelease (s : State) (straps : Straps) (image : FlashImage) :
    (s.porRelease straps image).pending = s.pending := by
  unfold State.porRelease
  split <;> rfl

theorem State.pending_powerLoss (s : State) : s.powerLoss.pending = s.pending := by
  unfold State.powerLoss
  split <;> rfl

theorem State.pending_powerUp (s : State) : s.powerUp.pending = s.pending := by
  unfold State.powerUp
  split <;> rfl

theorem State.pending_coneTrip (s : State) (site : BitVec 5) : (s.coneTrip site).pending = s.pending := by
  unfold State.coneTrip
  split
  · rfl
  · split <;> rfl

theorem State.pending_setIr (s : State) (code : BitVec 8) : (s.setIr code).pending = s.pending := by
  unfold State.setIr
  split <;> rfl

/-- An act on the pins leaves the queue alone. -/
theorem State.pending_pinAct (s : State) {c : Instr} (h : actsOnPins c = true) : (s.pinAct c).pending = s.pending := by
  obtain rfl | ⟨straps, image, rfl⟩ | rfl | rfl | ⟨site, rfl⟩ | rfl | ⟨code, rfl⟩ := actsOnPins_cases h
  · exact s.pending_porAssert
  · exact s.pending_porRelease straps image
  · exact s.pending_powerLoss
  · exact s.pending_powerUp
  · exact s.pending_coneTrip site
  · exact s.pending_setIr 0x01#8
  · exact s.pending_setIr code

/-! ### What a command answers -/

theorem exec_answers {c : Instr} (h : wellFormed c = true) (s : State) : ∃ t, exec c s = .next t := by
  cases hc : actsOnPins c with
  | true => exact ⟨_, (exec_pinAct hc s).trans (if_pos h)⟩
  | false =>
    obtain ⟨f, hf⟩ := exec_shape c hc s
    obtain ⟨d, hd⟩ := onDie_next f s
    exact ⟨_, by rw [hf, h, onDieIf_true, hd]⟩

theorem exec_faults {c : Instr} (h : wellFormed c = false) (s : State) : exec c s = .fault .illFormed := by
  cases hc : actsOnPins c with
  | true => exact (exec_pinAct hc s).trans (if_neg (ne_true_of_eq_false h))
  | false =>
    obtain ⟨f, hf⟩ := exec_shape c hc s
    rw [hf, h, onDieIf_false]

theorem exec_next_pinAct {c : Instr} {s t : State} (hc : actsOnPins c = true) (ht : exec c s = .next t) : t = s.pinAct c := by
  rw [exec_pinAct hc] at ht
  split_ifs at ht
  exact (Host.Outcome.next.inj ht).symm

theorem exec_pending {c : Instr} {s t : State} (ht : exec c s = .next t) : t.pending = s.pending := by
  cases hc : actsOnPins c with
  | true => rw [exec_next_pinAct hc ht, State.pending_pinAct s hc]
  | false =>
    obtain ⟨d, rfl⟩ := exec_next_die hc ht
    rfl

/-! ### Steps of a legal queue -/

theorem step_of_pending_cons {s : State} {c : Instr} {rest : List Instr} (h : s.pending = c :: rest) :
    step s = exec c { s with pending := rest } := by
  simp only [step, h]

theorem State.pending_pass (s : State) : s.pass.pending = s.pending := by
  unfold State.pass
  split <;> rfl

/-- A step of a legal queue answers, and leaves the queue without its front. -/
theorem step_of_queueLegal {s : State} (h : s.queueLegal = true) : ∃ t, step s = .next t ∧ t.pending = s.pending.tail := by
  cases hp : s.pending with
  | nil => exact ⟨s.pass, step_of_pending_nil hp, (s.pending_pass).trans hp⟩
  | cons c rest =>
    have hc : wellFormed c = true := by
      rw [State.queueLegal, hp, List.all_cons, Bool.and_eq_true] at h
      exact h.1
    obtain ⟨t, ht⟩ := exec_answers hc { s with pending := rest }
    exact ⟨t, (step_of_pending_cons hp).trans ht, exec_pending ht⟩

theorem State.queueLegal_of_tail {s t : State} (h : s.queueLegal = true) (ht : t.pending = s.pending.tail) :
    t.queueLegal = true := by
  rw [State.queueLegal, List.all_eq_true] at h ⊢
  exact fun c hc => h c (List.mem_of_mem_tail (ht ▸ hc))

theorem run_succ_of_step {s t : State} (k : Nat) (h : step s = .next t) :
    Host.Core.run Sys2Proof.core (k + 1) s = Host.Core.run Sys2Proof.core k t := by
  have hs : Sys2Proof.core.step s = .next t := h
  simp only [Host.Core.run, hs]

/-! ### The obligations -/

/-- Settles O4, by induction on the number of steps: each takes the front of a legal queue. -/
theorem legalQueueRuns : Obligations.LegalQueueRuns := by
  unfold Obligations.LegalQueueRuns
  intro k
  induction k with
  | zero => exact fun s h => ⟨s, rfl, rfl, h⟩
  | succ k ih =>
    intro s h
    obtain ⟨u, hu, hpending⟩ := step_of_queueLegal h
    obtain ⟨t, ht, hdrop, hlegal⟩ := ih u (State.queueLegal_of_tail h hpending)
    refine ⟨t, (run_succ_of_step k hu).trans ht, ?_, hlegal⟩
    rw [hdrop, hpending, List.drop_tail]

/-- Settles O1. -/
theorem stepTakesFront : Obligations.StepTakesFront := by
  unfold Obligations.StepTakesFront
  exact fun _ _ _ => step_of_pending_cons rfl

/-- Settles O3: a command of the pins and an operation of the die both answer when the command is carried, and fault when it
is not. -/
theorem carriedCommandsAnswer : Obligations.CarriedCommandsAnswer := by
  unfold Obligations.CarriedCommandsAnswer
  exact fun _ s => ⟨fun h => exec_answers h s, fun h => exec_faults h s⟩

/-- Settles O7: a command that does not act on the pins is an operation of the die. -/
theorem pinsKeptByDieCommands : Obligations.PinsKeptByDieCommands := by
  unfold Obligations.PinsKeptByDieCommands
  refine fun c s t ht => ⟨exec_pending ht, fun hc => ?_⟩
  obtain ⟨d, rfl⟩ := exec_next_die hc ht
  exact ⟨rfl, rfl, rfl, rfl⟩

/-- Settles O8: such a command is an operation of the die, which only a running die takes. -/
theorem deadDieHearsNothing : Obligations.DeadDieHearsNothing := by
  unfold Obligations.DeadDieHearsNothing
  exact fun _ _ hdead hw hc => exec_of_dead hdead hw hc

end Sys2Proof.Machine
end

section
/-! PROOFS. Power, por_n, the Cone and the test access port: what each does to the block, what of the die a reset leaves, and
the invariant of reset, which every step keeps (R412, R423, R448, R488, R491, R497 to R500, R507, R508). -/

namespace Sys2Proof.Machine

/-! ### The die in reset (R488, R491) -/

/-- Every part of the die stands at its reset value but what outlives reset. -/
def Die.InReset (d : Die) : Prop :=
  d = { (Die.initial d.nand d.repairLog d.nv).setReg Reg.DMP_TRIP (d.reg Reg.DMP_TRIP) with
    dmc := { Dmc.fresh with lines := d.dmc.lines, keyCtr := d.dmc.keyCtr }
    freeCtr := d.freeCtr
    out := d.out }

theorem State.heldInReset_of_high {s : State} (hp : s.porN = true) (hr : s.rails = true) : s.HeldInReset :=
  ⟨fun _ => hr, fun _ => hr, fun hlow => absurd (hp.symm.trans hlow) Bool.true_eq_false.mp⟩

theorem State.heldInReset_of_low {s : State} (hp : s.porN = false) (ht : s.tripped = true → s.rails = true)
    (hd : s.die.InReset) : s.HeldInReset :=
  ⟨fun hhigh => absurd (hhigh.symm.trans hp) Bool.true_eq_false.mp, ht, fun _ => hd⟩

/-- Storing the reset value of a register in a die at its reset values changes nothing. -/
theorem put_resetOf_nil (a : Nat) : SMap.put resetOf [] a (resetOf a) = [] := by simp [SMap.put]

theorem inReset_resetAll_setReg (d : Die) (w : Word) : (d.resetAll.setReg Reg.DMP_TRIP w).InReset := by
  unfold Die.InReset
  rw [Die.reg_setReg_same]
  rfl

/-- The die in reset stays so whatever of the NAND and of the LOCAL lines is kept. -/
theorem inReset_resetAll (d : Die) (nand : Nand) (lines : SMap LineCell) :
    Die.InReset { d.resetAll with nand := nand, dmc := { d.resetAll.dmc with lines := lines } } := by
  have hreg : Die.reg { d.resetAll with nand := nand, dmc := { d.resetAll.dmc with lines := lines } } Reg.DMP_TRIP =
      resetOf Reg.DMP_TRIP := rfl
  unfold Die.InReset
  rw [hreg]
  unfold Die.setReg
  simp only [Die.initial, put_resetOf_nil]
  rfl

theorem State.live_of_high {s : State} (hl : s.live = true) : s.porN = true ∧ s.rails = true := by
  simp only [State.live, Bool.and_eq_true] at hl
  exact hl.1

theorem State.live_of_low {s : State} (hp : s.porN = false) : s.live = false := by
  rw [State.live, hp, Bool.false_and, Bool.false_and]

/-! ### What the acts on the pins do -/

section
variable {s : State}

theorem State.porAssert_high (hp : s.porN = true) (hr : s.rails = true) :
    s.porAssert = { s with
      porN := false, tripped := false, die := s.die.resetAll.setReg Reg.DMP_TRIP (s.die.reg Reg.DMP_TRIP) } := by
  rw [State.porAssert, hp, hr, Bool.and_self, if_pos rfl]

theorem State.porRelease_low {straps : Straps} {image : FlashImage} {d : Die} (hp : s.porN = false) (hr : s.rails = true)
    (hd : ((s.die.sampleStraps straps).bootSaggar straps.test).bootFrom straps.boot.toNat image = d) :
    s.porRelease straps image = { s with
      porN := true, tripped := false, die := d.setHalted (s.jtagIr == 0x10#8 && d.testMode) } := by
  subst hd
  rw [State.porRelease, hp, hr, Bool.not_false, Bool.and_self, if_pos rfl]
  rfl

theorem State.powerLoss_up (hr : s.rails = true) :
    s.powerLoss = { s with
      rails := false, porN := false, tripped := false,
      die := { s.die.resetAll with
        nand := { s.die.nand with orderly := s.die.nand.orderly && !s.porN, place := [], mapCache := [] },
        dmc := { s.die.resetAll.dmc with lines := [] } } } := by
  rw [State.powerLoss, if_pos hr]
  rfl

theorem State.powerUp_down (hr : s.rails = false) :
    s.powerUp = { s with rails := true, porN := false, tripped := false, jtagIr := 0x01#8 } := by
  rw [State.powerUp, hr, if_neg Bool.false_ne_true]

theorem State.coneTrip_high (site : BitVec 5) (hr : s.rails = true) (ht : s.tripped = false) (hp : s.porN = true) :
    s.coneTrip site = { s with
      tripped := true,
      die := { s.die.setReg Reg.DMP_TRIP (BitVec.ofNat 32 (1 + 2 * site.toNat)) with
        dmc := { s.die.dmc with lines := [], keys := [] } } } := by
  simp only [State.coneTrip, hr, ht, hp, Bool.not_true, Bool.or_self, Bool.false_eq_true, if_false]
  rfl

theorem State.coneTrip_low (site : BitVec 5) (hr : s.rails = true) (ht : s.tripped = false) (hp : s.porN = false) :
    s.coneTrip site = { s with tripped := true } := by
  simp only [State.coneTrip, hr, ht, hp, Bool.not_true, Bool.not_false, Bool.or_self, Bool.false_eq_true, if_false, if_true]

theorem State.setIr_up (code : BitVec 8) (hr : s.rails = true) :
    s.setIr code = { s with
      jtagIr := code, die := if s.live then s.die.setHalted (code == 0x10#8 && s.die.testMode) else s.die } := by
  rw [State.setIr, if_pos hr]
  rfl

/-! ### Each act keeps the invariant -/

theorem State.heldInReset_porAssert (h : s.HeldInReset) :
    s.porAssert.HeldInReset := by
  unfold State.porAssert
  split
  · exact State.heldInReset_of_low rfl (fun ht => absurd ht Bool.false_ne_true) (inReset_resetAll_setReg _ _)
  · exact h

theorem State.heldInReset_porRelease (straps : Straps) (image : FlashImage) (h : s.HeldInReset) :
    (s.porRelease straps image).HeldInReset := by
  unfold State.porRelease
  split
  case isTrue hup =>
    rw [Bool.and_eq_true] at hup
    exact State.heldInReset_of_high rfl hup.1
  case isFalse => exact h

theorem State.heldInReset_powerLoss (h : s.HeldInReset) :
    s.powerLoss.HeldInReset := by
  unfold State.powerLoss
  split
  · exact State.heldInReset_of_low rfl (fun ht => absurd ht Bool.false_ne_true) (inReset_resetAll _ _ _)
  · exact h

/-- The rails come up around a die that was already in reset: por_n was low while they were down. -/
theorem State.heldInReset_powerUp (h : s.HeldInReset) :
    s.powerUp.HeldInReset := by
  have ⟨hpor, _, hdie⟩ := h
  unfold State.powerUp
  split
  case isTrue => exact h
  case isFalse hdown =>
    have hlow : s.porN = false := Bool.eq_false_iff.mpr fun hhigh => hdown (hpor hhigh)
    exact State.heldInReset_of_low rfl (fun _ => rfl) (hdie hlow)

theorem State.heldInReset_coneTrip (site : BitVec 5) (h : s.HeldInReset) :
    (s.coneTrip site).HeldInReset := by
  have ⟨hpor, _, hdie⟩ := h
  unfold State.coneTrip
  split
  case isTrue => exact h
  case isFalse hup =>
    simp only [Bool.or_eq_true, Bool.not_eq_true', not_or, Bool.not_eq_false] at hup
    split
    case isTrue hlow =>
      rw [Bool.not_eq_true'] at hlow
      exact State.heldInReset_of_low hlow (fun _ => hup.1) (hdie hlow)
    case isFalse hhigh =>
      rw [Bool.not_eq_true', Bool.not_eq_false] at hhigh
      exact State.heldInReset_of_high hhigh hup.1

theorem State.heldInReset_setIr (code : BitVec 8) (h : s.HeldInReset) :
    (s.setIr code).HeldInReset := by
  have ⟨_, htrip, hdie⟩ := h
  unfold State.setIr
  split
  case isTrue hr =>
    rcases Bool.eq_false_or_eq_true s.porN with hp | hp
    · exact State.heldInReset_of_high hp hr
    · rw [State.live_of_low hp]
      exact State.heldInReset_of_low hp htrip (hdie hp)
  case isFalse => exact h

theorem State.heldInReset_pinAct {c : Instr} (hc : actsOnPins c = true) (h : s.HeldInReset) :
    (s.pinAct c).HeldInReset := by
  obtain rfl | ⟨straps, image, rfl⟩ | rfl | rfl | ⟨site, rfl⟩ | rfl | ⟨code, rfl⟩ := actsOnPins_cases hc
  · exact s.heldInReset_porAssert h
  · exact s.heldInReset_porRelease straps image h
  · exact s.heldInReset_powerLoss h
  · exact s.heldInReset_powerUp h
  · exact s.heldInReset_coneTrip site h
  · exact s.heldInReset_setIr 0x01#8 h
  · exact s.heldInReset_setIr code h

end

/-! ### Every step keeps the invariant -/

/-- A die that hears a command runs, so that its por_n is high; any other command leaves the block as it was. -/
theorem exec_keeps_heldInReset {c : Instr} {s t : State} (h : s.HeldInReset) (ht : exec c s = .next t) : t.HeldInReset := by
  cases hc : actsOnPins c with
  | true =>
    rw [exec_next_pinAct hc ht]
    exact s.heldInReset_pinAct hc h
  | false =>
    obtain ⟨d, rfl⟩ := exec_next_die hc ht
    cases hl : s.live with
    | true => exact State.heldInReset_of_high (s.live_of_high hl).1 (s.live_of_high hl).2
    | false =>
      have hw : wellFormed c = true := by
        by_contra hw
        rw [exec_faults (Bool.eq_false_iff.mpr hw)] at ht
        cases ht
      rw [exec_of_dead hl hw hc] at ht
      exact Host.Outcome.next.inj ht ▸ h

theorem State.heldInReset_pass {s : State} (h : s.HeldInReset) : s.pass.HeldInReset := by
  cases hl : s.live with
  | true =>
    rw [State.pass_live hl]
    exact State.heldInReset_of_high (s.live_of_high hl).1 (s.live_of_high hl).2
  | false =>
    rw [State.pass_dead hl]
    exact h

/-- Settles O6: an idle cycle keeps the invariant, and so does the command at the front, which finds it in the block without
that command. -/
theorem heldInResetKept : Obligations.HeldInResetKept := by
  unfold Obligations.HeldInResetKept
  intro s t h ht
  cases hp : s.pending with
  | nil =>
    rw [step_of_pending_nil hp] at ht
    exact Host.Outcome.next.inj ht ▸ State.heldInReset_pass h
  | cons c rest =>
    rw [step_of_pending_cons hp] at ht
    exact exec_keeps_heldInReset (s := { s with pending := rest }) h ht

/-- Settles O5. -/
theorem resetIsHeld : Obligations.ResetIsHeld := by
  unfold Obligations.ResetIsHeld
  refine State.heldInReset_of_low rfl (fun ht => absurd ht Bool.false_ne_true) ?_
  exact inReset_resetAll State.reset.die Nand.unformatted []

/-! ### What POR_ASSERT leaves of a die -/

/-- Settles O9: the die in reset is made of what outlives reset alone. -/
theorem porAssertForgets : Obligations.PorAssertForgets := by
  unfold Obligations.PorAssertForgets
  intro s t hs ht hpending hir hnand hlog hnv hlines hctr hfree hout htrip
  obtain ⟨hsp, hsr⟩ := s.live_of_high hs
  obtain ⟨htp, htr⟩ := t.live_of_high ht
  have hreset : s.die.resetAll = t.die.resetAll := by
    simp only [Die.resetAll, hnand, hlog, hnv, hlines, hctr, hfree, hout]
  have hact : s.porAssert = t.porAssert := by
    rw [State.porAssert_high hsp hsr, State.porAssert_high htp htr, hreset, htrip, hpending, hir, hsr, htr]
  exact congrArg Host.Outcome.next hact

/-! ### The obligations of completion -/

/-- Settles O11: each act takes its one branch in the state of the pins named. -/
theorem powerAndPortComplete : Obligations.PowerAndPortComplete := by
  unfold Obligations.PowerAndPortComplete
  refine ⟨?porAssert, ?porRelease, ?powerLoss, ?powerUp, ?tripHigh, ?tripLow, ?tapReset, ?instruction⟩
  case porAssert => exact fun _ hp hr => congrArg Host.Outcome.next (State.porAssert_high hp hr)
  case porRelease => exact fun _ _ _ _ hp hr hd => congrArg Host.Outcome.next (State.porRelease_low hp hr hd)
  case powerLoss => exact fun _ hr => congrArg Host.Outcome.next (State.powerLoss_up hr)
  case powerUp => exact fun _ hr => congrArg Host.Outcome.next (State.powerUp_down hr)
  case tripHigh =>
    exact fun s site hs hr ht hp => (exec_pinAct (c := .coneTrip site) rfl s).trans
      ((if_pos (decide_eq_true hs)).trans (congrArg Host.Outcome.next (State.coneTrip_high site hr ht hp)))
  case tripLow =>
    exact fun s site hs hr ht hp => (exec_pinAct (c := .coneTrip site) rfl s).trans
      ((if_pos (decide_eq_true hs)).trans (congrArg Host.Outcome.next (State.coneTrip_low site hr ht hp)))
  case tapReset => exact fun _ hr => congrArg Host.Outcome.next (State.setIr_up 0x01#8 hr)
  case instruction => exact fun _ code hr => congrArg Host.Outcome.next (State.setIr_up code hr)

end Sys2Proof.Machine
end

section
/-! PROOFS. Host accesses at their edges: widths and alignments that are refused, words no table names, writes a sleeping die
does not take, and the pairs of _LO and _HI words (R6, R419, R484 to R487, R490). -/

namespace Sys2Proof.Machine

/-! ### A refusal (R484, R485, R490) -/

/-- What GLB_ERR_ADDR keeps of a refused access. -/
def refusedAddr (bar2 write : Bool) (off : Nat) : Word :=
  BitVec.ofNat 32 ((if write then 2 ^ 31 else 0) + (if bar2 then 2 ^ 30 else 0) + off % 2 ^ 26)

/-- A refusal writes the three words of its record: the flag, the address and the count. -/
theorem Die.reg_refuse (d : Die) (bar2 write : Bool) (off bit a : Nat) :
    (d.refuse bar2 write off bit).reg a =
      if a = Reg.GLB_ERR then d.reg Reg.GLB_ERR ||| Word.oneBit bit
      else if a = Reg.GLB_ERR_COUNT then satAdd32 (d.reg Reg.GLB_ERR_COUNT) 1
      else if a = Reg.GLB_ERR_ADDR then refusedAddr bar2 write off
      else d.reg a := by
  have hsrc : srcOf Reg.GLB_ERR = none := by decide
  simp only [Die.refuse, Die.err, hsrc, Die.count, Die.reg_setReg, refusedAddr]
  split_ifs <;> simp_all

theorem refusedAddr_offset (bar2 write : Bool) {off : Nat} (h : off < 2 ^ 26) : (refusedAddr bar2 write off).f 25 0 = off := by
  cases bar2 <;> cases write <;> simp [refusedAddr, Word.f, fld] <;> omega

theorem refusedAddr_write (bar2 write : Bool) (off : Nat) : (refusedAddr bar2 write off).b 31 = write := by
  rw [refusedAddr, Word.b, BitVec.getLsbD_ofNat, Nat.testBit_eq_decide_div_mod_eq]
  cases bar2 <;> cases write <;> simp <;> omega

theorem refusedAddr_bar (bar2 write : Bool) (off : Nat) : (refusedAddr bar2 write off).b 30 = bar2 := by
  rw [refusedAddr, Word.b, BitVec.getLsbD_ofNat, Nat.testBit_eq_decide_div_mod_eq]
  cases bar2 <;> cases write <;> simp <;> omega

/-! ### Widths (R484) -/

theorem accessLegal_eq_false {off : BitVec 26} {size : BitVec 4} (h : (size ≠ 4#4 ∧ size ≠ 8#4) ∨ off.toNat % 4 ≠ 0) :
    accessLegal off.toNat size.toNat = false := by
  have h4 : size ≠ 4#4 → size.toNat ≠ 4 := fun hs he => hs (BitVec.eq_of_toNat_eq he)
  have h8 : size ≠ 8#4 → size.toNat ≠ 8 := fun hs he => hs (BitVec.eq_of_toNat_eq he)
  rcases h with ⟨hs4, hs8⟩ | hoff
  · simp [accessLegal, h4 hs4, h8 hs8]
  · simp [accessLegal, hoff]

theorem Die.hostWrite_refused (d : Die) (bar2 : Bool) {off size : Nat} (data : BitVec 64) (h : accessLegal off size = false) :
    d.hostWrite bar2 off size data = d.refuse bar2 true off Bit.GLB_ERR_WIDTH := by
  rw [Die.hostWrite, h, if_neg Bool.false_ne_true]

theorem Die.hostRead_refused (d : Die) (bar2 : Bool) {off size : Nat} (h : accessLegal off size = false) :
    d.hostRead bar2 off size = { d.refuse bar2 false off Bit.GLB_ERR_WIDTH with bus := 0#64 } := by
  rw [Die.hostRead, h, if_neg Bool.false_ne_true]

theorem bus_of_words (lo hi : Word) : BitVec.ofNat 64 (lo.toNat + hi.toNat * 2 ^ 32) = hi ++ lo := by
  apply BitVec.eq_of_toNat_eq
  rw [BitVec.toNat_append, Nat.shiftLeft_eq, Nat.mul_comm, ← Nat.two_pow_add_eq_or_of_lt lo.isLt, BitVec.toNat_ofNat]
  omega

/-- An 8-byte read is its two words, the lower address first and in the low half. -/
theorem Die.hostRead_eight {d d1 d2 : Die} {bar2 : Bool} {off : Nat} {lo hi : Word} (h : off % 4 = 0)
    (hlo : d.readOne bar2 off = (lo, d1)) (hhi : d1.readOne bar2 (off + 4) = (hi, d2)) :
    d.hostRead bar2 off 8 = { d2 with bus := hi ++ lo } := by
  simp only [Die.hostRead, accessLegal_eight h, if_true, hlo, hhi, bus_of_words]

/-- Settles O52: a legal access is its words in order, any other is refused, and a refusal writes its record alone. -/
theorem accessWidths : Obligations.AccessWidths := by
  unfold Obligations.AccessWidths
  refine ⟨?refused, ?write8, ?read8, ?record⟩
  case refused =>
    intro d bar2 off size data h
    have hlegal := accessLegal_eq_false h
    exact ⟨does_registerWrite (d.hostWrite_refused bar2 data hlegal), does_counterReadClear (d.hostRead_refused bar2 hlegal)⟩
  case write8 =>
    rintro d _ _ bar2 off data h4 rfl rfl
    exact does_registerWrite (d.hostWrite_eight bar2 data h4)
  case read8 => exact fun _ _ _ _ _ _ _ h4 hlo hhi => does_counterReadClear (Die.hostRead_eight h4 hlo hhi)
  case record =>
    intro d bar2 write off bit hbit hoff
    refine ⟨?_, ?_, ?_, ?_, ?_, ?_⟩
    · rw [Die.reg_refuse, if_pos rfl, b_or_oneBit _ hbit, decide_eq_true rfl, Bool.or_true]
    · rw [Die.reg_refuse, if_neg (by decide), if_neg (by decide), if_pos rfl, refusedAddr_offset _ _ hoff]
    · rw [Die.reg_refuse, if_neg (by decide), if_neg (by decide), if_pos rfl, refusedAddr_write]
    · rw [Die.reg_refuse, if_neg (by decide), if_neg (by decide), if_pos rfl, refusedAddr_bar]
    · rw [Die.reg_refuse, if_neg (by decide), if_pos rfl]
    · intro a hflag haddr hcount
      rw [Die.reg_refuse, if_neg hflag, if_neg hcount, if_neg haddr]

/-! ### Unnamed words (R485) -/

/-- No block of BAR0 lies above RAS (Table 21.1). -/
theorem blockRows_above_ras {a : Nat} (hlo : 0x1200000 ≤ a) (hhi : a < 0x4000000) : blockRows a = [] := by
  obtain ⟨k, hk⟩ : ∃ k, a / 0x100000 = k + 18 := ⟨a / 0x100000 - 18, by omega⟩
  rw [blockRows, if_neg (by omega), hk]
  rfl

theorem wordAddr_above_ras {off : Nat} (h : 0x011FFFFF < off) : wordAddr false off = none := by
  by_cases hbar : off < 0x4000000
  · have hrow : regRow off = none := by rw [regRow, blockRows_above_ras h hbar, List.find?_nil]
    simp [wordAddr, namedWord, hrow]
  · simp [wordAddr, hbar]

/-- A row of the doorbell pages holds one word of each page. -/
theorem covers_page {t o k : Nat} {reset rw w1c rc : Word} (ht : t < 64) (ho : o < 65536) (hk : k < 65536) :
    RegRow.covers ⟨0x4000000 + k, 65536, 64, reset, rw, w1c, rc⟩ (0x4000000 + (65536 * t + o)) = true ↔ o = k := by
  simp only [RegRow.covers, Bool.and_eq_true, decide_eq_true_eq, beq_iff_eq]
  omega

theorem regRow_page {t o : Nat} (ht : t < 64) (ho : o < 65536) :
    (regRow (0x4000000 + (65536 * t + o))).isSome = true ↔ o ∈ [0, 4, 8, 0x10, 0x14, 0x18] := by
  have hrows : blockRows (0x4000000 + (65536 * t + o)) = rowsBar2 := by
    rw [blockRows, if_pos (by omega), if_pos (by omega)]
  have hcovers {k : Nat} {reset rw w1c rc : Word} (hk : k < 65536) := covers_page (k := k) (reset := reset) (rw := rw)
    (w1c := w1c) (rc := rc) ht ho hk
  rw [regRow, hrows, List.find?_isSome]
  simp only [rowsBar2, List.mem_cons, List.not_mem_nil, or_false, exists_eq_or_imp, exists_eq_left]
  rw [hcovers (k := 0) (by decide), hcovers (k := 4) (by decide), hcovers (k := 8) (by decide), hcovers (k := 0x10) (by decide),
    hcovers (k := 0x14) (by decide), hcovers (k := 0x18) (by decide)]

/-- The words of a doorbell page that a table names. -/
theorem wordAddr_page {t o : Nat} (ht : t < 64) (ho : o < 65536) (h4 : o % 4 = 0) :
    wordAddr true (65536 * t + o) = none ↔ 0x1C ≤ o ∨ o = 0xC := by
  have hbar : 65536 * t + o < 0x400000 := by omega
  have hdump : ¬ 0x4000000 + (65536 * t + o) < 0x1100000 := by omega
  have hnamed : namedWord (0x4000000 + (65536 * t + o)) = true ↔ o ∈ [0, 4, 8, 0x10, 0x14, 0x18] := by
    rw [← regRow_page ht ho]
    simp [namedWord, hdump]
  simp only [wordAddr, if_true, hbar, true_and, ite_eq_right_iff, reduceCtorEq, imp_false, hnamed, List.mem_cons, List.not_mem_nil,
    or_false]
  omega

/-- A die answers for a word that no table names, unless the word's block sleeps with the die. -/
theorem Die.answers_of_awakeBlock {d : Die} {a : Nat} (h : d.asleep = true → awakeBlock a = true) :
    (d.asleep && !awakeBlock a) = false := by
  cases hs : d.asleep with
  | false => rfl
  | true => rw [h hs]; rfl

theorem Die.writeOne_unnamed {d : Die} {bar2 : Bool} {off : Nat} (v : Word) (ha : wordAddr bar2 off = none)
    (hs : d.asleep = true → awakeBlock (if bar2 then 0x4000000 + off else off) = true) :
    d.writeOne bar2 off v = d.refuse bar2 true off Bit.GLB_ERR_UNMAPPED := by
  simp only [Die.writeOne, Die.answers_of_awakeBlock hs, ha, Bool.false_and, Bool.false_eq_true, if_false]

theorem Die.readOne_unnamed {d : Die} {bar2 : Bool} {off : Nat} (ha : wordAddr bar2 off = none)
    (hs : d.asleep = true → awakeBlock (if bar2 then 0x4000000 + off else off) = true) :
    d.readOne bar2 off = (0#32, d.refuse bar2 false off Bit.GLB_ERR_UNMAPPED) := by
  simp only [Die.readOne, Die.answers_of_awakeBlock hs, ha, Bool.false_eq_true, if_false]

theorem Die.hostRead_four_unnamed {d : Die} {bar2 : Bool} {off : Nat} (h : off % 4 = 0) (ha : wordAddr bar2 off = none)
    (hs : d.asleep = true → awakeBlock (if bar2 then 0x4000000 + off else off) = true) :
    d.hostRead bar2 off 4 = { d.refuse bar2 false off Bit.GLB_ERR_UNMAPPED with bus := 0#64 } := by
  rw [Die.hostRead_four d bar2 h, Die.readOne_unnamed ha hs]
  rfl

/-- Settles O53: an unnamed word is refused, and the words that are named end with the rows of the register map. -/
theorem unnamedWords : Obligations.UnnamedWords := by
  unfold Obligations.UnnamedWords
  refine ⟨?access, fun _ h => wordAddr_above_ras h, by decide +kernel, by decide +kernel, fun _ _ ht ho h4 => wordAddr_page ht ho h4⟩
  intro d bar2 off v h4 ha hs
  refine ⟨?_, ?_, ?_, ?_, ?_⟩
  · exact does_registerWrite ((d.hostWrite_four bar2 v h4).trans (Die.writeOne_unnamed _ ha hs))
  · exact does_counterReadClear (Die.hostRead_four_unnamed h4 ha hs)
  · rw [Die.reg_refuse, if_pos rfl, b_or_oneBit _ (by decide)]
    exact Bool.or_true _
  · rw [Die.reg_refuse, if_neg (by decide), if_neg (by decide), if_pos rfl, refusedAddr, if_pos rfl, Nat.mod_eq_of_lt off.isLt]
  · rw [Die.reg_refuse, if_neg (by decide), if_neg (by decide), if_pos rfl, refusedAddr, if_neg Bool.false_ne_true, Nat.zero_add,
      Nat.mod_eq_of_lt off.isLt]

/-! ### Writes to blocks that sleep with the die (R419) -/

theorem Die.awake_of_asleep {d : Die} {f : Die → Die} (h : d.asleep = true) :
    d.awake f = d.err Reg.DMP_ERR Bit.DMP_ERR_ASLEEP := if_pos h

/-- A sleeping die takes no host write into a block that sleeps with it: the write only sets the flag. -/
theorem does_asleep {c : Instr} {ok : Bool} {f : Die → Die} {d : Die} (hx : ∀ s, exec c s = onDieIf ok (fun d => d.awake f) s)
    (hok : ok = true) (hs : d.asleep = true) : Does c d (d.err Reg.DMP_ERR Bit.DMP_ERR_ASLEEP) :=
  does_onDieIf hx hok (Die.awake_of_asleep hs)

/-- Settles O10: each command is a write to a block that sleeps with the die. -/
theorem asleepRefusesWrites : Obligations.AsleepRefusesWrites := by
  unfold Obligations.AsleepRefusesWrites
  intro c d h hs
  cases c with
  | schEventWrite n w => exact does_asleep (exec_is_schEventWrite n w) rfl hs
  | schEventInc w => exact does_asleep (exec_is_schEventInc w) rfl hs
  | schEvtPoisonClear n w => exact does_asleep (exec_is_schEvtPoisonClear n w) rfl hs
  | shfSlotRangeWrite n w => exact does_asleep (exec_is_shfSlotRangeWrite n w) rfl hs
  | slotDeclare n w => exact does_asleep (exec_is_slotDeclare n w) rfl hs
  | slotRelease n w => exact does_asleep (exec_is_slotRelease n w) rfl hs
  | klnOwedRelease w => exact does_asleep (exec_is_klnOwedRelease w) rfl hs
  | kilnReset => exact does_asleep exec_is_kilnReset rfl hs
  | wheelReset => exact does_asleep exec_is_wheelReset rfl hs
  | pugReset => exact does_asleep exec_is_pugReset rfl hs
  | glazeReset => exact does_asleep exec_is_glazeReset rfl hs
  | dmReset => exact does_asleep exec_is_dmReset rfl hs
  | tierReset => exact does_asleep exec_is_tierReset rfl hs
  | ifeReset => exact does_asleep exec_is_ifeReset rfl hs
  | linkReset => exact does_asleep exec_is_linkReset rfl hs
  | queCmdCreate q => exact does_asleep (exec_is_queCmdCreate q) rfl hs
  | queCmdModify q => exact does_asleep (exec_is_queCmdModify q) rfl hs
  | queCmdRead q => exact does_asleep (exec_is_queCmdRead q) rfl hs
  | queCmdDestroy q => exact does_asleep (exec_is_queCmdDestroy q) rfl hs
  | tirCmdSetdir => exact does_asleep exec_is_tirCmdSetdir rfl hs
  | tirCmdMap => exact does_asleep exec_is_tirCmdMap rfl hs
  | tirCmdUnmap => exact does_asleep exec_is_tirCmdUnmap rfl hs
  | tirCmdRead => exact does_asleep exec_is_tirCmdRead rfl hs
  | servingAbort n w => exact does_asleep (exec_is_servingAbort n w) rfl hs
  | ifeCtxEnable n w => exact does_asleep (exec_is_ifeCtxEnable n w) rfl hs
  | ifeCtxDisable n w => exact does_asleep (exec_is_ifeCtxDisable n w) rfl hs
  | _ => exact Bool.noConfusion h

end Sys2Proof.Machine
end

section
/-! PROOFS. The pairs of registers: what a read of a latching _LO word keeps of its count, and how the _LO word of a base is
held until its _HI word is written (R487). -/

namespace Sys2Proof.Machine

/-! ### Latching pairs -/

/-- A latching pair: its _LO word shows the low half of a count, and a read of it keeps the high half for its _HI word. -/
structure Latching (lo : Nat) (count : Die → Nat) : Prop where
  named : wordAddr false lo = some lo
  namedHi : wordAddr false (lo + 4) = some (lo + 4)
  view : ∀ d : Die, d.viewReg lo = BitVec.ofNat 32 (count d)
  viewHi : ∀ d : Die, d.viewReg (lo + 4) = SMap.get (fun _ => 0#32) d.latch (lo + 4)
  after : ∀ d : Die, d.afterRead lo =
    { d with latch := SMap.put (fun _ => 0#32) d.latch (lo + 4) (BitVec.ofNat 32 (count d / 2 ^ 32)) }
  afterHi : ∀ d : Die, d.afterRead (lo + 4) = d

/-- A word of BAR0 that latches nothing and has no RC field keeps everything as it is when it is read. -/
theorem Die.afterRead_plain {d : Die} {a : Nat} {r : RegRow} (hl : d.latchOf a = none) (hbar : a < 0x4000000)
    (hhigh : a ≠ Reg.SCH_SB_HIGH) (hr : regRow a = some r) (hrc : r.rc = 0#32) : d.afterRead a = d := by
  have hpage : ¬ (0x4000000 ≤ a ∧ d.pageLive ((a - 0x4000000) / 65536) = false) := by omega
  simp only [Die.afterRead, hl, if_neg hpage, if_neg hhigh, hr, hrc, if_true]

theorem latching_refclk : Latching Reg.GLB_REFCLK_LO fun d => d.refclk where
  named := by decide +kernel
  namedHi := by decide +kernel
  view _ := rfl
  viewHi _ := rfl
  after _ := Die.afterRead_latching rfl (by decide) (by decide) (r := ⟨0x14, 4, 1, 0, 0, 0, 0⟩) rfl rfl
  afterHi _ := Die.afterRead_plain rfl (by decide) (by decide) (r := ⟨0x18, 4, 1, 0, 0, 0, 0⟩) rfl rfl

theorem latching_firing : Latching Reg.SCH_FIRING_LO fun d => d.firing where
  named := by decide +kernel
  namedHi := by decide +kernel
  view _ := rfl
  viewHi _ := rfl
  after _ := Die.afterRead_latching rfl (by decide) (by decide) (r := ⟨0x100010, 4, 1, 0, 0, 0, 0⟩) rfl rfl
  afterHi _ := Die.afterRead_plain rfl (by decide) (by decide) (r := ⟨0x100014, 4, 1, 0, 0, 0, 0⟩) rfl rfl

theorem latching_ftime : Latching Reg.LNK_FTIME_LO fun d => d.ftime where
  named := by decide +kernel
  namedHi := by decide +kernel
  view _ := rfl
  viewHi _ := rfl
  after _ := Die.afterRead_latching rfl (by decide) (by decide) (r := ⟨0xD0004C, 4, 1, 0, 0, 0, 0⟩) rfl rfl
  afterHi _ := Die.afterRead_plain rfl (by decide) (by decide) (r := ⟨0xD00050, 4, 1, 0, 0, 0, 0⟩) rfl rfl

section
variable {lo : Nat} {count : Die → Nat} (h : Latching lo count) {d : Die} (hs : d.asleep = false)
include h hs

theorem Latching.readOne : d.readOne false lo = (BitVec.ofNat 32 (count d),
    { d with latch := SMap.put (fun _ => 0#32) d.latch (lo + 4) (BitVec.ofNat 32 (count d / 2 ^ 32)) }) := by
  rw [Die.readOne_awake hs h.named, h.view, h.after]

theorem Latching.readOne_hi : d.readOne false (lo + 4) = (SMap.get (fun _ => 0#32) d.latch (lo + 4), d) := by
  rw [Die.readOne_awake hs h.namedHi, h.viewHi, h.afterHi]

/-- An 8-byte read of the pair gives its count as one value. -/
theorem Latching.hostRead_pair (h4 : lo % 4 = 0) :
    d.hostRead false lo 8 = { (d.readOne false lo).2 with bus := BitVec.ofNat 64 (count d) } := by
  rw [h.readOne hs]
  have hhi := h.readOne_hi (d := { d with
    latch := SMap.put (fun _ => 0#32) d.latch (lo + 4) (BitVec.ofNat 32 (count d / 2 ^ 32)) }) hs
  rw [SMap.get_put_same] at hhi
  rw [Die.hostRead_eight h4 (h.readOne hs) hhi]
  have hbus : BitVec.ofNat 32 (count d / 2 ^ 32) ++ BitVec.ofNat 32 (count d) = BitVec.ofNat 64 (count d) := by
    rw [← bus_of_words]
    apply BitVec.eq_of_toNat_eq
    simp only [BitVec.toNat_ofNat]
    omega
  rw [hbus]

end

/-! ### Bases -/

/-- The _LO words of the bases. -/
def baseWords : List Nat :=
  [Reg.IFE_ISP_BASE_LO, Reg.FWP_CMD_BASE_LO, Reg.FWP_RPL_BASE_LO, Reg.FWP_RECOVERY_LO, Reg.TIR_PT_BASE_LO, Reg.TIR_AREA_LO]

theorem Die.regs_useTables (d : Die) (old : Nat) : (d.useTables old).regs = d.regs := by
  unfold Die.useTables
  split <;> rfl

theorem Die.heldLo_useTables (d : Die) (old : Nat) : (d.useTables old).heldLo = d.heldLo := by
  unfold Die.useTables
  split <;> rfl

/-! The blocks of the bases (Table 21.1). -/

theorem Die.writeWord_tier (d : Die) {a : Nat} (v : Word) (ha : a / 0x100000 = 9) : d.writeWord a v = d.writeTier a v := by
  have hbar : ¬ 0x4000000 ≤ a := by omega
  simp only [Die.writeWord, if_neg hbar, ha]

theorem Die.writeWord_ife (d : Die) {a : Nat} (v : Word) (ha : a / 0x100000 = 12) : d.writeWord a v = d.writeIfe a v := by
  have hbar : ¬ 0x4000000 ≤ a := by omega
  simp only [Die.writeWord, if_neg hbar, ha]

theorem Die.writeWord_fwp (d : Die) {a : Nat} (v : Word) (ha : a / 0x100000 = 16) : d.writeWord a v = d.writeFwp a v := by
  have hbar : ¬ 0x4000000 ≤ a := by omega
  simp only [Die.writeWord, if_neg hbar, ha]

/-- A pair of FWP that is a base is always open to writes. -/
theorem Die.writeFwp_base (d : Die) {lo a : Nat} (v : Word)
    (hlo : lo = Reg.FWP_CMD_BASE_LO ∨ lo = Reg.FWP_RPL_BASE_LO ∨ lo = Reg.FWP_RECOVERY_LO) (ha : a = lo ∨ a = lo + 4) :
    d.writeFwp a v = d.writePair lo a v true none := by
  obtain rfl | rfl | rfl := hlo <;> obtain rfl | rfl := ha <;>
    simp [Die.writeFwp, inPair, Die.writePair, Reg.FWP_RING_CFG, Reg.FWP_CMD_TAIL, Reg.FWP_RECOVERY_LEN, Reg.FWP_CMD_BASE_LO,
      Reg.FWP_RPL_BASE_LO, Reg.FWP_RECOVERY_LO]

/-- TIR_PT_BASE and TIR_AREA are open to writes while the tier manager is off. -/
theorem Die.writeTier_ptBase {d : Die} {a : Nat} (v : Word) (ha : a = Reg.TIR_PT_BASE_LO ∨ a = Reg.TIR_PT_BASE_LO + 4)
    (hoff : d.tierOn = false) :
    d.writeTier a v = (d.writePair Reg.TIR_PT_BASE_LO a v true none).useTables d.ptBase := by
  obtain rfl | rfl := ha <;> simp [Die.writeTier, inPair, Die.writePair, Reg.TIR_CTRL, Reg.TIR_CMD, Reg.TIR_PT_BASE_LO, hoff]

theorem Die.writeTier_area {d : Die} {a : Nat} (v : Word) (ha : a = Reg.TIR_AREA_LO ∨ a = Reg.TIR_AREA_LO + 4)
    (hoff : d.tierOn = false) : d.writeTier a v = d.writePair Reg.TIR_AREA_LO a v true none := by
  obtain rfl | rfl := ha <;> simp [Die.writeTier, inPair, Die.writePair, Reg.TIR_CTRL, Reg.TIR_CMD, Reg.TIR_PT_BASE_LO, Reg.TIR_AREA_LO, hoff]

theorem Die.writeIfe_base (d : Die) {a : Nat} (v : Word) (ha : a = Reg.IFE_ISP_BASE_LO ∨ a = Reg.IFE_ISP_BASE_LO + 4) :
    d.writeIfe a v = d.writePair Reg.IFE_ISP_BASE_LO a v true none := by
  obtain rfl | rfl := ha <;> simp [Die.writeIfe, inPair, Die.writePair, Reg.IFE_CTRL, Reg.IFE_ISP_BASE_LO]

/-- What a write of half of a base does to the registers and to the halves held. -/
theorem Die.writeWord_base {d : Die} {lo a : Nat} (v : Word) (hlo : lo ∈ baseWords) (ha : a = lo ∨ a = lo + 4)
    (hoff : lo = Reg.TIR_PT_BASE_LO ∨ lo = Reg.TIR_AREA_LO → d.tierOn = false) :
    (d.writeWord a v).regs = (d.writePair lo a v true none).regs ∧
      (d.writeWord a v).heldLo = (d.writePair lo a v true none).heldLo := by
  simp only [baseWords, List.mem_cons, List.not_mem_nil, or_false] at hlo
  have fwp (h : lo = Reg.FWP_CMD_BASE_LO ∨ lo = Reg.FWP_RPL_BASE_LO ∨ lo = Reg.FWP_RECOVERY_LO) :
      d.writeWord a v = d.writePair lo a v true none := by
    rw [Die.writeWord_fwp d v (by simp only [Reg.FWP_CMD_BASE_LO, Reg.FWP_RPL_BASE_LO, Reg.FWP_RECOVERY_LO] at h; omega),
      Die.writeFwp_base d v h ha]
  obtain rfl | h | h | h | rfl | rfl := hlo
  · rw [Die.writeWord_ife d v (by simp only [Reg.IFE_ISP_BASE_LO] at ha; omega), Die.writeIfe_base d v ha]
    exact ⟨rfl, rfl⟩
  · rw [fwp (.inl h)]
    exact ⟨rfl, rfl⟩
  · rw [fwp (.inr (.inl h))]
    exact ⟨rfl, rfl⟩
  · rw [fwp (.inr (.inr h))]
    exact ⟨rfl, rfl⟩
  · rw [Die.writeWord_tier d v (by simp only [Reg.TIR_PT_BASE_LO] at ha; omega), Die.writeTier_ptBase v ha (hoff (.inl rfl))]
    exact ⟨Die.regs_useTables _ _, Die.heldLo_useTables _ _⟩
  · rw [Die.writeWord_tier d v (by simp only [Reg.TIR_AREA_LO] at ha; omega), Die.writeTier_area v ha (hoff (.inr rfl))]
    exact ⟨rfl, rfl⟩

theorem wordAddr_base {lo : Nat} (hlo : lo ∈ baseWords) :
    wordAddr false lo = some lo ∧ wordAddr false (lo + 4) = some (lo + 4) ∧ lo < 2 ^ 26 ∧ lo % 4 = 0 := by
  revert lo
  decide +kernel

theorem Die.asleep_congr {d e : Die} (h : e.regs = d.regs) : e.asleep = d.asleep := by
  rw [Die.asleep, Die.asleep, Die.pstate, Die.pstate, Die.rf, Die.rf, Die.reg_congr h]

theorem Die.tierOn_congr {d e : Die} (h : e.regs = d.regs) : e.tierOn = d.tierOn := by
  simp only [Die.tierOn, Die.reg, h]

section
variable {d : Die} {lo : Nat} {v w : Word} {rl rh : RegRow}

theorem Die.reg_takePair (hrh : regRow (lo + 4) = some rh) (a : Nat) :
    (d.takePair (lo + 4) w).reg a =
      if a = lo + 4 then writtenWord rh (d.reg (lo + 4)) w
      else if a = lo then SMap.get d.reg d.heldLo lo
      else d.reg a := by
  have hne : lo + 4 ≠ lo := by omega
  rw [Die.takePair, Nat.add_sub_cancel]
  rw [Die.plain_of_row w hrh, Die.reg_setReg, Die.reg_setReg, Die.reg_setReg, if_neg hne]
  rfl

variable (hlo : lo ∈ baseWords) (hs : d.asleep = false)
  (hoff : lo = Reg.TIR_PT_BASE_LO ∨ lo = Reg.TIR_AREA_LO → d.tierOn = false)
include hlo hs hoff

/-- A write to the _LO word of a base is held, and changes no register. -/
theorem Die.writeOne_baseLo (hrl : regRow lo = some rl) :
    (d.writeOne false lo v).regs = d.regs ∧
      (d.writeOne false lo v).heldLo = SMap.put d.reg d.heldLo lo (v &&& rl.rw) := by
  obtain ⟨hregs, hheld⟩ := Die.writeWord_base v hlo (.inl rfl) hoff
  have hpair : d.writePair lo lo v true none = { d with heldLo := SMap.put d.reg d.heldLo lo (v &&& rl.rw) } := by
    simp [Die.writePair, Die.holdLo, hrl]
  rw [Die.writeOne_awake v hs (wordAddr_base hlo).1, hregs, hheld, hpair]
  exact ⟨rfl, rfl⟩

/-- A write to the _HI word of a base takes both halves. -/
theorem Die.reg_writeOne_baseHi (hrh : regRow (lo + 4) = some rh) (a : Nat) :
    (d.writeOne false (lo + 4) w).reg a =
      if a = lo + 4 then writtenWord rh (d.reg (lo + 4)) w
      else if a = lo then SMap.get d.reg d.heldLo lo
      else d.reg a := by
  have hpair : d.writePair lo (lo + 4) w true none = d.takePair (lo + 4) w := by simp [Die.writePair]
  rw [Die.writeOne_awake w hs (wordAddr_base hlo).2.1, Die.reg_congr (Die.writeWord_base w hlo (.inr rfl) hoff).1, hpair,
    Die.reg_takePair hrh]

end

theorem setWidth_low (hi lo : Word) : (hi ++ lo).setWidth 32 = lo := by
  rw [← bus_of_words]
  apply BitVec.eq_of_toNat_eq
  rw [BitVec.toNat_setWidth, BitVec.toNat_ofNat]
  omega

theorem setWidth_high (hi lo : Word) : ((hi ++ lo) >>> 32).setWidth 32 = hi := by
  rw [← bus_of_words]
  apply BitVec.eq_of_toNat_eq
  rw [BitVec.toNat_setWidth, BitVec.toNat_ushiftRight, BitVec.toNat_ofNat, Nat.shiftRight_eq_div_pow]
  omega

/-- Settles O58: a read of a _LO word latches the high half of its count, and a base's _LO half is held to the write of its
_HI word, which takes it. -/
theorem registerPairs : Obligations.RegisterPairs := by
  unfold Obligations.RegisterPairs
  refine ⟨?latching, ?base⟩
  case latching =>
    intro p lo count hp
    obtain ⟨hlatch, h4, hlo⟩ : Latching lo count ∧ lo % 4 = 0 ∧ pairLo p = lo := by
      rcases hp with ⟨hpair, rfl⟩ | ⟨hpair, rfl⟩ | ⟨hpair, rfl⟩ <;> cases hpair
      · exact ⟨latching_refclk, by decide, rfl⟩
      · exact ⟨latching_firing, by decide, rfl⟩
      · exact ⟨latching_ftime, by decide, rfl⟩
    refine ⟨?_, ?_, ?_, ?_⟩
    · intro d hs
      rw [hlatch.readOne hs]
    · intro d d1 hs hs1 hl
      rw [hlatch.readOne_hi hs1, hl, hlatch.readOne hs]
      exact SMap.get_put_same _ _ _ _
    · intro d hs hl
      rw [hlatch.readOne_hi hs, hl]
      rfl
    · intro d hs
      exact does_latchedPairRead (hlo ▸ hlatch.hostRead_pair hs h4)
  case base =>
    rintro lo d _ _ v w rl rh hlo hs hoff hrl hrh rfl rfl
    obtain ⟨-, -, hlt, h4⟩ := wordAddr_base hlo
    obtain ⟨hregs, hheld⟩ := Die.writeOne_baseLo (v := v) hlo hs hoff hrl
    have hreg := Die.reg_congr hregs
    have hhi := Die.reg_writeOne_baseHi (d := d.writeOne false lo v) (w := w) hlo ((Die.asleep_congr hregs).trans hs)
      (fun h => (Die.tierOn_congr hregs).trans (hoff h)) hrh
    have hne : lo ≠ lo + 4 := by omega
    refine ⟨hreg, ?_, ?_, ?_, ?_, ?_⟩
    · rw [hhi, if_neg hne, if_pos rfl, hheld, funext hreg]
      exact SMap.get_put_same _ _ _ _
    · rw [hhi, if_pos rfl, hreg]
    · intro a hal hah
      rw [hhi, if_neg hah, if_neg hal, hreg]
    · have hoffset : (BitVec.ofNat 26 lo).toNat = lo := by rw [BitVec.toNat_ofNat, Nat.mod_eq_of_lt hlt]
      refine does_registerWrite ?_
      have hwrite := d.hostWrite_eight false (w ++ v) h4
      rw [setWidth_low, setWidth_high] at hwrite
      rw [hoffset]
      exact hwrite
    · intro hval
      rw [Die.reg_writeOne_baseHi hlo hs hoff hrh, if_neg hne, if_pos rfl, hval]

end Sys2Proof.Machine
end

section
/-! PROOFS. The DRAM controller: what a read, a write and a merge of a LOCAL line do when the line is not held, and the upkeep of
lines, channels and rows (R314 to R328). -/

namespace Sys2Proof.Machine

/-! ### A line as a read brings it (R314, R315) -/

@[simp] theorem LineCell.struck_none (c : LineCell) : c.struck 0 false = c := by
  simp [LineCell.struck]

/-- A line that passes check 5 has no changed bit. -/
theorem Die.clean_of_macOk {d : Die} {code n : Nat} {c : LineCell} (h : d.macOk code n c = true) :
    c.flips = 0 ∧ c.forged = false := by
  simp only [Die.macOk, Bool.and_eq_true, beq_iff_eq, Bool.not_eq_true'] at h
  exact ⟨h.1.2, h.2⟩

theorem LineCell.poison_of_flips {c : LineCell} (h : c.flips = 0) : c.poison = false := by
  rw [LineCell.poison, h]
  decide

theorem LineCell.verdict_of_flips {c : LineCell} (h : c.flips = 0) : c.verdict = 0 := by
  rw [LineCell.verdict, if_pos (.inl h)]

/-- A line without changed bits goes on to checks 4 and 5 as it is. -/
theorem Die.readThrough_of_flips {d : Die} {c : LineCell} (code n : Nat) (h : c.flips = 0) :
    d.readThrough code n c = d.openLine code n c := by
  have hv := c.verdict_of_flips h
  have hp := c.poison_of_flips h
  simp [Die.readThrough, Die.checkedLine, Die.lineCorrected, hv, hp]

theorem Die.readThrough_of_macOk {d : Die} {code n : Nat} {c : LineCell} (hk : d.keyGen code ≠ 0) (h : d.macOk code n c = true) :
    d.readThrough code n c = (⟨c.data.toNat, false, false⟩, d) := by
  rw [Die.readThrough_of_flips code n (Die.clean_of_macOk h).1, Die.openLine, if_neg hk, h]
  rfl

/-- A poisoned line is delivered bad, with no flag, whatever its key (R316). -/
theorem Die.readThrough_of_poison {d : Die} {c : LineCell} (code n : Nat) (h : c.poison = true) :
    d.readThrough code n c = (⟨0, true, false⟩, d) := by
  simp [Die.readThrough, Die.checkedLine, h]

/-! ### Accesses that are served at once (R317, R319) -/

/-- A line that no key opens is delivered as an error, a poisoned one as poisoned. -/
def Die.deliverLine (p : UnitRd × Die) (poison : Bool) : Die :=
  p.2.emit (.line (if p.1.bad && !poison then none else some (BitVec.ofNat 512 p.1.data)) poison)

theorem Die.lineRequest_served {d : Die} {key line tenant queue : Nat} {act : Bool} (w : LineWork) (hline : line < d.localLines)
    (hheld : d.lineHeld line = false) :
    d.lineRequest ⟨key, line, tenant, queue, act⟩ w = d.lineWork ⟨key, line, tenant, queue, act⟩ w := by
  simp only [Die.lineRequest, if_neg (Nat.not_le.mpr hline), hheld, Bool.false_eq_true, if_false]

section
variable {d d0 : Die} {key tenant : BitVec 7} {line : BitVec 30} {queue : BitVec 20} {act : Bool}

variable (hline : line.toNat < d.localLines) (hheld : d.lineHeld line.toNat = false)
  (hopen : d.openRow line.toNat tenant.toNat queue.toNat act = d0)
include hline hheld hopen

/-- A read that nothing strikes is a read of the line as it is stored. -/
theorem Die.dramLineRead_clean :
    d.dramLineRead key line tenant queue act false ⟨0#576, false, false⟩ =
      Die.deliverLine (d0.readLocal key.toNat line.toNat) (d0.lineCell line.toNat).poison := by
  subst hopen
  rw [Die.dramLineRead, Die.lineRequest_served _ hline hheld]
  simp only [Die.lineWork, Die.readLocal, Die.deliverLine, BitVec.toNat_ofNat, Nat.zero_mod, LineCell.struck_none, Bool.false_eq_true,
    if_false]
  rfl

theorem Die.dramLineRead_opens (hk : d0.keyGen key.toNat ≠ 0)
    (hmac : d0.macOk key.toNat line.toNat (d0.lineCell line.toNat) = true) :
    d.dramLineRead key line tenant queue act false ⟨0#576, false, false⟩ =
      d0.emit (.line (some (d0.lineCell line.toNat).data) false) := by
  rw [Die.dramLineRead_clean hline hheld hopen, Die.readLocal, Die.readThrough_of_macOk hk hmac,
    LineCell.poison_of_flips (Die.clean_of_macOk hmac).1, Die.deliverLine]
  simp

theorem Die.dramLineRead_poisoned (hp : (d0.lineCell line.toNat).poison = true) :
    d.dramLineRead key line tenant queue act false ⟨0#576, false, false⟩ = d0.emit (.line (some 0#512) true) := by
  rw [Die.dramLineRead_clean hline hheld hopen, Die.readLocal, Die.readThrough_of_poison _ _ hp, hp, Die.deliverLine]
  rfl

theorem Die.dramLineRead_bad {p : UnitRd × Die} (hp : (d0.lineCell line.toNat).poison = false)
    (hread : d0.readLocal key.toNat line.toNat = p) (hbad : p.1.bad = true) :
    d.dramLineRead key line tenant queue act false ⟨0#576, false, false⟩ = p.2.emit (.line none false) := by
  rw [Die.dramLineRead_clean hline hheld hopen, hread, hp, Die.deliverLine, hbad]
  rfl

/-- A write under a key in force puts the line into the device. -/
theorem Die.dramLineWrite_keyed (v : Line) (poison : Bool) (hk : d0.keyGen key.toNat ≠ 0) :
    d.dramLineWrite key line v poison tenant queue act =
      d0.setLine line.toNat (d0.writtenLine key.toNat line.toNat v poison) := by
  subst hopen
  rw [Die.dramLineWrite, Die.lineRequest_served _ hline hheld]
  simp only [Die.lineWork, Die.writeLocal, if_neg hk]

/-- A partial write merges its bytes into the line it reads. -/
theorem Die.dramPartialWrite_keyed {p : UnitRd × Die} (mask : BitVec 64) (v : Line) (hk : d0.keyGen key.toNat ≠ 0)
    (hread : d0.readLocal key.toNat line.toNat = p) (hgood : p.1.bad = false) (hk2 : p.2.keyGen key.toNat ≠ 0) :
    d.dramPartialWrite key line mask v tenant queue act =
      p.2.setLine line.toNat (p.2.writtenLine key.toNat line.toNat (mergeBytes mask (BitVec.ofNat 512 p.1.data) v) false) := by
  subst hopen
  rw [Die.dramPartialWrite, Die.lineRequest_served _ hline hheld]
  simp only [Die.lineWork, Die.mergeLocal, if_neg hk, hread, hgood, Bool.false_eq_true, if_false, Die.writeLocal, if_neg hk2]

end

/-! ### What a line reads as after a write (R314, R319) -/

theorem Die.lineCell_setLine (d : Die) (n k : Nat) (c : LineCell) :
    (d.setLine n c).lineCell k = if k = n then c else d.lineCell k :=
  SMap.get_put d.lineDefault d.dmc.lines n k c

/-- The row a bank has open needs no activate. -/
theorem Die.openRow_open {d : Die} {n : Nat} (tenant queue : Nat)
    (h : SMap.get (fun _ => 0) d.dmc.openRows (bankKey n) = rowOf n + 1) : d.openRow n tenant queue false = d := by
  rw [Die.openRow, h]
  simp

theorem Die.macOk_written (d : Die) (code n : Nat) (v : Line) :
    d.macOk code n ⟨v, code, d.keyGen code, d.lineEpoch n, 0, false⟩ = true := by
  simp [Die.macOk]

theorem Die.macOk_other {d : Die} {code other n : Nat} {c : LineCell} (hc : c.key = code) (h : other ≠ code) :
    d.macOk other n c = false := by
  simp [Die.macOk, hc, Ne.symm h]

/-- Settles O59: the line written is the one read, check 5 compares its key, and the write sets one line. -/
theorem linesReadBack : Obligations.LinesReadBack := by
  unfold Obligations.LinesReadBack
  rintro d _ key tenant line v queue hline hheld hk hopen rfl
  have hrow := Die.openRow_open tenant.toNat queue.toNat hopen
  generalize hc : (⟨v, key.toNat, d.keyGen key.toNat, d.lineEpoch line.toNat, 0, false⟩ : LineCell) = c
  have hrow1 : (d.setLine line.toNat c).openRow line.toNat tenant.toNat queue.toNat false = d.setLine line.toNat c :=
    Die.openRow_open _ _ hopen
  have hcell : (d.setLine line.toNat c).lineCell line.toNat = c := by rw [Die.lineCell_setLine, if_pos rfl]
  have hmac : (d.setLine line.toNat c).macOk key.toNat line.toNat c = true := by
    subst hc
    exact Die.macOk_written (d.setLine line.toNat _) key.toNat line.toNat v
  refine ⟨?write, ?read, ?other, ?rest⟩
  case write =>
    refine does_onDieIf (exec_is_dramLineWrite key line v false tenant queue false) rfl ?_
    rw [Die.dramLineWrite_keyed hline hheld hrow v false hk, Die.writtenLine, if_neg Bool.false_ne_true, hc]
  case read =>
    refine does_onDieIf (exec_is_dramLineRead key line tenant queue false false _) rfl ?_
    rw [Die.dramLineRead_opens (d := d.setLine line.toNat c) hline hheld hrow1 hk (hcell.symm ▸ hmac), hcell, ← hc]
  case other =>
    intro other hne hko
    have hko1 : (d.setLine line.toNat c).keyGen other.toNat ≠ 0 := hko
    refine does_onDieIf (exec_is_dramLineRead other line tenant queue false false _) rfl ?_
    have hother : (d.setLine line.toNat c).macOk other.toNat line.toNat c = false :=
      Die.macOk_other (hc ▸ rfl) fun h => hne (BitVec.eq_of_toNat_eq h)
    have hread : (d.setLine line.toNat c).readLocal other.toNat line.toNat = (⟨0, true, false⟩,
        (((d.setLine line.toNat c).dmcAddr line.toNat).count Reg.DMC_MAC_FAIL 1).err Reg.DMC_ERR Bit.DMC_ERR_MAC) := by
      rw [Die.readLocal, hcell, Die.readThrough_of_flips _ _ (hc ▸ rfl), Die.openLine, if_neg hko1, hother]
      rfl
    exact Die.dramLineRead_bad (d := d.setLine line.toNat c) hline hheld hrow1
      (hcell.symm ▸ LineCell.poison_of_flips (hc ▸ rfl)) hread rfl
  case rest =>
    intro n hn
    rw [Die.lineCell_setLine, if_neg hn]

/-! ### Upkeep (R315, R320, R322, R325 to R328) -/

section
variable {d : Die}

theorem Die.dramCeRewrite_waiting {line : BitVec 30} (hw : d.dmc.rewrites.contains line.toNat = true)
    (hheld : d.lineHeld line.toNat = false) :
    d.dramCeRewrite line = d.setLine line.toNat (d.lineCell line.toNat).corrected := by
  rw [Die.dramCeRewrite, if_pos ⟨hw, hheld⟩, Die.rewriteLine]

/-- The scrub reads its next line under the KEY of the page the line lies in. -/
theorem Die.dramPatrolScrub_mapped {d1 d2 : Die} {n page : Nat} (hcfg : d.rf Reg.DMC_SCRUB_CFG 7 0 ≠ 0) (hn : d.dmc.scrub = n)
    (hline : n < d.localLines) (hheld : d.lineHeld n = false) (h1 : { d with dmc := { d.dmc with scrub := n + 1 } } = d1)
    (h2 : (d1.putLine n (d1.lineCell n)).openRow n mgmtCode 0 false = d2) (hpage : d2.pageIn (n / 1024) = some page) :
    d.dramPatrolScrub ⟨0#576, false, false⟩ = (d2.readLocal (pteKey (d2.pte page)) n).2 := by
  have hnext : d.scrubNext = some (n, d) := by rw [Die.scrubNext, hn, if_pos hline]
  have hopen : ¬ (d.localLines ≤ n ∨ d.lineHeld n = true) := by simp [hheld, hline]
  subst h1 h2
  simp only [Die.dramPatrolScrub, if_neg hcfg, hnext, if_neg hopen, BitVec.toNat_ofNat, Nat.zero_mod, LineCell.struck_none,
    Die.checkLine, hpage]

/-- A retraining that succeeds ends a run of failures, and what waited for the channel is served. -/
theorem Die.dramRetrain_ok {warm : Bool} (hch : (d.reg Reg.DMC_STAT).b d.dmc.trainNext = true) (hdue : d.trainDue warm = true)
    (hwake : d.rf Reg.DMP_STAT 2 0 < 2) :
    d.dramRetrain warm true = (({ d with dmc := { d.dmc with
      trainNext := (d.dmc.trainNext + 1) % 16,
      trainLast := d.refclk,
      trainSoon := d.dmc.trainSoon.filter (· != d.dmc.trainNext),
      trainFails := SMap.put (fun _ => 0) d.dmc.trainFails d.dmc.trainNext 0 } } : Die).setRf (Reg.DMC_CH_STAT d.dmc.trainNext) 8 8
        0).serveWaiting := by
  have hgo : (!(d.reg Reg.DMC_STAT).b d.dmc.trainNext || !d.trainDue warm || decide (2 ≤ d.rf Reg.DMP_STAT 2 0)) = false := by
    rw [hch, hdue, decide_eq_false (Nat.not_le.mpr hwake)]
    rfl
  simp only [Die.dramRetrain, hgo, Bool.false_eq_true, if_false, if_true, Bool.not_true, Die.errIf]
  rfl

theorem Die.rowHammerAction_due {key row tenant queue : Nat} {rest : List (Nat × Nat × Nat × Nat)}
    (hdue : d.dmc.rhDue = (key, row, tenant, queue) :: rest) (hnew : d.dmc.throttles.contains (key, tenant, queue) = false) :
    d.rowHammerAction =
      ((((({ d with dmc := { d.dmc with
        rhDue := rest, throttles := d.dmc.throttles ++ [(key, tenant, queue)] } } : Die).emit
          (.rfm key (if d.dmc.directed then some row else none))).setReg Reg.DMC_RH_LOG
          (BitVec.ofNat 32 (key / 16 * 2 ^ 28 + key % 16 * 2 ^ 24 + tenant % 128 * 2 ^ 17 + row % 2 ^ 17))).setReg Reg.DMC_RH_QUEUE
          (BitVec.ofNat 32 (queue % 2 ^ 20))).count Reg.DMC_RH_EVENTS 1).err Reg.DMC_ERR Bit.DMC_ERR_RH := by
  simp only [Die.rowHammerAction, hdue, hnew, Bool.false_eq_true, if_false]

theorem Die.dramPpr_spare {loc : Nat} (hw : d.firstWanted 4 = some loc) (hwake : d.rf Reg.DMP_STAT 2 0 < 2)
    (hspare : d.sparesIn (loc / 2 ^ 20) ≠ 0) :
    d.dramPpr =
      { ((d.rewriteRow loc).takeSpareRows (loc / 2 ^ 20) 1).spareInService 4 loc with repairLog := d.repairLog ++ [(loc, false)] } := by
  simp only [Die.dramPpr, hw, if_neg (Nat.not_le.mpr hwake), if_pos hspare]

end

/-- Settles O31: an access that is not held is served at once, and each upkeep command passes the guards before its effect. -/
theorem dramCompletes : Obligations.DramCompletes := by
  unfold Obligations.DramCompletes
  refine ⟨?read, ?poisoned, ?bad, ?write, ?merge, ?rewrite, ?scrub, ?retrain, ?hammer, ?window, ?repair, ?clear⟩
  case read =>
    rintro d d0 key tenant line queue act _ hline hheld hopen rfl hk hmac
    exact does_onDieIf (exec_is_dramLineRead key line tenant queue act false _) rfl
      (Die.dramLineRead_opens hline hheld hopen hk hmac)
  case poisoned =>
    exact fun _ _ key tenant line queue act hline hheld hopen hp =>
      does_onDieIf (exec_is_dramLineRead key line tenant queue act false _) rfl
        (Die.dramLineRead_poisoned hline hheld hopen hp)
  case bad =>
    exact fun _ _ key tenant line queue act _ hline hheld hopen hp hread hbad =>
      does_onDieIf (exec_is_dramLineRead key line tenant queue act false _) rfl
        (Die.dramLineRead_bad hline hheld hopen hp hread hbad)
  case write =>
    exact fun _ _ key tenant line v queue act hline hheld hopen hk =>
      ⟨does_onDieIf (exec_is_dramLineWrite key line v false tenant queue act) rfl
          (Die.dramLineWrite_keyed hline hheld hopen v false hk),
        does_onDieIf (exec_is_dramLineWrite key line v true tenant queue act) rfl
          (Die.dramLineWrite_keyed hline hheld hopen v true hk)⟩
  case merge =>
    exact fun _ _ key tenant line mask v queue act _ hline hheld hopen hk hread hgood hk2 =>
      does_onDieIf (exec_is_dramPartialWrite key line mask v tenant queue act) rfl
        (Die.dramPartialWrite_keyed hline hheld hopen mask v hk hread hgood hk2)
  case rewrite => exact fun _ line hw hheld => does_onDieIf (exec_is_dramCeRewrite line) rfl (Die.dramCeRewrite_waiting hw hheld)
  case scrub =>
    exact fun _ _ _ _ _ hcfg hn hline hheld h1 h2 hpage => does_onDieIf (exec_is_dramPatrolScrub _) rfl
      (Die.dramPatrolScrub_mapped hcfg hn hline hheld h1 h2 hpage)
  case retrain =>
    exact fun _ warm hch hdue hwake => does_onDieIf (exec_is_dramRetrain warm true) rfl (Die.dramRetrain_ok hch hdue hwake)
  case hammer =>
    exact fun _ _ _ _ _ _ hdue hnew => does_onDieIf exec_is_rowHammerAction rfl (Die.rowHammerAction_due hdue hnew)
  case window => exact fun _ hend => does_onDieIf exec_is_rowHammerWindowEnd rfl (if_pos hend)
  case repair =>
    rintro d _ _ loc hw hwake hspare rfl rfl
    exact does_onDieIf exec_is_dramPpr rfl (Die.dramPpr_spare hw hwake hspare)
  case clear =>
    intro d seg hseg
    refine does_onDieIf (exec_is_dramSegmentClear seg) rfl ?_
    rw [Die.dramSegmentClear, hseg, Bool.not_true, if_neg Bool.false_ne_true]

end Sys2Proof.Machine
end


section
/-! PROOFS. The tier manager and the NAND controller: park records, moves and fills, the page-table commands an idle port takes, and
the units and blocks of the FLASH tier (R274, R277 to R279, R282 to R289, R331 to R334). -/

namespace Sys2Proof.Machine

/-! ### Parks, moves and fills (R277 to R279, R288) -/

section
variable {d d1 d2 : Die}

theorem Die.parkExpiry_due {id : BitVec 16} {r : ParkRec} {t : Nat} (hr : (d.tier.parks.find? fun r => r.id == id.toNat) = some r)
    (ht : r.expires = some t) (hdue : t ≤ d.sched.lastTick) (hrest : r.restoring = false) : d.parkExpiry id = d.expirePark r := by
  simp only [Die.parkExpiry, hr, ht, if_pos (And.intro hdue hrest)]

/-- A move whose NAND work is done, with a frame for its page, attempts its copy and its switch. -/
theorem Die.pageMigrationSwitch_ready {copy : PageCopy} {m m1 : Move} {f : Nat} (hm : d.moveOf copy.page.toNat = some m)
    (hgood : m.kind = .fill → m.badUnits = []) (hdone : m.nandDone = true)
    (hframe : (if m.hasFrame then some (m.dstFrame, d) else d.fillFrame (pteGroup (d.pte m.page))) = some (f, d1))
    (hm1 : { m with dstFrame := f, hasFrame := true } = m1) :
    d.pageMigrationSwitch copy = d.attempt (moveSlot m.page) fun w =>
      let c := (Die.count { d1 with far := w.far } Reg.SHF_CONFLICT copy.lost).copyTo m1
      (c.setPte m.page (switchedPte (c.pte m.page) m1)).endMove m1 := by
  have hok : ¬ (m.kind = .fill ∧ m.badUnits ≠ []) := fun h => h.2 (hgood h.1)
  simp only [Die.pageMigrationSwitch, hm, if_neg hok, hdone, Bool.not_true, Bool.false_eq_true, if_false, hframe, hm1]

theorem Die.demandFill_starts {page : BitVec 32} {x : Nat × Nat} {f : Nat}
    (hx : (d.tier.demanded.find? fun x => x.1 == page.toNat) = some x) (hnone : d.moveOf page.toNat = none)
    (hcache : cacheable (d.pte page.toNat) = true) (htier : pteTier (d.pte page.toNat) = 5)
    (hframe : d.fillFrame (pteGroup (d.pte page.toNat)) = some (f, d1)) (hfill : d1.startFill page.toNat x.2 (some f) true = d2) :
    d.demandFill page =
      (Die.notePage { d2 with tier := { d2.tier with demanded := d2.tier.demanded.filter fun y => y != x } } x.2 page.toNat).count
        Reg.TIR_DEMAND 1 := by
  simp only [Die.demandFill, hx, hnone, hcache, htier, BEq.rfl, Bool.and_self, Bool.not_true, Bool.false_eq_true, if_false, hframe,
    Option.map_some, hfill]

theorem Die.fillNoFrame_due {page : BitVec 32} {m : Move} {t : Nat} (hm : d.moveOf page.toNat = some m) (ht : m.since = some t)
    (hkind : m.kind = .fill) (hnone : m.hasFrame = false) (hdue : t + msCycles 1 ≤ d.refclk)
    (hframe : d.fillFrame (pteGroup (d.pte m.page)) = none) : d.fillNoFrame page = d.failMove m Bit.TIR_ERR_NO_FRAME := by
  simp only [Die.fillNoFrame, hm, ht]
  exact if_pos ⟨hkind, hnone, hdue, by rw [hframe]; rfl⟩

end

/-- Settles O29: a descriptor's start leaves its body's effect, and each of the manager's own events passes its guards. -/
theorem tierCompletes : Obligations.TierCompletes := by
  unfold Obligations.TierCompletes
  refine ⟨?prefetch, ?migrate, ?park, ?restore, ?expiry, ?move, ?demand, ?noFrame⟩
  case prefetch => exact fun _ slot h _ => settles_runOpIf (exec_is_tPrefetch slot h) rfl fun _ => rfl
  case migrate => exact fun _ slot h _ => settles_runOpIf (exec_is_tMigrate slot h) rfl fun _ => rfl
  case park => exact fun _ slot h _ => settles_runOpIf (exec_is_tPark slot h) rfl fun _ => rfl
  case restore => exact fun _ slot h _ => settles_runOpIf (exec_is_tRestore slot h) rfl fun _ => rfl
  case expiry =>
    exact fun _ id _ _ hr ht hdue hrest => does_onDieIf (exec_is_parkExpiry id) rfl (Die.parkExpiry_due hr ht hdue hrest)
  case move =>
    rintro d d1 _ copy m m1 f hm hgood hdone hframe hm1 rfl
    exact fun hh => does_onDieIf (exec_is_pageMigrationSwitch copy) rfl
      ((Die.pageMigrationSwitch_ready hm hgood hdone hframe hm1).trans (attempt_of_eq rfl hh))
  case demand =>
    exact fun _ _ _ page _ _ hx hnone hcache htier hframe hfill =>
      does_onDieIf (exec_is_demandFill page) rfl (Die.demandFill_starts hx hnone hcache htier hframe hfill)
  case noFrame =>
    exact fun _ page _ _ hm ht hkind hnone hdue hframe =>
      does_onDieIf (exec_is_fillNoFrame page) rfl (Die.fillNoFrame_due hm ht hkind hnone hdue hframe)

/-! ### The page table (R274) -/

section
variable {d : Die} (hb : d.tier.busy = none)
include hb

/-- A port that is not BUSY takes a page-table command. -/
theorem Die.tirTake_idle {f : Die → Die} : d.tirTake f = f d := by
  rw [Die.tirTake, hb, Option.isSome_none, if_neg Bool.false_ne_true]

theorem Die.tirSetdir_legal (hleaf : d.tirData % 2 ^ 64 % 2 ^ 20 = 0) (hnew : d.dirValid (65536 * (d.tirFirst / 65536)) = false) :
    d.tirSetdir = Die.tirResult { d with tier := { d.tier with
      dir := SMap.put (fun _ => 0) d.tier.dir (d.tirFirst / 65536) (d.tirData % 2 ^ 64 % 2 ^ 48 + 1),
      pages := d.tier.pages.filter fun kv => decide (kv.1 / 65536 ≠ d.tirFirst / 65536) &&
        SMap.get (fun _ => 0) d.tier.dir (kv.1 / 65536) != d.tirData % 2 ^ 64 % 2 ^ 48 + 1 } } 0 := by
  rw [Die.tirSetdir, Die.tirTake_idle hb]
  exact (if_neg (not_not.mpr hleaf)).trans (if_neg (ne_true_of_eq_false hnew))

theorem Die.tirMap_legal {t : BitVec 128} (ht : mapTemplate d.tirData = t) (hrange : d.tirRangeOk = true)
    (htier : pteTier t < 5 ∨ (pteTier t = 5 ∧ pteRo t = true)) (hok : d.tirRefusal = 0) :
    d.tirMap = (d.tirPages.zipIdx.foldl (fun acc p =>
      (acc.releasePage false p.1).setPte p.1 (pteSet t 95 64 ((pteFrame t + p.2) % 2 ^ 32))) d).tirResult 0 := by
  have hlegal : (!d.tirRangeOk || decide (5 < pteTier t) || (pteTier t == 5 && !pteRo t)) = false := by
    rcases htier with hlow | ⟨hflash, hro⟩
    · simp [hrange, hlow.le, hlow.ne]
    · simp [hrange, hflash, hro]
  rw [Die.tirMap, Die.tirTake_idle hb]
  simp only [ht, hlegal, Bool.false_eq_true, if_false, hok, ne_eq, not_true_eq_false]

theorem Die.tirUnmap_legal (hrange : d.tirRangeOk = true) (hok : d.tirRefusal = 0) :
    d.tirUnmap = (d.tirPages.foldl (fun acc p =>
      (acc.releasePage true p).setPte p (pteSet (pteSet (pteSet (pteSet (acc.pte p) 3 0 0) 6 6 0) 19 16 0) 127 96 0))
        d).tirResult 0 := by
  rw [Die.tirUnmap, Die.tirTake_idle hb]
  simp only [hrange, hok, Bool.not_true, Bool.false_eq_true, if_false, ne_eq, not_true_eq_false]

end

/-- Settles O30: an awake die's idle port takes the command, which passes each refusal before its effect. -/
theorem pageTableCommandsComplete : Obligations.PageTableCommandsComplete := by
  unfold Obligations.PageTableCommandsComplete
  refine ⟨?setdir, ?map, ?unmap, ?read⟩
  case setdir =>
    exact fun _ hs hb hleaf hnew => does_awake exec_is_tirCmdSetdir rfl hs (Die.tirSetdir_legal hb hleaf hnew)
  case map =>
    exact fun _ _ hs hb ht hrange htier hok => does_awake exec_is_tirCmdMap rfl hs (Die.tirMap_legal hb ht hrange htier hok)
  case unmap => exact fun _ hs hb hrange hok => does_awake exec_is_tirCmdUnmap rfl hs (Die.tirUnmap_legal hb hrange hok)
  case read => exact fun _ hs hb => does_awake exec_is_tirCmdRead rfl hs (Die.tirTake_idle hb)

/-! ### The FLASH tier (R331 to R334) -/

section
variable {d d1 : Die}

/-- A unit that a demand fill wants is read in its turn, and is noted bad when it could not be decoded. -/
theorem Die.nandUnitRead_wanted {page : BitVec 32} {unit : BitVec 4} {how : NandHow} {m : Move} {bad : Bool}
    (hm : d.moveOf page.toNat = some m) (hsrc : m.srcTier = 5) (hdemand : m.demand = true)
    (hnew : m.units.contains unit.toNat = false) (hread : d.readCodeword (16 * m.srcFrame + unit.toNat) how = (bad, d1)) :
    d.nandUnitRead page unit how =
      if m.units.length = 15 then
        (d1.setMove { m with
          units := m.units ++ [unit.toNat], badUnits := if bad then m.badUnits ++ [unit.toNat] else m.badUnits }).count
            Reg.TIR_FLASH_RD 1
      else d1.setMove { m with
        units := m.units ++ [unit.toNat], badUnits := if bad then m.badUnits ++ [unit.toNat] else m.badUnits } := by
  have hlen : ((m.units ++ [unit.toNat]).length = 16) = (m.units.length = 15) := by simp
  simp only [Die.nandUnitRead, hm, hsrc, hdemand, hnew, hread, ne_eq, not_true_eq_false, Bool.false_eq_true, Bool.true_or, Bool.not_true,
    or_self, if_false, hlen]

/-- A unit before the last of a move into FLASH is programmed, data and journal record. -/
theorem Die.nandUnitWrite_placed {page : BitVec 32} {unit : BitVec 4} {m : Move} {u : (BitVec 32768 × Bool) × Die} {q : Nat × Die}
    (hm : d.moveOf page.toNat = some m) (hdst : m.dstTier = 5) (hnew : m.units.contains unit.toNat = false)
    (hlen : m.units.length < 15) (hu : (d.workOf (moveSlot m.page)).unitOfMove m unit.toNat = u) (hq : u.2.writeBlock = some q)
    (hplace : q.2.placeUnit (16 * m.dstFrame + unit.toNat) = some d1)
    (hh : AtHand ((d1.writtenUnit (16 * m.dstFrame + unit.toNat) u.1.1 u.1.2).setMove { m with units := m.units ++ [unit.toNat] })) :
    d.nandUnitWrite page unit false =
      ((d1.writtenUnit (16 * m.dstFrame + unit.toNat) u.1.1 u.1.2).setMove { m with units := m.units ++ [unit.toNat] }).spend := by
  have hwant : ¬ (m.dstTier ≠ 5 ∨ m.units.contains unit.toNat = true) := by simp only [hdst, hnew]; simp
  simp only [Die.nandUnitWrite, hm, if_neg hwant]
  refine attempt_of_eq ?_ hh
  simp only [hu, hq, Bool.false_eq_true, if_false, hplace, if_neg hlen.ne]

theorem Die.nandReadDisturbReloc_due {block : BitVec 25} (hused : d.nand.used.contains block.toNat = true)
    (hlimit : d.rf Reg.NFC_RD_LIMIT 23 0 ≤ (d.nblk block.toNat).reads) (hidle : d.fillsReading = false)
    (hmove : d.moveUnits block.toNat = some d1) :
    d.nandReadDisturbReloc block = (d1.eraseBlock block.toNat).count Reg.NFC_RELOC_RD 1 := by
  have hgo : (!d.nand.used.contains block.toNat || decide ((d.nblk block.toNat).reads < d.rf Reg.NFC_RD_LIMIT 23 0) ||
      d.fillsReading) = false := by
    rw [hused, hidle, decide_eq_false (Nat.not_lt.mpr hlimit)]
    rfl
  simp only [Die.nandReadDisturbReloc, hgo, Bool.false_eq_true, if_false, hmove]

theorem Die.nandWearLevel_due {b : Nat} (hb : d.leastWorn d.nand.used = some b)
    (hspread : d.rf Reg.NFC_WL_SPREAD 15 0 < d.eraseSpread.1 - d.eraseSpread.2) (hidle : d.fillsReading = false)
    (hmove : d.moveUnits b = some d1) : d.nandWearLevel = (d1.eraseBlock b).count Reg.NFC_RELOC_WL 1 := by
  simp only [Die.nandWearLevel, hb, if_pos (And.intro hspread hidle), hmove]

theorem Die.nandGarbageCollect_used {block : BitVec 25} (hused : d.nand.used.contains block.toNat = true)
    (hother : d.nand.current ≠ some block.toNat) (hidle : d.fillsReading = false) (hmove : d.moveUnits block.toNat = some d1) :
    d.nandGarbageCollect block = d1.eraseBlock block.toNat := by
  simp only [Die.nandGarbageCollect, hused, hidle, beq_eq_false_iff_ne.mpr hother, Bool.not_true, Bool.or_self, Bool.false_eq_true,
    if_false, hmove]

theorem Die.nandGrownBad_spared {block : BitVec 25} (hused : d.nand.used.contains block.toNat = true)
    (hbad : d.grownBad block.toNat = true) (hspare : d.nand.spare ≠ [])
    (hmove : (d.takeSpare.spareInService 5 (blockLoc block.toNat)).moveUnits block.toNat = some d1) :
    d.nandGrownBad block =
      let d2 : Die := { d1 with nand := { d1.nand with
        used := d1.nand.used.filter (· != block.toNat), bad := d1.nand.bad ++ [block.toNat], grown := d1.nand.grown + 1 } }
      (d2.setRf Reg.NFC_BAD_GROWN 15 0 (d2.rf Reg.NFC_BAD_GROWN 15 0 + 1)).err Reg.NFC_ERR Bit.NFC_ERR_GROWN_BAD := by
  simp only [Die.nandGrownBad, hused, hbad, Bool.not_true, Bool.or_self, Bool.false_eq_true, if_false, if_neg hspare, hmove]

end

/-- Settles O32: a wanted unit is read or programmed, and each of the layer's own jobs passes the guards before its effect. -/
theorem nandCompletes : Obligations.NandCompletes := by
  unfold Obligations.NandCompletes
  refine ⟨?read, ?last, ?bad, ?write, ?disturb, ?level, ?collect, ?grown⟩
  case read =>
    exact fun _ _ page unit how _ hm hsrc hdemand hnew hlen hread => does_onDieIf (exec_is_nandUnitRead page unit how) rfl
      ((Die.nandUnitRead_wanted hm hsrc hdemand hnew hread).trans (if_neg hlen.ne))
  case last =>
    exact fun _ _ page unit how _ hm hsrc hdemand hnew hlen hread => does_onDieIf (exec_is_nandUnitRead page unit how) rfl
      ((Die.nandUnitRead_wanted hm hsrc hdemand hnew hread).trans (if_pos hlen))
  case bad =>
    exact fun _ _ page unit how _ hm hsrc hdemand hnew hlen hread => does_onDieIf (exec_is_nandUnitRead page unit how) rfl
      ((Die.nandUnitRead_wanted hm hsrc hdemand hnew hread).trans (if_neg hlen.ne))
  case write =>
    exact fun _ _ page unit _ _ _ hm hdst hnew hlen hu hq hplace hh =>
      does_onDieIf (exec_is_nandUnitWrite page unit false) rfl (Die.nandUnitWrite_placed hm hdst hnew hlen hu hq hplace hh)
  case disturb =>
    exact fun _ _ block hused hlimit hidle hmove => does_onDieIf (exec_is_nandReadDisturbReloc block) rfl
      (Die.nandReadDisturbReloc_due hused hlimit hidle hmove)
  case level =>
    exact fun _ _ _ hb hspread hidle hmove => does_onDieIf exec_is_nandWearLevel rfl
      (Die.nandWearLevel_due hb hspread hidle hmove)
  case collect =>
    exact fun _ _ block hused hother hidle hmove => does_onDieIf (exec_is_nandGarbageCollect block) rfl
      (Die.nandGarbageCollect_used hused hother hidle hmove)
  case grown =>
    rintro d d1 _ block hused hbad hspare hmove rfl
    exact does_onDieIf (exec_is_nandGrownBad block) rfl (Die.nandGrownBad_spared hused hbad hspare hmove)

end Sys2Proof.Machine
end


section
/-! PROOFS. The links: what the host link delivers and gives up, how a peer port comes up, takes flits and goes down, remote
accesses, and transfers (R367, R369, R376 to R388, R393, R394). -/

namespace Sys2Proof.Machine

/-! ### The host link (R367, R369, R374, R394) -/

section
variable {d : Die} {a : FarAsk}

/-- A read in the open has nothing to verify. -/
theorem Die.landRead_open {c : FarCell} (h : a.key < rawKey 0) : d.landRead a c = d.landReads [a] c := if_pos h

/-- A line of a confidential unit may be the last part the unit waits for. -/
theorem Die.landRead_confidential {c : FarCell} {n : Nat} (h : a.key = rawKey n) (hn : n < 2 ^ 42) :
    d.landRead a c = (d.landReads [a] c).settleUnit a.slot n := by
  have hraw : ¬ a.key < rawKey 0 := by simp only [rawKey] at *; omega
  have hplain : a.key < plainKey 0 := by simp only [rawKey, plainKey] at *; omega
  have hkey : a.key - rawKey 0 = n := by simp only [rawKey] at *; omega
  simp only [Die.landRead, if_neg hraw, if_pos hplain, hkey]

theorem Die.hostReadResponse_data {line : BitVec 42} {data : Line}
    (ha : (d.far.asked.find? fun a => d.askLine a == some line.toNat) = some a) :
    d.hostReadResponse line data .data =
      Die.landRead (if d.confMode then { d with saggar := { d.saggar with traffic := d.refclk } } else d) a ⟨data, false, false⟩ := by
  simp only [Die.hostReadResponse, ha]

theorem Die.hostReadTimeout_open {line : BitVec 42}
    (ha : (d.far.asked.find? fun a => d.askLine a == some line.toNat && d.elapsed a.since (d.rf Reg.LNK_HOST_CFG 15 0)) = some a)
    (hkey : a.key < rawKey 0) :
    d.hostReadTimeout line = (d.landReads [a] FarCell.error).err Reg.LNK_ERR Bit.LNK_ERR_HOST_TIMEOUT := by
  simp only [Die.hostReadTimeout, ha, Die.landRead_open hkey]

end

/-- Settles O35: a response or a timeout lands the read it answers, and a loss of the link ends what it carried. -/
theorem hostLinkCompletes : Obligations.HostLinkCompletes := by
  unfold Obligations.HostLinkCompletes
  refine ⟨?response, ?confidential, ?timeout, ?snoop, ?down⟩
  case response =>
    intro d line data a hconf ha hkey
    refine does_onDieIf (exec_is_hostReadResponse line data .data) rfl ?_
    rw [Die.hostReadResponse_data ha, hconf, if_neg Bool.false_ne_true, Die.landRead_open hkey]
  case confidential =>
    intro d line data a n hconf ha hkey hn
    refine does_onDieIf (exec_is_hostReadResponse line data .data) rfl ?_
    rw [Die.hostReadResponse_data ha, if_pos hconf, Die.landRead_confidential hkey hn]
  case timeout =>
    exact fun _ line _ ha hkey => does_onDieIf (exec_is_hostReadTimeout line) rfl (Die.hostReadTimeout_open ha hkey)
  case snoop => exact fun _ line => does_onDieIf (exec_is_hostSnoop line) rfl rfl
  case down =>
    rintro d _ hup rfl
    exact does_onDieIf exec_is_hostPortDown rfl (if_neg hup)

/-! ### Peer ports (R376 to R381, R393, R394) -/

section
variable {d d1 d2 : Die} {p : Nat}

theorem Die.eslisHello_joins {h : Hdr} {nsId : Word} (hstate : d.portState (portOf h) = 2)
    (h1 : d.received (portOf h) 3 (laneOf h) 0 = d1) (hid : h.src.toNat ≠ d.dieId) (hmajor : nsId.f 15 8 = d.rf Reg.NS_ID 15 8)
    (h2 : (((d1.setRf (Reg.LNK_PORT_STAT (portOf h)) 14 12 h.src.toNat).setRf (Reg.LNK_PORT_STAT (portOf h)) 15 15 1).setPortState
      (portOf h) 3).sendTopo = d2) :
    d.eslisHello h nsId = (d2.link.topos.filter fun t => t.1 != h.src.toNat).foldl (fun acc t => acc.passTopo (portOf h) 0 0 t) d2 := by
  simp only [Die.eslisHello, hstate, h1, if_neg hid, hmajor, h2, ne_eq, not_true_eq_false, if_false]

/-- A TOPO that is new, at the end of a chain whose fabric is not ready yet, is recorded and may complete discovery. -/
theorem Die.eslisTopo_new {h : Hdr} {die1 die2 : BitVec 8} {latency : BitVec 32} (hopen : d.portOpen (portOf h) = true)
    (h1 : d.received (portOf h) 3 (laneOf h) 0 = d1)
    (hnew : d1.link.topos.contains (h.src.toNat, die1.toNat, die2.toNat) = false) (hid : h.src.toNat ≠ d.dieId)
    (hend : d1.portState (3 - portOf h) ≠ 3) (hready : d1.rf Reg.LNK_STAT 12 12 ≠ 1) :
    d.eslisTopo h die1 die2 latency =
      Die.fabricReady { d1 with link := { d1.link with
        topos := (d1.link.topos.filter fun (o : Nat × Nat × Nat) => o.1 != h.src.toNat) ++
          [(h.src.toNat, die1.toNat, die2.toNat)] } } latency.toNat := by
  have hgo : (d1.link.topos.contains (h.src.toNat, die1.toNat, die2.toNat) || h.src.toNat == d.dieId) = false := by
    rw [hnew, beq_eq_false_iff_ne.mpr hid]
    rfl
  have hend' : ∀ l : Link, Die.portState { d1 with link := l } (3 - portOf h) ≠ 3 := fun _ => hend
  have hready' : ∀ l : Link, Die.rf { d1 with link := l } Reg.LNK_STAT 12 12 ≠ 1 := fun _ => hready
  simp only [Die.eslisTopo, hopen, h1, hgo, Bool.not_true, Bool.false_eq_true, if_false, if_neg (hend' _), if_neg (hready' _)]

/-- A data flit with no illegal message and no request for a replay is acknowledged, unless a flit just sent did so. -/
theorem Die.takeFlit_data {v : Nat} (hkind : fld v 26 25 = 1) (hnak : v.testBit 24 = false)
    (hgood : badMessages 15 15 (fld v 2015 96) = 0)
    (h1 : (d.setPort p { d.port p with
      rxSeq := ((d.port p).rxSeq + 1) % 4096,
      replay := ackReplay (fld v 23 12) (d.port p).replay,
      credits := creditAdd (d.port p).credits (BitVec.ofNat 32 (fld v 63 32)) }).pump p = d1) :
    d.takeFlit p v = if (d1.port p).txSeq = (d.port p).txSeq then d1.ackNow p else d1 := by
  simp only [Die.takeFlit, hkind, hnak, hgood, Nat.one_ne_zero, if_true, if_false, Bool.false_eq_true, List.range_zero, List.foldl_nil,
    h1, ne_eq, not_false_eq_true, true_and]

/-- An active port takes a flit in that is whole and the next in order. -/
theorem Die.flitReceive_inOrder {f : FlitWords} {v : Nat} (hp : (if f.port then 2 else 1) = p) (hv : f.bits.toNat = v)
    (hdue : d.dueRetrains = d) (hstate : d.portState p = 3) (hcrc : crc32c (toBytes 252 v) = fld v 2047 2016)
    (hkind : fld v 26 25 = 1) (hseq : fld v 11 0 = (d.port p).rxSeq) : d.flitReceive f = d.takeFlit p v := by
  simp [Die.flitReceive, hdue, hp, hv, hstate, hcrc, hkind, hseq]

theorem Die.replayPort_again {u : Unacked} {us : List Unacked} (hreplay : (d.port p).replay = u :: us) (hsent : u.sent < 8) :
    d.replayPort p =
      (d.port p).replay.foldl (fun acc o => acc.emit (.flit p o.flit (flitBytes o.seq (d.port p).ack false [] o.flit)))
        ((d.setPort p { d.port p with
          replay := (d.port p).replay.map fun o => { o with sent := o.sent + 1, since := d.refclk } }).count
            (Reg.LNK_PORT_REPLAY p) 1) := by
  simp only [Die.replayPort, hreplay, if_neg (Nat.not_le.mpr hsent)]

theorem Die.flitAckTimeout_due {port : Bool} {u : Unacked} {us : List Unacked} (hp : (if port then 2 else 1) = p)
    (hdue : d.dueRetrains = d) (hreplay : (d.port p).replay = u :: us) (hlate : d.elapsed u.since 2 = true)
    (hstate : d.portState p = 3) : d.flitAckTimeout port = d.replayPort p := by
  simp only [Die.flitAckTimeout, hdue, hp, hreplay]
  exact if_pos ⟨hlate, .inr hstate⟩

/-- A retraining that succeeds, its spare lanes sufficing, ends the run of failures and sends what had waited. -/
theorem Die.linkRetrain_ok {port : BitVec 2} {t : Trained} (hport : port.toNat ≤ 2) (hstate : d.portState port.toNat = 4)
    (hrate : t.rate.toNat ≠ 0)
    (h1 : ((((d.count (Reg.LNK_PORT_RETRAIN port.toNat) 1).setRf (Reg.LNK_PORT_STAT port.toNat) 6 4
      (min (d.port port.toNat).cap (min 4 t.rate.toNat))).setRf (Reg.LNK_PORT_STAT port.toNat) 11 8
        t.repaired.toNat).setPortState port.toNat (if port.toNat = 0 ∨ (d.peerOn port.toNat).isSome then 3 else 2)) = d1) :
    d.linkRetrain port true false t = (d1.setPort port.toNat { d1.port port.toNat with
      fails := 0,
      crcs := [],
      replay := (d1.port port.toNat).replay.map fun u => { u with sent := 1, since := d.refclk } }).pump port.toNat := by
  have hgo : ¬ (2 < port.toNat ∨ (!(d.portState port.toNat == 4 || (port.toNat == 0 && d.portState port.toNat == 1))) = true ∨
      t.rate.toNat = 0) := by simp [hport, hstate, hrate]
  simp only [Die.linkRetrain, if_neg hgo, if_pos hstate, Die.errIf, Bool.false_eq_true, if_false, if_true, h1]

end

/-- Settles O36: each event of a peer port passes the guards of its state before its effect. -/
theorem peerPortsComplete : Obligations.PeerPortsComplete := by
  unfold Obligations.PeerPortsComplete
  refine ⟨?trained, ?hello, ?topo, ?flit, ?replay, ?retrain, ?down⟩
  case trained =>
    rintro d port rate repaired _ rfl henabled hstate hmin hmax hcap
    exact does_onDieIf (exec_is_peerPortTrained port rate repaired) rfl (if_pos ⟨henabled, hstate, hmin, hmax, hcap⟩)
  case hello =>
    exact fun _ _ _ h nsId hstate h1 hid hmajor h2 => does_onDieIf (exec_is_eslisHello h nsId) rfl
      (Die.eslisHello_joins hstate h1 hid hmajor h2)
  case topo =>
    exact fun _ _ h die1 die2 latency hopen h1 hnew hid hend hready => does_onDieIf (exec_is_eslisTopo h die1 die2 latency) rfl
      (Die.eslisTopo_new hopen h1 hnew hid hend hready)
  case flit =>
    exact fun _ _ f _ _ hp hv hdue hstate hcrc hkind hseq hnak hgood h1 => does_onDieIf (exec_is_flitReceive f) rfl
      ((Die.flitReceive_inOrder hp hv hdue hstate hcrc hkind hseq).trans (Die.takeFlit_data hkind hnak hgood h1))
  case replay =>
    exact fun _ port _ _ _ hp hdue hreplay hlate hstate hsent => does_onDieIf (exec_is_flitAckTimeout port) rfl
      ((Die.flitAckTimeout_due hp hdue hreplay hlate hstate).trans (Die.replayPort_again hreplay hsent))
  case retrain =>
    exact fun _ _ port t hport hstate hrate h1 => does_onDieIf (exec_is_linkRetrain port true false t) rfl
      (Die.linkRetrain_ok hport hstate hrate h1)
  case down =>
    rintro d _ port _ rfl hstate hfails rfl
    exact does_onDieIf (exec_is_peerPortDown port) rfl (if_pos ⟨hstate, hfails⟩)

/-! ### Remote access (R383 to R385) -/

section
variable {d d1 : Die} {h : Hdr}

theorem Die.serveWrite_landed {addr tenant queue : Nat} {write : Who → Die → Bool × Die} {q : Bool × Die}
    (hexport : d.exportRefused addr = false) (hq : write ⟨4, tenant, queue, serveSlot⟩ d = q) (hlanded : q.1 = true) :
    d.serveWrite h addr tenant queue write = q.2.answer h 5 false stOk [] := by
  simp only [Die.serveWrite, hexport, Bool.false_eq_true, if_false, hq, if_pos hlanded]

theorem Die.eslisRdata_named {v : Line} {t : Txn} (hd : Delivers h 4 64 [0] (linePayload v.toNat) d d1)
    (ht : d1.txnOf h.tag false = some t) (hgood : h.poison = false) :
    d.eslisRdata h 0#8 v = (d1.deliverFar t.slot t.line t.via ⟨v, false, false⟩).closeTxn t := by
  rw [Die.eslisRdata]
  refine (routed_delivers hd).trans ?_
  simp only [ht, hgood, Bool.false_eq_true, if_false]
  rfl

theorem Die.eslisWack_named {t : Txn} (hd : Delivers h 5 0 [0] [] d d1) (ht : d1.txnOf h.tag true = some t) :
    d.eslisWack h 0#8 = d1.closeTxn t := by
  rw [Die.eslisWack]
  refine (routed_delivers hd).trans ?_
  simp only [ht]
  rfl

theorem Die.peerRequestTimeout_only {idx : BitVec 12} {t : Txn} (ht : d.far.txns = [t]) (hidx : t.idx = idx.toNat)
    (hlate : d.elapsed t.since (d.rf Reg.LNK_FAB_CFG 15 0) = true) :
    d.peerRequestTimeout idx = ((d.failTxn t).count Reg.LNK_PEER_TIMEOUTS 1).err Reg.LNK_ERR Bit.LNK_ERR_PEER_TIMEOUT := by
  have hfind : (d.far.txns.find? fun t => t.idx == idx.toNat && d.elapsed t.since (d.rf Reg.LNK_FAB_CFG 15 0)) = some t := by
    simp [ht, hidx, hlate]
  simp only [Die.peerRequestTimeout, hfind]

end

/-- Settles O37: a message for this die is served, or answers the request its TAG names. -/
theorem remoteAccessCompletes : Obligations.RemoteAccessCompletes := by
  unfold Obligations.RemoteAccessCompletes
  refine ⟨?read, ?write, ?masked, ?data, ?acked, ?timeout⟩
  case read =>
    rintro d d1 h addr key tenant queue _ hd hexport rfl hgood hh
    refine does_onDieIf (exec_is_eslisRd h addr key tenant queue) rfl (attempt_of_eq ?_ hh)
    rw [routed_delivers hd]
    simp only [hexport, hgood, Bool.false_eq_true, if_false]
  case write =>
    intro d d1 h addr key tenant queue v p hd hexport hp hlanded hh
    refine does_onDieIf (exec_is_eslisWr h addr key tenant queue v) rfl (attempt_of_eq ?_ hh)
    exact (routed_delivers hd).trans (Die.serveWrite_landed hexport hp hlanded)
  case masked =>
    intro d d1 h addr key tenant queue mask v p hd hexport hp hlanded hh
    refine does_onDieIf (exec_is_eslisWrm h addr key tenant queue mask v) rfl (attempt_of_eq ?_ hh)
    exact (routed_delivers hd).trans (Die.serveWrite_landed hexport hp hlanded)
  case data =>
    exact fun _ _ h v _ hd ht hgood => does_onDieIf (exec_is_eslisRdata h 0#8 v) rfl (Die.eslisRdata_named hd ht hgood)
  case acked => exact fun _ _ h _ hd ht => does_onDieIf (exec_is_eslisWack h 0#8) rfl (Die.eslisWack_named hd ht)
  case timeout =>
    exact fun _ idx _ ht hidx hlate => does_onDieIf (exec_is_peerRequestTimeout idx) rfl
      (Die.peerRequestTimeout_only ht hidx hlate)

/-! ### Transfers (R386 to R388) -/

section
variable {d d1 d2 : Die} {h : Hdr}

/-- An OPEN for this die alone, of a transfer that is no shard and that the target permits, is taken in. -/
theorem Die.eslisOpen_own {dst : BitVec 48} {len : Word} {mask : BitVec 8} {sig : Bool} {counter inc : BitVec 16}
    {tenant : BitVec 7} {queue : BitVec 20} (hopen : d.portOpen (portOf h) = true) (hlen : len ≠ 0#32)
    (hlines : len.toNat % 64 = 0)
    (h1 : (d.received (portOf h) 0 (laneOf h) 0).dropMembers (portOf h) mask.toNat = d1)
    (hport1 : d1.maskVia (portOf h) 1 mask.toNat = 0) (hport2 : d1.maskVia (portOf h) 2 mask.toNat = 0)
    (hown : mask.toNat.testBit d.dieId = true) (hshard : d.shardAt dst.toNat len.toNat tenant.toNat = none)
    (hok : d1.transferOk tenant.toNat dst.toNat len.toNat sig counter.toNat = (true, d2)) :
    d.eslisOpen h dst len mask sig counter inc tenant queue = { d2 with link := { d2.link with
      incoming := d2.link.incoming ++ [⟨d2.link.nextIn, portOf h, laneOf h, h.bulk.toNat, h.src.toNat, h.tag.toNat, tenant.toNat,
        queue.toNat, true, [], dst.toNat, len.toNat, [], 0, if sig then some (counter.toNat, inc.toNat) else none, stOk, false,
        false, none, none⟩],
      nextIn := d2.link.nextIn + 1 } } := by
  have hbody : ∀ k, bodyBad 6 (openBody dst.toNat len.toNat k sig counter.toNat inc.toNat tenant.toNat queue.toNat) = false := by
    intro k
    simp [bodyBad, openBody, hlines]
  simp only [Die.eslisOpen, hopen, hbody, h1, List.foldl_cons, List.foldl_nil, hport1, hport2, hown, hshard, hok, if_neg hlen,
    Bool.not_true, Bool.false_eq_true, if_false, if_true, Option.isNone_none, Bool.and_self]

/-- The last flit of a transfer to this die alone ends it here, once its lines are visible. -/
theorem Die.eslisBulk_last {f : BulkFlit} {p ln : Nat} {x : Incoming} (hp : (if f.port then 2 else 1) = p)
    (hln : (if f.lane then 1 else 0) = ln) (hopen : d.portOpen p = true)
    (hx : (d.link.incoming.find? fun x => x.port == p && x.lane == ln && x.bulk == f.bulk.toNat && !x.ended) = some x)
    (hforward : x.forward = []) (hown : x.own = true) (habort : f.abort = false) (hlast : f.last = true)
    (h1 : (d.workOf serveSlot).received p 2 ln (min 240 f.bytes.toNat) = d1)
    (hh : AtHand (((d1.takeBulk x f).modIncoming x.id fun o => { o with ended := true }).settleTransfers)) :
    d.eslisBulk f = (((d1.takeBulk x f).modIncoming x.id fun o => { o with ended := true }).settleTransfers).spend := by
  simp only [Die.eslisBulk, hp, hln, hopen, hx, Bool.not_true, Bool.false_eq_true, if_false]
  refine attempt_of_eq ?_ hh
  simp only [h1, hforward, List.foldl_nil, habort, hlast, hown, Bool.false_eq_true, if_false, if_true]

/-- The last DONE that a transfer waits for completes it. -/
theorem Die.eslisDone_last {st : BitVec 8} {s : Sending} (hd : Delivers h 7 0 [st.toNat] [] d d1)
    (hs : (d1.link.sends.find? fun s => s.tag == h.tag.toNat && s.left.contains h.src.toNat) = some s)
    (hleft : s.left.filter (· != h.src.toNat) = []) :
    d.eslisDone h st = d1.endSend { s with left := [], status := if s.status = 0 then st.toNat else s.status } false := by
  rw [Die.eslisDone]
  refine (routed_delivers hd).trans ?_
  simp only [hs, hleft, if_true]

theorem Die.fabricDoneTimeout_due {slot : BitVec 12} {s : Sending} (hs : (d.link.sends.find? fun s => s.slot == slot.toNat) = some s)
    (hsent : s.sent = true) (hlate : d.elapsed s.since (d.rf Reg.LNK_FAB_CFG 15 0) = true) :
    d.fabricDoneTimeout slot = d.endSend s true := by
  simp only [Die.fabricDoneTimeout, hs]
  exact if_pos ⟨hsent, hlate⟩

end

/-- Settles O38: a started F.* leaves its body's effect, and what comes in for a transfer passes each guard before its own. -/
theorem transfersComplete : Obligations.TransfersComplete := by
  unfold Obligations.TransfersComplete
  refine ⟨?send, ?bcast, ?opened, ?bulk, ?done, ?timeout⟩
  case send => exact fun _ slot run _ => settles_runOpIf (exec_is_fSend slot run) rfl fun _ => rfl
  case bcast => exact fun _ slot run _ => settles_runOpIf (exec_is_fBcast slot run) rfl fun _ => rfl
  case opened =>
    exact fun _ _ _ h dst len mask sig counter inc tenant queue hopen hlen hlines h1 hport1 hport2 hown hshard hok =>
      does_onDieIf (exec_is_eslisOpen h dst len mask sig counter inc tenant queue) rfl
        (Die.eslisOpen_own hopen hlen hlines h1 hport1 hport2 hown hshard hok)
  case bulk =>
    exact fun _ _ f _ _ _ hp hln hopen hx hforward hown habort hlast h1 hh => does_onDieIf (exec_is_eslisBulk f) rfl
      (Die.eslisBulk_last hp hln hopen hx hforward hown habort hlast h1 hh)
  case done => exact fun _ _ h st _ hd hs hleft => does_onDieIf (exec_is_eslisDone h st) rfl (Die.eslisDone_last hd hs hleft)
  case timeout =>
    exact fun _ slot _ hs hsent hlate => does_onDieIf (exec_is_fabricDoneTimeout slot) rfl
      (Die.fabricDoneTimeout_due hs hsent hlate)

end Sys2Proof.Machine
end


section
/-! PROOFS. The image front end: frames that open, fill and close, contexts that are enabled and disabled, bindings and
statistics, denoising tiles and settings (R339 to R362). -/

namespace Sys2Proof.Machine

/-! ### Wake events and sleep -/

/-- A die that is not on its way to DOZE or SLEEP, nor in it, has nothing to wake from. -/
theorem Die.wakeEvent_up {d : Die} (kind : Nat) (h : d.damper.entry = none) : d.wakeEvent kind = d := by
  rw [Die.wakeEvent, h]

theorem Die.whileAwake_of_not_asleep {d : Die} {f : Die → Die} (h : d.asleep = false) : d.whileAwake f = f d :=
  if_neg (ne_true_of_eq_false h)

/-- An awake die takes a packet of a camera into its front end. -/
theorem does_whileAwake {c : Instr} {ok : Bool} {f : Die → Die} {d t : Die}
    (hx : ∀ s, exec c s = onDieIf ok (fun d => d.whileAwake f) s) (hok : ok = true) (hs : d.asleep = false) (hf : f d = t) :
    Does c d t :=
  does_onDieIf hx hok ((Die.whileAwake_of_not_asleep hs).trans hf)

/-! ### Frames (R339 to R343) -/

section
variable {d d1 d2 d3 : Die} {port : Bool} {vc : BitVec 4} {c : Nat}

theorem Die.frameStart_awake (hs : d.asleep = false) (hup : d.damper.entry = none) :
    d.frameStart port vc = d.csiFrameStart port vc := by
  simp only [Die.frameStart, Die.wakeEvent_up 3 hup, ite_self, hs, Bool.false_eq_true, if_false]

/-- A Frame Start in an enabled context opens a frame with the next ID and the next binding. -/
theorem Die.startFrame_opens {s : Sensor} {late : Bool} {k id : Nat} (hsensor : d.sensor c = s) (hk : d.freeCtr = k)
    (hid : (if s.started then (d.rf (Reg.IFE_CTX_FRAME c) 31 0 + 1) % 2 ^ 32 else 0) = id)
    (hlate : (d.rf (Reg.IFE_CTX_PERIOD c) 25 0 != 0 && s.lastStart.any fun t =>
      decide (384 * d.rf Reg.IFE_LATE_US 15 0 < 10 * (d.refclk - t - d.rf (Reg.IFE_CTX_PERIOD c) 25 0))) = late)
    (h1 : (({ d with freeCtr := k + 1 } : Die).setReg (Reg.IFE_CTX_FRAME c) (BitVec.ofNat 32 id)).setSensor c { s with
      frames := s.frames ++ [⟨id, k, s.bindings.head?,
          (if late then 4 else 0) + (if s.fallback && s.lastStart.isSome then 8 else 0) + (if s.badHeader then 16 else 0) +
            (if s.bindings.head?.isNone then 256 else 0), 0, 0, none, d.refclk, d.refclk, [], 0, 0, 0, 0, 0, [], true, false, false, false, [],
          0, d.reg (Reg.IFE_CTX_CFG c), d.camW c, d.camH c, d.reg (Reg.IFE_CTX_BLACK c), [], d.ife.block,
          if d.camInline c then some (d.rf Reg.IFE_ISP_BASE_HI 15 0 * 2 ^ 32 + (d.reg Reg.IFE_ISP_BASE_LO).toNat / 64 * 64) else none,
          d.reg Reg.IFE_DN_CFG, d.reg Reg.IFE_DN_SLOTS, [], false, false⟩],
      bindings := s.bindings.drop 1,
      started := true,
      lastStart := some d.refclk,
      fallback := false,
      badHeader := false,
      latchDue := s.latchDue ++ [(id, d.settingsAddr c / 64, d.camTenant c)] } = d1)
    (h2 : (if late then d1.camCount c cntLate else d1) = d2) :
    d.startFrame c = (if s.bindings.head?.isNone then d2.camCount c cntUnbound else d2).camTickSource c := by
  subst hsensor hk hid hlate h1 h2
  simp only [Die.startFrame, Die.fresh]
  cases (d.sensor c).lastStart <;> rfl

theorem Die.csiFrameStart_open (hc : d.camOf port vc = some c) (h1 : d.fixFirings.closeFrame c = d1)
    (h2 : d1.startFrame c = d2) : d.csiFrameStart port vc = d2.camGoOn := by
  simp only [Die.csiFrameStart, hc, h1, h2]

theorem Die.csiFrameEnd_closes (hc : d.camOf port vc = some c) (ho : (d.openFrame c).isSome = true)
    (h1 : d.fixFirings.closeFrame c = d1) : d.csiFrameEnd port vc = d1.camGoOn := by
  simp only [Die.csiFrameEnd, hc, if_pos ho, h1]

theorem Die.frameCloseTimeout_due {ctx : BitVec 2} {f : Frame} (ho : d.openFrame ctx.toNat = some f)
    (hfree : d.rf (Reg.IFE_CTX_PERIOD ctx.toNat) 25 0 = 0 → f.tStart + 3840000 ≤ d.refclk)
    (hperiod : d.rf (Reg.IFE_CTX_PERIOD ctx.toNat) 25 0 ≠ 0 →
      2 * f.tStart + 3 * d.rf (Reg.IFE_CTX_PERIOD ctx.toNat) 25 0 ≤ 2 * d.refclk)
    (h1 : d.fixFirings.closeFrame ctx.toNat = d1) : d.frameCloseTimeout ctx = d1.camGoOn := by
  subst h1
  simp only [Die.frameCloseTimeout, ho]
  refine if_pos ?_
  split
  · exact hfree ‹_›
  · exact hperiod ‹_›

/-! ### Lines and embedded data (R342) -/

section
variable {f : Frame} {line : List Nat}

/-- A line of the right length, where lines still lack, is placed and noted for the tiles. -/
theorem Die.takeLine_fits (hlen : line.length = lineSamples f.dt f.width) (hroom : f.lines.length < f.height) :
    d.takeLine c f line false false = (((d.writeRaw c f f.lines.length line false).modFrame c f.key fun o =>
      { o with lines := o.lines ++ [(line, true)], times := o.times ++ [d.refclk], tEnd := d.refclk }).dnLine f.key).settleTiles := by
  have htake : line.take (lineSamples f.dt f.width) = line := List.take_of_length_le hlen.le
  simp only [Die.takeLine, if_pos hlen, if_neg (Nat.not_le.mpr hroom), Bool.false_eq_true, if_false, htake, Bool.not_false]

/-- A line beyond the frame's height is only counted. -/
theorem Die.takeLine_long (hfull : f.height ≤ f.lines.length)
    (h1 : (if line.length = lineSamples f.dt f.width then d else d.markFrame c f 6 none) = d1) :
    d.takeLine c f line false false =
      (d1.markFrame c f 1 (some cntLong)).modFrame c f.key fun o => { o with extra := min 65535 (o.extra + 1) } := by
  simp only [Die.takeLine, h1, if_pos hfull]

/-- A line of the context's data type goes to its open frame; the line buffers lost none of it. -/
theorem Die.csiLine_open {dt : BitVec 6} {bytes : List (BitVec 8)} {eccCorr crcBad : Bool} (hc : d.camOf port vc = some c)
    (ho : d.openFrame c = some f) (hdt : dt.toNat = d.camF c 23 18) (hline : unpackLine dt.toNat (bytes.map (·.toNat)) = line) :
    d.csiLine port vc dt bytes eccCorr crcBad ⟨false, none⟩ = (d.packetErrors c f eccCorr crcBad true).takeLine c f line false false := by
  simp only [Die.csiLine, hc, ho, if_neg (not_not.mpr hdt), hline, Die.lineUpset, lineLost]

theorem Die.csiEmbedded_open {bytes : List (BitVec 8)} {eccCorr crcBad : Bool} (hc : d.camOf port vc = some c)
    (ho : d.openFrame c = some f) :
    d.csiEmbedded port vc bytes eccCorr crcBad =
      if d.camF c 0 0 = 1 then (d.packetErrors c f eccCorr crcBad false).modFrame c f.key fun o =>
        { o with embed := o.embed ++ bytes.map (·.toNat) }
      else d.packetErrors c f eccCorr crcBad false := by
  simp only [Die.csiEmbedded, hc, ho]

end

/-! ### Contexts, statistics and headers (R339, R340, R355) -/

section
variable {ctx : BitVec 2}

theorem Die.ifeCtxEnable_legal {w : Word} {s : Sensor} (hen : w.b 31 = true) (hoff : d.camOn ctx.toNat = false)
    (hlegal : d.camLimits ctx.toNat w = true) (hs : d.sensor ctx.toNat = s) :
    d.ifeCtxEnable ctx w = (d.setReg (Reg.IFE_CTX_CFG ctx.toNat) (w &&& 0xFFFFE7F1#32)).setSensor ctx.toNat
      { Sensor.fresh with seq := s.seq, old := s.underWay, frames := s.frames } := by
  simp only [Die.ifeCtxEnable, hen, hoff, hlegal, Bool.not_true, Bool.or_self, Bool.false_eq_true, if_false, hs]

theorem Die.ifeCtxDisable_on {w : Word} (hen : w.b 31 = false) (hon : d.camOn ctx.toNat = true)
    (h1 : ((d.fixFirings.closeFrame ctx.toNat).setRf (Reg.IFE_CTX_CFG ctx.toNat) 31 31 0).errIf
      ((w ^^^ d.reg (Reg.IFE_CTX_CFG ctx.toNat)) &&& 0x7FFFE7F1#32 != 0#32) Reg.IFE_ERR Bit.IFE_ERR_CONFIG = d1) :
    d.ifeCtxDisable ctx w = ((d1.dropHeld ctx.toNat stCancelled).endWaiting (· == ctx.toNat) stCancelled).camGoOn := by
  simp only [Die.ifeCtxDisable, hen, hon, Bool.not_true, Bool.or_self, Bool.false_eq_true, if_false, h1]

theorem Die.statsReady_held {f : Frame} (h1 : d.camGoOn.fixFirings = d1)
    (hf : ((d1.sensor ctx.toNat).held.find? fun f => !f.ready && f.blockAt.isNone) = some f) :
    d.statsReady ctx = d1.modFrame ctx.toNat f.key fun o => { o with
      ready := true, statFlags := o.flags, statBypass := o.bypass, firing := some (o.firing.getD (d1.firing % 2 ^ 32)) } := by
  simp only [Die.statsReady, h1, hf]

section
variable (hon : d.camOn ctx.toNat = true) (h1 : (d.camCount ctx.toNat cntEccUncorr).err Reg.IFE_ERR Bit.IFE_ERR_PACKET = d1)
include hon h1

theorem Die.csiHeaderUncorrectable_marks {f : Frame} (ho : d1.openFrame ctx.toNat = some f) :
    d.csiHeaderUncorrectable ctx = d1.markFrame ctx.toNat f 4 none := by
  simp only [Die.csiHeaderUncorrectable, hon, Bool.not_true, Bool.false_eq_true, if_false, h1, ho]

theorem Die.csiHeaderUncorrectable_waits (ho : d1.openFrame ctx.toNat = none) :
    d.csiHeaderUncorrectable ctx = d1.setSensor ctx.toNat { d1.sensor ctx.toNat with badHeader := true } := by
  simp only [Die.csiHeaderUncorrectable, hon, Bool.not_true, Bool.false_eq_true, if_false, h1, ho]

end

end
end

/-- Settles O33: an awake die takes each packet to its context's open frame, and a frame, a context or its statistics pass the
guards before their effect. -/
theorem cameraFramesComplete : Obligations.CameraFramesComplete := by
  unfold Obligations.CameraFramesComplete
  refine ⟨?start, ?line, ?long, ?embedded, ?discarded, ?ended, ?timeout, ?enable, ?disable, ?stats, ?header, ?headerNext⟩
  case start =>
    rintro d d1 d2 _ port vc c s late k id hs hup hc h1 hsensor hk hid hlate h2 rfl
    exact does_onDieIf (exec_is_csiFrameStart port vc) rfl ((Die.frameStart_awake hs hup).trans
      (Die.csiFrameStart_open hc h1 (Die.startFrame_opens hsensor hk hid hlate h2 rfl)))
  case line =>
    rintro d _ port vc dt bytes eccCorr crcBad c f line hs hc ho hdt hline hlen hroom rfl
    exact does_whileAwake (exec_is_csiLine port vc dt bytes eccCorr crcBad _) rfl hs
      ((Die.csiLine_open hc ho hdt hline).trans (Die.takeLine_fits hlen hroom))
  case long =>
    intro d d1 port vc dt bytes eccCorr crcBad c f line hs hc ho hdt hline hfull h1
    exact does_whileAwake (exec_is_csiLine port vc dt bytes eccCorr crcBad _) rfl hs
      ((Die.csiLine_open hc ho hdt hline).trans (Die.takeLine_long hfull h1))
  case embedded =>
    exact fun _ port vc bytes eccCorr crcBad _ _ hs hc ho hkeep =>
      does_whileAwake (exec_is_csiEmbedded port vc bytes eccCorr crcBad) rfl hs ((Die.csiEmbedded_open hc ho).trans (if_pos hkeep))
  case discarded =>
    exact fun _ port vc bytes eccCorr crcBad _ _ hs hc ho hkeep =>
      does_whileAwake (exec_is_csiEmbedded port vc bytes eccCorr crcBad) rfl hs ((Die.csiEmbedded_open hc ho).trans (if_neg hkeep))
  case ended =>
    exact fun _ _ port vc _ hs hc ho h1 =>
      does_whileAwake (exec_is_csiFrameEnd port vc) rfl hs (Die.csiFrameEnd_closes hc ho h1)
  case timeout =>
    exact fun _ _ ctx _ ho hfree hperiod h1 => does_onDieIf (exec_is_frameCloseTimeout ctx) rfl
      (Die.frameCloseTimeout_due ho hfree hperiod h1)
  case enable =>
    exact fun _ ctx w _ hs hen hoff hlegal hsensor => does_awake (exec_is_ifeCtxEnable ctx w) rfl hs
      (Die.ifeCtxEnable_legal hen hoff hlegal hsensor)
  case disable =>
    exact fun _ _ ctx w hs hen hon h1 => does_awake (exec_is_ifeCtxDisable ctx w) rfl hs (Die.ifeCtxDisable_on hen hon h1)
  case stats => exact fun _ _ ctx _ h1 hf => does_onDieIf (exec_is_statsReady ctx) rfl (Die.statsReady_held h1 hf)
  case header =>
    exact fun _ _ ctx _ hs hon h1 ho => does_whileAwake (exec_is_csiHeaderUncorrectable ctx) rfl hs
      (Die.csiHeaderUncorrectable_marks hon h1 ho)
  case headerNext =>
    exact fun _ _ ctx hs hon h1 ho => does_whileAwake (exec_is_csiHeaderUncorrectable ctx) rfl hs
      (Die.csiHeaderUncorrectable_waits hon h1 ho)

/-! ### C.BIND and C.STATS (R350 to R357) -/

/-- A C.* is refused first for its parameters, then for its tenant; one that passes both has no fault. -/
theorem camVerdict_ok {legal mine : Bool} (h : (legal && mine) = true) :
    (if (!legal) = true then stIllegal else if (!mine) = true then stPermission else stOk) = stOk := by
  obtain ⟨rfl, rfl⟩ := Bool.and_eq_true_iff.mp h
  rfl

/-- A command whose operation of the die is a descriptor's start under a verdict of its own settles on the unit's body. -/
theorem settles_runOpByIf {i : Instr} {ok : Bool} {f : Die → Die} {op slot : Nat} {run : Run} {may legal : Entry → Die → Bool}
    {verdict : Entry → Die → Nat} {body : Entry → Die → Die} {d d0 : Die} {e : Entry} (hx : ∀ s, exec i s = onDieIf ok f s)
    (hok : ok = true) (hf : f d = d0.runOpBy op slot run may verdict body) (h : Starts op slot run may legal d0 e)
    (hv : legal e (d0.launched e run) = true → verdict e (d0.launched e run) = stOk) :
    Settles i d (body e (d0.checked e run)) := by
  obtain ⟨hstart, hlegal, hchecks⟩ := h
  exact fun hh => does_onDieIf hx hok (hf.trans (runOpBy_starts body hstart (hv hlegal) hchecks hh))

/-! ### Denoising tiles (R347 to R351) -/

section
variable {d : Die} {j : DnJob} {n : Nat}

theorem DnJob.slot_of_nextFill (h : j.nextFill = some n) : j.inFirst + j.filled % j.slots = n := by
  rw [DnJob.nextFill] at h
  split at h
  · exact Option.some.inj h
  · exact absurd h (Option.some_ne_none n).symm

theorem DnJob.slot_of_nextRead (h : j.nextRead = some n) : j.outFirst + j.read % j.slots = n := by
  rw [DnJob.nextRead] at h
  split at h
  · exact Option.some.inj h
  · exact absurd h (Option.some_ne_none n).symm

theorem Die.dnTileFill_next {byp : Bool} (hj : d.fillJob = some j) (hn : j.nextFill = some n) (hslot : d.slotAllows n .writer = true)
    (hok : (d.tileRefusal n j.tenant true).isNone = true) (hbyp : j.bypassed.contains j.filled = byp) :
    d.dnTileFill =
      (((d.writeTile j.tenant (d.slotRange n).1
        (if byp then (j.inputRows j.filled).map fun _ => 0 else j.inputRows j.filled) false).slotDone
          (if byp then stPoison else stOk) (n, .writer)).setJob j { j with filled := j.filled + 1 }).settleTiles := by
  simp only [Die.dnTileFill, hj, DnJob.slot_of_nextFill hn, hn, hslot, Option.isNone_some, Bool.not_true, Bool.or_self,
    Bool.false_eq_true, if_false, Option.isNone_iff_eq_none.mp hok, hbyp]

section
variable {r : List Nat × Die} (hj : d.readJob = some j) (hn : j.nextRead = some n) (hslot : d.slotAllows n .reader = true)
  (hok : (d.tileRefusal n j.tenant false).isNone = true) (hsame : (d.jobOf j.key).getD j = j)
  (hr : d.readTile j.tenant (d.slotRange n).1 (d.slotRange n).2 = r)
include hj hn hslot hok hsame hr

/-- The output of a bypassed tile is read and discarded. -/
theorem Die.dnTileOutput_bypassed (hbyp : j.bypassed.contains j.read = true) :
    d.dnTileOutput = ((r.2.slotDone stOk (n, .reader)).setJob j { j with read := j.read + 1 }).settleTiles := by
  simp only [Die.dnTileOutput, hj, DnJob.slot_of_nextRead hn, hn, hslot, Option.isNone_some, Bool.not_true, Bool.or_self,
    Bool.false_eq_true, if_false, Option.isNone_iff_eq_none.mp hok, hbyp, Bool.false_and, Bool.false_or, if_true, hsame, hr]

theorem Die.dnTileOutput_used (hbyp : j.bypassed.contains j.read = false) (hgood : d.slotPoison n = false) :
    d.dnTileOutput =
      ((((r.2.slotDone stOk (n, .reader)).setJob j { j with read := j.read + 1 }).modFrame j.ctx j.key fun f =>
        { f with tiles := f.tiles ++ [(j.read, r.1)] }).noteLatency ((j.arrived j.read).getD d.refclk)).settleTiles := by
  simp only [Die.dnTileOutput, hj, DnJob.slot_of_nextRead hn, hn, hslot, Option.isNone_some, Bool.not_true, Bool.or_self,
    Bool.false_eq_true, if_false, Option.isNone_iff_eq_none.mp hok, hbyp, hgood, Bool.not_false, Bool.and_self, Bool.true_or, if_true,
    hsame, hr]

end

theorem Die.dnTileDeadline_only {t a : Nat} (hj : d.ife.dn = [j]) (ht : j.oldest = some t) (ha : j.arrived t = some a)
    (hlate : d.elapsed a j.limit = true) : d.dnTileDeadline = (d.bypassTile j t).settleTiles := by
  simp only [Die.dnTileDeadline, hj, List.find?_cons, ht, ha, hlate]

end

/-! ### Settings and in-band interrupts (R358 to R362) -/

section
variable {d : Die} {ctx : BitVec 2} {t : Transfer}

theorem Die.settingsTransferDone_acked (ht : (d.sensor ctx.toNat).underWay.head? = some t) (hdue : d.refclk ≤ t.due) :
    d.settingsTransferDone ctx true = d.setSensor ctx.toNat { d.sensor ctx.toNat with
      transfers := (d.sensor ctx.toNat).transfers.map fun o => if o = t then { o with outcome := some true } else o,
      old := (d.sensor ctx.toNat).old.filter fun o => o != t } := by
  simp only [Die.settingsTransferDone, ht, decide_eq_true hdue, Bool.and_self, if_true]

theorem Die.settingsWindowExpiry_due (ht : ((d.sensor ctx.toNat).underWay.find? fun t => decide (t.due < d.refclk)) = some t) :
    d.settingsWindowExpiry ctx = d.settingsFail ctx.toNat t := by
  simp only [Die.settingsWindowExpiry, ht]

end

/-- Settles O34: a C.* starts under its verdict, the next slot of a job is filled or read, and the rest passes its guards. -/
theorem cameraWorkCompletes : Obligations.CameraWorkCompletes := by
  unfold Obligations.CameraWorkCompletes
  refine ⟨?bind, ?stats, ?fill, ?bypassed, ?used, ?deadline, ?acked, ?expired, ?ibi⟩
  case bind =>
    rintro d _ slot e h rfl
    exact settles_runOpByIf (exec_is_cBind slot) rfl rfl h camVerdict_ok
  case stats =>
    exact fun _ slot bufferError _ h => settles_runOpByIf (exec_is_cStats slot bufferError) rfl rfl h camVerdict_ok
  case fill =>
    exact fun _ _ _ _ hj hn hslot hok hbyp => does_onDieIf exec_is_dnTileFill rfl (Die.dnTileFill_next hj hn hslot hok hbyp)
  case bypassed =>
    exact fun _ _ _ _ hj hn hslot hok hbyp hsame hr => does_onDieIf exec_is_dnTileOutput rfl
      (Die.dnTileOutput_bypassed hj hn hslot hok hsame hr hbyp)
  case used =>
    exact fun _ _ _ _ hj hn hslot hok hbyp hgood hsame hr => does_onDieIf exec_is_dnTileOutput rfl
      (Die.dnTileOutput_used hj hn hslot hok hsame hr hbyp hgood)
  case deadline =>
    exact fun _ _ _ _ hj ht ha hlate => does_onDieIf exec_is_dnTileDeadline rfl (Die.dnTileDeadline_only hj ht ha hlate)
  case acked =>
    exact fun _ ctx _ ht hdue => does_onDieIf (exec_is_settingsTransferDone ctx true) rfl
      (Die.settingsTransferDone_acked ht hdue)
  case expired =>
    rintro d ctx t _ rfl ht
    exact does_onDieIf (exec_is_settingsWindowExpiry ctx) rfl (Die.settingsWindowExpiry_due ht)
  case ibi =>
    intro d port addr payload hup
    refine does_onDieIf (exec_is_i3cIbi port addr payload) rfl ?_
    rw [Die.wakeEvent_up 4 hup, Die.i3cIbi]

end Sys2Proof.Machine
end


section
/-! PROOFS. What the Damper, the Saggar, firmware and the reliability logic do on their own (R398 to R418, R426, R434, R439, R440,
R449 to R471, R473, R475). -/

namespace Sys2Proof.Machine

/-! ### Droop, estimates and heat (R398, R402, R409 to R411) -/

section
variable {d d1 d2 : Die}

/-- A droop that needs fewer than all four steps stretches the clock at least so far. -/
theorem Die.droopDetect_partial {drop : BitVec 8} {steps : BitVec 3} (hdrop : d.rf Reg.DMP_DROOP_CFG 7 0 < drop.toNat)
    (hmin : 1 ≤ steps.toNat) (hmax : steps.toNat < 4) :
    d.droopDetect drop steps = { d.count Reg.DMP_DROOP_EVENTS 1 with
      damper := { d.damper with stretch := max d.damper.stretch steps.toNat } } := by
  have hgo : ¬ (drop.toNat ≤ d.rf Reg.DMP_DROOP_CFG 7 0 ∨ steps.toNat = 0 ∨ 4 < steps.toNat) := by omega
  simp only [Die.droopDetect, if_neg hgo, Die.errIf, beq_eq_false_iff_ne.mpr hmax.ne, Bool.false_eq_true, if_false,
    Die.damper_count]

theorem Die.powerEstimatePeriod_due {e : Estimate} {ratios : List Nat} (hstate : d.pstate ≠ 3)
    (hdue : d.elapsed d.damper.estimated 2 = true) (hratios : (if d.railMode then d.railRatios e else d.capRatios e) = ratios)
    (h1 : (List.range 4).foldl (fun acc k => acc.setRf (Reg.DMP_DOM_EST k) 15 0 (e.domains.getD k 0#16).toNat)
      (d.setRf Reg.DMP_EST 15 0 e.die.toNat) = d1)
    (h2 : ((List.range 3).filter d1.limited).foldl (fun acc k => acc.domainHeld k (e.held.getD k 0#12).toNat) d1 = d2) :
    d.powerEstimatePeriod e =
      (Die.setRf { d2 with damper := { d2.damper with
        ratio := ratios,
        dieMax := max d2.damper.dieMax e.die.toNat,
        baseMax := max d2.damper.baseMax (e.domains.getD 3 0#16).toNat,
        sum := d2.damper.sum + e.die.toNat,
        periods := d2.damper.periods + 1,
        estimated := d2.refclk } } Reg.DMP_STAT 10 10 (if (List.range 3).any d.limited then 1 else 0)).errIf
          (d.railMode && !(d.railsHit e).isEmpty) Reg.DMP_ERR Bit.DMP_ERR_RAIL_LIMIT := by
  have hgo : ¬ (d.pstate = 3 ∨ d.elapsed d.damper.estimated 2 = false) := by simp [hstate, hdue]
  simp only [Die.powerEstimatePeriod, if_neg hgo, hratios, h1, h2]

theorem Die.takeTemps_hottest {temps : List (BitVec 16)} {h : Int × Nat} (hh : hottest temps.zipIdx = some h)
    (h1 : temps.zipIdx.foldl (fun acc t => acc.setRf (Reg.DMP_TEMP t.2) 15 0 t.1.toNat) d = d1)
    (h2 : ({ d1 with damper := { d1.damper with sampled := d.refclk } } : Die).setReg Reg.DMP_TEMP_MAX
      (BitVec.ofNat 32 (ofSigned 16 h.1 + h.2 * 2 ^ 16)) = d2) :
    d.takeTemps temps = { d2 with damper := { d2.damper with
      peak := some (d2.damper.peak.elim h.1 fun q => max q h.1) } } := by
  simp only [Die.takeTemps, hh, h1, h2]
  cases d2.damper.peak <;> rfl

/-! ### Entry to DOZE and SLEEP, and waking (R413 to R418) -/

/-- A die on its way to DOZE or SLEEP, or in it, notes its first wake event when the mask has it, and DMP_WAKE always. -/
theorem Die.wakeEvent_noted {e : PowerEntry} {kind : Nat} (he : d.damper.entry = some e) (hmask : e.mask.testBit kind ∨ kind = 5)
    (hfirst : d.damper.wake = none) (hdown : (d.entering || d.asleep) = true) :
    d.wakeEvent kind = { d with damper := { d.damper with wake := some kind } } := by
  simp only [Die.wakeEvent, he]
  exact if_pos ⟨hfirst, hmask, Bool.or_eq_true_iff.mp hdown⟩

theorem Die.wakeTimer_due {t : Nat} {e : PowerEntry} (ht : d.damper.timer = some t) (hdue : t ≤ d.refclk)
    (he : d.damper.entry = some e) (hmask : e.mask.testBit 2 = true) (hfirst : d.damper.wake = none)
    (hdown : (d.entering || d.asleep) = true) :
    d.wakeTimer = { d with damper := { d.damper with timer := none, wake := some 2 } } := by
  simp only [Die.wakeTimer, ht, if_pos hdue]
  exact Die.wakeEvent_noted (d := { d with damper := { d.damper with timer := none } }) he (.inl hmask) hfirst hdown

theorem Die.drained_of_empty (hsb : d.sb = []) (howed : d.owed = []) (hlate : d.serving.late = []) (hmem : d.dmc.waiting = []) :
    d.drained = true := by
  rw [Die.drained, hsb, howed, hlate, hmem]
  rfl

/-- The answer that a command under way is given as the entry it asked for ends, when it has not been answered yet. -/
def Die.answerEntry (d : Die) (run : Option Cmd) (st : Nat) : Die := run.elim d fun c => d.reply c st 0 (c.aux.headD 0) []

theorem Die.powerEntryDrained_drained {e : PowerEntry} (he : d.damper.entry = some e) (hin : d.entering = true)
    (hdrained : d.drained = true)
    (h1 : (List.range 4).foldl (fun acc c => if acc.camOn c then acc.closeFrame c else acc) d = d1)
    (h2 : ((List.range 88).filter fun b => !d.retained b).foldl
      (fun acc b => (acc.powerBankDown b).bankGateClose (BitVec.ofNat 7 b)) d1 = d2) :
    d.powerEntryDrained =
      let d3 := d2.dramRest.answerEntry (d2.runningCmd 0x0105) stOk
      let d4 : Die := { d3 with
        sched := { d3.sched with camTick := none },
        kiln := Kiln.powerUp,
        wheel := ⟨none, false⟩,
        damper := { d3.damper with timer := if e.timer = 0 then none else some (d.refclk + msCycles e.timer) } }
      ((if e.target = 3 then
          { d4 with
            track := [],
            tier := { d4.tier with ptCache := [] },
            queues := { d4.queues with
              table := d4.queues.cache.foldl (fun t c => SMap.put (fun _ => QCtx.free) t c.1 c.2) d4.queues.table,
              cache := [] } }
        else d4).setRf Reg.DMP_STAT 3 3 0).setRf Reg.DMP_STAT 2 0 e.target := by
  subst h1 h2
  simp only [Die.powerEntryDrained, he, hin, hdrained, Bool.not_true, Bool.or_self, Bool.false_eq_true, if_false, Die.answerEntry]
  generalize Die.runningCmd _ _ = run
  cases run <;> rfl

theorem Die.powerEntryTimeout_due {e : PowerEntry} (he : d.damper.entry = some e) (hin : d.entering = true)
    (hbusy : d.drained = false) (hlate : e.since + msCycles e.limit ≤ d.refclk)
    (h1 : (Die.setRf { d with damper := { d.damper with entry := none, wake := none } } Reg.DMP_STAT 3 3 0).err Reg.DMP_ERR
      Bit.DMP_ERR_ENTRY_TIMEOUT = d1) : d.powerEntryTimeout = d1.answerEntry (d1.runningCmd 0x0105) stTimeout := by
  subst h1
  simp only [Die.powerEntryTimeout, he, if_pos (And.intro hin (And.intro hbusy hlate)), Die.answerEntry]
  generalize Die.runningCmd _ _ = run
  cases run <;> rfl

theorem Die.wakeUp_noted {k : Nat} (hk : d.damper.wake = some k) (hs : d.asleep = true)
    (h1 : ((List.range 88).filter fun b => !d.retained b).foldl (fun acc b => acc.bankBack b) d = d1)
    (h2 : (if d.pstate = 3 then
      ((List.range 8).filter fun s => !d.segKept s).foldl (fun acc s => acc.setRf Reg.DMC_STAT (24 + s) (24 + s) 1)
        d1.clearCounters.areaLost
    else d1) = d2) :
    d.wakeUp = ((Die.setRf { d2 with
        dmc := { d2.dmc with trainSoon := List.range 16 },
        sched := { d2.sched with idleSince := d2.refclk },
        damper := { d2.damper with entry := none, wake := none, timer := none, firstTick := true } } Reg.DMP_STAT 2 0 0).setRf
          Reg.DMP_STAT 23 20 k).setRailMode (d2.fwState != fwRunning) := by
  subst h1 h2
  simp only [Die.wakeUp, hk, hs, Bool.not_true, Bool.false_eq_true, if_false]
  rfl

end

/-- Settles O40: each of the Damper's events passes the guards of its time and of the die's state. -/
theorem powerEventsComplete : Obligations.PowerEventsComplete := by
  unfold Obligations.PowerEventsComplete
  refine ⟨?droop, ?relax, ?estimate, ?sample, ?idle, ?drained, ?timeout, ?timer, ?written, ?woken⟩
  case droop =>
    exact fun _ drop steps hdrop hmin hmax => does_onDieIf (exec_is_droopDetect drop steps) rfl
      (Die.droopDetect_partial hdrop hmin hmax)
  case relax =>
    exact fun _ cycles hstretch hhold => does_onDieIf (exec_is_droopRelax cycles) rfl (if_neg (by omega))
  case estimate =>
    intro d d1 d2 e ratios hdomains hrails hheld hstate hdue hratios h1 h2
    exact does_onDieIf (exec_is_powerEstimatePeriod e) (by simp [wellFormed, estimateLegal, hdomains, hrails, hheld])
      (Die.powerEstimatePeriod_due hstate hdue hratios h1 h2)
  case sample =>
    intro d d1 d2 temps h hlen hstate hdue hh h1 h2
    refine does_onDieIf (exec_is_thermalSample temps) (by simp [wellFormed, tempsLegal, hlen]) ?_
    refine (if_pos ⟨hstate, hdue⟩).trans ((Die.takeTemps_hottest hh h1 h2).trans ?_)
    cases d2.damper.peak <;> rfl
  case idle =>
    exact fun _ hstate hsb hbells hidle => does_onDieIf exec_is_idleEnter rfl (if_pos ⟨hstate, hsb, hbells, hidle⟩)
  case drained =>
    rintro d d1 d2 _ _ e he hin hsb howed hlate hmem h1 h2 rfl rfl
    refine does_onDieIf exec_is_powerEntryDrained rfl
      ((Die.powerEntryDrained_drained he hin (Die.drained_of_empty hsb howed hlate hmem) h1 h2).trans ?_)
    rw [Die.answerEntry]
    cases d2.runningCmd 0x0105 <;> rfl
  case timeout =>
    intro d d2 e he hin hbusy hlate h1
    refine does_onDieIf exec_is_powerEntryTimeout rfl ((Die.powerEntryTimeout_due he hin hbusy hlate h1).trans ?_)
    rw [Die.answerEntry]
    cases d2.runningCmd 0x0105 <;> rfl
  case timer =>
    exact fun _ _ _ ht hdue he hmask hfirst hdown => does_onDieIf exec_is_wakeTimer rfl
      (Die.wakeTimer_due ht hdue he hmask hfirst hdown)
  case written =>
    exact fun _ w _ hw he hfirst hdown => does_onDieIf (exec_is_dmpWake w) rfl
      ((if_pos hw).trans (Die.wakeEvent_noted he (.inr rfl) hfirst hdown))
  case woken => exact fun _ _ _ _ hk hs h1 h2 => does_onDieIf exec_is_wake rfl (Die.wakeUp_noted hk hs h1 h2)

/-! ### Lapses (R426, R434, R439, R440, R473, R475) -/

/-- A filter that drops one element of a list and keeps the others. -/
theorem filter_drops_one {α : Type} {keep : α → Bool} {a b : List α} {x : α} (hx : keep x = false)
    (hothers : ∀ o ∈ a ++ b, keep o = true) : (a ++ x :: b).filter keep = a ++ b := by
  rw [List.filter_append, List.filter_cons_of_neg (ne_true_of_eq_false hx), ← List.filter_append]
  exact List.filter_eq_self.mpr hothers

theorem Die.keySessionLapse_over {d : Die} {num : BitVec 16} {a b : List KeySession} {x : KeySession}
    (hs : d.saggar.sessions = a ++ x :: b) (hnum : x.num = num.toNat) (hover : d.elapsed x.since 60000000 = true)
    (hothers : ∀ o ∈ a ++ b, o.num ≠ num.toNat) :
    d.keySessionLapse num = { d with saggar := { d.saggar with sessions := a ++ b } } := by
  have hkeep : d.saggar.sessions.filter (fun s => !(s.num == num.toNat && d.elapsed s.since 60000000)) = a ++ b := by
    rw [hs]
    exact filter_drops_one (by simp [hnum, hover]) fun o ho => by simp [hothers o ho]
  simp only [Die.keySessionLapse, hkeep]

theorem Die.confOfferLapse_over {d : Die} {t pair : Nat} (ho : d.saggar.offer = some (t, pair)) (hover : d.elapsed t 10000000 = true) :
    d.confOfferLapse = { d with saggar := { d.saggar with offer := none } } := by
  simp only [Die.confOfferLapse, ho]
  exact if_pos hover

/-- Settles O42: a session or an offer whose time is over goes, and a failed health test is flagged once. -/
theorem securityEventsComplete : Obligations.SecurityEventsComplete := by
  unfold Obligations.SecurityEventsComplete
  refine ⟨?session, ?offer, ?idle, ?health⟩
  case session =>
    exact fun _ num _ _ _ hs hnum hover hothers => does_onDieIf (exec_is_keySessionLapse num) rfl
      (Die.keySessionLapse_over hs hnum hover hothers)
  case offer => exact fun _ _ _ ho hover => does_onDieIf exec_is_confOfferLapse rfl (Die.confOfferLapse_over ho hover)
  case idle => exact fun _ hconf hidle => does_onDieIf exec_is_confSessionIdle rfl (if_pos ⟨hconf, hidle⟩)
  case health => exact fun _ hok => does_onDieIf exec_is_rngHealthFail rfl (if_pos hok)

theorem Die.selftestPeriodic_due {d : Die} {kiln : List (List (BitVec 12))} {wheel : List (List (BitVec 5))} {k w : Bool}
    (hk : d.testDue d.ras.kilnTested d.kilnIdle = k) (hw : d.testDue d.ras.wheelTested d.wheelIdle = w) (hdue : (k || w) = true) :
    d.selftestPeriodic kiln wheel =
      Die.selfTest { d with ras := { d.ras with
        kilnTested := if k then d.refclk else d.ras.kilnTested,
        wheelTested := if w then d.refclk else d.ras.wheelTested } }
        (if k then some kiln else none) (if w then some wheel else none) := by
  simp only [Die.selftestPeriodic, hk, hw, if_pos hdue]

/-- Settles O43: the tracker keeps its live entries, and the self-test runs on what is due. -/
theorem reliabilityEventsComplete : Obligations.ReliabilityEventsComplete := by
  unfold Obligations.ReliabilityEventsComplete
  refine ⟨?expiry, ?selftest⟩
  case expiry =>
    intro d a b x htrack hx hothers
    refine does_onDieIf exec_is_trackerEntryExpire rfl ?_
    rw [Die.trackerEntryExpire, Die.trackUsed, htrack, filter_drops_one hx hothers]
  case selftest =>
    exact fun _ kiln wheel _ _ hk hw hdue => does_onDieIf (exec_is_selftestPeriodic kiln wheel) rfl
      (Die.selftestPeriodic_due hk hw hdue)

/-! ### Boot (R449, R450) -/

section
variable {d d0 d1 d2 d4 d5 : Die}

theorem Die.bootComplete_boots {b : BootFind} {i : Image} (hstate : d.fwState = fwBoot) (hi : d.fw.running = some i)
    (h0 : ((d.bootDram b).bootNand b).setPortState 0 3 = d0)
    (h1 : d0.setRf (Reg.LNK_PORT_STAT 0) 6 4 (min (d0.port 0).cap (max 1 b.hostRate.toNat)) = d1)
    (h2 : (d1.setRf Reg.LNK_STAT 23 16 (2 ^ d1.dieId)).selfTest (some b.kiln) (some b.wheel) = d2)
    (h4 : (List.range (b.wheel.headD []).length).foldl (fun acc _ => acc.wheelSpareSwap)
      ((List.range (b.kiln.headD []).length).foldl (fun acc _ => acc.kilnSpareSwap .cell) d2) = d4)
    (h5 : (d4.setRf Reg.FWP_BOOT_STAT 23 8 (min 65535 (d4.refclk / 38400))).setFwState fwWaitDriver = d5) :
    d.bootComplete b =
      ((Die.bootPorts { d5 with ras := { d5.ras with kilnTested := d5.refclk, wheelTested := d5.refclk } } b).resetSplit).snapMeasures := by
  have hgo : ¬ (d.fwState ≠ fwBoot ∨ d.fw.running = none) := by simp [hstate, hi]
  have hhost : ((d.bootDram b).bootNand b).hostTrained b.hostRate = d1 := by
    subst h0
    exact h1
  simp only [Die.bootComplete, if_neg hgo, hhost, h2, h4, h5]

theorem Die.hostImageLoad_waiting {len : Word} {hits : Hits} {p : UnitRd × Die} {n x : Nat} (h0 : d.struck hits = d0)
    (hstate : d0.fwState = fwHostWait) (h2 : (d0.setReg Reg.FWP_RECOVERY_LEN (len &&& 0x003FFFFF#32)).workOf imageSlot = d2)
    (hp : d2.readHostLines ((d2.rf Reg.FWP_RECOVERY_HI 15 0 * 2 ^ 32 + d2.rf Reg.FWP_RECOVERY_LO 31 12 * 4096) / 64)
      (ceilDiv (len.toNat % 2 ^ 22) 64) = p)
    (hn : p.1.data % 2 ^ (8 * (len.toNat % 2 ^ 22)) = n)
    (hx : (if p.1.bad then 1 else p.2.imageError n (some (len.toNat % 2 ^ 22)) (imageProof n)) = x)
    (hh : AtHand (if x = 0 then
        ((p.2.startImage (imageOf n (imageProof n).digest) false).setRf Reg.FWP_BOOT_STAT 2 2 1).setRf Reg.FWP_BOOT_STAT 7 4 0
      else p.2.bootFailed x true)) :
    d.hostImageLoad len hits = (if x = 0 then
        ((p.2.startImage (imageOf n (imageProof n).digest) false).setRf Reg.FWP_BOOT_STAT 2 2 1).setRf Reg.FWP_BOOT_STAT 7 4 0
      else p.2.bootFailed x true).spend := by
  simp only [Die.hostImageLoad, h0, if_neg (not_not.mpr hstate)]
  refine attempt_of_eq ?_ hh
  simp only [h2, hp, hn, hx, ite_not]

/-! ### Watchdogs and restarts (R461 to R464) -/

/-- An expiry that is not the third within 10 s, with no image on probation, leaves the processor down and dumped. -/
theorem Die.expire_first {p : Nat} {recent : List Nat}
    (hrecent : (d.refclk :: SMap.get (fun _ => []) d.fw.expiries p).filter (fun t => !d.elapsed t 10000001) = recent)
    (hfew : recent.length < 3)
    (h1 : { d with fw := { d.fw with expiries := SMap.put (fun _ => []) d.fw.expiries p recent } } = d1)
    (h2 : (((d1.setRf (Reg.FWP_WDT p) 31 16 (min 65535 (d1.rf (Reg.FWP_WDT p) 31 16 + 1))).setDown p true).dump p).err
      Reg.FWP_ERR p = d2) (hupdate : d2.update ≠ 2) : d.expire p = if p = 0 then d2.degrade else d2 := by
  simp only [Die.expire, hrecent, h1, h2, if_neg hupdate, if_neg (Nat.not_le.mpr hfew)]

theorem Die.processorRestart_controller {p : BitVec 2} (hdown : d.procDown p.toNat = true)
    (hfree : d.fw.stuck.contains p.toNat = false) (hp : p.toNat ≠ 0) :
    d.processorRestart p = (d.setDown p.toNat false).resetCmds p.toNat := by
  simp only [Die.processorRestart, hdown, hfree, Bool.not_true, Bool.or_self, Bool.false_eq_true, if_false, if_neg hp]

theorem Die.processorRestart_supervisor (hdown : d.procDown 0 = true) (hfree : d.fw.stuck.contains 0 = false) :
    d.processorRestart 0#2 = { d with fw := { d.fw with restarting := true } } := by
  have hp : (0#2).toNat = 0 := rfl
  simp only [Die.processorRestart, hp, hdown, hfree, Bool.not_true, Bool.or_self, Bool.false_eq_true, if_false, if_true]

/-! ### Packets (R452, R455, R456) -/

theorem Die.takePackets_none (n : Nat) (h : d.mayTake = false) : Die.takePackets n d = d := by
  cases n with
  | zero => rfl
  | succ n => rw [Die.takePackets, h]; rfl

theorem Die.takePackets_read {n : Nat} {p : UnitRd × Die} (hmay : d.mayTake = true)
    (hp : d.readHost 0 (d.ringSlot Reg.FWP_CMD_BASE_LO (d.reg Reg.FWP_CMD_HEAD).toNat / 64) Who.die = p)
    (hgood : p.1.bad = false) :
    Die.takePackets (n + 1) d =
      Die.takePackets n ((p.2.setReg Reg.FWP_CMD_HEAD (d.reg Reg.FWP_CMD_HEAD + 1#32)).checkPacket p.1.data) := by
  simp only [Die.takePackets, hmay, hp, hgood, Bool.not_true, Bool.false_eq_true, if_false]

/-- The first packet of a ring, of a defined opcode and its length, is accepted when no processor is stuck. -/
theorem Die.checkPacket_first {n k : Nat} (hfirst : d.fw.lastSeq = none) (hop : cmdLength (bytesAt n 0 2) = some k)
    (hlen : bytesAt n 2 2 = k) (hup : d.fw.stuck = []) :
    d.checkPacket n = { d with fw := { d.fw with
      lastSeq := some (bytesAt n 4 4),
      cmds := d.fw.cmds ++ [⟨bytesAt n 0 2, bytesAt n 4 4, bytesAt n 8 56, .queued, []⟩] } } := by
  simp only [Die.checkPacket, hfirst, hop, hlen, hup, Bool.not_true, Bool.false_eq_true, if_false, ne_eq, not_true_eq_false,
    List.contains_nil]

/-- A ring with one packet is emptied. -/
theorem Die.takePackets_one {p : UnitRd × Die} {n k m : Nat} (hmay : d.mayTake = true)
    (hp : d.readHost 0 (d.ringSlot Reg.FWP_CMD_BASE_LO (d.reg Reg.FWP_CMD_HEAD).toNat / 64) Who.die = p)
    (hgood : p.1.bad = false) (h1 : p.2.setReg Reg.FWP_CMD_HEAD (d.reg Reg.FWP_CMD_HEAD + 1#32) = d1) (hn : p.1.data = n)
    (hfirst : d1.fw.lastSeq = none) (hop : cmdLength (bytesAt n 0 2) = some k) (hlen : bytesAt n 2 2 = k) (hup : d1.fw.stuck = [])
    (hrest : Die.mayTake { d1 with fw := { d1.fw with
      lastSeq := some (bytesAt n 4 4),
      cmds := d1.fw.cmds ++ [⟨bytesAt n 0 2, bytesAt n 4 4, bytesAt n 8 56, .queued, []⟩] } } = false) :
    Die.takePackets (m + 1) d = { d1 with fw := { d1.fw with
      lastSeq := some (bytesAt n 4 4),
      cmds := d1.fw.cmds ++ [⟨bytesAt n 0 2, bytesAt n 4 4, bytesAt n 8 56, .queued, []⟩] } } := by
  rw [Die.takePackets_read hmay hp hgood, h1, hn, Die.checkPacket_first hfirst hop hlen hup, Die.takePackets_none m hrest]

/-- A new packet count has firmware take what it may. -/
theorem settles_fwpCmdTailWrite {v : Word} {t : Die} (h0 : (d.setReg Reg.FWP_CMD_TAIL v).workOf mgmtSlot = d0)
    (ht : Die.takePackets 4096 d0 = t) : Settles (.fwpCmdTailWrite v) d t :=
  fun hh => does_onDieIf (exec_is_fwpCmdTailWrite v) rfl (attempt_of_eq (h0.symm ▸ ht) hh)

theorem Die.fwpRingCfgWrite_legal {w : Word} (h : w.b 31 = false ∨ (4 ≤ w.f 3 0 ∧ w.f 3 0 ≤ 12)) :
    d.fwpRingCfgWrite w = { d.setReg Reg.FWP_RING_CFG (w &&& 0x8000000F#32) with
      fw := { d.fw with lastSeq := none, ringBad := false } } := by
  have hok : (w.b 31 && (decide (w.f 3 0 < 4) || decide (12 < w.f 3 0))) = false := by
    rcases h with hoff | ⟨hmin, hmax⟩
    · rw [hoff, Bool.false_and]
    · rw [decide_eq_false (Nat.not_lt.mpr hmin), decide_eq_false (Nat.not_lt.mpr hmax), Bool.or_self, Bool.and_false]
  simp only [Die.fwpRingCfgWrite, hok, Bool.false_eq_true, if_false, Die.fw_setReg]

/-! ### Updates (R465 to R468) -/

theorem settles_activateDrainTimeout {c : Cmd} (hc : d.runningCmd 0x030B = some c) (hmore : 1 < d.fw.cmds.length)
    (hlate : d.elapsed (c.aux.headD 0) 1000000 = true) :
    Settles .activateDrainTimeout d ((Die.workOf { d with fw := { d.fw with paused := false } } mgmtSlot).reply c stTimeout 0 0 []) := by
  refine fun hh => does_onDieIf exec_is_activateDrainTimeout rfl ?_
  simp only [Die.activateDrainTimeout, hc, if_pos (And.intro hmore hlate)]
  exact attempt_of_eq rfl hh

theorem Die.commitDone_committing {i : Image} (hi : d.fw.running = some i) (hstate : d.update = 3) :
    d.commitDone =
      { d.spiRead.setUpdate 0 with nv := { d.nv with slot := .holds i }, fw := { d.fw with inFlash := true } } := by
  simp only [Die.commitDone, hi, if_pos hstate]

end

/-- Settles O41: each of firmware's events passes the guards of the die's state before its effect. -/
theorem firmwareEventsComplete : Obligations.FirmwareEventsComplete := by
  unfold Obligations.FirmwareEventsComplete
  refine ⟨?boot, ?image, ?watchdog, ?restart, ?restarting, ?restored, ?ring, ?empty, ?packet, ?drain, ?probation, ?commit, ?sram⟩
  case boot =>
    exact fun _ _ _ _ _ _ b _ hstate hi h0 h1 h2 h4 h5 => does_onDieIf (exec_is_bootComplete b) rfl
      (Die.bootComplete_boots hstate hi h0 h1 h2 h4 h5)
  case image =>
    exact fun _ _ _ len hits _ _ _ h0 hstate h2 hp hn hx hh => does_onDieIf (exec_is_hostImageLoad len hits) rfl
      (Die.hostImageLoad_waiting h0 hstate h2 hp hn hx hh)
  case watchdog =>
    intro d d1 d2 p recent hup hdue _ hrecent hfew h1 h2 hupdate
    refine does_onDieIf (exec_is_watchdogExpiry p) rfl ?_
    rw [Die.watchdogExpiry, hup, hdue, Bool.and_self, if_pos rfl, Die.expire_first hrecent hfew h1 h2 hupdate]
    exact if_congr (BitVec.toNat_inj (y := 0#2)) rfl rfl
  case restart =>
    exact fun _ p hdown hfree hp => does_onDieIf (exec_is_processorRestart p) rfl
      (Die.processorRestart_controller hdown hfree hp)
  case restarting =>
    exact fun _ hdown hfree => does_onDieIf (exec_is_processorRestart 0#2) rfl (Die.processorRestart_supervisor hdown hfree)
  case restored => exact fun _ h => does_onDieIf exec_is_supervisorRestored rfl (if_pos h)
  case ring => exact fun _ w h => does_onDieIf (exec_is_fwpRingCfgWrite w) rfl (Die.fwpRingCfgWrite_legal h)
  case empty => exact fun _ _ _ h0 hnone => settles_fwpCmdTailWrite h0 (Die.takePackets_none 4096 hnone)
  case packet =>
    exact fun _ _ _ _ _ _ _ h0 hmay hp hgood h1 hn hfirst hop hlen hup hrest =>
      settles_fwpCmdTailWrite h0 (Die.takePackets_one hmay hp hgood h1 hn hfirst hop hlen hup hrest)
  case drain => exact fun _ _ hc hmore hlate => settles_activateDrainTimeout hc hmore hlate
  case probation => exact fun _ hstate hlong => does_onDieIf exec_is_probationPass rfl (if_pos ⟨hstate, hlong⟩)
  case commit => exact fun _ _ hi hstate => does_onDieIf exec_is_commitDone rfl (Die.commitDone_committing hi hstate)
  case sram =>
    rintro d _ p word rfl hup
    exact does_onDieIf (exec_is_firmwareSramUncorrectable p word) rfl (if_pos hup)

end Sys2Proof.Machine
end


section
/-! PROOFS. The management plane's commands but the Supervisor's: each is handled as its processor comes to it, so what is left is
the branch its handler takes for legal arguments (R322, R328, R334, R335, R338, R362, R363, R376, R382, R393, R396, R400, R404,
R405, R409, R411, R415, R420, R424, R432 to R442, R475, R481). -/

namespace Sys2Proof.Machine

/-! ### Power (Table 17.5) -/

/-- Settles O44: every power command is its handler's branch for legal arguments. -/
theorem powerCommandsComplete : Obligations.PowerCommandsComplete := by
  unfold Obligations.PowerCommandsComplete
  intro d d1 c
  refine ⟨?cap, ?lock, ?table, ?boost, ?rail, ?state, ?shelf, ?info, ?thermal⟩
  case cap => exact fun h hmin hmax => settles_mgmtIf exec_is_powerCap rfl rfl h (if_pos ⟨hmin, hmax⟩)
  case lock => exact fun h hno => settles_mgmtIf exec_is_powerSplit rfl rfl h (if_neg (ne_true_of_eq_false hno))
  case table =>
    intro p t h hload hp hgood ht hsum
    exact settles_mgmtIf exec_is_powerSplit rfl rfl h
      (by simp only [hload, if_true, hp, hgood, ht, hsum, Bool.false_eq_true, if_false])
  case boost => exact fun h => settles_mgmtIf exec_is_boost rfl rfl h rfl
  case rail =>
    exact fun h hrail hmin hmax hfast hslow => settles_mgmtIf exec_is_railLimit rfl rfl h
      (if_pos ⟨hrail, hmin, hmax, hfast, hslow⟩)
  case state => exact fun h hok => settles_mgmtIf exec_is_powerState rfl rfl h (if_neg (ne_true_of_eq_false hok))
  case shelf => exact fun h => settles_mgmtIf exec_is_shelfPower rfl rfl h rfl
  case info => exact fun h => settles_mgmtIf exec_is_powerInfo rfl rfl h rfl
  case thermal => exact fun h hmin hmax => settles_mgmtIf exec_is_thermalCfg rfl rfl h (if_pos ⟨hmin, hmax⟩)

/-! ### Security (Table 18.4) -/

theorem Die.offerOpen_young {d : Die} {t pair : Nat} (ho : d.saggar.offer = some (t, pair)) (hyoung : d.elapsed t 10000000 = false) :
    d.offerOpen = true := by
  simp only [Die.offerOpen, ho, hyoung, Bool.not_false]

/-- Settles O45: every security command is its handler's branch for legal arguments, its buffers being read and written. -/
theorem securityCommandsComplete : Obligations.SecurityCommandsComplete := by
  unfold Obligations.SecurityCommandsComplete
  intro d d1 c
  refine ⟨?identity, ?attest, ?session, ?release, ?erase, ?offer, ?accept, ?close, ?rollback⟩
  case identity =>
    rintro n p h rfl hbuffer hp hok
    exact settles_mgmtIf exec_is_secIdentity rfl rfl h
      (by simp only [hbuffer, Bool.not_true, Bool.false_eq_true, if_false, hp, if_pos hok])
  case attest =>
    intro p h hmay hbuffer hp hok
    exact settles_mgmtIf exec_is_secAttest rfl rfl h
      (by simp only [hmay, hbuffer, Bool.not_true, Bool.false_eq_true, if_false, hp, if_pos hok])
  case session =>
    intro p h hmay hroom hbuffer hp hok
    exact settles_mgmtIf exec_is_secKeySession rfl rfl h
      (by simp only [hmay, if_neg (Nat.not_le.mpr hroom), hbuffer, Bool.not_true, Bool.false_eq_true, if_false, hp, hok])
  case release =>
    intro upsets lost s p h hmode hs hcode hp hgood hcoming hnew hroom
    refine settles_mgmtIf (exec_is_secKeyRelease upsets lost) rfl rfl h ?_
    have hfree : p.2.freeKeySlot.isNone = false := by rw [← Option.not_isSome, hroom, Bool.not_true]
    simp only [hmode, hs, hp, hcode, hgood, hcoming, hnew, hfree, Bool.not_true, Bool.false_eq_true, if_false]
    cases s.unwrap p.1.data (c.arg 2 1) <;> rfl
  case erase =>
    intro p h hp hgood hheld
    have hheld' : (p.2.keySlot (bytesAt p.1.data 0 32) (c.arg 0 1)).isNone = false := by rw [← Option.not_isSome, hheld, Bool.not_true]
    exact settles_mgmtIf exec_is_secKeyErase rfl rfl h
      (by simp only [hp, hgood, hheld', Bool.false_and, Bool.false_eq_true, if_false])
  case offer =>
    intro p h hmay hnone hclosed hbuffer hp hok
    exact settles_mgmtIf exec_is_secConfOpen rfl rfl h
      (by simp only [hmay, hnone, hclosed, hbuffer, hp, hok, Bool.or_self, Bool.not_true, Bool.false_eq_true, if_false])
  case accept =>
    rintro p _ t pair h ho hyoung hp hgood rfl
    exact settles_mgmtIf exec_is_secConfAccept rfl rfl h
      (by simp only [ho, Die.offerOpen_young ho hyoung, hp, hgood, Bool.not_true, Bool.false_eq_true, if_false])
  case close =>
    intro h hopen
    exact settles_mgmtIf exec_is_secConfClose rfl rfl h
      (by simp only [hopen, Bool.not_true, Bool.false_eq_true, if_false])
  case rollback =>
    intro good h hstate hflash hfuses
    have hgo : (decide (d1.update = 1) || !d1.fw.inFlash) = false := by simp [hstate, hflash]
    exact settles_mgmtIf (exec_is_secRollback good) rfl rfl h
      (by simp only [hgo, Bool.false_eq_true, if_false, if_pos hfuses])

/-! ### Memory and NAND (Tables 13.3 and 14.4) -/

/-- Settles O47: every memory command is its handler's branch for legal arguments. -/
theorem memoryCommandsComplete : Obligations.MemoryCommandsComplete := by
  unfold Obligations.MemoryCommandsComplete
  intro d d1 c
  refine ⟨?info, ?retrain, ?repair, ?format, ?flash⟩
  case info => exact fun h => settles_mgmtIf exec_is_memInfo rfl rfl h rfl
  case retrain =>
    exact fun h hmin hmax hone hfour => settles_mgmtIf exec_is_memRetrain rfl rfl h (if_pos ⟨hmin, hmax, hone, hfour⟩)
  case repair => exact fun h hidle => settles_mgmtIf exec_is_memPprHard rfl rfl h (if_neg (ne_true_of_eq_false hidle))
  case format =>
    rintro marks _ h hpool hmin hmax hlow hhigh rfl
    exact settles_mgmtIf (exec_is_flashFormat marks) rfl rfl h (if_neg (by omega))
  case flash =>
    rintro _ h rfl
    exact settles_mgmtIf exec_is_flashInfo rfl rfl h rfl

/-! ### Cameras and the fabric (Tables 15.12 and 16.7) -/

/-- Settles O48: every camera or fabric command is its handler's branch for legal arguments. -/
theorem portCommandsComplete : Obligations.PortCommandsComplete := by
  unfold Obligations.PortCommandsComplete
  intro d d1 c
  refine ⟨?config, ?xfer, ?daa, ?camera, ?fabric, ?setId, ?route, ?disable, ?enable, ?retrain⟩
  case config =>
    intro h hport hphy hidle
    exact settles_mgmtIf exec_is_camPortConfig rfl rfl h (if_neg (by simp [hport, hphy, hidle]))
  case xfer =>
    intro r h hport hwrite hread hok hidle
    have hgo : ¬ (1 < c.arg 0 1 ∨ 40 < c.arg 3 1 ∨ 40 < c.arg 4 1) := by omega
    exact settles_mgmtIf (exec_is_camXfer r) rfl rfl h
      (by simp only [if_neg hgo, hidle, Bool.false_eq_true, if_false, if_pos hok])
  case daa =>
    intro targets h hport hidle
    exact settles_mgmtIf (exec_is_camDaa targets) rfl rfl h
      (by simp only [if_neg (Nat.not_lt.mpr hport), hidle, Bool.false_eq_true, if_false, List.length_map])
  case camera =>
    rintro bus _ h hport rfl
    exact settles_mgmtIf (exec_is_camStatus bus) rfl rfl h (if_neg (Nat.not_lt.mpr hport))
  case fabric => exact fun h => settles_mgmtIf exec_is_fabStatus rfl rfl h rfl
  case setId =>
    intro h hid halone
    exact settles_mgmtIf exec_is_fabSetId rfl rfl h (if_neg (by simp [hid, halone]))
  case route => exact fun h hlegal => settles_mgmtIf exec_is_fabRoute rfl rfl h (if_pos hlegal)
  case disable =>
    intro h hlegal hop
    exact settles_mgmtIf exec_is_linkPortDisable rfl rfl h
      (by simp only [hlegal, Bool.false_eq_true, if_false, hop, ne_eq, not_true_eq_false])
  case enable =>
    intro h hlegal hop hpeer hdown
    have hgo : (portIllegal c || c.arg 1 1 != 1) = false := by simp [hlegal, hop]
    exact settles_mgmtIf exec_is_linkPortEnable rfl rfl h
      (by simp only [hgo, Bool.false_eq_true, if_false, if_pos (Or.inl hdown)])
  case retrain =>
    intro h hlegal hop hquiet
    have hgo : (portIllegal c || c.arg 1 1 != 2 ||
        (d1.portState (c.arg 0 1) == 3 && decide (d1.ftime < d1.link.quietUntil))) = false := by
      simpa [hlegal, hop] using hquiet
    exact settles_mgmtIf exec_is_linkPortRetrain rfl rfl h (by simp only [hgo, Bool.false_eq_true, if_false])

/-! ### Reliability (Table 20.6) -/

/-- A self-test whose units are idle runs and is answered with what failed. -/
theorem Die.tryTest_idle {d : Die} {c : Cmd} {kiln : List (List (BitVec 12))} {wheel : List (List (BitVec 5))} {k w : Bool}
    (hk : (c.arg 0 1).testBit 0 = k) (hw : (c.arg 0 1).testBit 1 = w) (hkiln : k = true → d.kilnIdle = true)
    (hwheel : w = true → d.wheelIdle = true) :
    d.tryTest c kiln wheel = (d.selfTest (if k then some kiln else none) (if w then some wheel else none)).reply c stOk 0 0
      [(4, (if k then failing (kiln.map fun r => r.map (·.toNat)) else 0) +
        (if w then failing (wheel.map fun r => r.map (·.toNat)) else 0))] := by
  have hgo : ((!k || d.kilnIdle) && (!w || d.wheelIdle)) = true := by
    rw [Bool.and_eq_true_iff]
    constructor
    · cases k
      · rfl
      · exact hkiln rfl
    · cases w
      · rfl
      · exact hwheel rfl
  simp only [Die.tryTest, hk, hw, hgo, if_true]

/-- A self-test that is not under way is handled as the next command. -/
theorem Die.rasSelftest_next {d : Die} {kiln : List (List (BitVec 12))} {wheel : List (List (BitVec 5))}
    (h : d.runningCmd 0x0703 = none) :
    d.rasSelftest kiln wheel = d.mgmt 0x0703 fun c d1 =>
      (d1.setCmd c .running [d1.refclk]).tryTest { c with stage := .running, aux := [d1.refclk] } kiln wheel := by
  simp only [Die.rasSelftest, h]

/-- Settles O49: every reliability command is its handler's branch for legal arguments, and a self-test under way its own attempt. -/
theorem reliabilityCommandsComplete : Obligations.ReliabilityCommandsComplete := by
  unfold Obligations.ReliabilityCommandsComplete
  intro d d1 c
  refine ⟨?info, ?none, ?log, ?start, ?run⟩
  case info => exact fun h => settles_mgmtIf exec_is_rasInfo rfl rfl h rfl
  case none =>
    intro h hbuffer hnone
    exact settles_mgmtIf exec_is_rasLog rfl rfl h
      (by simp only [hbuffer, hnone, Bool.not_true, Bool.false_eq_true, if_false, List.flatMap_nil, if_true, List.length_nil])
  case log =>
    intro bs p h hbuffer hbs hsome hp hok
    exact settles_mgmtIf exec_is_rasLog rfl rfl h
      (by simp only [hbuffer, hbs, Bool.not_true, Bool.false_eq_true, if_false, if_neg hsome, hp, if_pos hok])
  case start =>
    intro kiln wheel hnone h
    exact settles_mgmtIf (exec_is_rasSelftest kiln wheel) rfl (Die.rasSelftest_next hnone) h rfl
  case run =>
    intro kiln wheel k w hc hup hawake hk hw hkiln hwheel hh
    refine does_onDieIf (exec_is_rasSelftest kiln wheel) rfl ?_
    simp only [Die.rasSelftest, hc, hup, hawake, Bool.or_self, Bool.false_eq_true, if_false]
    exact attempt_of_eq (Die.tryTest_idle hk hw hkiln hwheel) hh

end Sys2Proof.Machine
end


section
/-! PROOFS. Models: the checks of a load step by step, shards verified, scrubbed and repaired, unloads, and the messages between
Supervisors (R298 to R310). -/

namespace Sys2Proof.Machine

/-! ### Slots of models -/

@[simp] theorem Die.model_setModel_same (d : Die) (s : Nat) (m : Model) : (d.setModel s m).model s = m :=
  SMap.get_put_same _ _ _ _

@[simp] theorem Die.tellAll_nil (d : Die) (msg : Mgmt) : d.tellAll [] msg = d := rfl

/-- A sealed model whose key is held, and any open one, may go on. -/
theorem keyed_of_sealed {isSealed lost : Bool} (h : isSealed = true → lost = false) : (isSealed && lost) = false := by
  cases isSealed with
  | false => rfl
  | true => exact h rfl

/-! ### The checks of a load (R299, R300) -/

section
variable {d d1 r : Die} {s : Nat} {m : Model} {c : Cmd} {f : Manifest}

theorem Die.planGoOn_none (h : d.ownPlan = none) : d.planGoOn = d := by
  rw [Die.planGoOn, h, ite_self]

section
variable (hup : d.procDown 0 = false) (hawake : d.asleep = false) (hc : d.planCmd s = some c)
include hup hawake hc

/-- A load that waits for no die and has been offered to none goes on to the checks of its image. -/
theorem Die.planGoOn_image (hplan : d.ownPlan = some ⟨s, m, false, [], none⟩) :
    d.planGoOn = d.attempt (modelSlot s) fun d0 => d0.checkImage ⟨s, m, false, [], none⟩ c := by
  simp only [Die.planGoOn, hup, hawake, Bool.or_self, Bool.false_eq_true, if_false, hplan, hc, List.any_nil, ne_eq, not_true_eq_false]

/-- A load that every die has accepted goes on to the checks of its span. -/
theorem Die.planGoOn_span (hplan : d.ownPlan = some ⟨s, m, true, [], none⟩) :
    d.planGoOn = d.checkSpan ⟨s, m, true, [], none⟩ (c.arg 8 8) := by
  simp only [Die.planGoOn, hup, hawake, Bool.or_self, Bool.false_eq_true, if_false, if_true, hplan, hc, List.any_nil, ne_eq,
    not_true_eq_false]

end

/-- An authentic image of a model that is not loaded passes, and with no other die there is none to offer it to. -/
theorem Die.checkImage_new (hkey : modelCode m.key = true) (hread : d.readManifest m.src = (.inr f, r)) (hsig : f.authentic = true)
    (hnew : r.loaded f.digest m.key = none) (halone : r.otherDies m.dies = []) :
    d.checkImage ⟨s, m, false, [], none⟩ c = r.setPlan s (some ⟨s, m.withManifest f, true, [], none⟩) := by
  have hothers : r.otherDies (m.withManifest f).dies = [] := halone
  simp only [Die.checkImage, hkey, hread, hsig, hnew, hothers, Bool.not_true, Bool.false_eq_true, if_false, Die.tellAll_nil]

/-- A span that passes checks 5 to 7 has the load begin. -/
theorem Die.checkSpan_free {dest : Nat} (hpage : dest % 65536 = 0) (hrange : dest < 2 ^ 48)
    (hplace : d.placeRefused m.digest m.isSealed m.home m.key m.base m.pages = none) (halone : d.otherDies m.dies = []) :
    d.checkSpan ⟨s, m, true, [], none⟩ dest = (d.setPlan s none).beginLoad s m := by
  have hdest : ¬ (dest % 65536 ≠ 0 ∨ 2 ^ 48 ≤ dest) := by omega
  simp only [Die.checkSpan, if_neg hdest, hplace, LoadPlan.fails, halone, Die.tellAll_nil]

/-- MODEL_LOAD on a die of its mask whose dies are all reached, with a slot free, asks the other dies for a slot. -/
theorem Die.modelLoad_asks {hits : Hits} {t : Die} (hnone : (d.struck hits).ownPlan = none)
    (h : Handles 0x0420 (d.struck hits) d1 c) (hself : (c.arg 18 1).testBit d1.dieId = true)
    (hreach : ((diesOf (c.arg 18 1)).all fun k => d1.members.testBit k || k == d1.dieId) = true) (hfree : d1.freeModel = some s)
    (hm : m = { Model.empty with
      base := c.arg 8 8 / 65536, refs := 1, home := c.arg 16 1, key := c.arg 17 1, dies := c.arg 18 1,
      keep := c.arg 19 1 % 2 == 1, src := c.arg 0 8, source := d1.dieId, left := diesOf (c.arg 18 1) })
    (ht : ((d1.setPlan s (some ⟨s, m, false, d1.otherDies (c.arg 18 1), none⟩)).setCmd c .running [s]).tellAll
      (d1.otherDies (c.arg 18 1)) (.probe (BitVec.ofNat 32 m.base)) = t) (hh : AtHand t) :
    d.modelLoad hits = t.spend.planGoOn.planGoOn := by
  subst hm
  have hidle : (d.struck hits).ownPlan.isSome = false := by rw [hnone]; rfl
  rw [Die.modelLoad, Die.planGoOn_none hnone, Die.planGoOn_none hnone]
  simp only [hidle, Bool.false_eq_true, if_false]
  exact congrArg (fun x : Die => x.planGoOn.planGoOn) (mgmt_handles h
    (by simp only [hself, hreach, hfree, Bool.not_true, Bool.or_self, Bool.false_eq_true, if_false, ht]) hh)

end

/-! ### Shards (R301, R306 to R308) -/

section
variable {d : Die} {slot : BitVec 5} {hits : Hits} {m : Model} {sh : Shard} {b : ShardBytes}

/-- The next shard of a load is checked, written, passed on and noted; the last one makes the die report. -/
theorem settles_shardVerify {d0 d2 : Die} {p : Option ShardBytes × Die} {w : Bool × Die}
    (h0 : (d.struck hits).workOf (modelSlot slot.toNat) = d0) (hm : d0.model slot.toNat = m) (hsh : m.shards[m.next]? = some sh)
    (hstate : m.state = mdlLoading) (hup : d0.procDown 0 = false) (hawake : d0.asleep = false)
    (hkey : m.isSealed = true → (d0.keySlot m.digest m.key).isNone = false) (hp : d0.fetchShard m m.next sh = p)
    (hb : p.1 = some b) (hgood : shardGood sh b = true)
    (hw : p.2.writeShard m ((m.frames.drop sh.page).take sh.pages) b.plain = w) (hok : w.1 = true)
    (h2 : (w.2.passShard m sh b.wire).setModel slot.toNat { m with
      next := m.next + 1, resent := false,
      sent := if w.2.nextDies m = [] then m.sent else m.sent ++ [(m.next, b.wire)],
      inbox := m.inbox.filter fun x => x.1 != m.next } = d2) :
    Settles (.shardVerify slot hits) d (if m.next + 1 = m.shards.length then d2.dieVerified slot.toNat else d2) := by
  have hgo : ¬ (m.state ≠ mdlLoading ∨ d0.procDown 0 = true ∨ d0.asleep = true) := by simp [hstate, hup, hawake]
  refine fun hh => does_onDieIf (exec_is_shardVerify slot hits) rfl (attempt_of_eq ?_ hh)
  simp only [h0, hm, hsh, if_neg hgo, keyed_of_sealed hkey, hp, hb, hgood, Bool.not_true, Bool.false_eq_true, if_false, hw, hok, h2]

theorem Die.scrubShard_good {s i : Nat} {p q : UnitRd × Die} {span : List Nat} (hsh : (d.model s).shards[i]? = some sh)
    (hspan : (d.model s).shardSpan sh = span) (hp : d.readSpan false span = p) (hhome : spanGood sh p.1 = true)
    (hq : p.2.readSpan true span = q) (hcopies : spanGood sh q.1 = true) : d.scrubShard s i = q.2.passNext s i := by
  simp only [Die.scrubShard, hsh, hspan, hp, hhome, hq, hcopies, Bool.not_true, Bool.false_eq_true, if_false, if_true]

/-- A pass that falls due begins with the first shard. -/
theorem Die.modelScrubPass_due (hm : d.model slot.toNat = m) (hstate : m.state = mdlReady) (hup : d.procDown 0 = false)
    (hawake : d.asleep = false) (hidle : m.pass = none) (hdue : d.passDue m = true) :
    d.modelScrubPass slot =
      (d.setModel slot.toNat { m with pass := some 0, since := m.since + d.scrubEvery * 60000 * 38400 }).attempt
        (modelSlot slot.toNat) fun d0 => d0.scrubShard slot.toNat 0 := by
  simp only [Die.modelScrubPass, hm, hstate, hup, hawake, hidle, hdue, ne_eq, not_true_eq_false, Bool.false_eq_true, or_self, if_false,
    if_true]

/-- A shard that has come in whole is written to new frames, and its pages switch to them. -/
theorem Die.repairShard_good {s i : Nat} {q : List Nat × Die} {w : Bool × Die} (hm : d.model s = m) (hgood : shardGood sh b = true)
    (hroom : sh.pages ≤ (d.freeFrames m.home).length) (hflash : m.home = 5 → d.flashLocked = false)
    (hq : d.claimFrames m.home sh.pages = q) (hw : q.2.writeShard m q.1 b.plain = w) (hok : w.1 = true) :
    d.repairShard s i sh b = (((m.shardSpan sh).zip q.1).foldl (fun acc x => acc.switchRepaired x.1 x.2) w.2).repairEnd s i true := by
  have hlocked : (m.home == 5 && d.flashLocked) = false := keyed_of_sealed fun h => hflash (beq_iff_eq.mp h)
  simp only [Die.repairShard, hm, hgood, decide_eq_false (Nat.not_lt.mpr hroom), hlocked, hq, hw, hok, Bool.not_true, Bool.or_self,
    Bool.false_eq_true, if_false]

theorem settles_modelRepair {d0 t : Die} {i : Nat} {is : List Nat} {p : Option ShardBytes × Die}
    (h0 : ((d.struck hits).startRepair slot.toNat).workOf (modelSlot slot.toNat) = d0) (hm : d0.model slot.toNat = m)
    (hi : m.damaged = i :: is) (hsh : m.shards[i]? = some sh) (hstate : m.state = mdlRepairing) (hup : d0.procDown 0 = false)
    (hawake : d0.asleep = false) (hstill : ((m.shardSpan sh).any fun p => pteMoving (d0.pte p)) = false)
    (hkey : m.isSealed = true → (d0.keySlot m.digest m.key).isNone = false) (hp : d0.fetchShard m i sh = p) (hb : p.1 = some b)
    (ht : p.2.repairShard slot.toNat i sh b = t) : Settles (.modelRepair slot hits) d t := by
  refine fun hh => does_onDieIf (exec_is_modelRepair slot hits) rfl (attempt_of_eq ?_ hh)
  simp only [h0, hm, hi, hsh, hstate, hup, hawake, hstill, ne_eq, not_true_eq_false, Bool.false_eq_true, or_self, if_false,
    keyed_of_sealed hkey, hp, hb, ht]

end

/-! ### Unloads (R304) -/

/-- The last reference begins an unload. -/
theorem Die.unref_last {d : Die} {s : Nat} {m : Model} (hm : d.model s = m) (hstate : m.state ≠ mdlLoading) (hrefs : m.refs ≤ 1) :
    d.unref s = d.setModel s { m with refs := 0, state := mdlUnloading, pass := none } := by
  simp only [Die.unref, hm, if_neg hstate, if_pos hrefs]

/-! ### Messages between Supervisors (R308 to R310) -/

section
variable {d d1 : Die} {h : Hdr} (hup : d.procDown 0 = false) (hawake : d.asleep = false)
include hup hawake

theorem Die.eslisMgmt_verified {base : BitVec 32} {s : Nat} (hd : Delivers h 0xE 0 [2, base.toNat] [] d d1)
    (hs : (d1.modelAt base.toNat fun m => m.state == mdlLoading) = some s) :
    d.eslisMgmt h (.verified base) =
      (d1.setModel s { d1.model s with left := (d1.model s).left.filter (· != h.src.toNat) }).allVerified s := by
  rw [Die.eslisMgmt, hup, hawake, Bool.or_self, if_neg Bool.false_ne_true]
  refine (routed_delivers hd).trans ?_
  simp only [hs]

theorem Die.eslisMgmt_load {o : LoadOffer} {s : Nat} {m : Model} (hd : Delivers h 0xE 0 (mgmtBody (.load o)) [] d d1)
    (hok : d1.judgeOffer o h.src.toNat = .inr (s, m)) :
    d.eslisMgmt h (.load o) =
      ((d1.takeSpan m).2.setPlan s (some ⟨s, (d1.takeSpan m).1, true, [], none⟩)).tell h.src.toNat (.verdict o.base 0#8 0#8) := by
  rw [Die.eslisMgmt, hup, hawake, Bool.or_self, if_neg Bool.false_ne_true]
  refine (routed_delivers hd).trans ?_
  simp only [hok]

theorem Die.modelInServiceMsg_verified {base : BitVec 32} {s : Nat} (hd : Delivers h 0xE 0 [7, base.toNat] [] d d1)
    (hs : (d1.modelAt base.toNat fun m =>
      m.state == mdlLoading && m.next == m.shards.length && m.source == h.src.toNat) = some s) :
    d.modelInServiceMsg h base = d1.setModel s { d1.model s with due := true } := by
  rw [Die.modelInServiceMsg, hup, hawake, Bool.or_self, if_neg Bool.false_ne_true]
  refine (routed_delivers hd).trans ?_
  simp only [hs]

end

/-! ### The obligation -/

/-- Settles O50: a load goes from check to check, and a shard, a command or a message passes its guards before its effect. -/
theorem modelsComplete : Obligations.ModelsComplete := by
  unfold Obligations.ModelsComplete
  refine ⟨?asks, ?begins, ?verify, ?unload, ?query, ?scrub, ?pass, ?repair, ?verified, ?offered, ?service⟩
  case asks =>
    intro d d1 t c hits s m hnone h hself hreach hfree hm ht hh hstill
    refine does_onDieIf (exec_is_modelLoad hits) rfl ?_
    rw [Die.modelLoad_asks hnone h hself hreach hfree hm ht hh, hstill, hstill]
  case begins =>
    rintro d d1 t _ r _ c c2 hits s m f hnone h - hself hreach hfree halone hm ht hh rfl hup2 hawake2 hplan2 hc2 hkey hread hsig hnew
      halone2 hh4 rfl hup4 hawake4 hplan4 hc4 hpage hrange hplace halone4
    refine does_onDieIf (exec_is_modelLoad hits) rfl ?_
    have hsteps : t.spend.planGoOn = (r.setPlan s (some ⟨s, m.withManifest f, true, [], none⟩)).spend :=
      (Die.planGoOn_image hup2 hawake2 hc2 hplan2).trans (attempt_of_eq (Die.checkImage_new hkey hread hsig hnew halone2) hh4)
    rw [Die.modelLoad_asks hnone h hself hreach hfree hm (halone.symm ▸ ht) hh, hsteps,
      Die.planGoOn_span hup4 hawake4 hc4 hplan4, Die.checkSpan_free (m := m.withManifest f) hpage hrange hplace halone4]
  case verify =>
    exact fun _ _ _ _ _ _ _ _ _ _ h0 hm hsh hstate hup hawake hkey hp hb hgood hw hok h2 =>
      settles_shardVerify h0 hm hsh hstate hup hawake hkey hp hb hgood hw hok h2
  case unload =>
    intro d d1 c m h hslot hm hfull hstay halone hself hready hrefs
    have hgo : ¬ (32 ≤ c.arg 0 1 ∨ m.state = mdlEmpty ∨ m.state = mdlUnloading) := by simp [hslot, hfull, hstay]
    exact settles_mgmtIf exec_is_modelUnload rfl rfl h
      (by simp only [hm, if_neg hgo, halone, Die.tellAll_nil, hself, Bool.not_true, Bool.false_eq_true, if_false,
        Die.unref_last hm hready hrefs, Die.model_setModel_same, if_true])
  case query =>
    exact fun _ _ _ h hslot => settles_mgmtIf exec_is_modelQuery rfl rfl h (if_neg (Nat.not_le.mpr hslot))
  case scrub =>
    exact fun _ _ _ h hevery hmin hmax => settles_mgmtIf exec_is_modelScrub rfl rfl h (if_neg (by omega))
  case pass =>
    rintro d _ slot m sh p q hm hstate hup hawake hidle hdue - rfl hspan hsh hp hhome hq hcopies hh
    exact does_onDieIf (exec_is_modelScrubPass slot) rfl ((Die.modelScrubPass_due hm hstate hup hawake hidle hdue).trans
      (attempt_of_eq (Die.scrubShard_good hsh hspan hp hhome hq hcopies) hh))
  case repair =>
    exact fun _ _ _ _ _ _ _ _ _ _ _ _ h0 hm hi hsh hstate hup hawake hstill hkey hp hb hgood hm' hroom hflash hq hw hok =>
      settles_modelRepair h0 hm hi hsh hstate hup hawake hstill hkey hp hb
        (Die.repairShard_good hm' hgood hroom hflash hq hw hok)
  case verified =>
    exact fun _ _ h base _ hup hawake hd hs => does_onDieIf (exec_is_eslisMgmt h (.verified base)) rfl
      (Die.eslisMgmt_verified hup hawake hd hs)
  case offered =>
    exact fun _ _ h o _ _ hup hawake hd hok => does_onDieIf (exec_is_eslisMgmt h (.load o)) rfl
      (Die.eslisMgmt_load hup hawake hd hok)
  case service =>
    exact fun _ _ h base _ hup hawake hd hs => does_onDieIf (exec_is_modelInServiceMsg h base) rfl
      (Die.modelInServiceMsg_verified hup hawake hd hs)

end Sys2Proof.Machine
end
